-- ==== Sys2Proof/Word.lean ====
section
/-! DEFINITION. The vocabulary: link words, the numbered things of the gallery, and the fixed sets of names of
spec/11_message_formats.md (Table 11-5) that commands, state and reports share. -/

namespace Sys2Proof

/-- One character of the link (R170: 8 data bits). -/
abbrev Byte := BitVec 8
/-- A two-byte payload field (R192, Table 11-2). -/
abbrev Half := BitVec 16

/-- Filter n of the manual is `n - 1` here (1.5: filters are numbered 1 to 16). -/
abbrev FilterId := Fin 16
/-- Physical valve channels 0 to 111. -/
abbrev ChannelId := Fin 112
/-- Recipe slots 0 to 7. -/
abbrev SlotId := Fin 8
/-- Analog inputs AI00 to AI39. -/
abbrev InputId := Fin 40

/-- Lanes A and B. -/
inductive LaneId where
  | a | b
  deriving DecidableEq, Repr

/-- The two backwash pumps. -/
inductive PumpId where
  | p1 | p2
  deriving DecidableEq, Repr

/-- The units: pumps P1, P2 and the blower BL. -/
inductive UnitId where
  | p1 | p2 | bl
  deriving DecidableEq, Repr

/-- The two kinds of unit, each with its wait list (7.1). -/
inductive UnitKind where
  | pump | blower
  deriving DecidableEq, Repr

/-- The six valve roles of a filter, in code order (Table 11-5). -/
inductive Role where
  | inf | eff | bww | air | wst | ftw
  deriving DecidableEq, Repr

/-- The 35 measurement points (Table 2-2). -/
inductive PointId where
  | hl (n : FilterId) | tb (n : FilterId) | flow | tank | basin
  deriving DecidableEq, Repr

/-- The two limit inputs of a channel. -/
inductive Limit where
  | openLimit | closedLimit
  deriving DecidableEq, Repr

/-- Level of a 24 V DC logic input (8.12). -/
inductive Level where
  | energised | deEnergised
  deriving DecidableEq, Repr

/-- What a unit notice says (Table 7-4). -/
inductive UnitNews where
  | available | failed | locked
  deriving DecidableEq, Repr

/-- Link rates (Table 9-1), in code order. -/
inductive Rate where
  | r19200 | r38400 | r57600 | r115200
  deriving DecidableEq, Repr

/-- Result codes (Table 9-2), in code order. -/
inductive Result where
  | ok | unknownKind | length | range | state | busy | inUse | notConfigured | late | locked
  | interlock | inhibited | loading | map | endOfRead | blocked
  deriving DecidableEq, Repr

/-! ### Payloads as the link carries them (Table 11-4, Table 11-6): raw fields, not yet checked -/

/-- The 11 bytes of a phase record (Table 11-4). -/
structure RawPhase where
  kind     : Byte
  duration : Half
  rate     : Half
  depth    : Half
  target   : Half
  confirm  : Half
  deriving DecidableEq, Repr

/-- The configuration fields of SET_FILTER (Table 1-6, in its order). -/
structure RawFilter where
  area    : Half
  h0      : Half
  ht      : Half
  tt      : Half
  rmax    : Half
  arming  : Byte
  slot    : Byte
  dest    : Byte
  initRun : Half
  deriving DecidableEq, Repr

/-- The 52 bytes of SET_PLANT (Table 4-1, in its order; sizes from Table 11-6). -/
structure RawPlant where
  vmax            : Half
  qDesign         : Half
  concurrency     : Byte
  spacing         : Half
  lifetime        : Half
  overloadDelay   : Half
  early           : Half
  calcEnables     : Byte
  staleLimit      : Half
  tankArea        : Half
  basinArea       : Half
  tankMin         : Half
  basinMax        : Half
  holdLimit       : Byte
  autoResume      : Byte
  debounce        : Half
  travelInf       : Half
  travelEff       : Half
  travelBww       : Half
  travelAir       : Half
  travelWst       : Half
  travelFtw       : Half
  pumpProve       : Byte
  blowerProve     : Byte
  pumpGuard       : Half
  blowerGuard     : Half
  polP1           : Byte
  polP2           : Byte
  polBl           : Byte
  silenceInterval : Half
  silenceAction   : Byte
  deriving DecidableEq, Repr

/-- One frame between its SOF and its checks (R171). -/
structure Frame where
  kind    : Byte
  tag     : Byte
  payload : List Byte
  deriving DecidableEq, Repr

/-- A command whose kind is known and whose length is right (R176 steps 1 and 2): one constructor per kind
of Table 11-6, its fields as the payload holds them. PUT_MEASURE and RECIPE_PHASES keep the count byte and
the bytes after it, since their own rules check the one against the other (R193). -/
inductive HostCommand where
  | getIdent | getStatus | ping | getLinkErrors | softReset | commission | clearSilence
  | setPlant (r : RawPlant)
  | setMode (mode : Byte)
  | clearCalc | getLoading
  | setPoint (point source input : Byte) (lo hi : Half)
  | putMeasure (count : Byte) (rest : List Byte)
  | getPoints (first count : Byte)
  | setFilter (filter form : Byte) (c : RawFilter)
  | takeOut (filter : Byte)
  | putIn (filter condition : Byte)
  | clearFault (filter : Byte)
  | toStandby (filter : Byte)
  | toService (filter : Byte)
  | filtersFirst (start : Byte)
  | filtersNext
  | requestWash (filter override : Byte)
  | cancelRequest (filter : Byte)
  | defer (filter : Byte) (minutes : Half)
  | setMask (set : Byte)
  | getQueue (first : Byte)
  | accept (filter : Byte)
  | decline (filter : Byte) (minutes : Half)
  | recipeBegin (slot n : Byte)
  | recipePhases (count : Byte) (rest : List Byte)
  | recipeErase (slot : Byte)
  | getRecipeSignature (slot : Byte)
  | getRecipe (slot first : Byte)
  | hold (lane : Byte)
  | resume (lane : Byte)
  | abort (form target : Byte)
  | getLanes
  | equipmentCommand (unit action : Byte)
  | getEquipment
  | mapValve (filter role channel sense : Byte)
  | lockChannel (channel action : Byte)
  | directSelect (channel : Byte)
  | directDrive (action : Byte)
  | clearChannel (channel : Byte)
  | getChannels (first count : Byte)
  | getChannelFault
  deriving DecidableEq, Repr

end Sys2Proof
end

