-- ==== Sys2Proof/Syntax.lean ====
section
/-! DEFINITION. The commands: one constructor per row of spec/opcode_table.json, in the table's order.
A host command carries the TAG of its frame and its payload fields as Table 11-6 lists them (log 1).
A row of the part's own (a notice taken, a timer fallen) carries what tells it from its like: the filter,
lane, unit, channel, role or point (log 3). A row of the field carries the level or the counts it brings. -/

namespace Sys2Proof

inductive Instr where
  -- resets
  | powerOnReset (strap1 strap2 : Level)
  | resetLineAsserted
  | resetLineReleased (strap1 strap2 : Level)
  | softResetEffect
  -- clock and filter time
  | galleryClockTick
  | runMinute (f : FilterId)
  | minuteTick
  | urgencyEvaluation (f : FilterId)
  -- measurement
  | analogScan (counts : Vector (BitVec 12) 40)
  | pointSample (p : PointId)
  | pointStale (p : PointId)
  | schedulerMeasureChange (p : PointId)
  | lanePointChange (l : LaneId) (p : PointId)
  -- scheduler
  | overloadDeadline
  | deferExpiry (f : FilterId)
  | spacingExpiry
  | proposalExpiry
  | admissionScan
  -- lanes
  | laneSecond (l : LaneId)
  | phaseTimeEnd (l : LaneId)
  | ripenConfirmed (l : LaneId)
  | holdLimitExpiry (l : LaneId)
  | laneRoleArrival (l : LaneId) (r : Role)
  | laneChannelFault (l : LaneId) (r : Role)
  | laneRoleDrift (l : LaneId) (r : Role)
  | laneGrant (l : LaneId) (u : UnitId)
  | laneUnitProven (l : LaneId) (u : UnitId)
  | laneProveFailed (l : LaneId) (u : UnitId)
  | laneUnitTripped (l : LaneId) (u : UnitId)
  | laneUnitNotice (l : LaneId) (u : UnitId) (n : UnitNews)
  | schedulerUnitNotice (u : UnitId) (n : UnitNews)
  | laneStopAsserted (l : LaneId)
  | laneStopReleased (l : LaneId)
  -- transfers and filter faults
  | transferRoleArrival (f : FilterId) (r : Role)
  | transferChannelFault (f : FilterId) (r : Role)
  | transferRoleDrift (f : FilterId) (r : Role)
  | transferStopReleased (f : FilterId)
  | filterChannelFault (f : FilterId) (r : Role)
  -- valve field and STOP
  | limitReadingChange (ch : ChannelId) (which : Limit) (level : Level)
  | travelExpiry (ch : ChannelId)
  | stopAsserted
  | stopReleased
  -- units
  | arbiterStopAsserted
  | feedbackChange (u : UnitId) (level : Level)
  | proveExpiry (u : UnitId)
  | guardEnd (u : UnitId)
  -- start-up
  | surveyEnd
  | silenceExpiry
  -- link
  | receiveCharacter (c : Byte)
  | characterError
  | receiveGapTimeout
  | transmitFrameEnd
  | unknownKindCommand (tag kind : Byte) (payload : List Byte)
  -- host commands
  | getIdent (tag : Byte)
  | getStatus (tag : Byte)
  | ping (tag : Byte)
  | getLinkErrors (tag : Byte)
  | softReset (tag : Byte)
  | commission (tag : Byte)
  | clearSilence (tag : Byte)
  | setPlant (tag : Byte) (r : RawPlant)
  | setMode (tag mode : Byte)
  | clearCalc (tag : Byte)
  | getLoading (tag : Byte)
  | setPoint (tag point source input : Byte) (lo hi : Half)
  | putMeasure (tag : Byte) (pairs : List (Byte × Half))
  | getPoints (tag first count : Byte)
  | setFilterDefine (tag filter : Byte) (c : RawFilter)
  | setFilterUndefine (tag filter : Byte)
  | takeOut (tag filter : Byte)
  | putIn (tag filter condition : Byte)
  | clearFault (tag filter : Byte)
  | toStandby (tag filter : Byte)
  | toService (tag filter : Byte)
  | filtersFirst (tag start : Byte)
  | filtersNext (tag : Byte)
  | requestWash (tag filter override : Byte)
  | cancelRequest (tag filter : Byte)
  | defer (tag filter : Byte) (minutes : Half)
  | setMask (tag set : Byte)
  | getQueue (tag first : Byte)
  | accept (tag filter : Byte)
  | decline (tag filter : Byte) (minutes : Half)
  | recipeBegin (tag slot n : Byte)
  | recipePhases (tag : Byte) (records : List RawPhase)
  | recipeErase (tag slot : Byte)
  | getRecipeSignature (tag slot : Byte)
  | getRecipe (tag slot first : Byte)
  | hold (tag lane : Byte)
  | resume (tag lane : Byte)
  | abort (tag form target : Byte)
  | getLanes (tag : Byte)
  | equipmentLock (tag unit : Byte)
  | equipmentUnlock (tag unit : Byte)
  | equipmentResetFault (tag unit : Byte)
  | getEquipment (tag : Byte)
  | mapValve (tag filter role channel sense : Byte)
  | lockChannelLock (tag channel : Byte)
  | lockChannelUnlock (tag channel : Byte)
  | directSelect (tag channel : Byte)
  | directDriveOpen (tag : Byte)
  | directDriveClose (tag : Byte)
  | directDriveStop (tag : Byte)
  | clearChannel (tag channel : Byte)
  | getChannels (tag first count : Byte)
  | getChannelFault (tag : Byte)
  -- STOP after a reset, and the supply
  | stopInputFirstTaken (level : Level)
  | supplyLoss
  deriving DecidableEq, Repr

end Sys2Proof
end

