-- ==== Sys2Proof/Decode.lean ====
section
/-! DEFINITION. The frames of the link, read and written (R171, R176, R192, R193, chapter 11); and the row a word spells. -/

namespace Sys2Proof

/-! ### Bytes and two-byte fields, most significant byte first (1.5) -/

def hiByte (h : Half) : Byte := h.extractLsb' 8 8
def loByte (h : Half) : Byte := h.extractLsb' 0 8
def joinBytes (hi lo : Byte) : Half := hi ++ lo

/-- The two bytes of a half, high byte first. -/
def halfBytes (h : Half) : List Byte := [hiByte h, loByte h]

def byteAt (pl : List Byte) (i : Nat) : Byte := pl.getD i 0
def halfAt (pl : List Byte) (i : Nat) : Half := joinBytes (byteAt pl i) (byteAt pl (i + 1))

/-! ### CRC-16 (R100, R171): polynomial 0x1021, initial 0xFFFF, nothing reflected, nothing exclusive-ored at the end -/

/-- One bit shifted out. -/
def crcShift (c : Half) : Half := if c.msb then (c <<< 1) ^^^ 0x1021 else c <<< 1

/-- One byte taken in. -/
def crcByte (c : Half) (b : Byte) : Half :=
  let x := c ^^^ (b ++ (0 : Byte))
  crcShift (crcShift (crcShift (crcShift (crcShift (crcShift (crcShift (crcShift x)))))))

def crc16 (bytes : List Byte) : Half := bytes.foldl crcByte 0xFFFF

/-! ### The frame (Table 11-1) -/

/-- Start of frame. -/
def sof : Byte := 0xC3

/-- HCHK: the complement of KIND xor TAG xor LEN (R171). -/
def headerCheck (kind tag len : Byte) : Byte := ~~~(kind ^^^ tag ^^^ len)

/-- KIND to the last payload byte: what the CRC covers. -/
def Frame.checked (f : Frame) : List Byte :=
  let len := BitVec.ofNat 8 f.payload.length
  [f.kind, f.tag, len, headerCheck f.kind f.tag len] ++ f.payload

/-- The bytes of a frame on the line. -/
def Frame.bytes (f : Frame) : List Byte :=
  sof :: f.checked ++ halfBytes (crc16 f.checked)

/-! ### Repeated items -/

/-- Point and value pairs of PUT_MEASURE (Table 11-6). -/
def pairsOf : List Byte → List (Byte × Half)
  | p :: hi :: lo :: rest => (p, joinBytes hi lo) :: pairsOf rest
  | _ => []

def pairBytes : List (Byte × Half) → List Byte
  | [] => []
  | (p, v) :: rest => p :: hiByte v :: loByte v :: pairBytes rest

/-- A phase record (Table 11-4). -/
def RawPhase.bytes (p : RawPhase) : List Byte :=
  p.kind :: halfBytes p.duration ++ halfBytes p.rate ++ halfBytes p.depth ++ halfBytes p.target ++ halfBytes p.confirm

def rawPhasesOf : List Byte → List RawPhase
  | k :: d1 :: d0 :: r1 :: r0 :: p1 :: p0 :: t1 :: t0 :: c1 :: c0 :: rest =>
    ⟨k, joinBytes d1 d0, joinBytes r1 r0, joinBytes p1 p0, joinBytes t1 t0, joinBytes c1 c0⟩ :: rawPhasesOf rest
  | _ => []

def rawPhaseBytes : List RawPhase → List Byte
  | [] => []
  | p :: rest => p.bytes ++ rawPhaseBytes rest

/-! ### SET_FILTER and SET_PLANT -/

def RawFilter.bytes (c : RawFilter) : List Byte :=
  halfBytes c.area ++ halfBytes c.h0 ++ halfBytes c.ht ++ halfBytes c.tt ++ halfBytes c.rmax ++
    [c.arming, c.slot, c.dest] ++ halfBytes c.initRun

/-- The configuration fields from offset 2 of SET_FILTER's payload. -/
def rawFilterOf (pl : List Byte) : RawFilter where
  area    := halfAt pl 2
  h0      := halfAt pl 4
  ht      := halfAt pl 6
  tt      := halfAt pl 8
  rmax    := halfAt pl 10
  arming  := byteAt pl 12
  slot    := byteAt pl 13
  dest    := byteAt pl 14
  initRun := halfAt pl 15

def RawPlant.bytes (r : RawPlant) : List Byte :=
  [hiByte r.vmax, loByte r.vmax, hiByte r.qDesign, loByte r.qDesign, r.concurrency,
   hiByte r.spacing, loByte r.spacing, hiByte r.lifetime, loByte r.lifetime,
   hiByte r.overloadDelay, loByte r.overloadDelay, hiByte r.early, loByte r.early, r.calcEnables,
   hiByte r.staleLimit, loByte r.staleLimit, hiByte r.tankArea, loByte r.tankArea,
   hiByte r.basinArea, loByte r.basinArea, hiByte r.tankMin, loByte r.tankMin,
   hiByte r.basinMax, loByte r.basinMax, r.holdLimit, r.autoResume, hiByte r.debounce, loByte r.debounce,
   hiByte r.travelInf, loByte r.travelInf, hiByte r.travelEff, loByte r.travelEff,
   hiByte r.travelBww, loByte r.travelBww, hiByte r.travelAir, loByte r.travelAir,
   hiByte r.travelWst, loByte r.travelWst, hiByte r.travelFtw, loByte r.travelFtw, r.pumpProve, r.blowerProve,
   hiByte r.pumpGuard, loByte r.pumpGuard, hiByte r.blowerGuard, loByte r.blowerGuard, r.polP1, r.polP2,
   r.polBl, hiByte r.silenceInterval, loByte r.silenceInterval, r.silenceAction]

/-- SET_PLANT's 52 bytes in the order of Table 4-1. -/
def rawPlantOf (pl : List Byte) : RawPlant where
  vmax            := halfAt pl 0
  qDesign         := halfAt pl 2
  concurrency     := byteAt pl 4
  spacing         := halfAt pl 5
  lifetime        := halfAt pl 7
  overloadDelay   := halfAt pl 9
  early           := halfAt pl 11
  calcEnables     := byteAt pl 13
  staleLimit      := halfAt pl 14
  tankArea        := halfAt pl 16
  basinArea       := halfAt pl 18
  tankMin         := halfAt pl 20
  basinMax        := halfAt pl 22
  holdLimit       := byteAt pl 24
  autoResume      := byteAt pl 25
  debounce        := halfAt pl 26
  travelInf       := halfAt pl 28
  travelEff       := halfAt pl 30
  travelBww       := halfAt pl 32
  travelAir       := halfAt pl 34
  travelWst       := halfAt pl 36
  travelFtw       := halfAt pl 38
  pumpProve       := byteAt pl 40
  blowerProve     := byteAt pl 41
  pumpGuard       := halfAt pl 42
  blowerGuard     := halfAt pl 44
  polP1           := byteAt pl 46
  polP2           := byteAt pl 47
  polBl           := byteAt pl 48
  silenceInterval := halfAt pl 49
  silenceAction   := byteAt pl 51

/-! ### Commands (Table 11-6) -/

/-- The kind of a command. -/
def HostCommand.kind : HostCommand → Byte
  | .getIdent => 0x01
  | .getStatus => 0x02
  | .ping => 0x03
  | .getLinkErrors => 0x04
  | .softReset => 0x05
  | .commission => 0x06
  | .clearSilence => 0x07
  | .setPlant _ => 0x08
  | .setMode _ => 0x09
  | .clearCalc => 0x0A
  | .getLoading => 0x0B
  | .setPoint .. => 0x10
  | .putMeasure .. => 0x11
  | .getPoints .. => 0x12
  | .setFilter .. => 0x18
  | .takeOut _ => 0x19
  | .putIn .. => 0x1A
  | .clearFault _ => 0x1B
  | .toStandby _ => 0x1C
  | .toService _ => 0x1D
  | .filtersFirst _ => 0x1E
  | .filtersNext => 0x1F
  | .requestWash .. => 0x20
  | .cancelRequest _ => 0x21
  | .defer .. => 0x22
  | .setMask _ => 0x23
  | .getQueue _ => 0x24
  | .accept _ => 0x25
  | .decline .. => 0x26
  | .recipeBegin .. => 0x28
  | .recipePhases .. => 0x29
  | .recipeErase _ => 0x2A
  | .getRecipeSignature _ => 0x2B
  | .getRecipe .. => 0x2C
  | .hold _ => 0x30
  | .resume _ => 0x31
  | .abort .. => 0x32
  | .getLanes => 0x33
  | .equipmentCommand .. => 0x34
  | .getEquipment => 0x35
  | .mapValve .. => 0x38
  | .lockChannel .. => 0x39
  | .directSelect _ => 0x3A
  | .directDrive _ => 0x3B
  | .clearChannel _ => 0x3C
  | .getChannels .. => 0x3D
  | .getChannelFault => 0x3E

/-- The payload of a command. -/
def HostCommand.payload : HostCommand → List Byte
  | .getIdent | .getStatus | .ping | .getLinkErrors | .softReset | .commission | .clearSilence
  | .clearCalc | .getLoading | .filtersNext | .getLanes | .getEquipment | .getChannelFault => []
  | .setPlant r => r.bytes
  | .setMode m => [m]
  | .setPoint p s i lo hi => [p, s, i] ++ halfBytes lo ++ halfBytes hi
  | .putMeasure n rest => n :: rest
  | .getPoints f n => [f, n]
  | .setFilter f form c => [f, form] ++ c.bytes
  | .takeOut f | .clearFault f | .toStandby f | .toService f | .filtersFirst f | .cancelRequest f | .accept f => [f]
  | .putIn f c => [f, c]
  | .requestWash f o => [f, o]
  | .defer f m | .decline f m => f :: halfBytes m
  | .setMask s => [s]
  | .getQueue p => [p]
  | .recipeBegin s n => [s, n]
  | .recipePhases n rest => n :: rest
  | .recipeErase s | .getRecipeSignature s => [s]
  | .getRecipe s p => [s, p]
  | .hold l | .resume l => [l]
  | .abort form t => [form, t]
  | .equipmentCommand u a => [u, a]
  | .mapValve f r c s => [f, r, c, s]
  | .lockChannel c a => [c, a]
  | .directSelect c | .clearChannel c => [c]
  | .directDrive a => [a]
  | .getChannels f n => [f, n]

/-- The frame that carries a command. -/
def HostCommand.frame (tag : Byte) (c : HostCommand) : Frame := ⟨c.kind, tag, c.payload⟩

/-- A command of fixed length: LENGTH unless the payload has that many bytes (R176 step 2, R193). -/
def fixedLength (n : Nat) (pl : List Byte) (c : HostCommand) : Except Result HostCommand :=
  if pl.length = n then .ok c else .error .length

/-- R176 steps 1 and 2: the command a frame carries, or UNKNOWN_KIND, or LENGTH. A PUT_MEASURE or
RECIPE_PHASES passes with any length; with no payload at all its count reads as 0, which its own rule refuses. -/
def Frame.command (f : Frame) : Except Result HostCommand :=
  let pl := f.payload
  let b := byteAt pl
  let h := halfAt pl
  match f.kind.toNat with
  | 0x01 => fixedLength 0 pl .getIdent
  | 0x02 => fixedLength 0 pl .getStatus
  | 0x03 => fixedLength 0 pl .ping
  | 0x04 => fixedLength 0 pl .getLinkErrors
  | 0x05 => fixedLength 0 pl .softReset
  | 0x06 => fixedLength 0 pl .commission
  | 0x07 => fixedLength 0 pl .clearSilence
  | 0x08 => fixedLength 52 pl (.setPlant (rawPlantOf pl))
  | 0x09 => fixedLength 1 pl (.setMode (b 0))
  | 0x0A => fixedLength 0 pl .clearCalc
  | 0x0B => fixedLength 0 pl .getLoading
  | 0x10 => fixedLength 7 pl (.setPoint (b 0) (b 1) (b 2) (h 3) (h 5))
  | 0x11 => .ok (.putMeasure (b 0) pl.tail)
  | 0x12 => fixedLength 2 pl (.getPoints (b 0) (b 1))
  | 0x18 => fixedLength 17 pl (.setFilter (b 0) (b 1) (rawFilterOf pl))
  | 0x19 => fixedLength 1 pl (.takeOut (b 0))
  | 0x1A => fixedLength 2 pl (.putIn (b 0) (b 1))
  | 0x1B => fixedLength 1 pl (.clearFault (b 0))
  | 0x1C => fixedLength 1 pl (.toStandby (b 0))
  | 0x1D => fixedLength 1 pl (.toService (b 0))
  | 0x1E => fixedLength 1 pl (.filtersFirst (b 0))
  | 0x1F => fixedLength 0 pl .filtersNext
  | 0x20 => fixedLength 2 pl (.requestWash (b 0) (b 1))
  | 0x21 => fixedLength 1 pl (.cancelRequest (b 0))
  | 0x22 => fixedLength 3 pl (.defer (b 0) (h 1))
  | 0x23 => fixedLength 1 pl (.setMask (b 0))
  | 0x24 => fixedLength 1 pl (.getQueue (b 0))
  | 0x25 => fixedLength 1 pl (.accept (b 0))
  | 0x26 => fixedLength 3 pl (.decline (b 0) (h 1))
  | 0x28 => fixedLength 2 pl (.recipeBegin (b 0) (b 1))
  | 0x29 => .ok (.recipePhases (b 0) pl.tail)
  | 0x2A => fixedLength 1 pl (.recipeErase (b 0))
  | 0x2B => fixedLength 1 pl (.getRecipeSignature (b 0))
  | 0x2C => fixedLength 2 pl (.getRecipe (b 0) (b 1))
  | 0x30 => fixedLength 1 pl (.hold (b 0))
  | 0x31 => fixedLength 1 pl (.resume (b 0))
  | 0x32 => fixedLength 2 pl (.abort (b 0) (b 1))
  | 0x33 => fixedLength 0 pl .getLanes
  | 0x34 => fixedLength 2 pl (.equipmentCommand (b 0) (b 1))
  | 0x35 => fixedLength 0 pl .getEquipment
  | 0x38 => fixedLength 4 pl (.mapValve (b 0) (b 1) (b 2) (b 3))
  | 0x39 => fixedLength 2 pl (.lockChannel (b 0) (b 1))
  | 0x3A => fixedLength 1 pl (.directSelect (b 0))
  | 0x3B => fixedLength 1 pl (.directDrive (b 0))
  | 0x3C => fixedLength 1 pl (.clearChannel (b 0))
  | 0x3D => fixedLength 2 pl (.getChannels (b 0) (b 1))
  | 0x3E => fixedLength 0 pl .getChannelFault
  | _ => .error .unknownKind

/-- No row of spec/opcode_table.json gives bits, so no word spells a row. -/
def decodeTableWord (_nbits _w : Nat) : Option Instr := none

end Sys2Proof
end

