-- ==== Sys2Proof/Config.lean ====
section
/-! DEFINITION. What one part fixes and the spec leaves open (no value in Lean: opaque). -/

namespace Sys2Proof

/-- R180: "the logic revision, a number from 1 to 255 fixed in the part". Free value (log 8): nothing says which. -/
opaque Config.logicRevisionLess1 : Fin 255

/-- The logic revision of GET_IDENT, 1 to 255 (R180, log 8). -/
def Config.logicRevision : Nat := Config.logicRevisionLess1.val + 1

end Sys2Proof
end

