-- ==== Sys2Proof/Machine/State.lean ====
section
/-! DEFINITION. The state of the part, block by block as Table 1-1 lists them, and its value after a power-on reset.
Plain data throughout. Views the spec lists as record fields but fixes by other fields (drive and run outputs,
READY, limit and feedback readings, an input's assigned point) are computed, not stored (log 27). -/

namespace Sys2Proof.Machine

/-! ### Families of like things -/

/-- One value for each role of a filter. -/
structure PerRole (α : Type) where
  inf : α
  eff : α
  bww : α
  air : α
  wst : α
  ftw : α
  deriving DecidableEq, Repr

/-- One value for each unit. -/
structure PerUnit (α : Type) where
  p1 : α
  p2 : α
  bl : α
  deriving DecidableEq, Repr

/-- One value for each lane. -/
structure PerLane (α : Type) where
  a : α
  b : α
  deriving DecidableEq, Repr

/-! ### Names (Table 11-5) -/

inductive TopState where
  | configuring | surveying | operating
  deriving DecidableEq, Repr

inductive PlantMode where
  | auto | directed | paused
  deriving DecidableEq, Repr

inductive FaultCause where
  | valve | survey | aborts
  deriving DecidableEq, Repr

/-- After-wash setting, and destination of a returning lane. -/
inductive Destination where
  | online | standby
  deriving DecidableEq, Repr

inductive TransferKind where
  | toService | toStandby
  deriving DecidableEq, Repr

inductive DominantTerm where
  | turbidity | headloss | runtime
  deriving DecidableEq, Repr

/-- Request classes by rank (Table 3-4). -/
inductive RequestClass where
  | breakthrough | restart | manual | terminal | routine | early
  deriving DecidableEq, Repr

inductive RequestSource where
  | auto | host
  deriving DecidableEq, Repr

inductive RequestAction where
  | added | upgraded | removed
  deriving DecidableEq, Repr

inductive RemovalCause where
  | admitted | cancelled | takenOut | faulted
  deriving DecidableEq, Repr

inductive WithdrawalCause where
  | expired | declined | blocked | mode | mask | filter | manual | higher
  deriving DecidableEq, Repr

inductive BlockedReason where
  | none | empty | paused | noLane | spacing | equipment | measure | loading | loadingSubst
  | water | waste | proposed
  deriving DecidableEq, Repr

inductive CalcFlag where
  | sat | zarea | staleUsed | flowSubst
  deriving DecidableEq, Repr

/-- Origin of a CALC report (R88). -/
inductive CalcOrigin where
  | urgency (f : FilterId)
  | loading (removed : Option FilterId)
  deriving DecidableEq, Repr

inductive PosStep where
  | close | openUp
  deriving DecidableEq, Repr

inductive HoldCause where
  | host | inhibit | water | waste | equipment | valve
  deriving DecidableEq, Repr

inductive AbortCause where
  | host | holdLimit | channel
  deriving DecidableEq, Repr

inductive PhaseKind where
  | drain | air | airWater | water | rest | ripen
  deriving DecidableEq, Repr

inductive PhaseEnd where
  | time | confirmed
  deriving DecidableEq, Repr

inductive FailCause where
  | prove | trip
  deriving DecidableEq, Repr

inductive EquipmentEvent where
  | proven | proveFailed | tripped | stopped | locked | unlocked | faultReset | feedbackUnexpected
  deriving DecidableEq, Repr

/-- Reading of a run-feedback input under its polarity (R141). -/
inductive Feedback where
  | running | stopped
  deriving DecidableEq, Repr

inductive ChannelFault where
  | travel | switch
  deriving DecidableEq, Repr

/-- A valve position: a commanded target, a held limit. -/
inductive Position where
  | opened | closed
  deriving DecidableEq, Repr

/-- Drive output of a channel (Table 8-1). -/
inductive Drive where
  | openDrive | closeDrive | off
  deriving DecidableEq, Repr

/-- Reading of a limit input under the switch sense (R151). -/
inductive Reading where
  | active | inactive
  deriving DecidableEq, Repr

inductive SwitchSense where
  | normal | inverted
  deriving DecidableEq, Repr

/-- Owner of a channel (R157). -/
inductive Owner where
  | lane (l : LaneId) | transfer | window | none
  deriving DecidableEq, Repr

inductive Quality where
  | none | good | over | held | stale
  deriving DecidableEq, Repr

inductive Polarity where
  | energised | deEnergised
  deriving DecidableEq, Repr

inductive SilenceAction where
  | note | auto | pause
  deriving DecidableEq, Repr

inductive CommissionItem where
  | plant | flowSource | tankSource | basinSource | filter | roleUnmapped | channelLocked | recipe
  deriving DecidableEq, Repr

/-! ### Plant record (Table 4-1) -/

/-- The computation status flags (Table 4-4), and their report enables. -/
structure CalcFlags where
  sat       : Bool
  zarea     : Bool
  staleUsed : Bool
  flowSubst : Bool
  deriving DecidableEq, Repr

/-- Table 4-1. The four tank and basin fields are absent until a plant record is received. -/
structure PlantRecord where
  vmax            : Nat
  qDesign         : Nat
  concurrency     : Nat
  spacing         : Nat
  lifetime        : Nat
  overloadDelay   : Nat
  early           : Nat
  calcEnables     : CalcFlags
  staleLimit      : Nat
  tankArea        : Option Nat
  basinArea       : Option Nat
  tankMin         : Option Nat
  basinMax        : Option Nat
  holdLimit       : Nat
  autoResume      : Bool
  debounce        : Nat
  travel          : PerRole Nat
  pumpProve       : Nat
  blowerProve     : Nat
  pumpGuard       : Nat
  blowerGuard     : Nat
  polarity        : PerUnit Polarity
  silenceInterval : Nat
  silenceAction   : SilenceAction
  deriving DecidableEq, Repr

/-- The defaults of Table 4-1. -/
def PlantRecord.defaults : PlantRecord where
  vmax            := 100
  qDesign         := 0
  concurrency     := 1
  spacing         := 30
  lifetime        := 120
  overloadDelay   := 60
  early           := 0
  calcEnables     := ⟨true, true, true, true⟩
  staleLimit      := 60
  tankArea        := none
  basinArea       := none
  tankMin         := none
  basinMax        := none
  holdLimit       := 30
  autoResume      := false
  debounce        := 100
  travel          := ⟨60, 60, 60, 60, 60, 60⟩
  pumpProve       := 15
  blowerProve     := 20
  pumpGuard       := 120
  blowerGuard     := 300
  polarity        := ⟨.energised, .energised, .energised⟩
  silenceInterval := 0
  silenceAction   := .note

/-! ### Measurement front end (Tables 2-1, 2-3) -/

inductive PointSource where
  | none
  | analog (input : InputId) (lo hi : Nat)
  | pushed
  deriving DecidableEq, Repr

structure Point where
  source       : PointSource
  /-- Accepted samples, oldest first, at most four (R25). -/
  ring         : List Nat
  value        : Option Nat
  quality      : Quality
  lastAccepted : Option Nat
  deriving DecidableEq, Repr

/-- A point after a power-on reset (R36). -/
def Point.initial : Point := ⟨.none, [], none, .none, none⟩

structure FrontEnd where
  /-- Last count of each analog input. -/
  counts    : Vector (Option Nat) 40
  hl        : Vector Point 16
  tb        : Vector Point 16
  flow      : Point
  tank      : Point
  basin     : Point
  tankAvail : Option Nat
  basinRoom : Option Nat
  deriving DecidableEq, Repr

/-! ### Filter table (Tables 1-6, 1-7) -/

structure FilterConfig where
  area    : Nat
  h0      : Nat
  ht      : Nat
  tt      : Nat
  rmax    : Nat
  arming  : Nat
  slot    : SlotId
  dest    : Destination
  initRun : Nat
  deriving DecidableEq, Repr

/-- State of a defined filter, with the lane only in WASHING and the cause only in FAULTED (Table 1-7). -/
inductive FilterState where
  | online | standby | washing (l : LaneId) | stranded | outOfService | faulted (c : FaultCause)
  deriving DecidableEq, Repr

/-- A running transfer and its step (Table 1-10). -/
structure Transfer where
  kind : TransferKind
  step : Nat
  deriving DecidableEq, Repr

structure FilterRecord where
  cfg         : FilterConfig
  state       : FilterState
  transfer    : Option Transfer
  runMin      : Nat
  runSec      : Nat
  armedMin    : Nat
  washes      : Nat
  aborts      : Nat
  lastWashEnd : Option Nat
  u           : Nat
  dominant    : DominantTerm
  deriving DecidableEq, Repr

structure FilterTable where
  /-- `none`: the filter is UNDEFINED. -/
  filters : Vector (Option FilterRecord) 16
  marker  : Option FilterId
  deriving DecidableEq, Repr

/-! ### Rotation scheduler -/

/-- Queue entry (Table 3-5). -/
structure Entry where
  filter     : FilterId
  cls        : RequestClass
  source     : RequestSource
  u          : Nat
  raisedAt   : Nat
  override   : Option SlotId
  deferUntil : Option Nat
  deriving DecidableEq, Repr

structure Proposal where
  filter : FilterId
  expiry : Nat
  deriving DecidableEq, Repr

/-- A lane's shares of the reservations, in 0.1 m³ (R78). -/
structure Share where
  water : Nat
  waste : Nat
  deriving DecidableEq, Repr

/-- A running overload timer (R79). -/
structure Overload where
  start    : Nat
  deadline : Nat
  deriving DecidableEq, Repr

structure Scheduler where
  /-- In queue order, head first (R46). -/
  queue         : List Entry
  /-- The class mask, one bit a class, the class of rank k at bit k (R51, R192). -/
  mask          : BitVec 6
  mode          : PlantMode
  blocked       : BlockedReason
  proposal      : Option Proposal
  shares        : PerLane Share
  lastAdmission : Option Nat
  overload      : Option Overload
  flags         : CalcFlags
  /-- A trigger of R64 has come and its scan has not yet run. -/
  scanDue       : Bool
  deriving DecidableEq, Repr

/-! ### Recipe store (Tables 5-1, 5-2) -/

structure Phase where
  kind     : PhaseKind
  duration : Nat
  rate     : Nat
  depth    : Nat
  target   : Nat
  confirm  : Nat
  deriving DecidableEq, Repr

structure Recipe where
  phases    : List Phase
  signature : Half
  totalTime : Nat
  sumWater  : Nat
  sumDrain  : Nat
  sumWaste  : Nat
  deriving DecidableEq, Repr

/-- An open staging buffer; its records are not checked before it is complete (R97). -/
structure Staging where
  slot    : SlotId
  count   : Nat
  records : List RawPhase
  deriving DecidableEq, Repr

structure RecipeStore where
  /-- `none`: the slot is EMPTY. -/
  slots   : Vector (Option Recipe) 8
  staging : Option Staging
  deriving DecidableEq, Repr

/-! ### Wash lanes (Table 6-1) -/

/-- Lane states other than IDLE, each with the fields present in it alone. -/
inductive LaneState where
  | acquiring
  | positioning (step : PosStep)
  | starting
  | running
  | held (heldAt : Nat)
  | aborting (cause : AbortCause)
  | returning (dest : Destination) (step : PosStep)
  deriving DecidableEq, Repr

/-- The hold cause set (Table 6-3). -/
structure HoldSet where
  host      : Bool
  inhibit   : Bool
  water     : Bool
  waste     : Bool
  equipment : Bool
  valve     : Bool
  deriving DecidableEq, Repr

/-- The record of a lane that is not IDLE. -/
structure Wash where
  state       : LaneState
  filter      : FilterId
  slot        : SlotId
  /-- Numbered from 1. -/
  phase       : Nat
  elapsed     : Nat
  targets     : PerRole (Option Position)
  holds       : HoldSet
  /-- Meaningful while INHIBIT is in the hold cause set. -/
  releaseSeen : Bool
  /-- Empty unless VALVE is in the hold cause set. -/
  drifted     : PerRole Bool
  holdCount   : Nat
  pump        : Option PumpId
  blower      : Bool
  remWater    : Nat
  remWaste    : Nat
  startedAt   : Nat
  confirm     : Nat
  ripenTimeout : Bool
  deriving DecidableEq, Repr

/-! ### Equipment arbiter (Table 7-1) -/

/-- Unit states, each with the fields present in it alone. -/
inductive UnitState where
  | available
  | allocated (l : LaneId)
  | proving (l : LaneId) (expiry : Nat)
  | running (l : LaneId)
  | guarded (ends : Nat)
  | failed (c : FailCause)
  | locked
  deriving DecidableEq, Repr

structure UnitRecord where
  state : UnitState
  /-- Filtered level of the run-feedback input (R141). -/
  input : Level
  deriving DecidableEq, Repr

structure Arbiter where
  units      : PerUnit UnitRecord
  duty       : PumpId
  pumpWait   : List LaneId
  blowerWait : List LaneId
  deriving DecidableEq, Repr

/-! ### Valve field controller (Tables 8-1, 8-5) -/

/-- Channel states; a travel carries its expiry and the travel time that runs. -/
inductive ChannelState where
  | unknown | closed | opened
  | opening (expiry ran : Nat)
  | closing (expiry ran : Nat)
  | stopped
  | fault (c : ChannelFault)
  deriving DecidableEq, Repr

structure Channel where
  state       : ChannelState
  /-- Levels the debounced inputs were last taken at; absent from a reset until then (R151). -/
  openInput   : Option Level
  closedInput : Option Level
  sense       : SwitchSense
  locked      : Bool
  mappedTo    : Option (FilterId × Role)
  target      : Option Position
  deriving DecidableEq, Repr

/-- A channel after a power-on reset (R169). -/
def Channel.initial : Channel := ⟨.unknown, none, none, .normal, false, none, none⟩

/-- Channel fault capture record (Table 8-5). -/
structure Capture where
  channel    : ChannelId
  cause      : ChannelFault
  time       : Nat
  before     : ChannelState
  target     : Option Position
  openRead   : Reading
  closedRead : Reading
  /-- The travel time that ran, for TRAVEL. -/
  ran        : Option Nat
  owner      : Owner
  mappedTo   : Option (FilterId × Role)
  /-- Lane and phase index, when the owner is a lane. -/
  laneAt     : Option (LaneId × Nat)
  deriving DecidableEq, Repr

/-- The STOP input: counted as asserted until first taken after a reset (R169). -/
inductive StopState where
  | untaken | asserted | released
  deriving DecidableEq, Repr

structure ValveField where
  channels  : Vector Channel 112
  map       : Vector (PerRole (Option ChannelId)) 16
  selection : Option ChannelId
  capture   : Option Capture
  stop      : StopState
  deriving DecidableEq, Repr

/-! ### Replies (R177, R193) -/

/-- One point as GET_POINTS reads it (R35). -/
structure PointView where
  point   : PointId
  source  : PointSource
  quality : Quality
  value   : Option Nat
  age     : Option Nat
  /-- Last count of the input, for an analog source. -/
  count   : Option Nat
  deriving DecidableEq, Repr

/-- One filter as FILTERS_FIRST and FILTERS_NEXT read it (Table 11-3). -/
structure FilterView where
  filter : FilterId
  record : FilterRecord
  cls    : Option RequestClass
  deriving DecidableEq, Repr

structure StatusView where
  top           : TopState
  mode          : PlantMode
  stopAsserted  : Bool
  ready         : Bool
  silent        : Bool
  flags         : CalcFlags
  reportLoss    : Bool
  blocked       : BlockedReason
  proposal      : Option Proposal
  reservedWater : Nat
  reservedWaste : Nat
  reports       : Nat
  clock         : Nat
  deriving DecidableEq, Repr

structure LoadingView where
  flow     : Nat
  isDesign : Bool
  area     : Nat
  online   : Nat
  loading  : Nat
  vmax     : Nat
  overload : Option Overload
  marker   : Option FilterId
  deriving DecidableEq, Repr

/-- One lane as GET_LANES reads it (R134). -/
structure LaneView where
  lane     : LaneId
  wash     : Option Wash
  kind     : Option PhaseKind
  secsLeft : Option Nat
  deriving DecidableEq, Repr

/-- One unit as GET_EQUIPMENT reads it (R149). -/
structure UnitView where
  state     : UnitState
  runOutput : Bool
  proveLeft : Option Nat
  guardLeft : Option Nat
  feedback  : Feedback
  deriving DecidableEq, Repr

/-- One channel as GET_CHANNELS reads it (R168). -/
structure ChannelView where
  channel    : ChannelId
  record     : Channel
  openRead   : Option Reading
  closedRead : Option Reading
  drive      : Drive
  owner      : Owner
  expiryLeft : Option Nat
  travelTime : Nat
  deriving DecidableEq, Repr

/-- What GET_RECIPE_SIGNATURE reads (R101). -/
structure SignatureView where
  slot      : SlotId
  /-- Phase count, signature, total phase time; absent for an EMPTY slot. -/
  installed : Option (Nat × Half × Nat)
  named     : Bool
  laneA     : Bool
  laneB     : Bool
  /-- Slot, count n and records held of an open staging buffer. -/
  staging   : Option (SlotId × Nat × Nat)
  deriving DecidableEq, Repr

/-- The fields after the result code. -/
inductive ReplyFields where
  | none
  | ident (revision : Nat) (rate : Rate)
  | status (v : StatusView)
  | linkErrors (count : Nat) (overflow : Bool)
  | missing (item : CommissionItem) (filter : Option FilterId) (role : Option Role)
  | loading (v : LoadingView)
  | points (avail room : Option Nat) (recs : List PointView)
  | filters (recs : List FilterView)
  | queue (count : Nat) (mask : BitVec 6) (entries : List (Nat × Entry))
  | laneOf (l : LaneId)
  | reason (r : BlockedReason)
  /-- The staging picture of a refused RECIPE_PHASES. -/
  | picture (staging : Option (SlotId × Nat × Nat))
  /-- RECIPE_PHASES with records held below n. -/
  | staged (slot : SlotId) (count held : Nat)
  | installed (slot : SlotId) (count : Nat) (signature : Half) (total : Nat)
  | offending (phase : Nat)
  | signature (v : SignatureView)
  | phases (count : Nat) (signature : Half) (recs : List (Nat × Phase))
  /-- GET_RECIPE answered END: the phase count of an INSTALLED slot. -/
  | recipeEnd (count : Option Nat)
  /-- HOLD, RESUME and ABORT: the lane's state and hold cause set (R130). -/
  | laneNow (state : Option LaneState) (holds : HoldSet)
  | lanes (a b : LaneView)
  | unitNow (s : UnitState)
  | equipment (p1 p2 bl : UnitView) (duty : PumpId) (pumpWait blowerWait : List LaneId)
  /-- MAP_VALVE: the channel now mapped; DIRECT_SELECT: the channel selected. -/
  | channelNow (s : Option ChannelState)
  /-- DIRECT_DRIVE and CLEAR_CHANNEL. -/
  | channelIs (s : ChannelState)
  | lockFlag (locked : Bool)
  | capture (c : Option Capture)
  | channels (stopAsserted ready : Bool) (selection : Option ChannelId) (recs : List ChannelView)
  deriving DecidableEq, Repr

/-- A reply: its kind and tag (R171) and what it says. -/
structure Reply where
  kind   : Byte
  tag    : Byte
  result : Result
  fields : ReplyFields
  deriving DecidableEq, Repr

/-! ### Reports (Table 9-3) -/

/-- A filter state as reports name it: UNDEFINED has no record. -/
abbrev StateName := Option FilterState

inductive ReportBody where
  | filterState (f : FilterId) (now before : StateName) (transfer : Option Transfer) (substitution : Bool)
  | request (action : RequestAction) (f : FilterId) (cls : RequestClass) (previous : Option RequestClass)
      (source : RequestSource) (u : Nat) (cause : Option RemovalCause)
  | proposal (f : FilterId) (cls : RequestClass) (source : RequestSource) (u : Nat) (slot : SlotId)
      (water waste : Nat) (lane : LaneId) (expiry : Nat)
  | proposalWithdrawn (f : FilterId) (cause : WithdrawalCause) (deferUntil : Option Nat)
  | admitted (f : FilterId) (lane : LaneId) (cls : RequestClass) (source : RequestSource) (slot : SlotId)
      (fromOverride : Bool) (water waste reservedWater reservedWaste clock : Nat)
  | overload (loading vmax flow : Nat) (isDesign : Bool) (area start : Nat) (started : Option FilterId)
  | calcSet (flag : CalcFlag) (all : CalcFlags) (origin : CalcOrigin)
  | phase (l : LaneId) (f : FilterId) (index : Nat) (kind : PhaseKind) (duration : Nat)
      (previousEnd : Option PhaseEnd) (remWater remWaste : Nat)
  | laneHeld (l : LaneId) (f : FilterId) (index elapsed : Nat) (cause : HoldCause) (set : HoldSet)
      (began : Bool) (count heldAt : Nat)
  | laneResumed (l : LaneId) (f : FilterId) (index elapsed held count : Nat)
  | washDone (l : LaneId) (f : FilterId) (dest : Destination) (duration washwater count : Nat)
      (ripenTimeout : Bool)
  | washAborted (l : LaneId) (f : FilterId) (cause : AbortCause) (index elapsed count duration : Nat)
      (now : StateName)
  | equipment (u : UnitId) (event : EquipmentEvent) (now before : UnitState) (lane : Option LaneId)
      (fail : Option FailCause) (reading : Feedback)
  | valveFault (c : Capture)
  | valveDrift (ch : ChannelId) (mappedTo : Option (FilterId × Role)) (lost : Position)
      (now : ChannelState) (owner : Owner)
  | stopAsserted (clock stopped : Nat)
  | stopReleased (clock : Nat)
  | measure (p : PointId) (now before : Quality) (source : PointSource) (value : Option Nat)
  | silence (interval : Nat) (action : SilenceAction) (before now : PlantMode) (lastAccepted : Option Nat)
  | surveyDone (online standby faulted channelsFault : Nat) (stopAsserted : Bool)
  deriving DecidableEq, Repr

/-- A report with its common header (R178). -/
structure Report where
  seq   : Nat
  clock : Nat
  body  : ReportBody
  deriving DecidableEq, Repr

/-! ### Supervisory link port -/

/-- The receive process: hunting, or assembling the characters after the SOF, in order (R172). -/
inductive RxState where
  | hunting
  | assembling (got : List Byte)
  deriving DecidableEq, Repr

/-- What the transmitter is sending. -/
inductive OutMsg where
  | reply (r : Reply)
  | report (r : Report)
  deriving DecidableEq, Repr

/-- A SOFT_RESET accepted (its reply not yet sent whole), or its reply sent and the effect still to come (R185). -/
inductive SoftReset where
  | none | waiting | sent
  deriving DecidableEq, Repr

structure LinkPort where
  rx         : RxState
  queue      : List Frame
  reply      : Option Reply
  reports    : List Report
  sending    : Option OutMsg
  seq        : Nat
  errors     : Nat
  overflow   : Bool
  reportLoss : Bool
  /-- A filter number 1 to 17, or absent (1.6). -/
  cursor     : Option Nat
  rate       : Rate
  softReset  : SoftReset
  deriving DecidableEq, Repr

/-! ### Start-up logic -/

structure StartUp where
  clock        : Nat
  top          : TopState
  /-- Length of the running survey timer in ms; present only in SURVEYING. -/
  survey       : Option Nat
  readyCall    : Bool
  /-- Expiry second of a running silence timer. -/
  silence      : Option Nat
  silent       : Bool
  lastAccepted : Option Nat
  deriving DecidableEq, Repr

/-! ### Outstanding events -/

/-- An event of the part that has come about and that the row of the same name takes (log 3): a notice on its
way to a reader (R30, R145, R157, R164) or a timer that has fallen. -/
inductive Event where
  | runMinute (f : FilterId)
  | minuteTick
  | urgency (f : FilterId)
  | sample (p : PointId) (count : Nat)
  | stale (p : PointId)
  | schedulerMeasure (p : PointId)
  | lanePoint (l : LaneId) (p : PointId)
  | overloadDeadline
  | deferExpiry (f : FilterId)
  | spacingExpiry
  | proposalExpiry
  | laneSecond (l : LaneId)
  | phaseTimeEnd (l : LaneId)
  | ripenConfirmed (l : LaneId)
  | holdLimit (l : LaneId)
  | roleArrival (l : LaneId) (r : Role)
  | roleFault (l : LaneId) (r : Role)
  | roleDrift (l : LaneId) (r : Role)
  | grant (l : LaneId) (u : UnitId)
  | proven (l : LaneId) (u : UnitId)
  | proveFailed (l : LaneId) (u : UnitId)
  | tripped (l : LaneId) (u : UnitId)
  | laneUnitNews (l : LaneId) (u : UnitId) (n : UnitNews)
  | schedulerUnitNews (u : UnitId) (n : UnitNews)
  | laneStopAsserted (l : LaneId)
  | laneStopReleased (l : LaneId)
  | transferArrival (f : FilterId) (r : Role)
  | transferFault (f : FilterId) (r : Role)
  | transferDrift (f : FilterId) (r : Role)
  | transferStopReleased (f : FilterId)
  | filterFault (f : FilterId) (r : Role)
  | travelExpiry (ch : ChannelId)
  | arbiterStopAsserted
  | proveExpiry (u : UnitId)
  | guardEnd (u : UnitId)
  | silenceExpiry
  deriving DecidableEq, Repr

/-! ### The part, and the state -/

structure Part where
  /-- The 24 V supply is present. -/
  supply        : Bool
  /-- The RESET line is asserted. -/
  resetHeld     : Bool
  startUp       : StartUp
  plant         : PlantRecord
  plantReceived : Bool
  front         : FrontEnd
  table         : FilterTable
  sched         : Scheduler
  recipes       : RecipeStore
  lanes         : PerLane (Option Wash)
  arb           : Arbiter
  valves        : ValveField
  link          : LinkPort
  events        : List Event
  deriving DecidableEq, Repr

/-- The part, and the rows waiting in front of it, first in, first out. -/
structure State where
  part    : Part
  pending : List Instr
  deriving DecidableEq, Repr

/-- No command faults: the spec gives the part no machine stop (INVENTORY, Faults). Nobody raises it; safe. -/
inductive Fault where
  deriving DecidableEq, Repr

/-- Why a row has no meaning. -/
inductive Refusal where
  /-- The row is not modelled: raised by `exec`'s refused arms only, and no arm is refused; safe. -/
  | notModelled (mnemonic : String)
  deriving DecidableEq, Repr

/-! ### After a power-on reset -/

def StartUp.initial : StartUp where
  clock        := 0
  top          := .configuring
  survey       := none
  readyCall    := false
  silence      := none
  silent       := false
  lastAccepted := none

def FrontEnd.initial : FrontEnd where
  counts    := Vector.replicate 40 none
  hl        := Vector.replicate 16 Point.initial
  tb        := Vector.replicate 16 Point.initial
  flow      := Point.initial
  tank      := Point.initial
  basin     := Point.initial
  tankAvail := none
  basinRoom := none

def Scheduler.initial : Scheduler where
  queue         := []
  mask          := 0
  mode          := .paused
  blocked       := .paused
  proposal      := none
  shares        := ⟨⟨0, 0⟩, ⟨0, 0⟩⟩
  lastAdmission := none
  overload      := none
  flags         := ⟨false, false, false, false⟩
  scanDue       := false

/-- R150, with the levels the feedback inputs stand at. -/
def Arbiter.initial (inputs : PerUnit Level) : Arbiter where
  units      := ⟨⟨.available, inputs.p1⟩, ⟨.available, inputs.p2⟩, ⟨.available, inputs.bl⟩⟩
  duty       := .p1
  pumpWait   := []
  blowerWait := []

def ValveField.initial : ValveField where
  channels  := Vector.replicate 112 Channel.initial
  map       := Vector.replicate 16 ⟨none, none, none, none, none, none⟩
  selection := none
  capture   := none
  stop      := .untaken

/-- R182, with the rate read from the straps. -/
def LinkPort.initial (rate : Rate) : LinkPort where
  rx         := .hunting
  queue      := []
  reply      := none
  reports    := []
  sending    := none
  seq        := 0
  errors     := 0
  overflow   := false
  reportLoss := false
  cursor     := none
  rate       := rate
  softReset  := .none

/-- The part after a power-on reset or the RESET line (Table 10-2), for a strapped rate and the feedback
inputs as they stand. -/
def Part.initial (rate : Rate) (inputs : PerUnit Level) : Part where
  supply        := true
  resetHeld     := false
  startUp       := StartUp.initial
  plant         := PlantRecord.defaults
  plantReceived := false
  front         := FrontEnd.initial
  table         := ⟨Vector.replicate 16 none, none⟩
  sched         := Scheduler.initial
  recipes       := ⟨Vector.replicate 8 none, none⟩
  lanes         := ⟨none, none⟩
  arb           := Arbiter.initial inputs
  valves        := ValveField.initial
  link          := LinkPort.initial rate
  events        := []

/-- Right after a power-on reset. DESIGN CHOICE, unsafe (log 9): both straps de-energised (19200 bit/s), the three
feedback inputs de-energised, the RESET line released. Everything else is the spec's. -/
def State.reset : State where
  part    := Part.initial .r19200 ⟨.deEnergised, .deEnergised, .deEnergised⟩
  pending := []

end Sys2Proof.Machine
end

