-- ==== Sys2Proof/Machine/Ops.lean ====
section
/-! DEFINITION. The named operations every block uses: reading and writing one thing of a family, the gallery clock,
outstanding events, reports, and the outcome of a row. -/

namespace Sys2Proof.Machine

/-! ### Families -/

def PerRole.get {α : Type} (x : PerRole α) : Role → α
  | .inf => x.inf
  | .eff => x.eff
  | .bww => x.bww
  | .air => x.air
  | .wst => x.wst
  | .ftw => x.ftw

def PerRole.set {α : Type} (x : PerRole α) (r : Role) (v : α) : PerRole α :=
  match r with
  | .inf => { x with inf := v }
  | .eff => { x with eff := v }
  | .bww => { x with bww := v }
  | .air => { x with air := v }
  | .wst => { x with wst := v }
  | .ftw => { x with ftw := v }

/-- The same value for every role. -/
def PerRole.all {α : Type} (v : α) : PerRole α := ⟨v, v, v, v, v, v⟩

def PerUnit.get {α : Type} (x : PerUnit α) : UnitId → α
  | .p1 => x.p1
  | .p2 => x.p2
  | .bl => x.bl

def PerUnit.set {α : Type} (x : PerUnit α) (u : UnitId) (v : α) : PerUnit α :=
  match u with
  | .p1 => { x with p1 := v }
  | .p2 => { x with p2 := v }
  | .bl => { x with bl := v }

def PerLane.get {α : Type} (x : PerLane α) : LaneId → α
  | .a => x.a
  | .b => x.b

def PerLane.set {α : Type} (x : PerLane α) (l : LaneId) (v : α) : PerLane α :=
  match l with
  | .a => { x with a := v }
  | .b => { x with b := v }

/-- Roles in code order. -/
def allRoles : List Role := [.inf, .eff, .bww, .air, .wst, .ftw]
def allUnits : List UnitId := [.p1, .p2, .bl]
def allLanes : List LaneId := [.a, .b]
def allFilters : List FilterId := List.finRange 16
def allChannels : List ChannelId := List.finRange 112
/-- Points in index order (Table 2-2). -/
def allPoints : List PointId :=
  allFilters.map .hl ++ allFilters.map .tb ++ [.flow, .tank, .basin]

/-- A function applied to every element; built over the list so that the kernel evaluates it. -/
def mapVec {α β : Type} {n : Nat} (g : α → β) (v : Vector α n) : Vector β n :=
  ⟨⟨v.toList.map g⟩, by simp⟩

/-! ### Arithmetic (1.5): exact, with the rounding the text names -/

/-- Quotient rounded toward plus infinity. -/
def ceilDiv (a b : Nat) : Nat := (a + (b - 1)) / b

/-- Quotient rounded to the nearest integer, one half going up. -/
def roundHalfUp (a b : Nat) : Nat := (2 * a + b) / (2 * b)

/-- One more, staying at the maximum (1.5: a counter that saturates). -/
def bump (max n : Nat) : Nat := if n < max then n + 1 else max

/-- Largest value of the gallery clock (R183). -/
def clockMax : Nat := 4294967295

/-- The second `d` seconds after `t`; one that lies beyond the largest value is written as that (R49, R183). -/
def secondsOn (t d : Nat) : Nat := min (t + d) clockMax

/-! ### Reading the part -/

/-- The part works: supplied and not held in reset (R184, R166). -/
def Part.live (p : Part) : Bool := p.supply && !p.resetHeld

def Part.clock (p : Part) : Nat := p.startUp.clock

def Part.operating (p : Part) : Bool := p.startUp.top == .operating

/-- STOP counts as asserted until first taken (R169). -/
def Part.stopAsserted (p : Part) : Bool := p.valves.stop != .released

/-- READY output (R166): energised while the start-up logic calls for it and STOP is released. -/
def Part.ready (p : Part) : Bool := p.live && p.startUp.readyCall && !p.stopAsserted

def Part.filter (p : Part) (f : FilterId) : Option FilterRecord := p.table.filters[f]

def Part.putFilter (p : Part) (f : FilterId) (r : Option FilterRecord) : Part :=
  { p with table := { p.table with filters := p.table.filters.set f r } }

/-- A defined filter's record changed; an UNDEFINED filter has none. -/
def Part.modFilter (p : Part) (f : FilterId) (g : FilterRecord → FilterRecord) : Part :=
  match p.filter f with
  | some r => p.putFilter f (some (g r))
  | none => p

def Part.setMarker (p : Part) (m : Option FilterId) : Part :=
  { p with table := { p.table with marker := m } }

def Part.channel (p : Part) (ch : ChannelId) : Channel := p.valves.channels[ch]

def Part.putChannel (p : Part) (ch : ChannelId) (c : Channel) : Part :=
  { p with valves := { p.valves with channels := p.valves.channels.set ch c } }

def Part.setSelection (p : Part) (sel : Option ChannelId) : Part :=
  { p with valves := { p.valves with selection := sel } }

/-- The channel a role of a filter is mapped to. -/
def Part.mapped (p : Part) (f : FilterId) (r : Role) : Option ChannelId := (p.valves.map[f]).get r

def Part.point (p : Part) : PointId → Point
  | .hl n => p.front.hl[n]
  | .tb n => p.front.tb[n]
  | .flow => p.front.flow
  | .tank => p.front.tank
  | .basin => p.front.basin

def Part.writePoint (p : Part) (id : PointId) (x : Point) : Part :=
  match id with
  | .hl n => { p with front := { p.front with hl := p.front.hl.set n x } }
  | .tb n => { p with front := { p.front with tb := p.front.tb.set n x } }
  | .flow => { p with front := { p.front with flow := x } }
  | .tank => { p with front := { p.front with tank := x } }
  | .basin => { p with front := { p.front with basin := x } }

def Part.unit (p : Part) (u : UnitId) : UnitRecord := p.arb.units.get u

def Part.putUnit (p : Part) (u : UnitId) (x : UnitRecord) : Part :=
  { p with arb := { p.arb with units := p.arb.units.set u x } }

def Part.lane (p : Part) (l : LaneId) : Option Wash := p.lanes.get l

def Part.putLane (p : Part) (l : LaneId) (w : Option Wash) : Part :=
  { p with lanes := p.lanes.set l w }

/-- The wash of a lane changed; an IDLE lane has none. -/
def Part.modWash (p : Part) (l : LaneId) (g : Wash → Wash) : Part :=
  match p.lane l with
  | some w => p.putLane l (some (g w))
  | none => p

def Part.recipe (p : Part) (slot : SlotId) : Option Recipe := p.recipes.slots[slot]

/-- Lanes that hold a wash. -/
def Part.busyLanes (p : Part) : List LaneId := allLanes.filter fun l => (p.lane l).isSome

/-! ### Outstanding events (log 3) -/

/-- The event has come about; its row will take it. -/
def Part.raise (p : Part) (e : Event) : Part := { p with events := p.events ++ [e] }

/-- Raised unless it is outstanding already. -/
def Part.raiseOnce (p : Part) (e : Event) : Part := if p.events.contains e then p else p.raise e

/-- Cancelled: what it told of is no longer so. -/
def Part.cancel (p : Part) (e : Event) : Part := { p with events := p.events.filter (· != e) }

def Part.raiseAll (p : Part) (es : List Event) : Part := { p with events := p.events ++ es }

/-- R64: a trigger of the admission scan; in CONFIGURING and SURVEYING triggers are ignored. Triggers before the scan
runs are one (log 23). -/
def Part.trigger (p : Part) : Part :=
  if p.operating then { p with sched := { p.sched with scanDue := true } } else p

/-! ### Transmitter and reports -/

/-- R179: a free transmitter begins the waiting reply, else the oldest report. After the reply of an accepted
SOFT_RESET it begins nothing more before the reset (log 26). -/
def LinkPort.beginSend (k : LinkPort) : LinkPort :=
  if k.sending.isNone && k.softReset != .sent then
    match k.reply, k.reports with
    | some r, _ => { k with sending := some (.reply r), reply := none }
    | none, r :: rest => { k with sending := some (.report r), reports := rest }
    | none, [] => k
  else k

/-- R178: the report takes its sequence number and joins the queue, or is discarded and sets REPORT_LOSS. A free
transmitter begins it at once (R179, log 25). -/
def Part.report (p : Part) (b : ReportBody) : Part :=
  let k := p.link
  let r : Report := ⟨k.seq, p.clock, b⟩
  let k := { k with seq := (k.seq + 1) % 65536 }
  let k := if k.reports.length < 24 then { k with reports := k.reports ++ [r] } else { k with reportLoss := true }
  { p with link := k.beginSend }

/-! ### Outcomes of rows -/

/-- A row acts on the part and leaves the queue alone. Without supply, or held in reset, nothing acts (log 11). -/
def act (g : Part → Part) (s : State) : Host.Outcome State Fault Refusal :=
  .next { s with part := if s.part.live then g s.part else s.part }

/-- The row of an outstanding event: it takes the first such event and acts; with none outstanding it changes
nothing (log 3). -/
def takeEvent (e : Event) (g : Part → Part) (s : State) : Host.Outcome State Fault Refusal :=
  act (fun p => if p.events.contains e then g { p with events := p.events.erase e } else p) s

end Sys2Proof.Machine
end

