-- ==== Sys2Proof/Machine/Flags.lean ====
section
/-! DEFINITION. Flags and sets: the computation status flags, the class mask, the hold cause set, the link error count. -/

namespace Sys2Proof.Machine

/-! ### Computation status (R86, R88) -/

def CalcFlags.get (x : CalcFlags) : CalcFlag → Bool
  | .sat => x.sat
  | .zarea => x.zarea
  | .staleUsed => x.staleUsed
  | .flowSubst => x.flowSubst

def CalcFlags.add (x : CalcFlags) : CalcFlag → CalcFlags
  | .sat => { x with sat := true }
  | .zarea => { x with zarea := true }
  | .staleUsed => { x with staleUsed := true }
  | .flowSubst => { x with flowSubst := true }

def CalcFlags.clear : CalcFlags := ⟨false, false, false, false⟩

def CalcFlags.union (x y : CalcFlags) : CalcFlags :=
  ⟨x.sat || y.sat, x.zarea || y.zarea, x.staleUsed || y.staleUsed, x.flowSubst || y.flowSubst⟩

/-- Flags in the order of Table 4-4. -/
def allCalcFlags : List CalcFlag := [.sat, .zarea, .staleUsed, .flowSubst]

/-- R86, R88: the flags are set; each that was clear and is enabled queues a CALC report, in the order of Table 4-4.
Both reports of one event carry the flags after the whole event (log 20). -/
def Part.setFlags (p : Part) (met : CalcFlags) (origin : CalcOrigin) : Part :=
  let before := p.sched.flags
  let after := before.union met
  let p := { p with sched := { p.sched with flags := after } }
  allCalcFlags.foldl (init := p) fun p k =>
    if after.get k && !before.get k && p.plant.calcEnables.get k then p.report (.calcSet k after origin) else p

/-! ### Request classes (Table 3-4) -/

def RequestClass.rank : RequestClass → Nat
  | .breakthrough => 0
  | .restart => 1
  | .manual => 2
  | .terminal => 3
  | .routine => 4
  | .early => 5

/-- The class is in the set (R192: one bit a member, the first member lowest). -/
def hasClass (set : BitVec 6) (c : RequestClass) : Bool := set.getLsbD c.rank

/-! ### Hold cause set (Table 6-3) -/

def HoldSet.empty : HoldSet := ⟨false, false, false, false, false, false⟩

def HoldSet.isEmpty (x : HoldSet) : Bool :=
  !(x.host || x.inhibit || x.water || x.waste || x.equipment || x.valve)

def HoldSet.get (x : HoldSet) : HoldCause → Bool
  | .host => x.host
  | .inhibit => x.inhibit
  | .water => x.water
  | .waste => x.waste
  | .equipment => x.equipment
  | .valve => x.valve

def HoldSet.set (x : HoldSet) (c : HoldCause) (v : Bool) : HoldSet :=
  match c with
  | .host => { x with host := v }
  | .inhibit => { x with inhibit := v }
  | .water => { x with water := v }
  | .waste => { x with waste := v }
  | .equipment => { x with equipment := v }
  | .valve => { x with valve := v }

/-- Some role has drifted and not returned. -/
def anyRole (x : PerRole Bool) : Bool := x.inf || x.eff || x.bww || x.air || x.wst || x.ftw

/-! ### Link errors -/

/-- R174: one link error; at 127 the count stays and the overflow flag is set. -/
def Part.linkError (p : Part) : Part :=
  let k := p.link
  if k.errors < 127 then { p with link := { k with errors := k.errors + 1 } }
  else { p with link := { k with overflow := true } }

end Sys2Proof.Machine
end

