-- ==== Sys2Proof/Machine/Operands.lean ====
section
/-! DEFINITION. Operand forms: what the raw fields of a command name, by the codes and ranges of chapter 11 and of the
tables each rule refers to. `none` is what the rules answer RANGE. -/

namespace Sys2Proof.Machine

/-- Filter number 1 to 16. -/
def filterOf (b : Byte) : Option FilterId :=
  if h : 1 ≤ b.toNat ∧ b.toNat ≤ 16 then some ⟨b.toNat - 1, by omega⟩ else none

/-- Number of a filter, 1 to 16. -/
def filterNumber (f : FilterId) : Nat := f.val + 1

def laneOfByte (b : Byte) : Option LaneId :=
  if b = 0 then some .a else if b = 1 then some .b else none

def unitOf (b : Byte) : Option UnitId :=
  if b = 0 then some .p1 else if b = 1 then some .p2 else if b = 2 then some .bl else none

def roleOf (b : Byte) : Option Role :=
  match b.toNat with
  | 0 => some .inf
  | 1 => some .eff
  | 2 => some .bww
  | 3 => some .air
  | 4 => some .wst
  | 5 => some .ftw
  | _ => none

def channelOf (b : Byte) : Option ChannelId :=
  if h : b.toNat < 112 then some ⟨b.toNat, h⟩ else none

def slotOf (b : Byte) : Option SlotId :=
  if h : b.toNat < 8 then some ⟨b.toNat, h⟩ else none

def inputOf (b : Byte) : Option InputId :=
  if h : b.toNat < 40 then some ⟨b.toNat, h⟩ else none

/-- "None" in a one-byte field (R192). -/
def noneByte : Byte := 0xFF

/-- Point index 1 to 35 (Table 2-2). -/
def pointOfIndex (n : Nat) : Option PointId :=
  if h : 1 ≤ n ∧ n ≤ 16 then some (.hl ⟨n - 1, by omega⟩)
  else if h : 17 ≤ n ∧ n ≤ 32 then some (.tb ⟨n - 17, by omega⟩)
  else if n = 33 then some .flow
  else if n = 34 then some .tank
  else if n = 35 then some .basin
  else none

def pointIndex : PointId → Nat
  | .hl n => n.val + 1
  | .tb n => n.val + 17
  | .flow => 33
  | .tank => 34
  | .basin => 35

/-- Upper end of a point's unit range (Table 2-2); every lower end is 0. -/
def pointMax : PointId → Nat
  | .hl _ => 5000
  | .tb _ => 9999
  | .flow => 30000
  | .tank => 10000
  | .basin => 10000

def modeOf (b : Byte) : Option PlantMode :=
  if b = 0 then some .auto else if b = 1 then some .directed else if b = 2 then some .paused else none

def senseOf (b : Byte) : Option SwitchSense :=
  if b = 0 then some .normal else if b = 1 then some .inverted else none

def polarityOf (b : Byte) : Option Polarity :=
  if b = 0 then some .energised else if b = 1 then some .deEnergised else none

def yesNoOf (b : Byte) : Option Bool :=
  if b = 0 then some false else if b = 1 then some true else none

/-- After-wash settings use the filter-state codes of ONLINE and STANDBY (11.4). -/
def destinationOf (b : Byte) : Option Destination :=
  if b = 1 then some .online else if b = 2 then some .standby else none

def silenceActionOf (b : Byte) : Option SilenceAction :=
  if b = 0 then some .note else if b = 1 then some .auto else if b = 2 then some .pause else none

def phaseKindOf (b : Byte) : Option PhaseKind :=
  match b.toNat with
  | 0 => some .drain
  | 1 => some .air
  | 2 => some .airWater
  | 3 => some .water
  | 4 => some .rest
  | 5 => some .ripen
  | _ => none

/-- A set of the six classes; a bit above the last member is no set (R192). -/
def classSetOf (b : Byte) : Option (BitVec 6) :=
  if b.toNat < 64 then some (b.setWidth 6) else none

/-- A set of the four calc flags. -/
def calcSetOf (b : Byte) : Option CalcFlags :=
  if b.toNat < 16 then some ⟨b.getLsbD 0, b.getLsbD 1, b.getLsbD 2, b.getLsbD 3⟩ else none

/-- A field within its range. -/
def within (lo hi : Nat) (n : Nat) : Option Nat := if lo ≤ n ∧ n ≤ hi then some n else none

/-- A field that is 0 or within its range. -/
def zeroOr (lo hi : Nat) (n : Nat) : Option Nat := if n = 0 then some 0 else within lo hi n

/-- R1: the fields of Table 1-6; `installed` says whether a slot holds an installed recipe. -/
def filterConfigOf (installed : SlotId → Bool) (c : RawFilter) : Option FilterConfig := do
  let area ← within 10 3000 c.area.toNat
  let h0 ← within 0 4900 c.h0.toNat
  let ht ← within (h0 + 100) 5000 c.ht.toNat
  let tt ← within 50 2000 c.tt.toNat
  let rmax ← within 360 10080 c.rmax.toNat
  let arming ← within 0 240 c.arming.toNat
  let slot ← slotOf c.slot
  let dest ← destinationOf c.dest
  if installed slot then
    some ⟨area, h0, ht, tt, rmax, arming, slot, dest, c.initRun.toNat⟩
  else none

/-- R62: the fields of Table 4-1, each within its range. -/
def plantOf (r : RawPlant) : Option PlantRecord := do
  let vmax ← within 20 300 r.vmax.toNat
  let qDesign ← within 0 30000 r.qDesign.toNat
  let concurrency ← within 1 2 r.concurrency.toNat
  let spacing ← within 0 240 r.spacing.toNat
  let lifetime ← within 10 600 r.lifetime.toNat
  let overloadDelay ← within 10 600 r.overloadDelay.toNat
  let early ← zeroOr 700 999 r.early.toNat
  let calcEnables ← calcSetOf r.calcEnables
  let staleLimit ← within 10 600 r.staleLimit.toNat
  let tankArea ← within 10 20000 r.tankArea.toNat
  let basinArea ← within 10 20000 r.basinArea.toNat
  let tankMin ← within 0 10000 r.tankMin.toNat
  let basinMax ← within 0 10000 r.basinMax.toNat
  let holdLimit ← within 1 120 r.holdLimit.toNat
  let autoResume ← yesNoOf r.autoResume
  let debounce ← within 20 1000 r.debounce.toNat
  let tInf ← within 5 300 r.travelInf.toNat
  let tEff ← within 5 300 r.travelEff.toNat
  let tBww ← within 5 300 r.travelBww.toNat
  let tAir ← within 5 300 r.travelAir.toNat
  let tWst ← within 5 300 r.travelWst.toNat
  let tFtw ← within 5 300 r.travelFtw.toNat
  let pumpProve ← within 3 60 r.pumpProve.toNat
  let blowerProve ← within 3 60 r.blowerProve.toNat
  let pumpGuard ← within 0 600 r.pumpGuard.toNat
  let blowerGuard ← within 0 900 r.blowerGuard.toNat
  let polP1 ← polarityOf r.polP1
  let polP2 ← polarityOf r.polP2
  let polBl ← polarityOf r.polBl
  let silenceInterval ← zeroOr 5 3600 r.silenceInterval.toNat
  let silenceAction ← silenceActionOf r.silenceAction
  some {
    vmax, qDesign, concurrency, spacing, lifetime, overloadDelay, early, calcEnables, staleLimit,
    tankArea := some tankArea, basinArea := some basinArea, tankMin := some tankMin, basinMax := some basinMax,
    holdLimit, autoResume, debounce, travel := ⟨tInf, tEff, tBww, tAir, tWst, tFtw⟩,
    pumpProve, blowerProve, pumpGuard, blowerGuard, polarity := ⟨polP1, polP2, polBl⟩,
    silenceInterval, silenceAction }

end Sys2Proof.Machine
end

