-- ==== Sys2Proof/Machine/Points.lean ====
section
/-! DEFINITION. Measurement front end: conversion, ring, quality, what is handed to the readers, and the two volumes
(spec/02_gallery_measurements.md). -/

namespace Sys2Proof.Machine

/-- Usable: quality GOOD, OVER or HELD (1.5). -/
def Quality.usable : Quality → Bool
  | .good | .over | .held => true
  | .none | .stale => false

/-- The value a reader of usable values gets. -/
def Point.usableValue (x : Point) : Option Nat := if x.quality.usable then x.value else none

/-- The analog input and span of a point's source. -/
def PointSource.input (src : PointSource) : Option (InputId × Nat × Nat) :=
  match src with
  | .analog i lo hi => some (i, lo, hi)
  | _ => Option.none

/-- The point an input is the source of (Table 2-1, assigned point). -/
def Part.assignedPoint (p : Part) (i : InputId) : Option PointId :=
  allPoints.find? fun id => (p.point id).source.input.any (·.1 == i)

/-! ### Volumes (R32, R33) -/

/-- R32: max(0, floor((L_tank − L_min) × A_tank / 1000)); absent when TANK is not usable or no record was received. -/
def Part.tankVolume (p : Part) : Option Nat :=
  if p.plantReceived then do
    let level ← p.front.tank.usableValue
    let low ← p.plant.tankMin
    let area ← p.plant.tankArea
    some ((level - low) * area / 1000)
  else none

/-- R33: max(0, floor((L_max − L_basin) × A_basin / 1000)). -/
def Part.basinVolume (p : Part) : Option Nat :=
  if p.plantReceived then do
    let level ← p.front.basin.usableValue
    let high ← p.plant.basinMax
    let area ← p.plant.basinArea
    some ((high - level) * area / 1000)
  else none

def Part.deriveTank (p : Part) : Part := { p with front := { p.front with tankAvail := p.tankVolume } }

def Part.deriveBasin (p : Part) : Part := { p with front := { p.front with basinRoom := p.basinVolume } }

/-! ### Readers (R30) -/

/-- The lane washing a filter, if any. -/
def Part.laneWashing (p : Part) (f : FilterId) : Option LaneId :=
  match p.filter f with
  | some r =>
    match r.state with
    | .washing l => some l
    | _ => none
  | none => none

/-- R30: a change of a point's quality or value is handed to its readers, each as an event of its own. -/
def Part.tellReaders (p : Part) (id : PointId) : Part :=
  match id with
  | .hl n => p.raise (.urgency n)
  | .tb n =>
    let p := p.raise (.urgency n)
    match p.laneWashing n with
    | some l => p.raise (.lanePoint l (.tb n))
    | none => p
  | .flow => p.raise (.schedulerMeasure .flow)
  | .tank => (p.deriveTank.raise (.schedulerMeasure .tank)).raiseAll (p.busyLanes.map fun l => .lanePoint l .tank)
  | .basin => (p.deriveBasin.raise (.schedulerMeasure .basin)).raiseAll (p.busyLanes.map fun l => .lanePoint l .basin)

/-- The new record is written; a change of quality is reported with MEASURE (R31), and a change of quality or value is
handed on (R30). -/
def Part.putPoint (p : Part) (id : PointId) (x : Point) : Part :=
  let old := p.point id
  let p := p.writePoint id x
  let p := if x.quality = old.quality then p
    else p.report (.measure id x.quality old.quality x.source (if x.quality = .none then none else x.value))
  if x.quality = old.quality ∧ x.value = old.value then p else p.tellReaders id

/-! ### Samples (R24 to R26) -/

inductive Sample where
  | broken
  | inRange (e : Nat)
  | over (e : Nat)
  deriving DecidableEq, Repr

/-- R24, Table 2-5. -/
def convertCount (c lo hi : Nat) : Sample :=
  if c < 576 then .broken
  else if c < 640 then .inRange lo
  else if c ≤ 3200 then .inRange (lo + roundHalfUp ((c - 640) * (hi - lo)) 2560)
  else if c ≤ 3280 then .inRange hi
  else .over hi

/-- R25: the last four accepted samples, oldest first. -/
def ringAdd (ring : List Nat) (e : Nat) : List Nat :=
  if ring.length < 4 then ring ++ [e] else ring.drop (ring.length - 3) ++ [e]

def ringAverage (ring : List Nat) : Nat := roundHalfUp ring.sum ring.length

/-- R25, R26, Table 2-6: the point after one analog sample taken at second `t`. -/
def Point.sampled (x : Point) (t : Nat) : Sample → Point
  | .broken =>
    match x.quality with
    | .good | .over | .held => { x with quality := .held }
    | .none | .stale => x
  | .inRange e =>
    let ring := ringAdd x.ring e
    { x with ring, value := some (ringAverage ring), quality := .good, lastAccepted := some t }
  | .over e => { x with ring := ringAdd x.ring e, value := some e, quality := .over, lastAccepted := some t }

/-- R26: one sample reaches its point; an accepted one restarts the stale timing (R27). -/
def Part.takeSample (p : Part) (id : PointId) (c : Nat) : Part :=
  let x := p.point id
  match x.source.input with
  | none => p
  | some (_, lo, hi) =>
    let s := convertCount c lo hi
    let p := if s = .broken then p else p.cancel (.stale id)
    p.putPoint id (x.sampled p.clock s)

/-- R21: every input's count is stored, and each assigned point's count becomes its sample. -/
def Part.scanInputs (p : Part) (counts : Vector (BitVec 12) 40) : Part :=
  let p := { p with front := { p.front with counts := mapVec (fun c : BitVec 12 => some c.toNat) counts } }
  p.raiseAll (allPoints.filterMap fun id =>
    (p.point id).source.input.map fun x => .sample id (counts.get x.1).toNat)

/-- R27: the point goes STALE; its ring is emptied, its value and last accepted second are kept. -/
def Part.goStale (p : Part) (id : PointId) : Part :=
  let x := p.point id
  if x.quality.usable then p.putPoint id { x with quality := .stale, ring := [] } else p

/-- R27: the point is timed and its stale limit is reached at second `t`. -/
def Point.staleAt (x : Point) (limit t : Nat) : Bool :=
  x.quality.usable && x.lastAccepted.any fun last => decide (secondsOn last limit ≤ t)

/-! ### Host settings (R23, R29) -/

/-- The sample event of a point. -/
def Event.isSampleOf (id : PointId) : Event → Bool
  | .sample q _ => q == id
  | _ => false

/-- R23: the point starts afresh. A sample still on its way was one of the old source and is dropped (log 33). -/
def Part.startPoint (p : Part) (id : PointId) (src : PointSource) : Part :=
  let p := { p with events := p.events.filter fun e => !e.isSampleOf id }
  (p.cancel (.stale id)).putPoint id ⟨src, [], none, .none, none⟩

/-- R29: one pair of a PUT_MEASURE. -/
def Part.push (p : Part) (id : PointId) (v : Nat) : Part :=
  let x := p.point id
  (p.cancel (.stale id)).putPoint id
    { x with value := some (min v (pointMax id)), quality := .good, lastAccepted := some p.clock }

/-- What GET_POINTS reads of a point (R35). -/
def Part.viewPoint (p : Part) (id : PointId) : PointView :=
  let x := p.point id
  { point := id, source := x.source, quality := x.quality, value := x.value
    age := x.lastAccepted.map fun t => min (p.clock - t) 65535
    count := x.source.input.bind fun a => p.front.counts.get a.1 }

end Sys2Proof.Machine
end

