-- ==== Sys2Proof/Machine/Queue.lean ====
section
/-! DEFINITION. The rotation queue and the proposal (spec/03_urgency_and_the_rotation_queue.md, 4.8). -/

namespace Sys2Proof.Machine

/-! ### Order (R46) -/

/-- R46: class rank, then greater U, then earlier raised-at, then lower filter number. -/
def Entry.before (x y : Entry) : Bool :=
  if x.cls.rank ≠ y.cls.rank then x.cls.rank < y.cls.rank
  else if x.u ≠ y.u then y.u < x.u
  else if x.raisedAt ≠ y.raisedAt then x.raisedAt < y.raisedAt
  else x.filter.val < y.filter.val

/-- An entry put at the place its keys give. -/
def insertEntry (e : Entry) : List Entry → List Entry
  | [] => [e]
  | x :: rest => if e.before x then e :: x :: rest else x :: insertEntry e rest

def removeEntry (f : FilterId) (q : List Entry) : List Entry := q.filter fun e => e.filter != f

def Part.entry (p : Part) (f : FilterId) : Option Entry := p.sched.queue.find? fun e => e.filter == f

/-- The filter's entry replaced; it moves at once to the place its new fields give (R46). -/
def Part.putEntry (p : Part) (e : Entry) : Part :=
  { p with sched := { p.sched with queue := insertEntry e (removeEntry e.filter p.sched.queue) } }

/-- R49: defer-until is present and lies after the present second. -/
def Entry.deferred (e : Entry) (clock : Nat) : Bool := e.deferUntil.any fun t => decide (clock < t)

/-- The admission scan passes over deferred and masked entries (R46, R49, R51). -/
def Part.eligible (p : Part) (e : Entry) : Bool :=
  !e.deferred p.clock && !hasClass p.sched.mask e.cls

/-! ### Proposal (R85) -/

/-- R85: the record is emptied, the withdrawal reported, a scan triggered. -/
def Part.withdraw (p : Part) (cause : WithdrawalCause) (deferUntil : Option Nat) : Part :=
  match p.sched.proposal with
  | some pr =>
    let p := ({ p with sched := { p.sched with proposal := none } }).cancel .proposalExpiry
    (p.report (.proposalWithdrawn pr.filter cause deferUntil)).trigger
  | none => p

/-- Withdrawn if the proposal is for this filter. -/
def Part.withdrawFor (p : Part) (f : FilterId) (cause : WithdrawalCause) : Part :=
  match p.sched.proposal with
  | some pr => if pr.filter = f then p.withdraw cause none else p
  | none => p

/-! ### Adding, upgrading, removing (R44, R55, R57) -/

def Part.reportRequest (p : Part) (a : RequestAction) (e : Entry) (previous : Option RequestClass)
    (cause : Option RemovalCause) : Part :=
  p.report (.request a e.filter e.cls previous e.source e.u cause)

/-- An entry is added and reported; a queue change triggers the scan (R47). -/
def Part.addEntry (p : Part) (f : FilterId) (cls : RequestClass) (src : RequestSource) (u : Nat)
    (override : Option SlotId) : Part :=
  let e : Entry := ⟨f, cls, src, u, p.clock, override, none⟩
  ((p.putEntry e).reportRequest .added e none none).trigger

/-- R55: the filter's entry, if any, leaves the queue and is reported removed. -/
def Part.dropEntry (p : Part) (f : FilterId) (cause : RemovalCause) : Part :=
  match p.entry f with
  | some e =>
    let p := { p with sched := { p.sched with queue := removeEntry f p.sched.queue } }
    ((p.cancel (.deferExpiry f)).reportRequest .removed e none (some cause)).trigger
  | none => p

/-- An entry leaves for a reason other than admission, and a proposal for its filter with it (Table 4-3, FILTER). -/
def Part.expelEntry (p : Part) (f : FilterId) (cause : RemovalCause) : Part :=
  (p.dropEntry f cause).withdrawFor f .filter

/-- R49: defer-until written or cleared; the earlier value, and its expiry, are gone. Writing the value it holds is no
queue change (R47, log 48). -/
def Part.setDefer (p : Part) (e : Entry) (t : Option Nat) : Part :=
  let p := p.cancel (.deferExpiry e.filter)
  let p' := p.putEntry { e with deferUntil := t }
  if t = e.deferUntil then p' else p'.trigger

/-- R44, Table 3-3: what the scheduler does with an evaluation of a filter. -/
def Part.takeEvaluation (p : Part) (f : FilterId) (u : Nat) (cls : Option RequestClass) : Part :=
  match p.entry f, cls with
  | none, none => p
  | none, some c => p.addEntry f c .auto u none
  | some e, some c =>
    if c.rank < e.cls.rank then
      let e' := { e with u, cls := c, source := .auto }
      ((p.putEntry e').reportRequest .upgraded e' (some e.cls) none).trigger
    else if u = e.u then p else (p.putEntry { e with u }).trigger
  | some e, none => if u = e.u then p else (p.putEntry { e with u }).trigger

/-- An entry without an override of that slot. -/
def Entry.withoutOverride (slot : SlotId) (e : Entry) : Entry :=
  if e.override = some slot then { e with override := none } else e

/-- R56: the overrides that name an erased slot are cleared; each clearing is a queue change. -/
def Part.clearOverrides (p : Part) (slot : SlotId) : Part :=
  if p.sched.queue.any (fun e => e.override == some slot) then
    ({ p with sched := { p.sched with queue := p.sched.queue.map (Entry.withoutOverride slot) } }).trigger
  else p

end Sys2Proof.Machine
end

