-- ==== Sys2Proof/Machine/Loading.lean ====
section
/-! DEFINITION. Loading and overload (R71, R79 to R81). -/

namespace Sys2Proof.Machine

def Part.onlineFilters (p : Part) : List FilterRecord :=
  (allFilters.filterMap p.filter).filter fun r => r.state == .online

/-- R71: the sum of the areas of the ONLINE filters. -/
def Part.serviceArea (p : Part) : Nat := (p.onlineFilters.map fun r => r.cfg.area).sum

/-- R71: Q, and whether it is Qdesign. -/
def Part.flowUsed (p : Part) : Nat × Bool :=
  match p.front.flow.usableValue with
  | some q => (q, false)
  | none => (p.plant.qDesign, true)

/-- R71: the loading of an area, with the flags its computation meets. -/
def loadingOver (q : Nat) (isDesign : Bool) (area : Nat) : Nat × CalcFlags :=
  if area = 0 then (9999, ⟨false, true, false, isDesign⟩)
  else
    let v := ceilDiv (360 * q) area
    if 9999 < v then (9999, ⟨true, false, false, isDesign⟩) else (v, ⟨false, false, false, isDesign⟩)

/-- The current loading as it stands, with its flags. -/
def Part.loadingNow (p : Part) : Nat × CalcFlags :=
  loadingOver p.flowUsed.1 p.flowUsed.2 p.serviceArea

/-- R71: the loading with a filter of area `a` removed; over an area of 0 or less it counts as 9999, above every Vmax. -/
def Part.loadingLess (p : Part) (a : Nat) : Nat × CalcFlags :=
  loadingOver p.flowUsed.1 p.flowUsed.2 (p.serviceArea - a)

/-- R79: the overload timer after the current loading is computed. -/
def Part.overloadAfter (p : Part) (v : Nat) : Part :=
  if p.plant.vmax < v then
    match p.sched.overload with
    | some _ => p
    | none =>
      { p with sched := { p.sched with overload := some ⟨p.clock, secondsOn p.clock p.plant.overloadDelay⟩ } }
  else ({ p with sched := { p.sched with overload := none } }).cancel .overloadDeadline

/-- R71, R79: the current loading is computed, in OPERATING only. -/
def Part.computeLoading (p : Part) : Part :=
  if p.operating then
    let (v, met) := p.loadingNow
    (p.setFlags met (.loading none)).overloadAfter v
  else p

/-- R71, R72: whether the loading without filter `f` of area `a` is within Vmax; the computation sets its flags. -/
def Part.loadingTest (p : Part) (f : FilterId) (a : Nat) : Part × Bool :=
  let (v, met) := p.loadingLess a
  (p.setFlags met (.loading (some f)), decide (v ≤ p.plant.vmax))

end Sys2Proof.Machine
end

