-- ==== Sys2Proof/Machine/Valves.lean ====
section
/-! DEFINITION. Valve field controller: readings, travel, drift, faults, owners, STOP, derivation, the interlock
(spec/08_the_valve_field.md). -/

namespace Sys2Proof.Machine

/-! ### Readings and drives (R151) -/

/-- R151: a limit input's reading under the channel's switch sense. -/
def readingOf (sense : SwitchSense) (level : Level) : Reading :=
  match sense, level with
  | .normal, .energised | .inverted, .deEnergised => .active
  | .normal, .deEnergised | .inverted, .energised => .inactive

def Channel.openRead (c : Channel) : Option Reading := c.openInput.map (readingOf c.sense)

def Channel.closedRead (c : Channel) : Option Reading := c.closedInput.map (readingOf c.sense)

/-- A reading still absent is taken as INACTIVE (R158). -/
def Channel.openActive (c : Channel) : Bool := c.openRead == some .active

def Channel.closedActive (c : Channel) : Bool := c.closedRead == some .active

def Channel.bothActive (c : Channel) : Bool := c.openActive && c.closedActive

/-- The idle state the readings give (R152), where not both are ACTIVE. -/
def Channel.settled (c : Channel) : ChannelState :=
  if c.closedActive then .closed else if c.openActive then .opened else .unknown

def ChannelState.inTravel (x : ChannelState) : Bool :=
  match x with
  | .opening .. | .closing .. => true
  | _ => false

def ChannelState.isFault (x : ChannelState) : Bool :=
  match x with
  | .fault _ => true
  | _ => false

/-- R151: the drive follows the state. -/
def Channel.drive (c : Channel) : Drive :=
  match c.state with
  | .opening .. => .openDrive
  | .closing .. => .closeDrive
  | _ => .off

/-- The drive output at the terminals: off without supply and in reset (R184, 8.12). -/
def Part.drive (p : Part) (ch : ChannelId) : Drive := if p.live then (p.channel ch).drive else .off

/-! ### Owners (R3, R157) -/

def FilterRecord.owner (r : FilterRecord) : Owner :=
  match r.state with
  | .washing l => .lane l
  | .outOfService | .faulted _ => .window
  | .online | .standby | .stranded => if r.transfer.isSome then .transfer else .none

/-- Owner of the channels mapped to a filter; those of an UNDEFINED filter belong to the window. -/
def Part.filterOwner (p : Part) (f : FilterId) : Owner :=
  match p.filter f with
  | some r => r.owner
  | none => .window

def Part.ownerOf (p : Part) (ch : ChannelId) : Owner :=
  match (p.channel ch).mappedTo with
  | some (f, _) => p.filterOwner f
  | none => .window

/-! ### Faults (R156, R167) -/

/-- Capture record of a fault about to be entered. -/
def Part.captureOf (p : Part) (ch : ChannelId) (cause : ChannelFault) : Capture :=
  let c := p.channel ch
  let owner := p.ownerOf ch
  { channel := ch
    cause := cause
    time := p.clock
    before := c.state
    target := c.target
    openRead := if c.openActive then .active else .inactive
    closedRead := if c.closedActive then .active else .inactive
    ran := match cause, c.state with
      | .travel, .opening _ t | .travel, .closing _ t => some t
      | _, _ => Option.none
    owner := owner
    mappedTo := c.mappedTo
    laneAt := match owner with
      | .lane l => (p.lane l).map fun w => (l, w.phase)
      | _ => Option.none }

/-- R156 step 3, R157: who takes the fault of a filter's role. A filter in OUT_OF_SERVICE or FAULTED keeps its state
(R3), so nothing is raised. -/
def Part.tellFault (p : Part) (f : FilterId) (r : Role) : Part :=
  match p.filterOwner f with
  | .lane l => p.raiseOnce (.roleFault l r)
  | .transfer => p.raiseOnce (.transferFault f r)
  | .none => p.raiseOnce (.filterFault f r)
  | .window => p

/-- R152, R154, R156: the channel enters FAULT: state and drive, capture, report, notices. -/
def Part.faultChannel (p : Part) (ch : ChannelId) (cause : ChannelFault) : Part :=
  let cap := p.captureOf ch cause
  let p := (p.putChannel ch { p.channel ch with state := .fault cause }).cancel (.travelExpiry ch)
  let p := { p with valves := { p.valves with capture := some cap } }
  let p := p.report (.valveFault cap)
  match cap.mappedTo with
  | some (f, r) => p.tellFault f r
  | none => p

/-! ### Arrival and drift (R154, R155, R157) -/

def Part.tellArrival (p : Part) (ch : ChannelId) : Part :=
  match (p.channel ch).mappedTo with
  | some (f, r) =>
    match p.filterOwner f with
    | .lane l => p.raise (.roleArrival l r)
    | .transfer => p.raise (.transferArrival f r)
    | .none | .window => p
  | none => p

/-- R154: the channel takes its target state and its owner is told. -/
def Part.arrive (p : Part) (ch : ChannelId) (at' : ChannelState) : Part :=
  ((p.putChannel ch { p.channel ch with state := at' }).cancel (.travelExpiry ch)).tellArrival ch

/-- R155: a held limit lost: new state from the readings, VALVE_DRIFT, owner told. -/
def Part.drift (p : Part) (ch : ChannelId) (lost : Position) : Part :=
  let c := p.channel ch
  let p := p.putChannel ch { c with state := c.settled }
  let owner := p.ownerOf ch
  let p := p.report (.valveDrift ch c.mappedTo lost c.settled owner)
  match owner, c.mappedTo with
  | .lane l, some (_, r) => p.raise (.roleDrift l r)
  | .transfer, some (f, r) => p.raise (.transferDrift f r)
  | _, _ => p

/-! ### A change of a reading (R151, R152, R154, R155) -/

def Channel.putInput (c : Channel) (which : Limit) (level : Level) : Channel :=
  match which with
  | .openLimit => { c with openInput := some level }
  | .closedLimit => { c with closedInput := some level }

def Channel.input (c : Channel) (which : Limit) : Option Level :=
  match which with
  | .openLimit => c.openInput
  | .closedLimit => c.closedInput

/-- A debounced limit input is taken at a level: a reading changes and the channel follows. A level the input was last
taken at is no change. -/
def Part.takeLimit (p : Part) (ch : ChannelId) (which : Limit) (level : Level) : Part :=
  let old := p.channel ch
  if old.input which = some level then p
  else
    let c := old.putInput which level
    let p := p.putChannel ch c
    match c.state with
    | .fault _ => p
    | state =>
      if c.bothActive then p.faultChannel ch .switch
      else
        match state with
        | .closed => if c.closedActive then p else p.drift ch .closed
        | .opened => if c.openActive then p else p.drift ch .opened
        | .unknown => p.putChannel ch { c with state := c.settled }
        | .opening .. => if which = .openLimit ∧ c.openActive then p.arrive ch .opened else p
        | .closing .. => if which = .closedLimit ∧ c.closedActive then p.arrive ch .closed else p
        | .stopped | .fault _ => p

/-- R154: the travel expiry falls on a channel still in travel. -/
def Part.travelFails (p : Part) (ch : ChannelId) : Part :=
  if (p.channel ch).state.inTravel then p.faultChannel ch .travel else p

/-- Travel expiry second of a channel in travel. -/
def Channel.expiry (c : Channel) : Option Nat :=
  match c.state with
  | .opening e _ | .closing e _ => some e
  | _ => none

/-! ### Commands (R153, Table 8-3) -/

/-- Travel time a command to the channel would use now: of its role, 120 s when unmapped. -/
def Part.travelTime (p : Part) (ch : ChannelId) : Nat :=
  match (p.channel ch).mappedTo with
  | some (_, r) => p.plant.travel.get r
  | none => 120

/-- Outcome of a command: taken into travel (or running on), complete at once, failed at once. -/
inductive Taken where
  | travels | complete | fails
  deriving DecidableEq, Repr

/-- The travel of a command: target, drive, and a timer started anew. -/
def Part.startTravel (p : Part) (ch : ChannelId) (target : Position) : Part :=
  let t := p.travelTime ch
  let e := secondsOn p.clock t
  let state : ChannelState :=
    match target with
    | .opened => .opening e t
    | .closed => .closing e t
  (p.putChannel ch { p.channel ch with state := state, target := some target }).cancel (.travelExpiry ch)

/-- A command that needs no travel: target and state. -/
def Part.completeAt (p : Part) (ch : ChannelId) (target : Position) (at' : ChannelState) : Part :=
  p.putChannel ch { p.channel ch with state := at', target := some target }

/-- R153, Table 8-3. -/
def Part.command (p : Part) (ch : ChannelId) (target : Position) : Part × Taken :=
  let c := p.channel ch
  match c.state, target with
  | .fault _, _ => (p, .fails)
  | .closed, .closed => (p.completeAt ch .closed .closed, .complete)
  | .opened, .opened => (p.completeAt ch .opened .opened, .complete)
  | .opening .., .opened => (p.completeAt ch .opened c.state, .travels)
  | .closing .., .closed => (p.completeAt ch .closed c.state, .travels)
  | .stopped, .opened =>
    if c.openActive && !c.closedActive then (p.completeAt ch .opened .opened, .complete)
    else (p.startTravel ch .opened, .travels)
  | .stopped, .closed =>
    if c.closedActive && !c.openActive then (p.completeAt ch .closed .closed, .complete)
    else (p.startTravel ch .closed, .travels)
  | _, t => (p.startTravel ch t, .travels)

/-- A role of a filter is commanded; an unmapped role has no channel, and no lane or transfer meets one (R7, R186). -/
def Part.commandRole (p : Part) (f : FilterId) (r : Role) (target : Position) : Part × Taken :=
  match p.mapped f r with
  | some ch => p.command ch target
  | none => (p, .fails)

def Part.roleState (p : Part) (f : FilterId) (r : Role) : Option ChannelState :=
  (p.mapped f r).map fun ch => (p.channel ch).state

/-- The role's channel is in the position (6.1). -/
def Part.inPosition (p : Part) (f : FilterId) (r : Role) (pos : Position) : Bool :=
  match p.roleState f r, pos with
  | some .opened, .opened => true
  | some .closed, .closed => true
  | _, _ => false

def Part.roleFaulted (p : Part) (f : FilterId) (r : Role) : Bool :=
  match p.roleState f r with
  | some (.fault _) => true
  | _ => false

/-! ### STOP (R164, R165, R169) -/

/-- A channel in travel goes STOPPED; its target is kept. -/
def Channel.stop (c : Channel) : Channel := if c.state.inTravel then { c with state := .stopped } else c

def Event.isTravelExpiry : Event → Bool
  | .travelExpiry _ => true
  | _ => false

/-- Number of channels in travel. -/
def Part.travelling (p : Part) : Nat := (p.valves.channels.toList.filter fun c => c.state.inTravel).length

/-- R164 without its report: drives off, channels in travel STOPPED, arbiter and lanes told. A transfer needs no notice
of an assertion: it only waits (R12). -/
def Part.assertStop (p : Part) : Part :=
  let p := { p with
    valves := { p.valves with channels := mapVec Channel.stop p.valves.channels, stop := .asserted }
    events := p.events.filter fun e => !e.isTravelExpiry }
  p.raiseAll [.arbiterStopAsserted, .laneStopAsserted .a, .laneStopAsserted .b]

/-- R152: the channel takes its state from its switches, both limits ACTIVE being a switch fault. -/
def Part.settle (p : Part) (ch : ChannelId) : Part :=
  let c := p.channel ch
  if c.bothActive then p.faultChannel ch .switch else p.putChannel ch { c with state := c.settled }

/-- R165: a STOPPED channel takes its state from its readings. -/
def Part.unstop (p : Part) (ch : ChannelId) : Part :=
  if (p.channel ch).state = .stopped then p.settle ch else p

/-- R165: the channels in ascending number, with the VALVE_FAULT of each that shows both limits, then STOP (released),
then the notices (log 44). -/
def Part.releaseStop (p : Part) : Part :=
  let p := { p with valves := { p.valves with stop := .released } }
  let p := allChannels.foldl (init := p) fun p ch => p.unstop ch
  let p := p.report (.stopReleased p.clock)
  p.raiseAll ([.laneStopReleased .a, .laneStopReleased .b] ++ allFilters.filterMap fun f =>
    match p.filterOwner f with
    | .transfer => some (.transferStopReleased f)
    | _ => none)

/-! ### Derivation (R158) and the sense of a channel (R159) -/

/-- R158: derivation at the survey, where a FAULT stays. The commanded target goes first, so a switch fault found here
is captured without one (log 35). -/
def Part.derive (p : Part) (ch : ChannelId) : Part :=
  let c := { p.channel ch with target := none }
  let p := (p.putChannel ch c).cancel (.travelExpiry ch)
  if c.state.isFault then p else p.settle ch

/-- R158: derivation at CLEAR_CHANNEL, out of FAULT. A renewed switch fault is captured from UNKNOWN and without a
commanded target (log 35). -/
def Part.deriveCleared (p : Part) (ch : ChannelId) : Part :=
  (p.putChannel ch { p.channel ch with target := none, state := .unknown }).settle ch

/-- R159: the sense is written, and a CLOSED, OPEN or UNKNOWN channel takes its state from its readings under it. -/
def Part.writeSense (p : Part) (ch : ChannelId) (sense : SwitchSense) : Part :=
  let p := p.putChannel ch { p.channel ch with sense := sense }
  match (p.channel ch).state with
  | .closed | .opened | .unknown => p.settle ch
  | _ => p

/-! ### Interlock (R161) -/

/-- The partner role kept apart from a role. -/
def partnerOf : Role → Option Role
  | .inf => some .bww
  | .bww => some .inf
  | .eff => some .wst
  | .wst => some .eff
  | .air | .ftw => none

/-- R161: unmapped, or CLOSED with a commanded target that is not OPEN. -/
def Part.countsClosed (p : Part) (f : FilterId) (r : Role) : Bool :=
  match p.mapped f r with
  | some ch => (p.channel ch).state == .closed && (p.channel ch).target != some .opened
  | none => true

/-- The interlock test for opening a role of a filter. -/
def Part.interlockOk (p : Part) (f : FilterId) (r : Role) : Bool :=
  match partnerOf r with
  | some q => p.countsClosed f q
  | none => true

/-! ### What GET_CHANNELS reads (R168) -/

def Part.viewChannel (p : Part) (ch : ChannelId) : ChannelView :=
  let c := p.channel ch
  { channel := ch, record := c, openRead := c.openRead, closedRead := c.closedRead, drive := c.drive
    owner := p.ownerOf ch
    expiryLeft := c.expiry.map fun e => e - p.clock
    travelTime := p.travelTime ch }

end Sys2Proof.Machine
end

