-- ==== Sys2Proof/Machine/Filters.lean ====
section
/-! DEFINITION. Filter table: changes of state, transfers, channel faults, the filter's side of a wash
(spec/01_the_filter_table.md). -/

namespace Sys2Proof.Machine

/-! ### Changes of a record (R3, R4, R41, R162) -/

/-- R4: FILTER_STATE, the substitution flag set when the marker names the filter. -/
def Part.reportFilter (p : Part) (f : FilterId) (before : StateName) : Part :=
  let now := p.filter f
  p.report (.filterState f (now.map (·.state)) before (now.bind (·.transfer)) (p.table.marker == some f))

/-- U and dominant term by state (R41): 0 outside ONLINE and WASHING. -/
def FilterRecord.indexed (r : FilterRecord) : FilterRecord :=
  match r.state with
  | .online | .washing _ => r
  | .standby | .stranded | .outOfService | .faulted _ => { r with u := 0, dominant := .turbidity }

def FilterState.isWindows (x : FilterState) : Bool :=
  match x with
  | .outOfService | .faulted _ => true
  | _ => false

/-- R162: the selection goes when its filter takes a state other than OUT_OF_SERVICE and FAULTED. -/
def Part.releaseWindow (p : Part) (f : FilterId) : Part :=
  match p.valves.selection with
  | some ch =>
    match (p.channel ch).mappedTo with
    | some (g, _) => if g = f then p.setSelection none else p
    | none => p
  | none => p

/-- Notices to a filter's transfer. -/
def Event.isTransferOf (f : FilterId) (e : Event) : Bool :=
  match e with
  | .transferArrival g _ | .transferFault g _ | .transferDrift g _ | .transferStopReleased g => g == f
  | _ => false

/-- Notices of a fault with no owner to tell. -/
def Event.isFaultOf (f : FilterId) (e : Event) : Bool :=
  match e with
  | .filterFault g _ => g == f
  | _ => false

/-- Notices whose reader is gone are dropped: a transfer's when none runs, an unowned fault's when the filter leaves the
states that take it (log 17). -/
def Part.dropNotices (p : Part) (f : FilterId) : Part :=
  match p.filterOwner f with
  | .transfer => p
  | .window => { p with events := p.events.filter fun e => !e.isTransferOf f && !e.isFaultOf f }
  | _ => { p with events := p.events.filter fun e => !e.isTransferOf f }

def Part.isOnline (p : Part) (f : FilterId) : Bool := (p.filter f).any fun r => r.state == .online

/-- R71, R64, R42: what a filter's entry into the service area, or its leaving it, brings about. -/
def Part.areaChanged (p : Part) (f : FilterId) (wasOnline : Bool) : Part :=
  if p.isOnline f = wasOnline then p
  else
    let p := p.computeLoading.trigger
    if p.isOnline f then p.raise (.urgency f) else p

/-- A defined filter's record takes new state fields: written with the index its state gives, reported, the window and
the notices that no longer apply released. -/
def Part.moveFilter (p : Part) (f : FilterId) (r : FilterRecord) : Part :=
  let before := (p.filter f).map (·.state)
  let p := (p.putFilter f (some r.indexed)).reportFilter f before
  let p := if r.state.isWindows then p else p.releaseWindow f
  p.dropNotices f

/-- `moveFilter`, with what the change of the service area brings about. -/
def Part.changeFilter (p : Part) (f : FilterId) (g : FilterRecord → FilterRecord) : Part :=
  match p.filter f with
  | some r =>
    let wasOnline := p.isOnline f
    (p.moveFilter f (g r)).areaChanged f wasOnline
  | none => p

/-! ### Transfers (R11 to R13, Table 1-10) -/

/-- Steps of a transfer: roles and the position they are commanded to. -/
def transferSteps : TransferKind → List (List Role × Position)
  | .toService => [([.bww, .air, .wst, .ftw], .closed), ([.eff], .opened), ([.inf], .opened)]
  | .toStandby => [([.inf, .bww, .air, .wst, .ftw], .closed), ([.eff], .closed)]

/-- Roles commanded up to a step, with their positions. -/
def commandedBy (t : Transfer) : List (Role × Position) :=
  ((transferSteps t.kind).take t.step).flatMap fun s => s.1.map fun r => (r, s.2)

/-- Roles of one step. -/
def stepRoles (t : Transfer) : List (Role × Position) :=
  match (transferSteps t.kind)[t.step - 1]? with
  | some s => s.1.map fun r => (r, s.2)
  | none => []

def lastStep (t : Transfer) : Bool := (transferSteps t.kind).length ≤ t.step

/-- R13: the filter goes FAULTED VALVE, and the marker naming it becomes none, which the scheduler is told. -/
def Part.transferFails (p : Part) (f : FilterId) : Part :=
  let substituted := p.table.marker == some f
  let p := p.changeFilter f fun r => { r with state := .faulted .valve, transfer := none }
  if substituted then (p.setMarker none).trigger else p

/-- The commands are issued, role after role; true when one failed at once, after which none is issued (R13). -/
def Part.issue (p : Part) (f : FilterId) : List (Role × Position) → Part × Bool
  | [] => (p, false)
  | (r, pos) :: rest =>
    let (p, taken) := p.commandRole f r pos
    if taken = .fails then (p, true) else p.issue f rest

/-- R11: the transfer completes. -/
def Part.transferCompletes (p : Part) (f : FilterId) (k : TransferKind) : Part :=
  let substituted := p.table.marker == some f
  let state : FilterState :=
    match k with
    | .toService => .online
    | .toStandby => .standby
  let p := p.changeFilter f fun r => { r with state := state, transfer := none }
  if substituted then (p.setMarker none).trigger else p

/-- R11: with every role commanded so far in position the transfer passes on, or completes. A step is passed only with
STOP released, since passing commands the next (log 16). A command failing at once ends the transfer (R13).
The fuel is the number of steps a transfer can pass. -/
def Part.advanceTransfer (p : Part) (f : FilterId) : Nat → Part
  | 0 => p
  | fuel + 1 =>
    match (p.filter f).bind (·.transfer) with
    | none => p
    | some t =>
      if (commandedBy t).all fun x => p.inPosition f x.1 x.2 then
        if lastStep t then p.transferCompletes f t.kind
        else if p.stopAsserted then p
        else
          let t' : Transfer := ⟨t.kind, t.step + 1⟩
          let p := p.modFilter f fun r => { r with transfer := some t' }
          let (p, failed) := p.issue f (stepRoles t')
          if failed then p.transferFails f else p.advanceTransfer f fuel
      else p

/-- The commands not yet at their targets are issued, unless STOP is asserted, and the transfer goes on. -/
def Part.pressTransfer (p : Part) (f : FilterId) (roles : List (Role × Position)) : Part :=
  if p.stopAsserted then p.advanceTransfer f 3
  else
    let (p, failed) := p.issue f (roles.filter fun x => !p.inPosition f x.1 x.2)
    if failed then p.transferFails f else p.advanceTransfer f 3

/-- R9, R10, R11: a transfer starts: reported, and the commands of step 1 issued. A role at its target is commanded too,
and completes at once. -/
def Part.startTransfer (p : Part) (f : FilterId) (k : TransferKind) : Part :=
  let t : Transfer := ⟨k, 1⟩
  let p := p.changeFilter f fun r => { r with transfer := some t }
  if p.stopAsserted then p.advanceTransfer f 3
  else
    let (p, failed) := p.issue f (stepRoles t)
    if failed then p.transferFails f else p.advanceTransfer f 3

/-- R12 drift: a role this transfer has commanded is commanded again. -/
def Part.transferDrifts (p : Part) (f : FilterId) (r : Role) : Part :=
  match (p.filter f).bind (·.transfer) with
  | none => p
  | some t => p.pressTransfer f ((commandedBy t).filter fun x => x.1 == r)

/-- R12 release: every command so far whose role is not at its target (log 16). -/
def Part.transferReleased (p : Part) (f : FilterId) : Part :=
  match (p.filter f).bind (·.transfer) with
  | none => p
  | some t => p.pressTransfer f (commandedBy t)

/-! ### Standby substitution (R14) -/

/-- R72, R80: the lowest-numbered STANDBY filter with no entry and no transfer. -/
def Part.substitute (p : Part) : Option FilterId :=
  allFilters.find? fun f =>
    (p.filter f).any (fun r => r.state == .standby && r.transfer.isNone) && (p.entry f).isNone

/-- R14: the transfer starts with the marker set to its filter. -/
def Part.startSubstitution (p : Part) (f : FilterId) : Part :=
  (p.setMarker (some f)).startTransfer f .toService

/-! ### Channel faults (R3) -/

/-- R3: ONLINE, STANDBY or STRANDED with no transfer running. -/
def Part.unownedFault (p : Part) (f : FilterId) : Part :=
  (p.expelEntry f .faulted).changeFilter f fun r => { r with state := .faulted .valve }

/-- R3: the filter table takes a channel fault by the filter's state (log 17). -/
def Part.tableFault (p : Part) (f : FilterId) (role : Role) : Part :=
  match p.filterOwner f with
  | .none => p.unownedFault f
  | .transfer => p.transferFails f
  | .lane l => p.raiseOnce (.roleFault l role)
  | .window => p

/-! ### Washes (R16 to R18) -/

/-- R16. -/
def Part.setWashing (p : Part) (f : FilterId) (l : LaneId) : Part :=
  p.changeFilter f fun r => { r with state := .washing l }

/-- R17: the answer to a lane that asks for the destination; ONLINE when the current loading exceeds Vmax. -/
def Part.destination (p : Part) (f : FilterId) : Part × Destination :=
  let exceeds := decide (p.plant.vmax < p.loadingNow.1)
  let p := p.computeLoading
  match p.filter f with
  | some r => (p, if exceeds then .online else r.cfg.dest)
  | none => (p, .online)

def destinationState : Destination → FilterState
  | .online => .online
  | .standby => .standby

/-- R17: the wash completes. -/
def Part.completeWash (p : Part) (f : FilterId) (d : Destination) : Part :=
  p.changeFilter f fun r =>
    { r with
      state := destinationState d
      runMin := 0
      runSec := 0
      armedMin := 0
      washes := bump 65535 r.washes
      aborts := 0
      lastWashEnd := some p.clock }

/-- R18: an aborted wash. -/
def Part.abortWash (p : Part) (f : FilterId) (channelFault : Bool) : Part :=
  match p.filter f with
  | none => p
  | some r =>
    if channelFault then p.changeFilter f fun r => { r with state := .faulted .valve }
    else
      let n := bump 2 r.aborts
      if n < 2 then
        (p.changeFilter f fun r => { r with state := .stranded, aborts := n }).addEntry f .restart .auto 0 none
      else p.changeFilter f fun r => { r with state := .faulted .aborts, aborts := n }

/-! ### Run time (R15) -/

/-- R15: the second is counted; run seconds that reach 60 bring the whole minute, which RUN_MINUTE counts (log 18). -/
def Part.runSecond (p : Part) (f : FilterId) : Part :=
  match p.filter f with
  | some r =>
    if r.state = .online then
      let p := p.putFilter f (some { r with runSec := r.runSec + 1 })
      if 60 ≤ r.runSec + 1 then p.raiseOnce (.runMinute f) else p
    else p
  | none => p

/-- R15: whole minutes leave the run seconds and are counted, whatever the filter's state is by now (log 18). -/
def FilterRecord.countMinutes (r : FilterRecord) : FilterRecord :=
  { r with
    runSec := r.runSec % 60
    runMin := min (r.runMin + r.runSec / 60) 65535
    armedMin := min (r.armedMin + r.runSec / 60) 240 }

/-- R15: RUN_MINUTE. -/
def Part.runMinute (p : Part) (f : FilterId) : Part := p.modFilter f FilterRecord.countMinutes

/-! ### Reading (R19) -/

def Part.viewFilter (p : Part) (f : FilterId) : Option FilterView :=
  (p.filter f).map fun r => ⟨f, r, (p.entry f).map (·.cls)⟩

/-- Up to four defined filters whose numbers are at least `start`, 1 to 17. -/
def Part.chunk (p : Part) (start : Nat) : List FilterView :=
  ((allFilters.filter fun f => start ≤ filterNumber f).filterMap p.viewFilter).take 4

end Sys2Proof.Machine
end

