-- ==== Sys2Proof/Machine/Units.lean ====
section
/-! DEFINITION. Equipment arbiter: grants, releases, proving, feedback, guards, STOP, locks
(spec/07_pumps_and_blower.md). -/

namespace Sys2Proof.Machine

/-! ### Units and their states -/

def pumpUnit : PumpId → UnitId
  | .p1 => .p1
  | .p2 => .p2

def otherPump : PumpId → PumpId
  | .p1 => .p2
  | .p2 => .p1

/-- The kind of a unit. -/
def unitKind : UnitId → UnitKind
  | .p1 | .p2 => .pump
  | .bl => .blower

def unitsOf : UnitKind → List UnitId
  | .pump => [.p1, .p2]
  | .blower => [.bl]

/-- R136: run output, on in PROVING and RUNNING. -/
def UnitState.runOn (x : UnitState) : Bool :=
  match x with
  | .proving .. | .running _ => true
  | _ => false

/-- The run output at the terminals: off without supply and in reset (R184, 8.12). -/
def Part.runOutput (p : Part) (u : UnitId) : Bool := p.live && (p.unit u).state.runOn

/-- Granted lane (R136). -/
def UnitState.lane (x : UnitState) : Option LaneId :=
  match x with
  | .allocated l | .proving l _ | .running l => some l
  | _ => none

/-- Outside FAILED and LOCKED (Table 7-2). -/
def UnitState.usable (x : UnitState) : Bool :=
  match x with
  | .failed _ | .locked => false
  | _ => true

/-- R141: the feedback reading of an input level. -/
def feedbackOf (pol : Polarity) (level : Level) : Feedback :=
  match pol, level with
  | .energised, .energised | .deEnergised, .deEnergised => .running
  | .energised, .deEnergised | .deEnergised, .energised => .stopped

def Part.feedback (p : Part) (u : UnitId) : Feedback := feedbackOf (p.plant.polarity.get u) (p.unit u).input

def Part.proveTime (p : Part) (u : UnitId) : Nat :=
  match unitKind u with
  | .pump => p.plant.pumpProve
  | .blower => p.plant.blowerProve

def Part.guardTime (p : Part) (u : UnitId) : Nat :=
  match unitKind u with
  | .pump => p.plant.pumpGuard
  | .blower => p.plant.blowerGuard

/-- Some unit of the kind is outside FAILED and LOCKED (R69, R116). -/
def Part.kindUsable (p : Part) (k : UnitKind) : Bool := (unitsOf k).any fun u => (p.unit u).state.usable

/-- The unit's state written; timers that ran in another state no longer fall. -/
def Part.setUnit (p : Part) (u : UnitId) (x : UnitState) : Part :=
  ((p.putUnit u { p.unit u with state := x }).cancel (.proveExpiry u)).cancel (.guardEnd u)

/-- R148: EQUIPMENT, with the state the unit now has. -/
def Part.reportEquipment (p : Part) (u : UnitId) (e : EquipmentEvent) (before : UnitState) : Part :=
  let now := (p.unit u).state
  let fail := match now with
    | .failed c => some c
    | _ => none
  p.report (.equipment u e now before before.lane fail (p.feedback u))

/-- R145: a unit notice goes to both lanes and to the scheduler. -/
def Part.tellNews (p : Part) (u : UnitId) (n : UnitNews) : Part :=
  p.raiseAll [.laneUnitNews .a u n, .laneUnitNews .b u n, .schedulerUnitNews u n]

/-! ### Grants (R137, R138) -/

def Part.waiting (p : Part) : UnitKind → List LaneId
  | .pump => p.arb.pumpWait
  | .blower => p.arb.blowerWait

def Part.setWaiting (p : Part) (k : UnitKind) (ls : List LaneId) : Part :=
  match k with
  | .pump => { p with arb := { p.arb with pumpWait := ls } }
  | .blower => { p with arb := { p.arb with blowerWait := ls } }

/-- The unit is ALLOCATED to the lane, the duty pointer moves off a granted pump it names, and the lane is told; it
records the grant by LANE_GRANT (log 12). -/
def Part.grant (p : Part) (u : UnitId) (l : LaneId) : Part :=
  let p := p.setUnit u (.allocated l)
  let p := if pumpUnit p.arb.duty = u then { p with arb := { p.arb with duty := otherPump p.arb.duty } } else p
  p.raise (.grant l u)

/-- Units of a kind in the order they are offered: the duty pump first. -/
def Part.offered (p : Part) : UnitKind → List UnitId
  | .pump => [pumpUnit p.arb.duty, pumpUnit (otherPump p.arb.duty)]
  | .blower => [.bl]

/-- R137: a lane asks for a unit of a kind. -/
def Part.requestUnit (p : Part) (l : LaneId) (k : UnitKind) : Part :=
  let wait := p.waiting k
  if wait.contains l then p
  else
    match wait, (p.offered k).find? (fun u => (p.unit u).state == .available) with
    | [], some u => p.grant u l
    | _, _ => p.setWaiting k (wait ++ [l])

/-- R138: a unit just AVAILABLE goes to the lane at the head of its wait list. -/
def Part.serveWait (p : Part) (u : UnitId) : Part :=
  match p.waiting (unitKind u) with
  | l :: rest => (p.setWaiting (unitKind u) rest).grant u l
  | [] => p

/-- R138, R145: the unit becomes AVAILABLE, the wait list is served, the notices are sent. -/
def Part.freeUnit (p : Part) (u : UnitId) : Part :=
  ((p.setUnit u .available).serveWait u).tellNews u .available

/-- A unit stopped: into GUARD, or AVAILABLE with a guard of 0 (R139, R144). -/
def Part.stopUnit (p : Part) (u : UnitId) : Part :=
  let g := p.guardTime u
  if g = 0 then p.freeUnit u else p.setUnit u (.guarded (secondsOn p.clock g))

/-- R139: the lane releases its grant of the unit; without one there is no effect. -/
def Part.releaseUnit (p : Part) (l : LaneId) (u : UnitId) : Part :=
  let p := p.cancel (.grant l u)
  match (p.unit u).state with
  | .allocated m => if m = l then p.freeUnit u else p
  | .proving m _ | .running m => if m = l then p.stopUnit u else p
  | _ => p

/-- The lane's request leaves the wait list of a kind. -/
def Part.withdrawRequest (p : Part) (l : LaneId) (k : UnitKind) : Part :=
  p.setWaiting k ((p.waiting k).filter (· != l))

/-! ### Starting, proving, feedback (R140 to R142) -/

/-- The unit is proven: RUNNING, reported, lane told. -/
def Part.proveUnit (p : Part) (u : UnitId) : Part :=
  match (p.unit u).state with
  | .proving l e =>
    ((p.setUnit u (.running l)).reportEquipment u .proven (.proving l e)).raise (.proven l u)
  | _ => p

/-- R140: the lane asks to start a unit it holds in ALLOCATED; not taken while STOP is asserted. -/
def Part.startUnit (p : Part) (l : LaneId) (u : UnitId) : Part :=
  if (p.unit u).state = .allocated l ∧ !p.stopAsserted then
    let p := p.setUnit u (.proving l (secondsOn p.clock (p.proveTime u)))
    if p.feedback u = .running then p.proveUnit u else p
  else p

/-- R140: the prove expiry falls on a unit still in PROVING. -/
def Part.proveFails (p : Part) (u : UnitId) : Part :=
  match (p.unit u).state with
  | .proving l e =>
    let p := (p.setUnit u (.failed .prove)).reportEquipment u .proveFailed (.proving l e)
    (p.raise (.proveFailed l u)).tellNews u .failed
  | _ => p

/-- R142: the unit trips. -/
def Part.tripUnit (p : Part) (u : UnitId) : Part :=
  match (p.unit u).state with
  | .running l =>
    let p := (p.setUnit u (.failed .trip)).reportEquipment u .tripped (.running l)
    (p.raise (.tripped l u)).tellNews u .failed
  | _ => p

/-- R141, Table 7-3: the feedback reading has changed to what it now is. -/
def Part.feedbackActs (p : Part) (u : UnitId) : Part :=
  match p.feedback u, (p.unit u).state with
  | .running, .proving .. => p.proveUnit u
  | .running, .running _ => p
  | .running, x => p.reportEquipment u .feedbackUnexpected x
  | .stopped, .running _ => p.tripUnit u
  | .stopped, _ => p

/-- R141: the filtered input is taken at a level; the level it stands at already is no change. -/
def Part.takeFeedback (p : Part) (u : UnitId) (level : Level) : Part :=
  if (p.unit u).input = level then p
  else (p.putUnit u { p.unit u with input := level }).feedbackActs u

/-- R143: the restart guard ends. -/
def Part.guardEnds (p : Part) (u : UnitId) : Part :=
  match (p.unit u).state with
  | .guarded _ => p.freeUnit u
  | _ => p

/-! ### STOP (R144) -/

/-- A lane's record loses the grant of a unit (R139). -/
def Wash.dropUnit (w : Wash) (u : UnitId) : Wash :=
  match u with
  | .p1 => if w.pump = some .p1 then { w with pump := none } else w
  | .p2 => if w.pump = some .p2 then { w with pump := none } else w
  | .bl => { w with blower := false }

/-- R144 for one unit. STOPPED is reported before the wait list is served, with new state GUARD or AVAILABLE
(Table 7-5); the lane's record of the grant is cleared with it (log 13). -/
def Part.stopByLine (p : Part) (u : UnitId) : Part :=
  let before := (p.unit u).state
  match before with
  | .proving l _ | .running l =>
    let p := p.modWash l fun w => w.dropUnit u
    let g := p.guardTime u
    if g = 0 then
      let p := (p.setUnit u .available).reportEquipment u .stopped before
      (p.serveWait u).tellNews u .available
    else (p.setUnit u (.guarded (secondsOn p.clock g))).reportEquipment u .stopped before
  | _ => p

/-! ### Host actions (R146, R147) -/

/-- R146 LOCK in AVAILABLE, GUARD or FAILED. -/
def Part.lockUnit (p : Part) (u : UnitId) : Part :=
  ((p.setUnit u .locked).reportEquipment u .locked (p.unit u).state).tellNews u .locked

/-- R146 UNLOCK, R147 RESET_FAULT: AVAILABLE, wait list served, reported with the state it then has (Table 7-5). -/
def Part.restoreUnit (p : Part) (u : UnitId) (e : EquipmentEvent) : Part :=
  let before := (p.unit u).state
  (((p.setUnit u .available).serveWait u).reportEquipment u e before).tellNews u .available

/-- What GET_EQUIPMENT reads of a unit (R149). -/
def Part.viewUnit (p : Part) (u : UnitId) : UnitView :=
  let x := (p.unit u).state
  { state := x
    runOutput := x.runOn
    proveLeft := match x with
      | .proving _ e => some (e - p.clock)
      | _ => none
    guardLeft := match x with
      | .guarded e => some (e - p.clock)
      | _ => none
    feedback := p.feedback u }

end Sys2Proof.Machine
end

