-- ==== Sys2Proof/Machine/Lanes.lean ====
section
/-! DEFINITION. Wash lanes: the phase cycle, holds, abort and return (spec/06_wash_lanes.md; patterns and units of the
phase kinds from spec/05_wash_recipes.md). -/

namespace Sys2Proof.Machine

/-! ### Phases (Table 5-4, R104) -/

/-- Roles a phase kind opens. -/
def openRoles : PhaseKind → List Role
  | .drain => [.ftw]
  | .air => [.air]
  | .airWater => [.bww, .air, .wst]
  | .water => [.bww, .wst]
  | .rest => []
  | .ripen => [.inf, .ftw]

/-- Kinds of unit a phase kind needs. -/
def neededKinds : PhaseKind → List UnitKind
  | .drain | .rest | .ripen => []
  | .air => [.blower]
  | .airWater => [.pump, .blower]
  | .water => [.pump]

/-- Roles a phase kind closes. -/
def closedRoles (k : PhaseKind) : List Role := allRoles.filter fun r => !(openRoles k).contains r

/-- Stands for a phase that the slot does not hold; no lane reads one (R104). -/
def noPhase : Phase := ⟨.rest, 0, 0, 0, 0, 0⟩

def Part.phasesOf (p : Part) (slot : SlotId) : List Phase :=
  match p.recipe slot with
  | some r => r.phases
  | none => []

/-- The record of the present phase. -/
def Part.phaseNow (p : Part) (w : Wash) : Phase := ((p.phasesOf w.slot)[w.phase - 1]?).getD noPhase

def Part.areaOf (p : Part) (f : FilterId) : Nat :=
  match p.filter f with
  | some r => r.cfg.area
  | none => 0

/-! ### Amounts (R73, R113, R114) -/

/-- Washwater rate of a phase. -/
def Phase.waterRate (ph : Phase) : Nat :=
  match ph.kind with
  | .airWater | .water => ph.rate
  | _ => 0

/-- Waste rate of a phase. -/
def Phase.wasteRate (ph : Phase) : Nat :=
  match ph.kind with
  | .airWater | .water | .ripen => ph.rate
  | _ => 0

/-- Drain depth of a phase. -/
def Phase.drainDepth (ph : Phase) : Nat :=
  match ph.kind with
  | .drain => ph.depth
  | _ => 0

def waterSum (ps : List Phase) : Nat := (ps.map fun ph => ph.waterRate * ph.duration).sum
def wasteSum (ps : List Phase) : Nat := (ps.map fun ph => ph.wasteRate * ph.duration).sum
def drainSum (ps : List Phase) : Nat := (ps.map Phase.drainDepth).sum

/-- R73: washwater of an area and a water sum. -/
def waterOf (area s : Nat) : Nat := ceilDiv (area * s) 36000

/-- R73: waste of an area, a drain sum and a waste sum. -/
def wasteOf (area d s : Nat) : Nat := ceilDiv (36 * area * d + area * s) 36000

/-- R113: remaining amounts in phase `c` (from 1) at elapsed `e`. Past the last phase both are 0. -/
def remaining (area : Nat) (ps : List Phase) (c e : Nat) : Share :=
  let later := ps.drop c
  match ps[c - 1]? with
  | some ph =>
    { water := waterOf area (waterSum later + ph.waterRate * (ph.duration - e))
      waste := wasteOf area (ph.drainDepth + drainSum later) (wasteSum later + ph.wasteRate * (ph.duration - e)) }
  | none => ⟨0, 0⟩

/-- R78: the lane's shares; a change triggers a scan. -/
def Part.setShares (p : Part) (l : LaneId) (s : Share) : Part :=
  if p.sched.shares.get l = s then p
  else ({ p with sched := { p.sched with shares := p.sched.shares.set l s } }).trigger

/-- R114: the amounts computed afresh go to the record and, when they differ, to the scheduler. -/
def Part.putAmounts (p : Part) (l : LaneId) (s : Share) : Part :=
  (p.modWash l fun w => { w with remWater := s.water, remWaste := s.waste }).setShares l s

/-! ### Events of a lane -/

/-- Ends and seconds of the running phase: gone when the lane leaves RUNNING (log 19). -/
def Event.isRunOf (l : LaneId) (e : Event) : Bool :=
  match e with
  | .laneSecond m | .phaseTimeEnd m | .ripenConfirmed m => m == l
  | _ => false

/-- Everything on its way to a lane: of no effect on an IDLE lane (R127, R145). -/
def Event.isOfLane (l : LaneId) (e : Event) : Bool :=
  match e with
  | .laneSecond m | .phaseTimeEnd m | .ripenConfirmed m | .holdLimit m | .laneStopAsserted m
  | .laneStopReleased m => m == l
  | .lanePoint m _ => m == l
  | .roleArrival m _ | .roleFault m _ | .roleDrift m _ => m == l
  | .grant m _ | .proven m _ | .proveFailed m _ | .tripped m _ => m == l
  | .laneUnitNews m _ _ => m == l
  | _ => false

def Part.dropRun (p : Part) (l : LaneId) : Part := { p with events := p.events.filter fun e => !e.isRunOf l }

def Part.dropLane (p : Part) (l : LaneId) : Part := { p with events := p.events.filter fun e => !e.isOfLane l }

/-! ### Units and valves of a lane -/

/-- The lane's record of the kind of unit. -/
def Wash.hasKind (w : Wash) : UnitKind → Bool
  | .pump => w.pump.isSome
  | .blower => w.blower

/-- The lane's record names this unit. -/
def Wash.holdsUnit (w : Wash) : UnitId → Bool
  | .p1 => w.pump == some .p1
  | .p2 => w.pump == some .p2
  | .bl => w.blower

def Wash.takeUnit (w : Wash) : UnitId → Wash
  | .p1 => { w with pump := some .p1 }
  | .p2 => { w with pump := some .p2 }
  | .bl => { w with blower := true }

/-- R139: the lane gives up every unit of a kind that the arbiter has granted it, and clears its record. -/
def Part.releaseKind (p : Part) (l : LaneId) (k : UnitKind) : Part :=
  (unitsOf k).foldl (init := p) fun p u => (p.releaseUnit l u).modWash l fun w => w.dropUnit u

/-- R117, R125: every grant released, every request withdrawn. The requests go first, so that no unit the lane frees is
granted back to it. -/
def Part.releaseAll (p : Part) (l : LaneId) : Part :=
  (((p.withdrawRequest l .pump).withdrawRequest l .blower).releaseKind l .pump).releaseKind l .blower

/-- The role targets are set and, with STOP released, the roles commanded (R117, R121). A command that fails at once is
told to the lane (R157). -/
def Part.orderRoles (p : Part) (l : LaneId) (f : FilterId) (roles : List Role) (pos : Position) : Part :=
  let p := p.modWash l fun w => { w with targets := roles.foldl (fun t r => t.set r (some pos)) w.targets }
  if p.stopAsserted then p
  else roles.foldl (init := p) fun p r =>
    let (p, taken) := p.commandRole f r pos
    if taken = .fails then p.raiseOnce (.roleFault l r) else p

/-- A role is commanded once more to its target, unless STOP is asserted. -/
def Part.reorderRole (p : Part) (l : LaneId) (f : FilterId) (r : Role) : Part :=
  match (p.lane l).bind fun w => w.targets.get r with
  | some pos => p.orderRoles l f [r] pos
  | none => p

/-- The role's channel is in its commanded position (6.1). -/
def Part.roleHome (p : Part) (w : Wash) (r : Role) : Bool :=
  match w.targets.get r with
  | some pos => p.inPosition w.filter r pos
  | none => false

/-! ### Hold conditions (R115) -/

def LaneState.isHeld (x : LaneState) : Bool :=
  match x with
  | .held _ => true
  | _ => false

/-- ACQUIRING to HELD. -/
def LaneState.holdable (x : LaneState) : Bool :=
  match x with
  | .aborting _ | .returning .. => false
  | _ => true

def usesWater : PhaseKind → Bool
  | .airWater | .water => true
  | _ => false

def makesWaste : PhaseKind → Bool
  | .drain | .airWater | .water | .ripen => true
  | _ => false

def Part.kindsUsable (p : Part) (w : Wash) : Bool := (neededKinds (p.phaseNow w).kind).all p.kindUsable

/-- R115, R116: the condition under which a cause tested from the part's state joins. -/
def Part.joins (p : Part) (w : Wash) : HoldCause → Bool
  | .inhibit => p.stopAsserted
  | .water =>
    usesWater (p.phaseNow w).kind &&
      (match p.front.tank.usableValue, p.plant.tankMin with
      | some v, some low => decide (v ≤ low)
      | _, _ => false)
  | .waste =>
    makesWaste (p.phaseNow w).kind &&
      (match p.front.basin.usableValue, p.plant.basinMax with
      | some v, some high => decide (high ≤ v)
      | _, _ => false)
  | .equipment => !p.kindsUsable w
  | .host | .valve => false

/-- R115: the condition under which WATER, WASTE or EQUIPMENT clears. -/
def Part.clears (p : Part) (w : Wash) : HoldCause → Bool
  | .water =>
    match p.front.tank.usableValue, p.plant.tankMin with
    | some v, some low => decide (low + 200 ≤ v)
    | _, _ => false
  | .waste =>
    match p.front.basin.usableValue, p.plant.basinMax with
    | some v, some high => decide (v + 200 ≤ high)
    | _, _ => false
  | .equipment => p.kindsUsable w
  | .host | .inhibit | .valve => false

/-! ### Hold entry (R117, R118) -/

def Part.reportHeld (p : Part) (l : LaneId) (cause : HoldCause) (began : Bool) : Part :=
  match p.lane l with
  | some w =>
    match w.state with
    | .held heldAt =>
      p.report (.laneHeld l w.filter w.phase w.elapsed cause w.holds began w.holdCount heldAt)
    | _ => p
  | none => p

/-- R117: the first cause of a hold. -/
def Part.enterHeld (p : Part) (l : LaneId) (w : Wash) (cause : HoldCause) : Part :=
  let p := (p.dropRun l).cancel (.holdLimit l)
  let p := p.putLane l (some { w with
    state := .held p.clock
    holds := w.holds.set cause true
    releaseSeen := false
    holdCount := bump 255 w.holdCount })
  ((p.releaseAll l).orderRoles l w.filter [.air, .bww] .closed).reportHeld l cause true

/-- R116 to R118: a cause joins; one already in the set, or one for a lane past HELD, does not. -/
def Part.join (p : Part) (l : LaneId) (cause : HoldCause) : Part :=
  match p.lane l with
  | none => p
  | some w =>
    if !w.state.holdable || w.holds.get cause then p
    else if w.state.isHeld then
      let w := { w with
        holds := w.holds.set cause true
        releaseSeen := if cause = .inhibit then false else w.releaseSeen }
      (p.putLane l (some w)).reportHeld l cause false
    else p.enterHeld l w cause

/-- The cause joins if its condition holds. -/
def Part.joinIf (p : Part) (l : LaneId) (cause : HoldCause) : Part :=
  match p.lane l with
  | some w => if p.joins w cause then p.join l cause else p
  | none => p

/-! ### RUNNING (R111, R112) -/

/-- The filter's turbidity point confirms: usable and at or below the target. -/
def Part.turbidityOk (p : Part) (w : Wash) : Bool :=
  match (p.point (.tb w.filter)).usableValue with
  | some v => decide (v ≤ (p.phaseNow w).target)
  | none => false

/-- R112 with a confirm time above 0: the count has reached it; with 0: the point confirms now. -/
def Part.confirmed (p : Part) (w : Wash) : Bool :=
  let ph := p.phaseNow w
  ph.kind == .ripen && (if ph.confirm = 0 then p.turbidityOk w else decide (ph.confirm ≤ w.confirm))

/-- R112: CONFIRMED goes before TIME. The end found is raised, and its row ends the phase (log 19). -/
def Part.raiseEnd (p : Part) (l : LaneId) : Part :=
  match p.lane l with
  | some w =>
    if w.state = .running then
      if p.confirmed w then p.raise (.ripenConfirmed l)
      else if (p.phaseNow w).duration ≤ w.elapsed then p.raise (.phaseTimeEnd l)
      else p
    else p
  | none => p

/-- An end of the phase is outstanding. -/
def Part.endRaised (p : Part) (l : LaneId) : Bool :=
  p.events.contains (.phaseTimeEnd l) || p.events.contains (.ripenConfirmed l)

/-! ### ACQUIRING, POSITIONING, STARTING (R108 to R110) -/

/-- Units granted to the lane, as its record has them. -/
def Wash.units (w : Wash) : List UnitId := allUnits.filter w.holdsUnit

/-- R110: every unit the phase needs is RUNNING. -/
def Part.unitsRun (p : Part) (l : LaneId) (w : Wash) : Bool :=
  (neededKinds (p.phaseNow w).kind).all w.hasKind && w.units.all fun u => (p.unit u).state == .running l

/-- R110: STARTING passes to RUNNING. -/
def Part.checkStarted (p : Part) (l : LaneId) : Part :=
  match p.lane l with
  | some w =>
    if w.state = .starting ∧ p.unitsRun l w then (p.putLane l (some { w with state := .running })).raiseEnd l
    else p
  | none => p

/-- R110: every granted unit not yet started is started. -/
def Part.enterStarting (p : Part) (l : LaneId) (w : Wash) : Part :=
  let p := p.putLane l (some { w with state := .starting })
  (w.units.foldl (init := p) fun p u => p.startUnit l u).checkStarted l

/-- R109: the OPEN step is over when every role it opens is OPEN. -/
def Part.checkOpened (p : Part) (l : LaneId) : Part :=
  match p.lane l with
  | some w =>
    if w.state = .positioning .openUp ∧ (openRoles (p.phaseNow w).kind).all (fun r => p.inPosition w.filter r .opened) then
      p.enterStarting l w
    else p
  | none => p

/-- R109: with every role to be closed CLOSED the OPEN step begins; not while STOP is asserted, since it commands. -/
def Part.checkClosed (p : Part) (l : LaneId) : Part :=
  match p.lane l with
  | some w =>
    if w.state = .positioning .close then
      let k := (p.phaseNow w).kind
      if (closedRoles k).all (fun r => p.inPosition w.filter r .closed) && !p.stopAsserted then
        let p := p.putLane l (some { w with state := .positioning .openUp })
        (p.orderRoles l w.filter (openRoles k) .opened).checkOpened l
      else p
    else p
  | none => p

/-- R109: the CLOSE step. -/
def Part.enterPositioning (p : Part) (l : LaneId) (w : Wash) : Part :=
  let p := p.putLane l (some { w with state := .positioning .close })
  (p.orderRoles l w.filter (closedRoles (p.phaseNow w).kind) .closed).checkClosed l

/-- R108: ACQUIRING passes when every needed kind is held. -/
def Part.checkAcquired (p : Part) (l : LaneId) : Part :=
  match p.lane l with
  | some w =>
    if w.state = .acquiring ∧ (neededKinds (p.phaseNow w).kind).all w.hasKind then p.enterPositioning l w else p
  | none => p

/-- R107 step 4: the kinds the phase needs and the lane does not hold are asked for. -/
def Part.requestNeeded (p : Part) (l : LaneId) : Part :=
  match p.lane l with
  | some w =>
    ((neededKinds (p.phaseNow w).kind).filter fun k => !w.hasKind k).foldl (init := p) fun p k => p.requestUnit l k
  | none => p

/-! ### Phase entry (R107) and resume (R119) -/

/-- R107 step 2: units of kinds the phase does not need are released. -/
def Part.releaseUnneeded (p : Part) (l : LaneId) (k : PhaseKind) : Part :=
  ([UnitKind.pump, .blower].filter fun u => !(neededKinds k).contains u).foldl (init := p) fun p u => p.releaseKind l u

/-- R107: the lane enters its phase; `report` carries how the phase before ended, at the two moments that report PHASE. -/
def Part.enterPhase (p : Part) (l : LaneId) (report : Option (Option PhaseEnd)) : Part :=
  match p.lane l with
  | none => p
  | some w =>
    let ph := p.phaseNow w
    let p := p.putLane l (some { w with state := .acquiring, confirm := 0 })
    let p := match report with
      | some prev => p.report (.phase l w.filter w.phase ph.kind ph.duration prev w.remWater w.remWaste)
      | none => p
    let p := p.releaseUnneeded l ph.kind
    let p := (((p.joinIf l .inhibit).joinIf l .water).joinIf l .waste).joinIf l .equipment
    match p.lane l with
    | some w' => if w'.state = .acquiring then (p.requestNeeded l).checkAcquired l else p
    | none => p

/-- R119: the last cause has left the set. -/
def Part.resumeIfClear (p : Part) (l : LaneId) : Part :=
  match p.lane l with
  | none => p
  | some w =>
    match w.state with
    | .held heldAt =>
      if w.holds.isEmpty then
        let p := (p.putLane l (some { w with state := .acquiring, confirm := 0, releaseSeen := false })).cancel (.holdLimit l)
        let p := p.report (.laneResumed l w.filter w.phase w.elapsed (p.clock - heldAt) w.holdCount)
        p.enterPhase l none
      else p
    | _ => p

/-- A cause leaves the set, without the resume that an empty set brings. -/
def Part.leave (p : Part) (l : LaneId) (cause : HoldCause) : Part :=
  p.modWash l fun w => { w with holds := w.holds.set cause false }

/-- WATER, WASTE or EQUIPMENT leaves the set if it is in it and its clearing condition holds. -/
def Part.leaveIf (p : Part) (l : LaneId) (cause : HoldCause) : Part :=
  match p.lane l with
  | some w => if w.holds.get cause && p.clears w cause then p.leave l cause else p
  | none => p

/-- R116: a cause is tested for joining and for clearing. -/
def Part.testCause (p : Part) (l : LaneId) (cause : HoldCause) : Part :=
  ((p.joinIf l cause).leaveIf l cause).resumeIfClear l

/-! ### Hand-off (R106) and becoming IDLE (R126, R129) -/

/-- R106. -/
def Part.handOff (p : Part) (l : LaneId) (f : FilterId) (slot : SlotId) (s : Share) : Part :=
  let w : Wash :=
    { state := .acquiring, filter := f, slot := slot, phase := 1, elapsed := 0, targets := PerRole.all none
      holds := HoldSet.empty, releaseSeen := false, drifted := PerRole.all false, holdCount := 0
      pump := none, blower := false, remWater := s.water, remWaste := s.waste, startedAt := p.clock
      confirm := 0, ripenTimeout := false }
  ((p.dropLane l).putLane l (some w)).enterPhase l (some none)

/-- The lane goes IDLE: shares 0, a scan triggered (R64). -/
def Part.laneIdle (p : Part) (l : LaneId) : Part :=
  (((p.dropLane l).putLane l none).setShares l ⟨0, 0⟩).trigger

/-! ### Abort (R125, R126) -/

/-- R126: each of the six roles is CLOSED, or its channel in FAULT. -/
def Part.abortOver (p : Part) (f : FilterId) : Bool :=
  allRoles.all fun r => p.inPosition f r .closed || p.roleFaulted f r

/-- R126: the end of an abort. A role in FAULT makes its cause CHANNEL (R127, log 15). -/
def Part.checkAborted (p : Part) (l : LaneId) : Part :=
  match p.lane l with
  | some w =>
    match w.state with
    | .aborting cause =>
      if p.abortOver w.filter then
        let cause := if allRoles.any (p.roleFaulted w.filter) then .channel else cause
        let p := p.abortWash w.filter (cause == .channel)
        let p := p.report (.washAborted l w.filter cause w.phase w.elapsed w.holdCount
          (min (p.clock - w.startedAt) 65535) ((p.filter w.filter).map (·.state)))
        p.laneIdle l
      else p
    | _ => p
  | none => p

/-- R125. -/
def Part.abortLane (p : Part) (l : LaneId) (cause : AbortCause) : Part :=
  match p.lane l with
  | some w =>
    let p := (p.dropRun l).cancel (.holdLimit l)
    let p := p.putLane l (some { w with
      state := .aborting cause
      holds := HoldSet.empty
      releaseSeen := false
      drifted := PerRole.all false })
    ((p.releaseAll l).orderRoles l w.filter allRoles .closed).checkAborted l
  | none => p

/-! ### Return (R128, R129) -/

/-- Roles a destination opens. -/
def destinationOpens : Destination → List Role
  | .online => [.inf, .eff]
  | .standby => []

def destinationCloses (d : Destination) : List Role := allRoles.filter fun r => !(destinationOpens d).contains r

/-- R129: the return is over. -/
def Part.washDone (p : Part) (l : LaneId) (w : Wash) (d : Destination) : Part :=
  let used := waterOf (p.areaOf w.filter) (waterSum (p.phasesOf w.slot))
  let p := p.completeWash w.filter d
  let p := p.report (.washDone l w.filter d (min (p.clock - w.startedAt) 65535) used w.holdCount w.ripenTimeout)
  p.laneIdle l

/-- R129: the OPEN step of a return is over when every role is in its commanded position, drifted ones among them
(R123). -/
def Part.checkReturned (p : Part) (l : LaneId) : Part :=
  match p.lane l with
  | some w =>
    match w.state with
    | .returning d .openUp => if allRoles.all (p.roleHome w) then p.washDone l w d else p
    | _ => p
  | none => p

/-- R128: the OPEN step of a return; not begun while STOP is asserted, unless there is nothing to open. -/
def Part.checkReturnClosed (p : Part) (l : LaneId) : Part :=
  match p.lane l with
  | some w =>
    match w.state with
    | .returning d .close =>
      if (destinationCloses d).all (fun r => p.inPosition w.filter r .closed) &&
          (!p.stopAsserted || (destinationOpens d).isEmpty) then
        let p := p.putLane l (some { w with state := .returning d .openUp })
        (p.orderRoles l w.filter (destinationOpens d) .opened).checkReturned l
      else p
    | _ => p
  | none => p

/-- R128. -/
def Part.startReturn (p : Part) (l : LaneId) (f : FilterId) : Part :=
  let (p, d) := p.destination f
  let p := p.modWash l fun w => { w with state := .returning d .close }
  ((p.releaseAll l).orderRoles l f (destinationCloses d) .closed).checkReturnClosed l

/-! ### Phase end (R111) -/

/-- R111: the next phase, or the return after the last. -/
def Part.endPhase (p : Part) (l : LaneId) (how : PhaseEnd) : Part :=
  match p.lane l with
  | some w =>
    let p := p.dropRun l
    let ps := p.phasesOf w.slot
    let w := { w with ripenTimeout := w.ripenTimeout || ((p.phaseNow w).kind == .ripen && how == .time) }
    if w.phase < ps.length then
      let w := { w with phase := w.phase + 1, elapsed := 0, confirm := 0 }
      let p := (p.putLane l (some w)).putAmounts l (remaining (p.areaOf w.filter) ps w.phase 0)
      p.enterPhase l (some (some how))
    else ((p.putLane l (some w)).putAmounts l ⟨0, 0⟩).startReturn l w.filter
  | none => p

/-- R111, R112, R113: one second counted in RUNNING; none once an end of the phase has come (log 19). -/
def Part.countSecond (p : Part) (l : LaneId) : Part :=
  match p.lane l with
  | some w =>
    if w.state = .running ∧ !p.endRaised l then
      let ph := p.phaseNow w
      let w := { w with
        elapsed := w.elapsed + 1
        confirm := if ph.kind == .ripen then (if p.turbidityOk w then w.confirm + 1 else 0) else w.confirm }
      let p := (p.putLane l (some w)).putAmounts l
        (remaining (p.areaOf w.filter) (p.phasesOf w.slot) w.phase w.elapsed)
      p.raiseEnd l
    else p
  | none => p

/-- The phase of a RUNNING lane ends. -/
def Part.endRunning (p : Part) (l : LaneId) (how : PhaseEnd) : Part :=
  match p.lane l with
  | some w => if w.state = .running then p.endPhase l how else p
  | none => p

/-! ### Notices from the valves (R109, R123, R127) -/

/-- A drifted role that stands in its commanded position leaves the drifted roles; with none left VALVE clears. -/
def Part.settleDrift (p : Part) (l : LaneId) (r : Role) : Part :=
  match p.lane l with
  | some w =>
    if w.drifted.get r && p.roleHome w r then
      let d := w.drifted.set r false
      let p := p.putLane l (some { w with drifted := d })
      if anyRole d then p else (p.leave l .valve).resumeIfClear l
    else p
  | none => p

/-- Whatever the lane waits for is looked at again. -/
def Part.advanceLane (p : Part) (l : LaneId) : Part :=
  match p.lane l with
  | some w =>
    match w.state with
    | .positioning .close => p.checkClosed l
    | .positioning .openUp => p.checkOpened l
    | .aborting _ => p.checkAborted l
    | .returning _ .close => p.checkReturnClosed l
    | .returning _ .openUp => p.checkReturned l
    | _ => p
  | none => p

/-- An arrival notice for a role. -/
def Part.laneArrival (p : Part) (l : LaneId) (r : Role) : Part := (p.settleDrift l r).advanceLane l

/-- R123: a drift notice for a role; one whose target is none has no effect. Any other counts, the position lost being
the target's or not (log 46). -/
def Part.laneDrift (p : Part) (l : LaneId) (r : Role) : Part :=
  match p.lane l with
  | some w =>
    if (w.targets.get r).isNone then p
    else if w.state.holdable then
      let p := p.putLane l (some { w with drifted := w.drifted.set r true })
      ((p.join l .valve).reorderRole l w.filter r).settleDrift l r
    else (p.reorderRole l w.filter r).advanceLane l
  | none => p

/-- R127: a channel fault on a role. -/
def Part.laneFault (p : Part) (l : LaneId) : Part :=
  match p.lane l with
  | some w =>
    match w.state with
    | .aborting _ => (p.putLane l (some { w with state := .aborting .channel })).checkAborted l
    | _ => p.abortLane l .channel
  | none => p

/-! ### Notices from the arbiter (R108, R110, R116, R124) -/

/-- R108: a grant is recorded. -/
def Part.laneGrant (p : Part) (l : LaneId) (u : UnitId) : Part :=
  if (p.unit u).state.lane = some l then (p.modWash l fun w => w.takeUnit u).checkAcquired l else p

/-- R110: a unit could not be proven; of no effect on a lane that no longer holds it. -/
def Part.laneProveFailed (p : Part) (l : LaneId) (u : UnitId) : Part :=
  match p.lane l with
  | some w =>
    if w.holdsUnit u && w.state.holdable then
      let w := w.dropUnit u
      let p := p.putLane l (some w)
      if p.kindUsable (unitKind u) then
        if w.state.isHeld then p
        else (p.putLane l (some { w with state := .acquiring })).requestUnit l (unitKind u)
      else p.join l .equipment
    else p
  | none => p

/-- R124: a granted unit tripped. EQUIPMENT joins, and is tested for clearing at once; so too on a lane already HELD,
whose hold has released the grant (log 47). -/
def Part.laneTripped (p : Part) (l : LaneId) (u : UnitId) : Part :=
  match p.lane l with
  | some w =>
    if (w.holdsUnit u || w.state.isHeld) && w.state.holdable then
      let p := p.putLane l (some (w.dropUnit u))
      ((p.join l .equipment).leaveIf l .equipment).resumeIfClear l
    else p
  | none => p

/-- R116, R145: a unit notice. -/
def Part.laneNews (p : Part) (l : LaneId) (n : UnitNews) : Part :=
  match n with
  | .available => (p.leaveIf l .equipment).resumeIfClear l
  | .failed | .locked => p.joinIf l .equipment

/-! ### STOP (R121, R122) -/

/-- R118, R121: the assertion of STOP reaches the lane. -/
def Part.laneStopped (p : Part) (l : LaneId) : Part :=
  match p.lane l with
  | some w =>
    if w.holds.inhibit then p.putLane l (some { w with releaseSeen := false }) else p.join l .inhibit
  | none => p

/-- R118: INHIBIT after a release of STOP. -/
def Part.releaseInhibit (p : Part) (l : LaneId) : Part :=
  p.modWash l fun w =>
    if w.holds.inhibit then
      if p.plant.autoResume then { w with holds := w.holds.set .inhibit false, releaseSeen := false }
      else { w with releaseSeen := true }
    else w

/-- R122: a lane still HELD closes AIR and BWW and commands its drifted roles. -/
def Part.heldAfterRelease (p : Part) (l : LaneId) (w : Wash) : Part :=
  let p := p.orderRoles l w.filter ([Role.air, .bww].filter fun r => !p.inPosition w.filter r .closed) .closed
  let drifted := allRoles.filter w.drifted.get
  let p := drifted.foldl (init := p) fun p r => p.reorderRole l w.filter r
  drifted.foldl (init := p) fun p r => p.settleDrift l r

/-- R122: the release of STOP reaches the lane. -/
def Part.laneReleased (p : Part) (l : LaneId) : Part :=
  match p.lane l with
  | none => p
  | some w =>
    match w.state with
    | .held _ =>
      let p := p.releaseInhibit l
      match p.lane l with
      | some w' => if w'.holds.isEmpty then p.resumeIfClear l else p.heldAfterRelease l w'
      | none => p
    | .aborting _ | .returning .. =>
      let away := allRoles.filter fun r => !p.roleHome w r
      (away.foldl (init := p) fun p r => p.reorderRole l w.filter r).advanceLane l
    | _ => p

/-! ### Points (R112, R116) -/

/-- R112: a change of the turbidity point of a RUNNING RIPEN phase. A confirmation already reached stands (log 19). -/
def Part.laneTurbidity (p : Part) (l : LaneId) (f : FilterId) : Part :=
  match p.lane l with
  | some w =>
    if w.filter = f ∧ w.state = .running ∧ (p.phaseNow w).kind = .ripen ∧ !p.endRaised l then
      if p.turbidityOk w then
        if (p.phaseNow w).confirm = 0 then p.raiseEnd l else p
      else p.putLane l (some { w with confirm := 0 })
    else p
  | none => p

/-- R30: a lane takes the change of a point. -/
def Part.lanePoint (p : Part) (l : LaneId) (id : PointId) : Part :=
  match id with
  | .tank => p.testCause l .water
  | .basin => p.testCause l .waste
  | .tb n => p.laneTurbidity l n
  | .flow | .hl _ => p

/-! ### Plant record (R116, R118) -/

/-- R116, R118: what an accepted plant record does to a lane. -/
def Part.lanePlant (p : Part) (l : LaneId) : Part :=
  let p := (p.joinIf l .water).joinIf l .waste
  let p := (p.leaveIf l .water).leaveIf l .waste
  let p := p.modWash l fun w =>
    if w.holds.inhibit && w.releaseSeen && p.plant.autoResume && !p.stopAsserted then
      { w with holds := w.holds.set .inhibit false, releaseSeen := false }
    else w
  p.resumeIfClear l

/-! ### Host commands (R130 to R133) -/

/-- R132: what RESUME removes. -/
def Part.laneResume (p : Part) (l : LaneId) : Part :=
  let p := p.modWash l fun w =>
    let w := { w with holds := (w.holds.set .host false).set .valve false, drifted := PerRole.all false }
    if w.holds.inhibit && w.releaseSeen && !p.stopAsserted then
      { w with holds := w.holds.set .inhibit false, releaseSeen := false }
    else w
  p.resumeIfClear l

/-- R120: the hold limit is reached. -/
def Part.holdLimitFalls (p : Part) (l : LaneId) : Part :=
  match p.lane l with
  | some w => if w.state.isHeld then p.abortLane l .holdLimit else p
  | none => p

/-- What GET_LANES reads of a lane (R134). -/
def Part.viewLane (p : Part) (l : LaneId) : LaneView :=
  { lane := l
    wash := p.lane l
    kind := (p.lane l).map fun w => (p.phaseNow w).kind
    secsLeft := (p.lane l).bind fun w =>
      match w.state with
      | .held t => some (secondsOn t (60 * p.plant.holdLimit) - p.clock)
      | _ => none }

end Sys2Proof.Machine
end

