-- ==== Sys2Proof/Machine/Admission.lean ====
section
/-! DEFINITION. The admission scan, its tests, admission, proposals and overload
(spec/04_admission_and_plant_modes.md, R48). -/

namespace Sys2Proof.Machine

def Part.setBlocked (p : Part) (b : BlockedReason) : Part := { p with sched := { p.sched with blocked := b } }

/-! ### What a wash would need (4.4, R73) -/

/-- The slot a wash of this entry would use. -/
def Part.slotFor (p : Part) (e : Entry) : SlotId :=
  match e.override, p.filter e.filter with
  | some s, _ => s
  | none, some r => r.cfg.slot
  | none, none => 0

/-- R73: W and X. -/
def Part.requirement (p : Part) (e : Entry) : Share :=
  match p.recipe (p.slotFor e) with
  | some r =>
    let a := p.areaOf e.filter
    ⟨waterOf a r.sumWater, wasteOf a r.sumDrain r.sumWaste⟩
  | none => ⟨0, 0⟩

/-- R69: kinds of unit a recipe needs. -/
def recipeKinds (ps : List Phase) : List UnitKind :=
  ([UnitKind.pump, .blower]).filter fun k => ps.any fun ph => (neededKinds ph.kind).contains k

/-- Reserved washwater (R78). -/
def Part.reservedWater (p : Part) : Nat := p.sched.shares.a.water + p.sched.shares.b.water

def Part.reservedWaste (p : Part) : Nat := p.sched.shares.a.waste + p.sched.shares.b.waste

/-! ### The tests (Table 4-2) -/

/-- The lowest-lettered IDLE lane. -/
def Part.idleLane (p : Part) : Option LaneId := allLanes.find? fun l => (p.lane l).isNone

/-- R67. -/
def Part.laneOk (p : Part) : Bool := p.idleLane.isSome && decide (p.busyLanes.length < p.plant.concurrency)

def spacingExempt : RequestClass → Bool
  | .breakthrough | .restart => true
  | _ => false

/-- R68. -/
def Part.spacingOk (p : Part) (e : Entry) : Bool :=
  spacingExempt e.cls ||
    (match p.sched.lastAdmission with
    | some t => decide (60 * p.plant.spacing ≤ p.clock - t)
    | none => true)

/-- R69. -/
def Part.equipmentOk (p : Part) (e : Entry) : Bool := (recipeKinds (p.phasesOf (p.slotFor e))).all p.kindUsable

/-- R70. -/
def Part.measureOk (p : Part) : Bool := p.front.tank.quality.usable && p.front.basin.quality.usable

/-- R72: LOADING for an ONLINE head, with the substitution it may start. -/
def Part.loadingStep (p : Part) (e : Entry) : Part × Option BlockedReason :=
  match p.filter e.filter with
  | some r =>
    if r.state = .online then
      let (p, ok) := p.loadingTest e.filter r.cfg.area
      if ok then (p, none)
      else if p.table.marker.isSome then (p, some .loadingSubst)
      else
        match p.substitute with
        | some f => (p.startSubstitution f, some .loadingSubst)
        | none => (p, some .loading)
    else (p, none)
  | none => (p, none)

/-- R74: available less reserved, signed. An absent volume fails (R32). -/
def Part.waterOk (p : Part) (w : Nat) : Bool := p.front.tankAvail.any fun v => decide (w + p.reservedWater ≤ v)

/-- R75. -/
def Part.wasteOk (p : Part) (x : Nat) : Bool := p.front.basinRoom.any fun v => decide (x + p.reservedWaste ≤ v)

/-- The seven tests in order: the part after the loading computation, and the first test that fails. -/
def Part.tests (p : Part) (e : Entry) : Part × Option BlockedReason :=
  if !p.laneOk then (p, some .noLane)
  else if !p.spacingOk e then (p, some .spacing)
  else if !p.equipmentOk e then (p, some .equipment)
  else if !p.measureOk then (p, some .measure)
  else
    let need := p.requirement e
    match p.loadingStep e with
    | (p, some b) => (p, some b)
    | (p, none) =>
      if !p.waterOk need.water then (p, some .water)
      else if !p.wasteOk need.waste then (p, some .waste)
      else (p, none)

/-! ### Admission (R77) and proposal (R82) -/

/-- R68: the last admission second. -/
def Part.stampAdmission (p : Part) : Part := { p with sched := { p.sched with lastAdmission := some p.clock } }

/-- R77. With no IDLE lane there is no admission; the lane test has excluded it. -/
def Part.admitEntry (p : Part) (e : Entry) : Part :=
  match p.idleLane with
  | none => p
  | some l =>
    let slot := p.slotFor e
    let need := p.requirement e
    let p := (p.dropEntry e.filter .admitted).setWashing e.filter l
    let p := ((p.setShares l need).cancel .spacingExpiry).stampAdmission
    let p := p.report (.admitted e.filter l e.cls e.source slot e.override.isSome need.water need.waste
      p.reservedWater p.reservedWaste p.clock)
    (p.handOff l e.filter slot need).trigger

/-- R82. -/
def Part.propose (p : Part) (e : Entry) : Part :=
  let expiry := secondsOn p.clock p.plant.lifetime
  let need := p.requirement e
  let p := ({ p with sched := { p.sched with proposal := some ⟨e.filter, expiry⟩ } }).cancel .proposalExpiry
  p.report (.proposal e.filter e.cls e.source e.u (p.slotFor e) need.water need.waste (p.idleLane.getD .a) expiry)

/-! ### The EARLY rule (R48) -/

/-- ONLINE filters with no transfer and no entry, at or above the threshold. -/
def Part.earlyCandidates (p : Part) : List (FilterId × Nat) :=
  (allFilters.filterMap fun f => (p.filter f).bind fun r =>
    if r.state = .online ∧ r.transfer = none ∧ p.entry f = none ∧ p.plant.early ≤ r.u then some (f, r.u) else none)

/-- The highest U, the lowest number among equals. -/
def highest : List (FilterId × Nat) → Option (FilterId × Nat)
  | [] => none
  | x :: rest =>
    match highest rest with
    | some y => if x.2 < y.2 then some y else some x
    | none => some x

def Part.earlyAllowed (p : Part) : Bool :=
  p.plant.early != 0 && !hasClass p.sched.mask .early && p.busyLanes.isEmpty &&
    !(p.sched.queue.any fun e => e.cls == .early) && !(p.sched.queue.any p.eligible)

def Part.setScanDue (p : Part) (due : Bool) : Part := { p with sched := { p.sched with scanDue := due } }

/-- R48. The raise triggers no further scan. -/
def Part.earlyRule (p : Part) : Part :=
  if p.earlyAllowed then
    match highest p.earlyCandidates with
    | some (f, u) =>
      (p.addEntry f .early .auto u none).setScanDue p.sched.scanDue
    | none => p
  else p

/-! ### The scan (R65) -/

/-- The first entry neither deferred nor masked. -/
def Part.head (p : Part) : Option Entry := p.sched.queue.find? p.eligible

/-- The head ranks strictly above an outstanding proposal's entry of another filter. -/
def Part.outranks (p : Part) (e : Entry) (pr : Proposal) : Bool :=
  e.filter != pr.filter && (p.entry pr.filter).any fun x => decide (e.cls.rank < x.cls.rank)

/-- R65 steps 5 and 6, R76. -/
def Part.testHead (p : Part) (e : Entry) : Part :=
  match p.tests e with
  | (p, some b) => p.setBlocked b
  | (p, none) =>
    if p.sched.mode = .directed ∧ e.cls ≠ .manual then (p.propose e).setBlocked .proposed
    else (p.admitEntry e).setBlocked .none

/-- R65. -/
def Part.scan (p : Part) : Part :=
  if p.sched.mode = .paused then p.setBlocked .paused
  else
    let p := p.earlyRule
    match p.head with
    | none => p.setBlocked .empty
    | some e =>
      match p.sched.proposal with
      | some pr => if p.outranks e pr then (p.withdraw .higher none).testHead e else p.setBlocked .proposed
      | none => p.testHead e

/-- R64: a triggered scan runs, in OPERATING. -/
def Part.runScan (p : Part) : Part :=
  if p.operating && p.sched.scanDue then (p.setScanDue false).scan else p

/-! ### Timers of the scheduler (R49, R80, R85) -/

/-- R49: a deferral reached is cleared. -/
def Part.deferralEnds (p : Part) (f : FilterId) : Part :=
  match p.entry f with
  | some e => if e.deferUntil.any fun t => decide (t ≤ p.clock) then p.setDefer e none else p
  | none => p

/-- R85 EXPIRED: the entry is deferred by the lifetime and the proposal withdrawn. -/
def Part.proposalExpires (p : Part) : Part :=
  match p.sched.proposal with
  | some pr =>
    let t := secondsOn p.clock p.plant.lifetime
    match p.entry pr.filter with
    | some e => (p.setDefer e (some t)).withdraw .expired (some t)
    | none => p.withdraw .expired none
  | none => p

/-- R80: the deadline of a running overload timer. -/
def Part.overloadFalls (p : Part) : Part :=
  match p.sched.overload with
  | some o =>
    let p := { p with sched :=
      { p.sched with overload := some { o with deadline := secondsOn o.deadline p.plant.overloadDelay } } }
    let started := if p.table.marker.isNone then p.substitute else none
    let p := match started with
      | some f => p.startSubstitution f
      | none => p
    let (q, design) := p.flowUsed
    p.report (.overload p.loadingNow.1 p.plant.vmax q design p.serviceArea o.start started)
  | none => p

/-! ### Plant mode (R61) -/

/-- R61: another mode; a proposal is withdrawn, a scan triggered. -/
def Part.changeMode (p : Part) (m : PlantMode) : Part :=
  if m = p.sched.mode then p
  else (({ p with sched := { p.sched with mode := m } }).withdraw .mode none).trigger

/-- R30: the scheduler takes a change of FLOW, TANK or BASIN. -/
def Part.schedulerMeasure (p : Part) (id : PointId) : Part :=
  match id with
  | .flow => p.computeLoading.trigger
  | .tank | .basin => p.trigger
  | .hl _ | .tb _ => p

end Sys2Proof.Machine
end

