-- ==== Sys2Proof/Machine/Recipes.lean ====
section
/-! DEFINITION. Recipe store: validation, staging, installation, signature, use (spec/05_wash_recipes.md). -/

namespace Sys2Proof.Machine

/-! ### Validation (R91, R94, R95) -/

def inRange (lo hi : Nat) (h : Half) : Bool := decide (lo ≤ h.toNat) && decide (h.toNat ≤ hi)

/-- R91, Table 5-3. -/
def fieldsOk (k : PhaseKind) (r : RawPhase) : Bool :=
  inRange 10 3600 r.duration &&
    (match k with
    | .drain => r.rate == 0 && inRange 50 1500 r.depth && r.target == 0 && r.confirm == 0
    | .air | .rest => r.rate == 0 && r.depth == 0 && r.target == 0 && r.confirm == 0
    | .airWater => inRange 20 400 r.rate && r.depth == 0 && r.target == 0 && r.confirm == 0
    | .water => inRange 50 800 r.rate && r.depth == 0 && r.target == 0 && r.confirm == 0
    | .ripen => inRange 10 300 r.rate && r.depth == 0 && inRange 20 2000 r.target && inRange 0 600 r.confirm)

def blowsAir : PhaseKind → Bool
  | .air | .airWater => true
  | _ => false

/-- R94, Table 5-5: phase number `i` of `n`, after a DRAIN phase or not; the record checked, or `none` where it fails. -/
def checkPhase (n i : Nat) (drained : Bool) (r : RawPhase) : Option Phase :=
  match phaseKindOf r.kind with
  | none => none
  | some k =>
    if !fieldsOk k r then none
    else if k == .ripen && i != n then none
    else if blowsAir k && !drained then none
    else some ⟨k, r.duration.toNat, r.rate.toNat, r.depth.toNat, r.target.toNat, r.confirm.toNat⟩

/-- R94: phases from number `i` on, or the number of the first that fails. -/
def checkPhases (n : Nat) : Nat → Bool → List RawPhase → Except Nat (List Phase)
  | _, _, [] => .ok []
  | i, drained, r :: rest =>
    match checkPhase n i drained r with
    | none => .error i
    | some ph =>
      match checkPhases n (i + 1) (drained || ph.kind == .drain) rest with
      | .ok phs => .ok (ph :: phs)
      | .error j => .error j

/-- R94, R95: the valid recipe, or the offending phase index, 0 for the recipe as a whole. -/
def validate (records : List RawPhase) : Except Nat (List Phase) :=
  match checkPhases records.length 1 false records with
  | .error i => .error i
  | .ok phs => if phs.any fun ph => ph.kind == .water then .ok phs else .error 0

/-! ### The canonical record and the signature (R100) -/

def phaseKindCode : PhaseKind → Byte
  | .drain => 0
  | .air => 1
  | .airWater => 2
  | .water => 3
  | .rest => 4
  | .ripen => 5

/-- The canonical record of a phase as bytes (Table 11-4). -/
def Phase.raw (ph : Phase) : RawPhase :=
  ⟨phaseKindCode ph.kind, BitVec.ofNat 16 ph.duration, BitVec.ofNat 16 ph.rate, BitVec.ofNat 16 ph.depth,
    BitVec.ofNat 16 ph.target, BitVec.ofNat 16 ph.confirm⟩

/-- R100. -/
def signatureOf (phs : List Phase) : Half :=
  crc16 (BitVec.ofNat 8 phs.length :: rawPhaseBytes (phs.map Phase.raw))

/-- R90: an installed slot with its derived fields. -/
def Recipe.ofPhases (phs : List Phase) : Recipe where
  phases    := phs
  signature := signatureOf phs
  totalTime := (phs.map fun ph => ph.duration).sum
  sumWater  := waterSum phs
  sumDrain  := drainSum phs
  sumWaste  := wasteSum phs

/-! ### Use of a slot -/

/-- A defined filter names the slot in its configuration. -/
def Part.slotNamed (p : Part) (s : SlotId) : Bool :=
  allFilters.any fun f => (p.filter f).any fun r => r.cfg.slot == s

/-- A non-IDLE lane runs the slot. -/
def Part.laneRuns (p : Part) (l : LaneId) (s : SlotId) : Bool := (p.lane l).any fun w => w.slot == s

def Part.slotRun (p : Part) (s : SlotId) : Bool := allLanes.any fun l => p.laneRuns l s

def Part.putRecipe (p : Part) (s : SlotId) (r : Option Recipe) : Part :=
  { p with recipes := { p.recipes with slots := p.recipes.slots.set s r } }

def Part.setStaging (p : Part) (x : Option Staging) : Part := { p with recipes := { p.recipes with staging := x } }

/-- Staging as replies show it: slot, n, records held. -/
def Part.stagingPicture (p : Part) : Option (SlotId × Nat × Nat) :=
  p.recipes.staging.map fun x => (x.slot, x.count, x.records.length)

/-! ### Loading (R97, R98) -/

/-- R98: the complete buffer is validated, checked for use and installed; it is absent afterwards. -/
def Part.install (p : Part) (x : Staging) : Part × Result × ReplyFields :=
  let p := p.setStaging none
  match validate x.records with
  | .error i => (p, .range, .offending i)
  | .ok phs =>
    if p.slotRun x.slot then (p, .inUse, .none)
    else
      let r := Recipe.ofPhases phs
      (p.putRecipe x.slot (some r), .ok, .installed x.slot phs.length r.signature r.totalTime)

/-- R97 from its third check on: records appended, the buffer completed or kept open. -/
def Part.stage (p : Part) (records : List RawPhase) : Part × Result × ReplyFields :=
  match p.recipes.staging with
  | none => (p, .state, .picture none)
  | some x =>
    let held := x.records ++ records
    if x.count < held.length then (p.setStaging none, .length, .picture none)
    else
      let x := { x with records := held }
      if held.length < x.count then (p.setStaging (some x), .ok, .staged x.slot x.count held.length)
      else p.install x

/-! ### Reading and erasing (R101 to R103) -/

def Part.viewSignature (p : Part) (s : SlotId) : SignatureView :=
  { slot := s
    installed := (p.recipe s).map fun r => (r.phases.length, r.signature, r.totalTime)
    named := p.slotNamed s
    laneA := p.laneRuns .a s
    laneB := p.laneRuns .b s
    staging := p.stagingPicture }

/-- R103: an INSTALLED slot becomes EMPTY, and overrides naming it are cleared (R56). -/
def Part.eraseSlot (p : Part) (s : SlotId) : Part :=
  match p.recipe s with
  | some _ => (p.putRecipe s none).clearOverrides s
  | none => p

/-- Elements with their positions, from `i` on. -/
def numbered {α : Type} (i : Nat) : List α → List (Nat × α)
  | [] => []
  | x :: rest => (i, x) :: numbered (i + 1) rest

end Sys2Proof.Machine
end

