-- ==== Sys2Proof/Machine/StartUp.lean ====
section
/-! DEFINITION. Start-up logic: the clock and its timers, commissioning, the survey, silence supervision, the resets
(spec/10_start_up_and_link_supervision.md and the reset rules of the other chapters). -/

namespace Sys2Proof.Machine

/-! ### Timers that fall at a second (log 32) -/

def dueIf (b : Bool) (e : Event) : List Event := if b then [e] else []

/-- An expiry second has been reached. -/
def reached (t : Option Nat) (now : Nat) : Bool := t.any fun x => decide (x ≤ now)

def Part.pointTimers (p : Part) : List Event :=
  (allPoints.filter fun id => (p.point id).staleAt p.plant.staleLimit p.clock).map .stale

/-- R68: the second the start spacing runs out. -/
def Part.spacingDue (p : Part) : Bool :=
  p.sched.lastAdmission.any fun t => decide (t < p.clock) && secondsOn t (60 * p.plant.spacing) == p.clock

def Part.schedulerTimers (p : Part) : List Event :=
  dueIf (reached (p.sched.overload.map (·.deadline)) p.clock) .overloadDeadline ++
  ((p.sched.queue.filter fun e => reached e.deferUntil p.clock).map fun e => .deferExpiry e.filter) ++
  dueIf p.spacingDue .spacingExpiry ++
  dueIf (reached (p.sched.proposal.map (·.expiry)) p.clock) .proposalExpiry

/-- R120: the hold limit of a HELD lane, written no later than the largest clock value (R183), is reached. -/
def Wash.limitReached (w : Wash) (limit now : Nat) : Bool :=
  match w.state with
  | .held t => decide (secondsOn t (60 * limit) ≤ now)
  | _ => false

def Part.laneTimers (p : Part) : List Event :=
  (allLanes.filter fun l => (p.lane l).any fun w => w.limitReached p.plant.holdLimit p.clock).map .holdLimit

def Part.channelTimers (p : Part) : List Event :=
  (allChannels.filter fun ch => reached (p.channel ch).expiry p.clock).map .travelExpiry

def Part.unitTimers (p : Part) : List Event :=
  allUnits.flatMap fun u =>
    match (p.unit u).state with
    | .proving _ e => dueIf (decide (e ≤ p.clock)) (.proveExpiry u)
    | .guarded e => dueIf (decide (e ≤ p.clock)) (.guardEnd u)
    | _ => []

def Part.timers (p : Part) : List Event :=
  p.pointTimers ++ p.schedulerTimers ++ p.laneTimers ++ p.channelTimers ++ p.unitTimers ++
    dueIf (reached p.startUp.silence p.clock) .silenceExpiry

/-! ### The second (R183) -/

/-- Seconds counted by the RUNNING lanes (R111). -/
def Part.laneSeconds (p : Part) : List Event :=
  (allLanes.filter fun l => (p.lane l).any fun w => w.state == .running).map .laneSecond

def Part.advanceClock (p : Part) : Part := { p with startUp := { p.startUp with clock := p.clock + 1 } }

def Part.runSeconds (p : Part) : Part := allFilters.foldl (init := p) fun p f => p.runSecond f

/-- What every second, and every whole minute, tells of (R42, R111). -/
def Part.secondEvents (p : Part) : List Event := dueIf (p.clock % 60 == 0) .minuteTick ++ p.laneSeconds

/-- Everything timed by this second is raised. -/
def Part.raiseTimers (p : Part) : Part := p.timers.foldl (init := p) fun p e => p.raiseOnce e

/-- R183: the clock advances and everything timed by this second is raised; at its largest value it stands (log 7). -/
def Part.tick (p : Part) : Part :=
  if p.clock < clockMax then
    let p := p.advanceClock.runSeconds
    (p.raiseAll p.secondEvents).raiseTimers
  else p

/-! ### Silence supervision (R189, R190) -/

def Part.setSilence (p : Part) (t : Option Nat) : Part :=
  ({ p with startUp := { p.startUp with silence := t } }).cancel .silenceExpiry

/-- The timer afresh, in OPERATING with a nonzero interval. -/
def Part.restartSilence (p : Part) : Part :=
  if p.operating && p.plant.silenceInterval != 0 then
    p.setSilence (some (secondsOn p.clock p.plant.silenceInterval))
  else p

/-- R189: a frame is accepted. -/
def Part.frameAccepted (p : Part) : Part :=
  ({ p with startUp := { p.startUp with lastAccepted := some p.clock } }).restartSilence

/-- R190 step 3: the mode the silence action leaves. -/
def silenceMode (a : SilenceAction) (m : PlantMode) : PlantMode :=
  match a, m with
  | .auto, .directed => .auto
  | .pause, .auto | .pause, .directed => .paused
  | _, m => m

/-- R190. -/
def Part.silenceFalls (p : Part) : Part :=
  let before := p.sched.mode
  let after := silenceMode p.plant.silenceAction before
  let p := p.setSilence none
  let p := { p with startUp := { p.startUp with silent := true } }
  (p.changeMode after).report
    (.silence p.plant.silenceInterval p.plant.silenceAction before after p.startUp.lastAccepted)

/-! ### Commissioning (R186) -/

/-- A missing item of Table 10-3, with the filter and role it names. -/
abbrev Missing := CommissionItem × Option FilterId × Option Role

def Part.roleMissing (p : Part) (f : FilterId) (item : CommissionItem) (bad : Option ChannelId → Bool) : Option Missing :=
  (allRoles.find? fun r => bad (p.mapped f r)).map fun r => (item, some f, some r)

/-- Items 6 to 8 for one filter. -/
def Part.filterMissing (p : Part) (f : FilterId) : Option Missing :=
  match p.filter f with
  | none => none
  | some r =>
    (p.roleMissing f .roleUnmapped fun ch => ch.isNone).or <|
    (p.roleMissing f .channelLocked fun ch => ch.any fun ch => (p.channel ch).locked).or <|
    if (p.recipe r.cfg.slot).isNone then some (.recipe, some f, none) else none

def PointSource.isNone (x : PointSource) : Bool := x == .none

/-- Table 10-3: the first missing item. -/
def Part.missing (p : Part) : Option Missing :=
  if !p.plantReceived then some (.plant, none, none)
  else if p.front.flow.source.isNone then some (.flowSource, none, none)
  else if p.front.tank.source.isNone then some (.tankSource, none, none)
  else if p.front.basin.source.isNone then some (.basinSource, none, none)
  else if allFilters.all fun f => (p.filter f).isNone then some (.filter, none, none)
  else allFilters.findSome? p.filterMissing

/-- R186: accepted. -/
def Part.commission (p : Part) : Part :=
  { p with startUp := { p.startUp with top := .surveying, survey := some (p.plant.debounce + 1000) } }

/-! ### The survey (R187) -/

/-- R187 step 2: the state a filter's six channels give. -/
def Part.surveyState (p : Part) (f : FilterId) : FilterState :=
  let ok := fun (r : Role) (pos : Position) => p.inPosition f r pos
  let rest := ok .bww .closed && ok .air .closed && ok .wst .closed && ok .ftw .closed
  if ok .inf .opened && ok .eff .opened && rest then .online
  else if ok .inf .closed && ok .eff .closed && rest then .standby
  else .faulted .survey

def Part.surveyFilter (p : Part) (f : FilterId) : Part :=
  match p.filter f with
  | some r =>
    p.moveFilter f { r with state := p.surveyState f, runMin := r.cfg.initRun, runSec := 0, armedMin := 240 }
  | none => p

def Part.countFilters (p : Part) (s : FilterState) : Nat :=
  (allFilters.filter fun f => (p.filter f).any fun r => r.state == s).length

def Part.mappedFaults (p : Part) : Nat :=
  (p.valves.channels.toList.filter fun c => c.mappedTo.isSome && c.state.isFault).length

/-- R187: the survey ends. The mapped channels are derived in ascending number (log 45). The evaluations follow as
events of their own; the loading is computed with it, in OPERATING, whether or not a filter came ONLINE (log 34). -/
def Part.endSurvey (p : Part) : Part :=
  if p.startUp.top = .surveying then
    let p := (allChannels.filter fun ch => (p.channel ch).mappedTo.isSome).foldl (init := p) fun p ch => p.derive ch
    let p := allFilters.foldl (init := p) fun p f => p.surveyFilter f
    let p := p.report (.surveyDone (p.countFilters .online) (p.countFilters .standby)
      (p.countFilters (.faulted .survey)) p.mappedFaults p.stopAsserted)
    let p := { p with startUp := { p.startUp with top := .operating, survey := none, readyCall := true } }
    let p := p.restartSilence.computeLoading.trigger
    p.raiseAll ((allFilters.filter p.isOnline).map .urgency)
  else p

/-! ### Resets (R184, R185) -/

/-- Table 9-1. -/
def rateOf : Level → Level → Rate
  | .deEnergised, .deEnergised => .r19200
  | .energised, .deEnergised => .r38400
  | .deEnergised, .energised => .r57600
  | .energised, .energised => .r115200

/-- Levels the feedback inputs stand at; no reset changes an input. -/
def Part.inputs (p : Part) : PerUnit Level := ⟨p.arb.units.p1.input, p.arb.units.p2.input, p.arb.units.bl.input⟩

/-- A power-on reset or the RESET line: every block's reset values, configuration cleared. -/
def Part.hardReset (p : Part) (rate : Rate) : Part := Part.initial rate p.inputs

/-- R36: a point after SOFT_RESET. -/
def Point.softReset (x : Point) : Point := ⟨x.source, [], none, .none, none⟩

/-- R36: the front end after SOFT_RESET. -/
def FrontEnd.softReset (x : FrontEnd) : FrontEnd where
  counts    := Vector.replicate 40 none
  hl        := mapVec Point.softReset x.hl
  tb        := mapVec Point.softReset x.tb
  flow      := x.flow.softReset
  tank      := x.tank.softReset
  basin     := x.basin.softReset
  tankAvail := none
  basinRoom := none

/-- R20, Table 1-12. -/
def FilterRecord.softReset (r : FilterRecord) : FilterRecord where
  cfg         := { r.cfg with initRun := r.runMin }
  state       := .outOfService
  transfer    := none
  runMin      := r.runMin
  runSec      := 0
  armedMin    := 240
  washes      := r.washes
  aborts      := 0
  lastWashEnd := none
  u           := 0
  dominant    := .turbidity

/-- R169: a channel after SOFT_RESET. -/
def Channel.softReset (c : Channel) : Channel :=
  { Channel.initial with sense := c.sense, locked := c.locked, mappedTo := c.mappedTo }

/-- R185, Table 10-2: the effect of SOFT_RESET. -/
def Part.softResetPart (p : Part) : Part :=
  { Part.initial p.link.rate p.inputs with
    supply        := p.supply
    resetHeld     := p.resetHeld
    plant         := p.plant
    plantReceived := p.plantReceived
    front         := p.front.softReset
    table         := ⟨mapVec (Option.map FilterRecord.softReset) p.table.filters, none⟩
    recipes       := ⟨p.recipes.slots, none⟩
    valves        := { ValveField.initial with
      channels := mapVec Channel.softReset p.valves.channels
      map      := p.valves.map } }

end Sys2Proof.Machine
end

