-- ==== Sys2Proof/Machine/Handlers.lean ====
section
/-! DEFINITION. What each host command does and answers, by the rule that specifies it. Checks stand in the order of the
rules; the first that fails gives the result. -/

namespace Sys2Proof.Machine

/-- The part after a command, its result, and the fields of its reply. -/
abbrev Answer := Part × Result × ReplyFields

/-- The command changes nothing and is answered with a code alone. -/
def refuse (p : Part) (r : Result) : Answer := (p, r, .none)

def okay (p : Part) : Answer := (p, .ok, .none)

/-- BUSY in SURVEYING (R183). -/
def unlessSurveying (p : Part) (k : Answer) : Answer :=
  match p.startUp.top with
  | .surveying => refuse p .busy
  | _ => k

/-- BUSY in SURVEYING, NOT_CONFIGURED in CONFIGURING. -/
def inOperating (p : Part) (k : Answer) : Answer :=
  match p.startUp.top with
  | .surveying => refuse p .busy
  | .configuring => refuse p .notConfigured
  | .operating => k

/-- A field that names something; RANGE when it does not. -/
def named {α : Type} (p : Part) (x : Option α) (k : α → Answer) : Answer :=
  match x with
  | some a => k a
  | none => refuse p .range

/-- RANGE, STATE and the like unless a condition holds. -/
def unlessFails (p : Part) (ok : Bool) (r : Result) (k : Answer) : Answer := if ok then k else refuse p r

/-! ### Identity, status, start-up (R174, R180, R181, R185, R186, R191) -/

def answerIdent (p : Part) : Answer := (p, .ok, .ident Config.logicRevision p.link.rate)

def Part.statusView (p : Part) : StatusView where
  top           := p.startUp.top
  mode          := p.sched.mode
  stopAsserted  := p.stopAsserted
  ready         := p.ready
  silent        := p.startUp.silent
  flags         := p.sched.flags
  reportLoss    := p.link.reportLoss
  blocked       := p.sched.blocked
  proposal      := p.sched.proposal
  reservedWater := p.reservedWater
  reservedWaste := p.reservedWaste
  reports       := p.link.reports.length
  clock         := p.clock

/-- R181: REPORT_LOSS is cleared once the reply is formed. -/
def answerStatus (p : Part) : Answer :=
  ({ p with link := { p.link with reportLoss := false } }, .ok, .status p.statusView)

def answerPing (p : Part) : Answer := okay p

/-- R174: count and flag as they stand, then cleared. -/
def answerLinkErrors (p : Part) : Answer :=
  ({ p with link := { p.link with errors := 0, overflow := false } }, .ok,
    .linkErrors p.link.errors p.link.overflow)

/-- R185: no further frame is taken from here on. -/
def answerSoftReset (p : Part) : Answer :=
  unlessSurveying p (okay { p with link := { p.link with softReset := .waiting } })

/-- R186. -/
def answerCommission (p : Part) : Answer :=
  unlessSurveying p <|
  unlessFails p (!p.operating) .state <|
  match p.missing with
  | some (item, f, r) => (p, .notConfigured, .missing item f r)
  | none => okay p.commission

/-- R191. -/
def answerClearSilence (p : Part) : Answer :=
  unlessSurveying p (okay { p with startUp := { p.startUp with silent := false } })

/-! ### Plant record, mode, computation status (R60 to R63, R81, R87) -/

/-- Timings that a plant record takes anew: those of the stale limit, the spacing and the hold limit that it changes
(R34, R63, R120). A limit that carries its present value retimes nothing (R62). -/
def Event.isRetimed (old new : PlantRecord) (e : Event) : Bool :=
  match e with
  | .stale _ => new.staleLimit != old.staleLimit
  | .spacingExpiry => new.spacing != old.spacing
  | .holdLimit _ => new.holdLimit != old.holdLimit
  | _ => false

/-- R141: a unit whose reading the new polarity changes acts on it. -/
def Part.repolarise (p : Part) (before : PerUnit Feedback) (u : UnitId) : Part :=
  if p.feedback u = before.get u then p else p.feedbackActs u

/-- R63, R34 and the other blocks' effects of an accepted plant record. Units whose reading changes act in the order P1,
P2, BL (log 43). -/
def Part.applyPlant (p : Part) (r : PlantRecord) : Part :=
  let readings : PerUnit Feedback := ⟨p.feedback .p1, p.feedback .p2, p.feedback .bl⟩
  let p := { p with plant := r, plantReceived := true, events := p.events.filter fun e => !e.isRetimed p.plant r }
  let p := p.deriveTank.deriveBasin.computeLoading
  let p := allUnits.foldl (init := p) fun p u => p.repolarise readings u
  let p := allLanes.foldl (init := p) fun p l => p.lanePlant l
  let p := if p.operating then
      (if r.silenceInterval = 0 then p.setSilence none else p.restartSilence)
    else p
  p.trigger

/-- R62. -/
def answerSetPlant (p : Part) (raw : RawPlant) : Answer :=
  unlessSurveying p <|
  named p (plantOf raw) fun r =>
  unlessFails p (!p.operating || decide (p.busyLanes.length ≤ r.concurrency)) .busy <|
  okay (p.applyPlant r)

/-- R60. -/
def answerSetMode (p : Part) (mode : Byte) : Answer :=
  inOperating p <| named p (modeOf mode) fun m => okay (p.changeMode m)

/-- R87. -/
def answerClearCalc (p : Part) : Answer :=
  unlessSurveying p (okay { p with sched := { p.sched with flags := CalcFlags.clear } })

def Part.loadingView (p : Part) : LoadingView where
  flow     := p.flowUsed.1
  isDesign := p.flowUsed.2
  area     := p.serviceArea
  online   := p.onlineFilters.length
  loading  := p.loadingNow.1
  vmax     := p.plant.vmax
  overload := p.sched.overload
  marker   := p.table.marker

/-- R81: the current loading computed afresh. -/
def answerGetLoading (p : Part) : Answer :=
  inOperating p <|
  let p := p.computeLoading
  (p, .ok, .loading p.loadingView)

/-! ### Points (R22, R28, R35) -/

/-- R22: source kind, input and span. -/
def sourceOf (id : PointId) (source input : Byte) (lo hi : Half) : Option PointSource :=
  match source.toNat with
  | 0 => if input = 0 ∧ lo = 0 ∧ hi = 0 then some .none else none
  | 1 =>
    match inputOf input with
    | some i => if lo.toNat < hi.toNat ∧ hi.toNat ≤ pointMax id then some (.analog i lo.toNat hi.toNat) else none
    | none => none
  | 2 => if input = 0 ∧ lo = 0 ∧ hi = 0 then some .pushed else none
  | _ => none

/-- R22: the input is the source of no other point. -/
def Part.inputFree (p : Part) (id : PointId) (src : PointSource) : Bool :=
  match src.input with
  | some (i, _, _) => (p.assignedPoint i).all (· == id)
  | none => true

def isPlantPoint : PointId → Bool
  | .flow | .tank | .basin => true
  | .hl _ | .tb _ => false

/-- R22. -/
def answerSetPoint (p : Part) (point source input : Byte) (lo hi : Half) : Answer :=
  unlessSurveying p <|
  named p (pointOfIndex point.toNat) fun id =>
  named p (sourceOf id source input lo hi) fun src =>
  unlessFails p (p.inputFree id src) .inUse <|
  unlessFails p (!(p.operating && src == .none && isPlantPoint id)) .state <|
  okay (p.startPoint id src)

/-- Every index of the pairs names a point. -/
def pairPoints : List (Byte × Half) → Option (List (PointId × Nat))
  | [] => some []
  | (i, v) :: rest =>
    match pointOfIndex i.toNat, pairPoints rest with
    | some id, some xs => some ((id, v.toNat) :: xs)
    | _, _ => none

def distinctPoints : List (PointId × Nat) → Bool
  | [] => true
  | (id, _) :: rest => !(rest.any fun x => x.1 == id) && distinctPoints rest

/-- R28. -/
def answerPutMeasure (p : Part) (count : Byte) (rest : List Byte) : Answer :=
  unlessSurveying p <|
  unlessFails p (decide (1 ≤ count.toNat ∧ count.toNat ≤ 16 ∧ rest.length = 3 * count.toNat)) .length <|
  named p (pairPoints (pairsOf rest)) fun xs =>
  unlessFails p (distinctPoints xs) .range <|
  unlessFails p (xs.all fun x => (p.point x.1).source == .pushed) .state <|
  okay (xs.foldl (init := p) fun p x => p.push x.1 x.2)

/-- R35. -/
def answerGetPoints (p : Part) (first count : Byte) : Answer :=
  unlessSurveying p <|
  let a := first.toNat
  let n := count.toNat
  unlessFails p (decide (1 ≤ a ∧ a ≤ 35 ∧ 1 ≤ n ∧ n ≤ 16 ∧ a + n - 1 ≤ 35)) .range <|
  (p, .ok, .points p.front.tankAvail p.front.basinRoom (((allPoints.drop (a - 1)).take n).map p.viewPoint))

/-! ### Filters (R1, R2, R5 to R10, R19) -/

def FilterRecord.fresh (c : FilterConfig) : FilterRecord where
  cfg         := c
  state       := .outOfService
  transfer    := none
  runMin      := c.initRun
  runSec      := 0
  armedMin    := 240
  washes      := 0
  aborts      := 0
  lastWashEnd := none
  u           := 0
  dominant    := .turbidity

/-- R1 after its checks. Whole minutes still to be counted are counted first (log 18). -/
def Part.defineFilter (p : Part) (f : FilterId) (c : FilterConfig) : Part :=
  match p.filter f with
  | some r => p.putFilter f (some { r.countMinutes with cfg := c, runMin := c.initRun })
  | none => (p.putFilter f (some (FilterRecord.fresh c))).reportFilter f none

/-- R1: the filter may be configured now. -/
def Part.configurable (p : Part) (f : FilterId) : Bool :=
  !p.operating || (p.filter f).all fun r => r.state == .outOfService

/-- R1. -/
def answerDefine (p : Part) (f : FilterId) (c : RawFilter) : Answer :=
  unlessFails p (p.configurable f) .state <|
  named p (filterConfigOf (fun s => (p.recipe s).isSome) c) fun cfg => okay (p.defineFilter f cfg)

/-- R2. -/
def answerUndefine (p : Part) (f : FilterId) : Answer :=
  match p.filter f with
  | none => okay p
  | some r =>
    if r.state = .outOfService then
      okay (((p.putFilter f none).reportFilter f (some r.state)).releaseWindow f)
    else refuse p .state

/-- R1, R2: form 0 defines, form 1 undefines. -/
def answerSetFilter (p : Part) (filter form : Byte) (c : RawFilter) : Answer :=
  unlessSurveying p <|
  named p (filterOf filter) fun f =>
  if form = 0 then answerDefine p f c
  else if form = 1 then answerUndefine p f
  else refuse p .range

/-- R5 and R52: the checks the commands on one filter share. -/
def onFilter (p : Part) (filter : Byte) (k : FilterId → FilterRecord → Answer) : Answer :=
  inOperating p <|
  named p (filterOf filter) fun f =>
  match p.filter f with
  | none => refuse p .state
  | some r => if r.transfer.isSome then refuse p .busy else k f r

/-- R6: states TAKE_OUT accepts. -/
def takesOut : FilterState → Bool
  | .online | .standby | .stranded | .faulted _ => true
  | .washing _ | .outOfService => false

/-- R6. -/
def answerTakeOut (p : Part) (filter : Byte) : Answer :=
  onFilter p filter fun f r =>
  unlessFails p (takesOut r.state) .state <|
  okay ((p.expelEntry f .takenOut).changeFilter f fun r => { r with state := .outOfService })

/-- R7: all six roles mapped, no channel locked. -/
def Part.fullyMapped (p : Part) (f : FilterId) : Bool :=
  allRoles.all fun r => (p.mapped f r).any fun ch => !(p.channel ch).locked

/-- R7: 0 CLEAN, 1 DIRTY. -/
def conditionOf (b : Byte) : Option Bool := if b = 0 then some false else if b = 1 then some true else none

/-- R7. -/
def Part.putIn (p : Part) (f : FilterId) (dirty : Bool) : Part :=
  if dirty then (p.changeFilter f fun r => { r with state := .standby }).addEntry f .manual .host 0 none
  else p.changeFilter f fun r => { r with state := .standby, runMin := 0, runSec := 0, armedMin := 0, aborts := 0 }

/-- R7. A condition that is neither is refused RANGE after the common checks (log 31). -/
def answerPutIn (p : Part) (filter condition : Byte) : Answer :=
  onFilter p filter fun f r =>
  named p (conditionOf condition) fun dirty =>
  unlessFails p (r.state == .outOfService) .state <|
  unlessFails p (p.fullyMapped f) .map <|
  unlessFails p (allRoles.all fun r => p.inPosition f r .closed) .state <|
  okay (p.putIn f dirty)

def FilterState.isFaulted (x : FilterState) : Bool :=
  match x with
  | .faulted _ => true
  | _ => false

/-- R8. -/
def answerClearFault (p : Part) (filter : Byte) : Answer :=
  onFilter p filter fun f r =>
  unlessFails p r.state.isFaulted .state <|
  okay (p.changeFilter f fun r => { r with state := .outOfService, aborts := 0 })

/-- R9: the flags the loading test sets stand when it refuses. -/
def answerToStandby (p : Part) (filter : Byte) : Answer :=
  onFilter p filter fun f r =>
  unlessFails p (r.state == .online) .state <|
  unlessFails p (p.entry f).isNone .state <|
  let (p, ok) := p.loadingTest f r.cfg.area
  unlessFails p ok .loading <|
  okay (p.startTransfer f .toStandby)

/-- R10. -/
def answerToService (p : Part) (filter : Byte) : Answer :=
  onFilter p filter fun f r =>
  unlessFails p (r.state == .standby) .state <|
  unlessFails p (p.entry f).isNone .state <|
  okay (p.startTransfer f .toService)

def Part.setCursor (p : Part) (c : Option Nat) : Part := { p with link := { p.link with cursor := c } }

/-- R19: a chunk from a starting number. -/
def answerChunk (p : Part) (start : Nat) : Answer :=
  let views := p.chunk start
  match views.getLast? with
  | none => (p.setCursor none, .endOfRead, .none)
  | some v => (p.setCursor (some (filterNumber v.filter + 1)), .ok, .filters views)

/-- R19. -/
def answerFiltersFirst (p : Part) (start : Byte) : Answer :=
  unlessSurveying p <| named p (filterOf start) fun f => answerChunk p (filterNumber f)

/-- R19. -/
def answerFiltersNext (p : Part) : Answer :=
  unlessSurveying p <|
  match p.link.cursor with
  | none => refuse p .state
  | some c => answerChunk p c

/-! ### Queue (R50 to R54, R58, R83, R84) -/

/-- R53: an override field: 0xFF for none, else an installed slot. -/
def Part.overrideOf (p : Part) (b : Byte) : Option (Option SlotId) :=
  if b = noneByte then some none
  else
    match slotOf b with
    | some s => if (p.recipe s).isSome then some (some s) else none
    | none => none

/-- R53: the entry upgraded to MANUAL, and a proposal for its filter withdrawn (Table 4-3). -/
def Part.upgradeManual (p : Part) (e : Entry) (override : Option SlotId) : Part :=
  let e' := { e with cls := .manual, source := .host, override := override, deferUntil := none }
  let p := ((p.cancel (.deferExpiry e.filter)).putEntry e').reportRequest .upgraded e' (some e.cls) none
  (p.withdrawFor e.filter .manual).trigger

/-- R53, Table 3-6. -/
def answerRequestWash (p : Part) (filter override : Byte) : Answer :=
  onFilter p filter fun f r =>
  named p (p.overrideOf override) fun o =>
  match r.state, p.entry f with
  | .online, none | .standby, none => okay (p.addEntry f .manual .host r.u o)
  | .online, some e =>
    match e.cls with
    | .terminal | .routine | .early => okay (p.upgradeManual e o)
    | .breakthrough | .restart | .manual => refuse p .state
  | _, _ => refuse p .state

/-- R54. -/
def answerCancelRequest (p : Part) (filter : Byte) : Answer :=
  onFilter p filter fun f _ =>
  match p.entry f with
  | none => refuse p .state
  | some e =>
    match e.cls with
    | .manual | .early => okay (p.expelEntry f .cancelled)
    | .breakthrough | .restart | .terminal | .routine => refuse p .state

/-- Defer-until of a number of minutes from now, none for 0. -/
def Part.deferTime (p : Part) (minutes : Nat) : Option Nat :=
  if minutes = 0 then none else some (secondsOn p.clock (60 * minutes))

/-- R50. -/
def answerDefer (p : Part) (filter : Byte) (minutes : Half) : Answer :=
  onFilter p filter fun f _ =>
  unlessFails p (decide (minutes.toNat ≤ 1440)) .range <|
  match p.entry f with
  | none => refuse p .state
  | some e => okay (p.setDefer e (p.deferTime minutes.toNat))

/-- R51, Table 4-3: the mask replaced, and a proposal whose entry's class it holds withdrawn. -/
def Part.changeMask (p : Part) (m : BitVec 6) : Part :=
  if m = p.sched.mask then p
  else
    let p := { p with sched := { p.sched with mask := m } }
    let p := match p.sched.proposal with
      | some pr => if (p.entry pr.filter).any (fun e : Entry => hasClass m e.cls) then p.withdraw .mask none else p
      | none => p
    p.trigger

/-- R51. -/
def answerSetMask (p : Part) (set : Byte) : Answer :=
  inOperating p <| named p (classSetOf set) fun m => okay (p.changeMask m)

/-- R58. -/
def answerGetQueue (p : Part) (first : Byte) : Answer :=
  unlessSurveying p <|
  let k := first.toNat
  unlessFails p (decide (1 ≤ k ∧ k ≤ 16)) .range <|
  let q := p.sched.queue
  if q.length < k then (p, .endOfRead, .queue q.length p.sched.mask [])
  else (p, .ok, .queue q.length p.sched.mask ((numbered k (q.drop (k - 1))).take 8))

/-- The proposal record emptied, with no report. -/
def Part.emptyProposal (p : Part) : Part :=
  ({ p with sched := { p.sched with proposal := none } }).cancel .proposalExpiry

/-- R83 on the entry of the outstanding proposal. -/
def answerAcceptEntry (p : Part) (e : Entry) : Answer :=
  match p.tests e with
  | (p, some b) => (p.withdraw .blocked none, .blocked, .reason b)
  | (p, none) => (p.emptyProposal.admitEntry e, .ok, .laneOf (p.idleLane.getD .a))

/-- R83. -/
def answerAccept (p : Part) (filter : Byte) : Answer :=
  inOperating p <|
  named p (filterOf filter) fun f =>
  match p.sched.proposal, p.entry f with
  | some pr, some e => if pr.filter = f then answerAcceptEntry p e else refuse p .late
  | _, _ => refuse p .late

/-- R84 on the entry of the outstanding proposal. -/
def Part.decline (p : Part) (e : Entry) (minutes : Nat) : Part :=
  match p.deferTime minutes with
  | some t => (p.setDefer e (some t)).withdraw .declined (some t)
  | none => p.withdraw .declined none

/-- R84. -/
def answerDecline (p : Part) (filter : Byte) (minutes : Half) : Answer :=
  inOperating p <|
  named p (filterOf filter) fun f =>
  unlessFails p (decide (minutes.toNat ≤ 1440)) .range <|
  match p.sched.proposal, p.entry f with
  | some pr, some e => if pr.filter = f then okay (p.decline e minutes.toNat) else refuse p .late
  | _, _ => refuse p .late

/-! ### Recipes (R96, R97, R101 to R103) -/

/-- R96. -/
def answerRecipeBegin (p : Part) (slot n : Byte) : Answer :=
  unlessSurveying p <|
  named p (slotOf slot) fun s =>
  unlessFails p (decide (1 ≤ n.toNat ∧ n.toNat ≤ 16)) .range <|
  okay (p.setStaging (some ⟨s, n.toNat, []⟩))

/-- R97. -/
def answerRecipePhases (p : Part) (count : Byte) (rest : List Byte) : Answer :=
  unlessSurveying p <|
  if 1 ≤ count.toNat ∧ count.toNat ≤ 8 ∧ rest.length = 11 * count.toNat then p.stage (rawPhasesOf rest)
  else (p, .length, .picture p.stagingPicture)

/-- R103. -/
def answerRecipeErase (p : Part) (slot : Byte) : Answer :=
  unlessSurveying p <|
  named p (slotOf slot) fun s =>
  unlessFails p (!p.slotNamed s) .inUse <|
  unlessFails p (!p.slotRun s) .inUse <|
  okay (p.eraseSlot s)

/-- R101. -/
def answerGetSignature (p : Part) (slot : Byte) : Answer :=
  unlessSurveying p <| named p (slotOf slot) fun s => (p, .ok, .signature (p.viewSignature s))

/-- R102. -/
def answerGetRecipe (p : Part) (slot first : Byte) : Answer :=
  unlessSurveying p <|
  named p (slotOf slot) fun s =>
  let k := first.toNat
  unlessFails p (decide (1 ≤ k ∧ k ≤ 16)) .range <|
  match p.recipe s with
  | none => (p, .endOfRead, .recipeEnd none)
  | some r =>
    if r.phases.length < k then (p, .endOfRead, .recipeEnd (some r.phases.length))
    else (p, .ok, .phases r.phases.length r.signature ((numbered k (r.phases.drop (k - 1))).take 8))

/-! ### Lanes (R130 to R134) -/

/-- The reply of an accepted lane command: state and hold cause set after it. -/
def Part.answerLane (p : Part) (l : LaneId) : Answer :=
  (p, .ok, .laneNow ((p.lane l).map (·.state))
    (match p.lane l with
    | some w => w.holds
    | none => HoldSet.empty))

/-- R131, R133: the lane is in ACQUIRING to HELD. -/
def Part.laneHoldable (p : Part) (l : LaneId) : Bool := (p.lane l).any fun w => w.state.holdable

/-- R131. -/
def answerHold (p : Part) (lane : Byte) : Answer :=
  inOperating p <|
  named p (laneOfByte lane) fun l =>
  unlessFails p (p.laneHoldable l) .state <|
  (p.join l .host).answerLane l

/-- R132. -/
def answerResume (p : Part) (lane : Byte) : Answer :=
  inOperating p <|
  named p (laneOfByte lane) fun l =>
  unlessFails p ((p.lane l).any fun w => w.state.isHeld) .state <|
  (p.laneResume l).answerLane l

/-- R133 on a lane. -/
def answerAbortLane (p : Part) (l : LaneId) : Answer :=
  unlessFails p (p.laneHoldable l) .state <| (p.abortLane l .host).answerLane l

/-- R133: form 0 names a lane, form 1 a filter. -/
def answerAbort (p : Part) (form target : Byte) : Answer :=
  inOperating p <|
  if form = 0 then named p (laneOfByte target) fun l => answerAbortLane p l
  else if form = 1 then
    named p (filterOf target) fun f =>
    match p.laneWashing f with
    | some l => answerAbortLane p l
    | none => refuse p .state
  else refuse p .range

/-- R134. -/
def answerGetLanes (p : Part) : Answer := unlessSurveying p (p, .ok, .lanes (p.viewLane .a) (p.viewLane .b))

/-! ### Units (R146, R147, R149) -/

/-- EQUIPMENT_COMMAND actions in code order (11.4). -/
inductive UnitAction where
  | lock | unlock | resetFault
  deriving DecidableEq, Repr

def unitActionOf (b : Byte) : Option UnitAction :=
  if b = 0 then some .lock else if b = 1 then some .unlock else if b = 2 then some .resetFault else none

def Part.answerUnit (p : Part) (u : UnitId) : Answer := (p, .ok, .unitNow (p.unit u).state)

/-- R146 LOCK. -/
def answerLockUnit (p : Part) (u : UnitId) : Answer :=
  match (p.unit u).state with
  | .allocated _ | .proving .. | .running _ => refuse p .busy
  | .locked => p.answerUnit u
  | .available | .guarded _ | .failed _ => (p.lockUnit u).answerUnit u

/-- R146 UNLOCK. -/
def answerUnlockUnit (p : Part) (u : UnitId) : Answer :=
  match (p.unit u).state with
  | .locked => (p.restoreUnit u .unlocked).answerUnit u
  | _ => refuse p .state

/-- R147 RESET_FAULT. -/
def answerResetUnit (p : Part) (u : UnitId) : Answer :=
  match (p.unit u).state with
  | .failed _ => (p.restoreUnit u .faultReset).answerUnit u
  | _ => refuse p .state

/-- R146, R147. -/
def answerEquipment (p : Part) (unit action : Byte) : Answer :=
  unlessSurveying p <|
  named p (unitOf unit) fun u =>
  named p (unitActionOf action) fun a =>
  match a with
  | .lock => answerLockUnit p u
  | .unlock => answerUnlockUnit p u
  | .resetFault => answerResetUnit p u

/-- R149. -/
def answerGetEquipment (p : Part) : Answer :=
  unlessSurveying p
    (p, .ok, .equipment (p.viewUnit .p1) (p.viewUnit .p2) (p.viewUnit .bl) p.arb.duty p.arb.pumpWait p.arb.blowerWait)

/-! ### Valves (R158 to R163, R167, R168) -/

/-- A channel field: 0xFF for none, else a channel. -/
def channelOrNone (b : Byte) : Option (Option ChannelId) :=
  if b = noneByte then some none else (channelOf b).map some

def Part.setMapped (p : Part) (ch : ChannelId) (m : Option (FilterId × Role)) : Part :=
  p.putChannel ch { p.channel ch with mappedTo := m }

def Part.setMap (p : Part) (f : FilterId) (r : Role) (ch : Option ChannelId) : Part :=
  { p with valves := { p.valves with map := p.valves.map.set f ((p.valves.map[f]).set r ch) } }

/-- The channel an entry names loses its back-link. -/
def Part.freeMapped (p : Part) (f : FilterId) (r : Role) : Part :=
  match p.mapped f r with
  | some ch => p.setMapped ch none
  | none => p

/-- R159: an accepted MAP_VALVE. -/
def Part.mapValve (p : Part) (f : FilterId) (r : Role) (ch : Option ChannelId) (sense : SwitchSense) : Part :=
  match ch with
  | none => (p.freeMapped f r).setMap f r none
  | some c =>
    if p.mapped f r = some c then p.writeSense c sense
    else (((p.freeMapped f r).setMap f r (some c)).setMapped c (some (f, r))).writeSense c sense

/-- The channel is in travel; no channel is not. -/
def Part.travels (p : Part) (ch : Option ChannelId) : Bool := ch.any fun c => (p.channel c).state.inTravel

/-- R159: the channel named is mapped to another logical valve. -/
def Part.mappedElsewhere (p : Part) (f : FilterId) (r : Role) (ch : Option ChannelId) : Bool :=
  ch.any fun c => (p.channel c).mappedTo.any fun m => m != (f, r)

/-- R159, last check. -/
def Part.mapInterlockOk (p : Part) (f : FilterId) (r : Role) (ch : Option ChannelId) : Bool :=
  !(ch.any fun c => (p.channel c).target == some .opened) || p.interlockOk f r

/-- R159. -/
def answerMapValve (p : Part) (filter role channel sense : Byte) : Answer :=
  unlessSurveying p <|
  named p (filterOf filter) fun f =>
  named p (roleOf role) fun r =>
  named p (channelOrNone channel) fun ch =>
  named p (senseOf sense) fun s =>
  unlessFails p (!p.operating || p.filterOwner f == .window) .state <|
  unlessFails p (!p.mappedElsewhere f r ch) .inUse <|
  unlessFails p (!(p.travels ch || p.travels (p.mapped f r))) .busy <|
  unlessFails p (p.mapInterlockOk f r ch) .interlock <|
  let p := p.mapValve f r ch s
  (p, .ok, .channelNow (ch.map fun c => (p.channel c).state))

/-- 0 LOCK, 1 UNLOCK. -/
def lockActionOf (b : Byte) : Option Bool := if b = 0 then some true else if b = 1 then some false else none

/-- R160. -/
def answerLockChannel (p : Part) (channel action : Byte) : Answer :=
  unlessSurveying p <|
  named p (channelOf channel) fun ch =>
  named p (lockActionOf action) fun lock =>
  unlessFails p (p.ownerOf ch == .window) .state <|
  unlessFails p (!(p.channel ch).state.inTravel) .busy <|
  (p.putChannel ch { p.channel ch with locked := lock }, .ok, .lockFlag lock)

/-- R162. -/
def answerDirectSelect (p : Part) (channel : Byte) : Answer :=
  unlessSurveying p <|
  named p (channelOrNone channel) fun ch =>
  unlessFails p (ch.all fun c => p.ownerOf c == .window) .state <|
  (p.setSelection ch, .ok, .channelNow (ch.map fun c => (p.channel c).state))

/-- DIRECT_DRIVE actions in code order (11.4). -/
inductive DriveAction where
  | openUp | close | stop
  deriving DecidableEq, Repr

def driveActionOf (b : Byte) : Option DriveAction :=
  if b = 0 then some .openUp else if b = 1 then some .close else if b = 2 then some .stop else none

/-- R161: a direct OPEN of the channel passes the interlock. -/
def Part.directOpenOk (p : Part) (ch : ChannelId) : Bool :=
  match (p.channel ch).mappedTo with
  | some (f, r) => p.interlockOk f r
  | none => true

/-- R163: an accepted action. -/
def Part.directDrive (p : Part) (ch : ChannelId) (a : DriveAction) : Part :=
  match a with
  | .openUp => (p.command ch .opened).1
  | .close => (p.command ch .closed).1
  | .stop => if (p.channel ch).state.inTravel then p.derive ch else p

/-- R163. -/
def answerDirectDrive (p : Part) (action : Byte) : Answer :=
  unlessSurveying p <|
  named p (driveActionOf action) fun a =>
  match p.valves.selection with
  | none => refuse p .state
  | some ch =>
    unlessFails p (!p.stopAsserted) .inhibited <|
    unlessFails p (!(p.channel ch).locked) .locked <|
    unlessFails p (!(p.channel ch).state.isFault) .state <|
    unlessFails p (a != .openUp || p.directOpenOk ch) .interlock <|
    let p := p.directDrive ch a
    (p, .ok, .channelIs (p.channel ch).state)

/-- R158: the channel's filter has a lane assigned or a transfer running. -/
def Part.channelBusy (p : Part) (ch : ChannelId) : Bool :=
  match p.ownerOf ch with
  | .lane _ | .transfer => true
  | .window | .none => false

/-- R158. -/
def answerClearChannel (p : Part) (channel : Byte) : Answer :=
  unlessSurveying p <|
  named p (channelOf channel) fun ch =>
  unlessFails p (p.channel ch).state.isFault .state <|
  unlessFails p (!p.channelBusy ch) .busy <|
  let p := p.deriveCleared ch
  (p, .ok, .channelIs (p.channel ch).state)

/-- R168. -/
def answerGetChannels (p : Part) (first count : Byte) : Answer :=
  unlessSurveying p <|
  let a := first.toNat
  let n := count.toNat
  unlessFails p (decide (a ≤ 111 ∧ 1 ≤ n ∧ n ≤ 8 ∧ a + n - 1 ≤ 111)) .range <|
  (p, .ok, .channels p.stopAsserted p.ready p.valves.selection (((allChannels.drop a).take n).map p.viewChannel))

/-- R167. -/
def answerGetChannelFault (p : Part) : Answer := unlessSurveying p (p, .ok, .capture p.valves.capture)

/-! ### All commands (R176 step 3) -/

/-- The command handed to the block that owns its state. -/
def Part.answer (p : Part) : HostCommand → Answer
  | .getIdent => answerIdent p
  | .getStatus => answerStatus p
  | .ping => answerPing p
  | .getLinkErrors => answerLinkErrors p
  | .softReset => answerSoftReset p
  | .commission => answerCommission p
  | .clearSilence => answerClearSilence p
  | .setPlant r => answerSetPlant p r
  | .setMode m => answerSetMode p m
  | .clearCalc => answerClearCalc p
  | .getLoading => answerGetLoading p
  | .setPoint pt src i lo hi => answerSetPoint p pt src i lo hi
  | .putMeasure n rest => answerPutMeasure p n rest
  | .getPoints a n => answerGetPoints p a n
  | .setFilter f form c => answerSetFilter p f form c
  | .takeOut f => answerTakeOut p f
  | .putIn f c => answerPutIn p f c
  | .clearFault f => answerClearFault p f
  | .toStandby f => answerToStandby p f
  | .toService f => answerToService p f
  | .filtersFirst f => answerFiltersFirst p f
  | .filtersNext => answerFiltersNext p
  | .requestWash f o => answerRequestWash p f o
  | .cancelRequest f => answerCancelRequest p f
  | .defer f m => answerDefer p f m
  | .setMask s => answerSetMask p s
  | .getQueue k => answerGetQueue p k
  | .accept f => answerAccept p f
  | .decline f m => answerDecline p f m
  | .recipeBegin s n => answerRecipeBegin p s n
  | .recipePhases n rest => answerRecipePhases p n rest
  | .recipeErase s => answerRecipeErase p s
  | .getRecipeSignature s => answerGetSignature p s
  | .getRecipe s k => answerGetRecipe p s k
  | .hold l => answerHold p l
  | .resume l => answerResume p l
  | .abort form t => answerAbort p form t
  | .getLanes => answerGetLanes p
  | .equipmentCommand u a => answerEquipment p u a
  | .getEquipment => answerGetEquipment p
  | .mapValve f r c s => answerMapValve p f r c s
  | .lockChannel c a => answerLockChannel p c a
  | .directSelect c => answerDirectSelect p c
  | .directDrive a => answerDirectDrive p a
  | .clearChannel c => answerClearChannel p c
  | .getChannels a n => answerGetChannels p a n
  | .getChannelFault => answerGetChannelFault p

end Sys2Proof.Machine
end

