-- ==== Sys2Proof/WellFormed.lean ====
section
/-! DEFINITION. Which commands are well formed: what the operand types alone do not say. -/

namespace Sys2Proof

/-- The kinds of Table 11-6; every other kind is answered UNKNOWN_KIND (R176). -/
def commandKinds : List Byte :=
  [0x01, 0x02, 0x03, 0x04, 0x05, 0x06, 0x07, 0x08, 0x09, 0x0A, 0x0B] ++
  [0x10, 0x11, 0x12] ++
  [0x18, 0x19, 0x1A, 0x1B, 0x1C, 0x1D, 0x1E, 0x1F] ++
  [0x20, 0x21, 0x22, 0x23, 0x24, 0x25, 0x26] ++
  [0x28, 0x29, 0x2A, 0x2B, 0x2C] ++
  [0x30, 0x31, 0x32, 0x33, 0x34, 0x35] ++
  [0x38, 0x39, 0x3A, 0x3B, 0x3C, 0x3D, 0x3E]

/-- Largest payload of a frame (R171). -/
def maxPayload : Nat := 200

/-- A payload of a frame holds at most 200 bytes (R171); a frame of UNKNOWN_KIND_COMMAND has a kind that is
not in Table 11-6; the scheduler is told of FLOW, TANK and BASIN and a lane of TANK, BASIN and turbidity
points only (R30). -/
def Instr.wf : Instr → Bool
  | .putMeasure _ pairs => 1 + 3 * pairs.length ≤ maxPayload
  | .recipePhases _ records => 1 + 11 * records.length ≤ maxPayload
  | .unknownKindCommand _ kind payload => !commandKinds.contains kind && payload.length ≤ maxPayload
  | .schedulerMeasureChange p =>
    match p with
    | .flow | .tank | .basin => true
    | .hl _ | .tb _ => false
  | .lanePointChange _ p =>
    match p with
    | .tank | .basin | .tb _ => true
    | .flow | .hl _ => false
  | _ => true

end Sys2Proof
end

