-- ==== Sys2Proof/Machine/Link.lean ====
section
/-! DEFINITION. Supervisory link port: the receive process, the receive queue, command handling, the transmitter
(spec/09_supervisory_link.md). -/

namespace Sys2Proof.Machine

/-! ### Replies (R171, R176, R179) -/

/-- R171: the kind of a reply. -/
def replyKind (kind : Byte) : Byte := kind ||| 0x80

/-- R176, R179: the reply goes to the buffer, and a free transmitter begins it. -/
def Part.putReply (p : Part) (r : Reply) : Part :=
  { p with link := { p.link with reply := some r }.beginSend }

/-- An answered command: its reply formed and placed. -/
def finish (kind tag : Byte) (a : Answer) : Part := a.1.putReply ⟨replyKind kind, tag, a.2.1, a.2.2⟩

/-- R176 step 3: one command handled. -/
def Part.handle (p : Part) (tag : Byte) (c : HostCommand) : Part := finish c.kind tag (p.answer c)

/-- R176: one frame taken: kind, length, command. -/
def Part.handleFrame (p : Part) (f : Frame) : Part :=
  match f.command with
  | .error r => finish f.kind f.tag (refuse p r)
  | .ok c => p.handle f.tag c

/-- R176, R185: command handling may take a frame: reply buffer empty, no SOFT_RESET accepted. -/
def Part.mayTake (p : Part) : Bool := p.link.reply.isNone && p.link.softReset == .none

/-- R176: frames are taken, oldest first, while the reply buffer is empty. The fuel bounds the frames waiting (2) and
the one that has just come. -/
def Part.serve (p : Part) : Nat → Part
  | 0 => p
  | fuel + 1 =>
    if p.mayTake then
      match p.link.queue with
      | f :: rest => (({ p with link := { p.link with queue := rest } }).handleFrame f).serve fuel
      | [] => p
    else p

/-- Frames that can be waiting when command handling starts. -/
def serveFuel : Nat := 3

/-! ### Frames arriving (R175) -/

/-- R175: the frame joins the queue and is accepted, or is an overrun. -/
def Part.arriveFrame (p : Part) (f : Frame) : Part :=
  if p.link.queue.length < 2 then
    (({ p with link := { p.link with queue := p.link.queue ++ [f] } }).frameAccepted).serve serveFuel
  else p.linkError

/-- Nothing waits: a frame that arrives is handled at once. -/
def Part.linkReady (p : Part) : Bool := p.mayTake && p.link.queue.isEmpty

/-- A command's frame arrives whole and good (log 1): it is accepted and handled at once where nothing waits, and
otherwise joins the receive queue or overruns it. -/
def Part.submit (p : Part) (tag : Byte) (c : HostCommand) : Part :=
  if p.linkReady then p.frameAccepted.handle tag c else p.arriveFrame (c.frame tag)

/-! ### The receive process (R172 to R174) -/

def Part.setRx (p : Part) (x : RxState) : Part := { p with link := { p.link with rx := x } }

/-- R172: header bytes examined anew, as while hunting: assembly starts after the first SOF among them. -/
def rescan : List Byte → RxState
  | [] => .hunting
  | c :: rest => if c = sof then .assembling rest else rescan rest

/-- R173: the two CRC bytes and the CRC over what came before them. -/
def crcGood (got : List Byte) : Bool :=
  let n := got.length - 2
  crc16 (got.take n) == joinBytes (byteAt got n) (byteAt got (n + 1))

/-- A whole frame: CRC checked, handed over or discarded (R173). -/
def Part.completeFrame (p : Part) (got : List Byte) : Part :=
  let p := p.setRx .hunting
  if crcGood got then
    p.arriveFrame ⟨byteAt got 0, byteAt got 1, (got.drop 4).take (got.length - 6)⟩
  else p.linkError

/-- R172: HCHK, then LEN. -/
def headerGood (got : List Byte) : Bool :=
  byteAt got 3 == headerCheck (byteAt got 0) (byteAt got 1) (byteAt got 2) && decide ((byteAt got 2).toNat ≤ maxPayload)

/-- R172: one character while assembling. -/
def Part.collect (p : Part) (got : List Byte) : Part :=
  if got.length = 4 ∧ !headerGood got then (p.setRx (rescan got)).linkError
  else if got.length = (byteAt got 2).toNat + 6 ∧ 4 ≤ got.length then p.completeFrame got
  else p.setRx (.assembling got)

/-- R172: a character arrives. -/
def Part.takeCharacter (p : Part) (c : Byte) : Part :=
  match p.link.rx with
  | .hunting => if c = sof then p.setRx (.assembling []) else p
  | .assembling got => p.collect (got ++ [c])

/-- R173: a gap or a bad character ends the frame being assembled with one link error; while hunting neither counts. -/
def Part.abandonFrame (p : Part) : Part :=
  match p.link.rx with
  | .hunting => p
  | .assembling _ => (p.setRx .hunting).linkError

/-! ### The transmitter (R179, R185) -/

/-- The reply of an accepted SOFT_RESET. -/
def OutMsg.isSoftReset (m : OutMsg) : Bool :=
  match m with
  | .reply r => r.kind == 0x85 && r.result == .ok
  | .report _ => false

/-- R179, R185: the last byte of the frame being sent has gone. The next frame begins, and a freed reply buffer lets
command handling go on; after the reply of an accepted SOFT_RESET only the reset follows (log 26). -/
def Part.frameSent (p : Part) : Part :=
  match p.link.sending with
  | none => p
  | some m =>
    if m.isSoftReset && p.link.softReset == .waiting then
      { p with link := { p.link with sending := none, softReset := .sent } }
    else
      ({ p with link := { p.link with sending := none }.beginSend }).serve serveFuel

end Sys2Proof.Machine
end

