-- ==== Sys2Proof/Machine/RowsHost.lean ====
section
/-! DEFINITION. The meanings of the host commands: the frame of the command arrives whole and good (log 1), and is
accepted, queued or overrun as R175 lays down; what the command does and answers is its rule's (Machine/Handlers.lean). -/

namespace Sys2Proof.Machine

/-- Configuration fields of the undefine form (Table 11-6: ignored). -/
def blankFilter : RawFilter := ⟨0, 0, 0, 0, 0, 0, 0, 0, 0⟩

/-- R180. -/
def execGetIdent (tag : Byte) (s : State) : Host.Outcome State Fault Refusal :=
  act (fun p => p.submit tag .getIdent) s

/-- R181. -/
def execGetStatus (tag : Byte) (s : State) : Host.Outcome State Fault Refusal :=
  act (fun p => p.submit tag .getStatus) s

/-- R180. -/
def execPing (tag : Byte) (s : State) : Host.Outcome State Fault Refusal :=
  act (fun p => p.submit tag .ping) s

/-- R174. -/
def execGetLinkErrors (tag : Byte) (s : State) : Host.Outcome State Fault Refusal :=
  act (fun p => p.submit tag .getLinkErrors) s

/-- R185. -/
def execSoftReset (tag : Byte) (s : State) : Host.Outcome State Fault Refusal :=
  act (fun p => p.submit tag .softReset) s

/-- R186. -/
def execCommission (tag : Byte) (s : State) : Host.Outcome State Fault Refusal :=
  act (fun p => p.submit tag .commission) s

/-- R191. -/
def execClearSilence (tag : Byte) (s : State) : Host.Outcome State Fault Refusal :=
  act (fun p => p.submit tag .clearSilence) s

/-- R62. -/
def execSetPlant (tag : Byte) (r : RawPlant) (s : State) : Host.Outcome State Fault Refusal :=
  act (fun p => p.submit tag (.setPlant r)) s

/-- R60. -/
def execSetMode (tag mode : Byte) (s : State) : Host.Outcome State Fault Refusal :=
  act (fun p => p.submit tag (.setMode mode)) s

/-- R87. -/
def execClearCalc (tag : Byte) (s : State) : Host.Outcome State Fault Refusal :=
  act (fun p => p.submit tag .clearCalc) s

/-- R81. -/
def execGetLoading (tag : Byte) (s : State) : Host.Outcome State Fault Refusal :=
  act (fun p => p.submit tag .getLoading) s

/-- R22. -/
def execSetPoint (tag point source input : Byte) (lo hi : Half) (s : State) : Host.Outcome State Fault Refusal :=
  act (fun p => p.submit tag (.setPoint point source input lo hi)) s

/-- R28, R29. -/
def execPutMeasure (tag : Byte) (pairs : List (Byte × Half)) (s : State) : Host.Outcome State Fault Refusal :=
  act (fun p => p.submit tag (.putMeasure (BitVec.ofNat 8 pairs.length) (pairBytes pairs))) s

/-- R35. -/
def execGetPoints (tag first count : Byte) (s : State) : Host.Outcome State Fault Refusal :=
  act (fun p => p.submit tag (.getPoints first count)) s

/-- R1: form 0, define. -/
def execSetFilterDefine (tag filter : Byte) (c : RawFilter) (s : State) : Host.Outcome State Fault Refusal :=
  act (fun p => p.submit tag (.setFilter filter 0 c)) s

/-- R2: form 1, undefine; its configuration fields are ignored. -/
def execSetFilterUndefine (tag filter : Byte) (s : State) : Host.Outcome State Fault Refusal :=
  act (fun p => p.submit tag (.setFilter filter 1 blankFilter)) s

/-- R6. -/
def execTakeOut (tag filter : Byte) (s : State) : Host.Outcome State Fault Refusal :=
  act (fun p => p.submit tag (.takeOut filter)) s

/-- R7. -/
def execPutIn (tag filter condition : Byte) (s : State) : Host.Outcome State Fault Refusal :=
  act (fun p => p.submit tag (.putIn filter condition)) s

/-- R8. -/
def execClearFault (tag filter : Byte) (s : State) : Host.Outcome State Fault Refusal :=
  act (fun p => p.submit tag (.clearFault filter)) s

/-- R9. -/
def execToStandby (tag filter : Byte) (s : State) : Host.Outcome State Fault Refusal :=
  act (fun p => p.submit tag (.toStandby filter)) s

/-- R10. -/
def execToService (tag filter : Byte) (s : State) : Host.Outcome State Fault Refusal :=
  act (fun p => p.submit tag (.toService filter)) s

/-- R19. -/
def execFiltersFirst (tag start : Byte) (s : State) : Host.Outcome State Fault Refusal :=
  act (fun p => p.submit tag (.filtersFirst start)) s

/-- R19. -/
def execFiltersNext (tag : Byte) (s : State) : Host.Outcome State Fault Refusal :=
  act (fun p => p.submit tag .filtersNext) s

/-- R53. -/
def execRequestWash (tag filter override : Byte) (s : State) : Host.Outcome State Fault Refusal :=
  act (fun p => p.submit tag (.requestWash filter override)) s

/-- R54. -/
def execCancelRequest (tag filter : Byte) (s : State) : Host.Outcome State Fault Refusal :=
  act (fun p => p.submit tag (.cancelRequest filter)) s

/-- R50. -/
def execDefer (tag filter : Byte) (minutes : Half) (s : State) : Host.Outcome State Fault Refusal :=
  act (fun p => p.submit tag (.defer filter minutes)) s

/-- R51. -/
def execSetMask (tag set : Byte) (s : State) : Host.Outcome State Fault Refusal :=
  act (fun p => p.submit tag (.setMask set)) s

/-- R58. -/
def execGetQueue (tag first : Byte) (s : State) : Host.Outcome State Fault Refusal :=
  act (fun p => p.submit tag (.getQueue first)) s

/-- R83. -/
def execAccept (tag filter : Byte) (s : State) : Host.Outcome State Fault Refusal :=
  act (fun p => p.submit tag (.accept filter)) s

/-- R84. -/
def execDecline (tag filter : Byte) (minutes : Half) (s : State) : Host.Outcome State Fault Refusal :=
  act (fun p => p.submit tag (.decline filter minutes)) s

/-- R96. -/
def execRecipeBegin (tag slot n : Byte) (s : State) : Host.Outcome State Fault Refusal :=
  act (fun p => p.submit tag (.recipeBegin slot n)) s

/-- R97, R98. -/
def execRecipePhases (tag : Byte) (records : List RawPhase) (s : State) : Host.Outcome State Fault Refusal :=
  act (fun p => p.submit tag (.recipePhases (BitVec.ofNat 8 records.length) (rawPhaseBytes records))) s

/-- R103. -/
def execRecipeErase (tag slot : Byte) (s : State) : Host.Outcome State Fault Refusal :=
  act (fun p => p.submit tag (.recipeErase slot)) s

/-- R101. -/
def execGetRecipeSignature (tag slot : Byte) (s : State) : Host.Outcome State Fault Refusal :=
  act (fun p => p.submit tag (.getRecipeSignature slot)) s

/-- R102. -/
def execGetRecipe (tag slot first : Byte) (s : State) : Host.Outcome State Fault Refusal :=
  act (fun p => p.submit tag (.getRecipe slot first)) s

/-- R131. -/
def execHold (tag lane : Byte) (s : State) : Host.Outcome State Fault Refusal :=
  act (fun p => p.submit tag (.hold lane)) s

/-- R132. -/
def execResume (tag lane : Byte) (s : State) : Host.Outcome State Fault Refusal :=
  act (fun p => p.submit tag (.resume lane)) s

/-- R133. -/
def execAbort (tag form target : Byte) (s : State) : Host.Outcome State Fault Refusal :=
  act (fun p => p.submit tag (.abort form target)) s

/-- R134. -/
def execGetLanes (tag : Byte) (s : State) : Host.Outcome State Fault Refusal :=
  act (fun p => p.submit tag .getLanes) s

/-- R146: action 0, LOCK. -/
def execEquipmentLock (tag unit : Byte) (s : State) : Host.Outcome State Fault Refusal :=
  act (fun p => p.submit tag (.equipmentCommand unit 0)) s

/-- R146: action 1, UNLOCK. -/
def execEquipmentUnlock (tag unit : Byte) (s : State) : Host.Outcome State Fault Refusal :=
  act (fun p => p.submit tag (.equipmentCommand unit 1)) s

/-- R147: action 2, RESET_FAULT. -/
def execEquipmentResetFault (tag unit : Byte) (s : State) : Host.Outcome State Fault Refusal :=
  act (fun p => p.submit tag (.equipmentCommand unit 2)) s

/-- R149. -/
def execGetEquipment (tag : Byte) (s : State) : Host.Outcome State Fault Refusal :=
  act (fun p => p.submit tag .getEquipment) s

/-- R159. -/
def execMapValve (tag filter role channel sense : Byte) (s : State) : Host.Outcome State Fault Refusal :=
  act (fun p => p.submit tag (.mapValve filter role channel sense)) s

/-- R160: action 0, LOCK. -/
def execLockChannelLock (tag channel : Byte) (s : State) : Host.Outcome State Fault Refusal :=
  act (fun p => p.submit tag (.lockChannel channel 0)) s

/-- R160: action 1, UNLOCK. -/
def execLockChannelUnlock (tag channel : Byte) (s : State) : Host.Outcome State Fault Refusal :=
  act (fun p => p.submit tag (.lockChannel channel 1)) s

/-- R162. -/
def execDirectSelect (tag channel : Byte) (s : State) : Host.Outcome State Fault Refusal :=
  act (fun p => p.submit tag (.directSelect channel)) s

/-- R163: action 0, OPEN. -/
def execDirectDriveOpen (tag : Byte) (s : State) : Host.Outcome State Fault Refusal :=
  act (fun p => p.submit tag (.directDrive 0)) s

/-- R163: action 1, CLOSE. -/
def execDirectDriveClose (tag : Byte) (s : State) : Host.Outcome State Fault Refusal :=
  act (fun p => p.submit tag (.directDrive 1)) s

/-- R163: action 2, STOP. -/
def execDirectDriveStop (tag : Byte) (s : State) : Host.Outcome State Fault Refusal :=
  act (fun p => p.submit tag (.directDrive 2)) s

/-- R158. -/
def execClearChannel (tag channel : Byte) (s : State) : Host.Outcome State Fault Refusal :=
  act (fun p => p.submit tag (.clearChannel channel)) s

/-- R168. -/
def execGetChannels (tag first count : Byte) (s : State) : Host.Outcome State Fault Refusal :=
  act (fun p => p.submit tag (.getChannels first count)) s

/-- R167. -/
def execGetChannelFault (tag : Byte) (s : State) : Host.Outcome State Fault Refusal :=
  act (fun p => p.submit tag .getChannelFault) s

end Sys2Proof.Machine
end

