-- ==== Sys2Proof/Machine/Urgency.lean ====
section
/-! DEFINITION. Urgency of a filter (R37 to R44). -/

namespace Sys2Proof.Machine

/-- One fraction before clamping, and whether a STALE point was met. -/
structure Fraction where
  value : Nat
  stale : Bool
  deriving DecidableEq, Repr

/-- R37, R38: the fraction a point gives by its quality. -/
def fractionOf (x : Point) (g : Nat → Nat) : Fraction :=
  match x.quality, x.value with
  | .good, some v | .over, some v | .held, some v => ⟨g v, false⟩
  | .stale, _ => ⟨0, true⟩
  | _, _ => ⟨0, false⟩

/-- R37. -/
def headlossFraction (c : FilterConfig) (x : Point) : Fraction :=
  fractionOf x fun h => 1000 * (h - c.h0) / (c.ht - c.h0)

/-- R38: 0 while the filter is arming, whatever the point. -/
def turbidityFraction (r : FilterRecord) (x : Point) : Fraction :=
  if r.armedMin < r.cfg.arming then ⟨0, false⟩ else fractionOf x fun t => 1000 * t / r.cfg.tt

/-- R39. -/
def runtimeFraction (r : FilterRecord) : Nat := 1000 * r.runMin / r.cfg.rmax

/-- The largest urgency (R40). -/
def urgencyMax : Nat := 1999

/-- Outcome of one evaluation. -/
structure Evaluation where
  u        : Nat
  dominant : DominantTerm
  cls      : Option RequestClass
  sat      : Bool
  stale    : Bool
  deriving DecidableEq, Repr

/-- R40, R43: index, dominant term, class and flags from the three fractions. -/
def evaluationOf (h t : Fraction) (r : Nat) : Evaluation :=
  let fh := min h.value urgencyMax
  let ft := min t.value urgencyMax
  let fr := min r urgencyMax
  let u := max fh (max ft fr)
  { u := u
    dominant := if ft = u then .turbidity else if fh = u then .headloss else .runtime
    cls := if 1000 ≤ ft then some .breakthrough else if 1000 ≤ fh then some .terminal
      else if 1000 ≤ fr then some .routine else none
    sat := decide (urgencyMax < h.value) || decide (urgencyMax < t.value) || decide (urgencyMax < r)
    stale := h.stale || t.stale }

def Part.evaluation (p : Part) (f : FilterId) (r : FilterRecord) : Evaluation :=
  evaluationOf (headlossFraction r.cfg (p.point (.hl f))) (turbidityFraction r (p.point (.tb f))) (runtimeFraction r)

/-- R41, R44: a filter ONLINE with no transfer is evaluated: flags, index, then the scheduler's queue. -/
def Part.evaluate (p : Part) (f : FilterId) : Part :=
  match p.filter f with
  | some r =>
    if r.state = .online ∧ r.transfer = none then
      let e := p.evaluation f r
      let p := p.setFlags ⟨e.sat, false, e.stale, false⟩ (.urgency f)
      (p.modFilter f fun r => { r with u := e.u, dominant := e.dominant }).takeEvaluation f e.u e.cls
    else p
  | none => p

end Sys2Proof.Machine
end

