-- ==== Sys2Proof/Machine/RowsPart.lean ====
section
/-! DEFINITION. The meanings of the rows of the part's own and of the field: resets, the clock, notices, timers, inputs,
characters. The row of an event acts while that event is outstanding (log 3). -/

namespace Sys2Proof.Machine

/-! ### Resets and supply (R184, R185) -/

/-- R184: the supply comes up. A RESET line still asserted holds the part (log 11). -/
def execPowerOnReset (strap1 strap2 : Level) (s : State) : Host.Outcome State Fault Refusal :=
  .next { s with part := { s.part.hardReset (rateOf strap1 strap2) with resetHeld := s.part.resetHeld } }

/-- R184: the part is reset and held. The straps are read at the release (log 10). -/
def execResetLineAsserted (s : State) : Host.Outcome State Fault Refusal :=
  .next { s with part := { s.part.hardReset s.part.link.rate with supply := s.part.supply, resetHeld := true } }

/-- R184: the reset ends and the straps are read. -/
def execResetLineReleased (strap1 strap2 : Level) (s : State) : Host.Outcome State Fault Refusal :=
  .next { s with part :=
    if s.part.resetHeld then { s.part.hardReset (rateOf strap1 strap2) with supply := s.part.supply } else s.part }

/-- R185: the effect of SOFT_RESET, after the last byte of its reply. -/
def execSoftResetEffect (s : State) : Host.Outcome State Fault Refusal :=
  act (fun p => if p.link.softReset = .sent then p.softResetPart else p) s

/-- R166, R184: without supply nothing acts and every output is off. -/
def execSupplyLoss (s : State) : Host.Outcome State Fault Refusal :=
  .next { s with part := { s.part with supply := false } }

/-! ### Clock and filter time (R15, R42, R183) -/

def execGalleryClockTick (s : State) : Host.Outcome State Fault Refusal := act (fun p => p.tick) s

def execRunMinute (f : FilterId) (s : State) : Host.Outcome State Fault Refusal :=
  takeEvent (.runMinute f) (fun p => p.runMinute f) s

/-- R42: every filter is evaluated, each by an event of its own. -/
def execMinuteTick (s : State) : Host.Outcome State Fault Refusal :=
  takeEvent .minuteTick (fun p => p.raiseAll (allFilters.map .urgency)) s

def execUrgencyEvaluation (f : FilterId) (s : State) : Host.Outcome State Fault Refusal :=
  takeEvent (.urgency f) (fun p => p.evaluate f) s

/-! ### Measurement (R21 to R30) -/

def execAnalogScan (counts : Vector (BitVec 12) 40) (s : State) : Host.Outcome State Fault Refusal :=
  act (fun p => p.scanInputs counts) s

/-- The oldest outstanding sample of a point is taken (R21, R26). -/
def Part.takeOldestSample (p : Part) (id : PointId) : Part :=
  match p.events.find? (Event.isSampleOf id) with
  | some (.sample q c) => ({ p with events := p.events.erase (.sample q c) }).takeSample q c
  | _ => p

def execPointSample (id : PointId) (s : State) : Host.Outcome State Fault Refusal :=
  act (fun p => p.takeOldestSample id) s

def execPointStale (id : PointId) (s : State) : Host.Outcome State Fault Refusal :=
  takeEvent (.stale id) (fun p => p.goStale id) s

def execSchedulerMeasureChange (id : PointId) (s : State) : Host.Outcome State Fault Refusal :=
  takeEvent (.schedulerMeasure id) (fun p => p.schedulerMeasure id) s

def execLanePointChange (l : LaneId) (id : PointId) (s : State) : Host.Outcome State Fault Refusal :=
  takeEvent (.lanePoint l id) (fun p => p.lanePoint l id) s

/-! ### Scheduler -/

def execOverloadDeadline (s : State) : Host.Outcome State Fault Refusal :=
  takeEvent .overloadDeadline (fun p => p.overloadFalls) s

def execDeferExpiry (f : FilterId) (s : State) : Host.Outcome State Fault Refusal :=
  takeEvent (.deferExpiry f) (fun p => p.deferralEnds f) s

/-- R68: the spacing expiry triggers a scan. -/
def execSpacingExpiry (s : State) : Host.Outcome State Fault Refusal :=
  takeEvent .spacingExpiry (fun p => p.trigger) s

def execProposalExpiry (s : State) : Host.Outcome State Fault Refusal :=
  takeEvent .proposalExpiry (fun p => p.proposalExpires) s

def execAdmissionScan (s : State) : Host.Outcome State Fault Refusal := act (fun p => p.runScan) s

/-- R64, R145: a unit becoming AVAILABLE, FAILED or LOCKED triggers a scan. -/
def execSchedulerUnitNotice (u : UnitId) (n : UnitNews) (s : State) : Host.Outcome State Fault Refusal :=
  takeEvent (.schedulerUnitNews u n) (fun p => p.trigger) s

/-! ### Lanes -/

def execLaneSecond (l : LaneId) (s : State) : Host.Outcome State Fault Refusal :=
  takeEvent (.laneSecond l) (fun p => p.countSecond l) s

def execPhaseTimeEnd (l : LaneId) (s : State) : Host.Outcome State Fault Refusal :=
  takeEvent (.phaseTimeEnd l) (fun p => p.endRunning l .time) s

def execRipenConfirmed (l : LaneId) (s : State) : Host.Outcome State Fault Refusal :=
  takeEvent (.ripenConfirmed l) (fun p => p.endRunning l .confirmed) s

def execHoldLimitExpiry (l : LaneId) (s : State) : Host.Outcome State Fault Refusal :=
  takeEvent (.holdLimit l) (fun p => p.holdLimitFalls l) s

def execLaneRoleArrival (l : LaneId) (r : Role) (s : State) : Host.Outcome State Fault Refusal :=
  takeEvent (.roleArrival l r) (fun p => p.laneArrival l r) s

def execLaneChannelFault (l : LaneId) (r : Role) (s : State) : Host.Outcome State Fault Refusal :=
  takeEvent (.roleFault l r) (fun p => p.laneFault l) s

def execLaneRoleDrift (l : LaneId) (r : Role) (s : State) : Host.Outcome State Fault Refusal :=
  takeEvent (.roleDrift l r) (fun p => p.laneDrift l r) s

def execLaneGrant (l : LaneId) (u : UnitId) (s : State) : Host.Outcome State Fault Refusal :=
  takeEvent (.grant l u) (fun p => p.laneGrant l u) s

def execLaneUnitProven (l : LaneId) (u : UnitId) (s : State) : Host.Outcome State Fault Refusal :=
  takeEvent (.proven l u) (fun p => p.checkStarted l) s

def execLaneProveFailed (l : LaneId) (u : UnitId) (s : State) : Host.Outcome State Fault Refusal :=
  takeEvent (.proveFailed l u) (fun p => p.laneProveFailed l u) s

def execLaneUnitTripped (l : LaneId) (u : UnitId) (s : State) : Host.Outcome State Fault Refusal :=
  takeEvent (.tripped l u) (fun p => p.laneTripped l u) s

def execLaneUnitNotice (l : LaneId) (u : UnitId) (n : UnitNews) (s : State) : Host.Outcome State Fault Refusal :=
  takeEvent (.laneUnitNews l u n) (fun p => p.laneNews l n) s

/-- STOP notices of a lane. -/
def Event.isStopOf (l : LaneId) (e : Event) : Bool :=
  match e with
  | .laneStopAsserted m | .laneStopReleased m => m == l
  | _ => false

/-- The STOP notices of one lane are taken in the order they were sent (log 4): the row takes its notice when that one
is the oldest. -/
def takeStopNotice (l : LaneId) (e : Event) (g : Part → Part) (s : State) : Host.Outcome State Fault Refusal :=
  act (fun p =>
    if p.events.find? (Event.isStopOf l) = some e then g { p with events := p.events.erase e } else p) s

def execLaneStopAsserted (l : LaneId) (s : State) : Host.Outcome State Fault Refusal :=
  takeStopNotice l (.laneStopAsserted l) (fun p => p.laneStopped l) s

def execLaneStopReleased (l : LaneId) (s : State) : Host.Outcome State Fault Refusal :=
  takeStopNotice l (.laneStopReleased l) (fun p => p.laneReleased l) s

/-! ### Transfers and filter faults -/

def execTransferRoleArrival (f : FilterId) (r : Role) (s : State) : Host.Outcome State Fault Refusal :=
  takeEvent (.transferArrival f r) (fun p => p.advanceTransfer f 3) s

/-- R13; a fault whose transfer has ended meanwhile acts by the filter's state (log 17). -/
def execTransferChannelFault (f : FilterId) (r : Role) (s : State) : Host.Outcome State Fault Refusal :=
  takeEvent (.transferFault f r) (fun p => p.tableFault f r) s

def execTransferRoleDrift (f : FilterId) (r : Role) (s : State) : Host.Outcome State Fault Refusal :=
  takeEvent (.transferDrift f r) (fun p => p.transferDrifts f r) s

def execTransferStopReleased (f : FilterId) (s : State) : Host.Outcome State Fault Refusal :=
  takeEvent (.transferStopReleased f) (fun p => p.transferReleased f) s

/-- R3. -/
def execFilterChannelFault (f : FilterId) (r : Role) (s : State) : Host.Outcome State Fault Refusal :=
  takeEvent (.filterFault f r) (fun p => p.tableFault f r) s

/-! ### Valve field and STOP (R151 to R155, R164, R165, R169) -/

def execLimitReadingChange (ch : ChannelId) (which : Limit) (level : Level) (s : State) :
    Host.Outcome State Fault Refusal :=
  act (fun p => p.takeLimit ch which level) s

def execTravelExpiry (ch : ChannelId) (s : State) : Host.Outcome State Fault Refusal :=
  takeEvent (.travelExpiry ch) (fun p => p.travelFails ch) s

/-- R164: a change to asserted, once the input has been taken after the reset. -/
def Part.stopLineAsserted (p : Part) : Part :=
  if p.valves.stop = .released then p.assertStop.report (.stopAsserted p.clock p.travelling) else p

def execStopAsserted (s : State) : Host.Outcome State Fault Refusal := act (fun p => p.stopLineAsserted) s

/-- R165: a change to released, once the input has been taken after the reset. -/
def Part.stopLineReleased (p : Part) : Part := if p.valves.stop = .asserted then p.releaseStop else p

def execStopReleased (s : State) : Host.Outcome State Fault Refusal := act (fun p => p.stopLineReleased) s

/-- R169: STOP first taken after a reset: asserted with the effects of an assertion and no report, or released with no
further effect. -/
def Part.stopFirstTaken (p : Part) (level : Level) : Part :=
  if p.valves.stop = .untaken then
    match level with
    | .deEnergised => p.assertStop
    | .energised => { p with valves := { p.valves with stop := .released } }
  else p

def execStopInputFirstTaken (level : Level) (s : State) : Host.Outcome State Fault Refusal :=
  act (fun p => p.stopFirstTaken level) s

/-! ### Units (R140 to R144) -/

/-- R144: the units in the order P1, P2, BL (log 43). -/
def execArbiterStopAsserted (s : State) : Host.Outcome State Fault Refusal :=
  takeEvent .arbiterStopAsserted (fun p => allUnits.foldl (fun p u => p.stopByLine u) p) s

/-- R141. The pin keeps its level while the part does not work (log 11). -/
def execFeedbackChange (u : UnitId) (level : Level) (s : State) : Host.Outcome State Fault Refusal :=
  .next { s with part :=
    if s.part.live then s.part.takeFeedback u level
    else s.part.putUnit u { s.part.unit u with input := level } }

def execProveExpiry (u : UnitId) (s : State) : Host.Outcome State Fault Refusal :=
  takeEvent (.proveExpiry u) (fun p => p.proveFails u) s

def execGuardEnd (u : UnitId) (s : State) : Host.Outcome State Fault Refusal :=
  takeEvent (.guardEnd u) (fun p => p.guardEnds u) s

/-! ### Start-up (R187, R190) -/

/-- R187: the survey timer runs out; there is one in SURVEYING only. -/
def execSurveyEnd (s : State) : Host.Outcome State Fault Refusal := act (fun p => p.endSurvey) s

def execSilenceExpiry (s : State) : Host.Outcome State Fault Refusal :=
  takeEvent .silenceExpiry (fun p => p.silenceFalls) s

/-! ### Link (R172 to R176, R179) -/

def execReceiveCharacter (c : Byte) (s : State) : Host.Outcome State Fault Refusal :=
  act (fun p => p.takeCharacter c) s

def execCharacterError (s : State) : Host.Outcome State Fault Refusal := act (fun p => p.abandonFrame) s

def execReceiveGapTimeout (s : State) : Host.Outcome State Fault Refusal := act (fun p => p.abandonFrame) s

def execTransmitFrameEnd (s : State) : Host.Outcome State Fault Refusal := act (fun p => p.frameSent) s

/-- R176: a good frame of a kind that is no command arrives. -/
def execUnknownKindCommand (tag kind : Byte) (payload : List Byte) (s : State) : Host.Outcome State Fault Refusal :=
  act (fun p => p.arriveFrame ⟨kind, tag, payload⟩) s

end Sys2Proof.Machine
end

