-- ==== Sys2Proof/Machine/Dispatch.lean ====
section
/-! DEFINITION. One arm per row of spec/opcode_table.json, each one direct call of its meaning. -/

namespace Sys2Proof.Machine

/-- The effect of a row on everything but the queue. -/
def exec (i : Instr) (s : State) : Host.Outcome State Fault Refusal :=
  match i with
  | .powerOnReset strap1 strap2 => Sys2Proof.Machine.execPowerOnReset strap1 strap2 s
  | .resetLineAsserted => Sys2Proof.Machine.execResetLineAsserted s
  | .resetLineReleased strap1 strap2 => Sys2Proof.Machine.execResetLineReleased strap1 strap2 s
  | .softResetEffect => Sys2Proof.Machine.execSoftResetEffect s
  | .galleryClockTick => Sys2Proof.Machine.execGalleryClockTick s
  | .runMinute f => Sys2Proof.Machine.execRunMinute f s
  | .minuteTick => Sys2Proof.Machine.execMinuteTick s
  | .urgencyEvaluation f => Sys2Proof.Machine.execUrgencyEvaluation f s
  | .analogScan counts => Sys2Proof.Machine.execAnalogScan counts s
  | .pointSample p => Sys2Proof.Machine.execPointSample p s
  | .pointStale p => Sys2Proof.Machine.execPointStale p s
  | .schedulerMeasureChange p => Sys2Proof.Machine.execSchedulerMeasureChange p s
  | .lanePointChange l p => Sys2Proof.Machine.execLanePointChange l p s
  | .overloadDeadline => Sys2Proof.Machine.execOverloadDeadline s
  | .deferExpiry f => Sys2Proof.Machine.execDeferExpiry f s
  | .spacingExpiry => Sys2Proof.Machine.execSpacingExpiry s
  | .proposalExpiry => Sys2Proof.Machine.execProposalExpiry s
  | .admissionScan => Sys2Proof.Machine.execAdmissionScan s
  | .laneSecond l => Sys2Proof.Machine.execLaneSecond l s
  | .phaseTimeEnd l => Sys2Proof.Machine.execPhaseTimeEnd l s
  | .ripenConfirmed l => Sys2Proof.Machine.execRipenConfirmed l s
  | .holdLimitExpiry l => Sys2Proof.Machine.execHoldLimitExpiry l s
  | .laneRoleArrival l r => Sys2Proof.Machine.execLaneRoleArrival l r s
  | .laneChannelFault l r => Sys2Proof.Machine.execLaneChannelFault l r s
  | .laneRoleDrift l r => Sys2Proof.Machine.execLaneRoleDrift l r s
  | .laneGrant l u => Sys2Proof.Machine.execLaneGrant l u s
  | .laneUnitProven l u => Sys2Proof.Machine.execLaneUnitProven l u s
  | .laneProveFailed l u => Sys2Proof.Machine.execLaneProveFailed l u s
  | .laneUnitTripped l u => Sys2Proof.Machine.execLaneUnitTripped l u s
  | .laneUnitNotice l u n => Sys2Proof.Machine.execLaneUnitNotice l u n s
  | .schedulerUnitNotice u n => Sys2Proof.Machine.execSchedulerUnitNotice u n s
  | .laneStopAsserted l => Sys2Proof.Machine.execLaneStopAsserted l s
  | .laneStopReleased l => Sys2Proof.Machine.execLaneStopReleased l s
  | .transferRoleArrival f r => Sys2Proof.Machine.execTransferRoleArrival f r s
  | .transferChannelFault f r => Sys2Proof.Machine.execTransferChannelFault f r s
  | .transferRoleDrift f r => Sys2Proof.Machine.execTransferRoleDrift f r s
  | .transferStopReleased f => Sys2Proof.Machine.execTransferStopReleased f s
  | .filterChannelFault f r => Sys2Proof.Machine.execFilterChannelFault f r s
  | .limitReadingChange ch which level => Sys2Proof.Machine.execLimitReadingChange ch which level s
  | .travelExpiry ch => Sys2Proof.Machine.execTravelExpiry ch s
  | .stopAsserted => Sys2Proof.Machine.execStopAsserted s
  | .stopReleased => Sys2Proof.Machine.execStopReleased s
  | .arbiterStopAsserted => Sys2Proof.Machine.execArbiterStopAsserted s
  | .feedbackChange u level => Sys2Proof.Machine.execFeedbackChange u level s
  | .proveExpiry u => Sys2Proof.Machine.execProveExpiry u s
  | .guardEnd u => Sys2Proof.Machine.execGuardEnd u s
  | .surveyEnd => Sys2Proof.Machine.execSurveyEnd s
  | .silenceExpiry => Sys2Proof.Machine.execSilenceExpiry s
  | .receiveCharacter c => Sys2Proof.Machine.execReceiveCharacter c s
  | .characterError => Sys2Proof.Machine.execCharacterError s
  | .receiveGapTimeout => Sys2Proof.Machine.execReceiveGapTimeout s
  | .transmitFrameEnd => Sys2Proof.Machine.execTransmitFrameEnd s
  | .unknownKindCommand tag kind payload => Sys2Proof.Machine.execUnknownKindCommand tag kind payload s
  | .getIdent tag => Sys2Proof.Machine.execGetIdent tag s
  | .getStatus tag => Sys2Proof.Machine.execGetStatus tag s
  | .ping tag => Sys2Proof.Machine.execPing tag s
  | .getLinkErrors tag => Sys2Proof.Machine.execGetLinkErrors tag s
  | .softReset tag => Sys2Proof.Machine.execSoftReset tag s
  | .commission tag => Sys2Proof.Machine.execCommission tag s
  | .clearSilence tag => Sys2Proof.Machine.execClearSilence tag s
  | .setPlant tag r => Sys2Proof.Machine.execSetPlant tag r s
  | .setMode tag mode => Sys2Proof.Machine.execSetMode tag mode s
  | .clearCalc tag => Sys2Proof.Machine.execClearCalc tag s
  | .getLoading tag => Sys2Proof.Machine.execGetLoading tag s
  | .setPoint tag point source input lo hi => Sys2Proof.Machine.execSetPoint tag point source input lo hi s
  | .putMeasure tag pairs => Sys2Proof.Machine.execPutMeasure tag pairs s
  | .getPoints tag first count => Sys2Proof.Machine.execGetPoints tag first count s
  | .setFilterDefine tag filter c => Sys2Proof.Machine.execSetFilterDefine tag filter c s
  | .setFilterUndefine tag filter => Sys2Proof.Machine.execSetFilterUndefine tag filter s
  | .takeOut tag filter => Sys2Proof.Machine.execTakeOut tag filter s
  | .putIn tag filter condition => Sys2Proof.Machine.execPutIn tag filter condition s
  | .clearFault tag filter => Sys2Proof.Machine.execClearFault tag filter s
  | .toStandby tag filter => Sys2Proof.Machine.execToStandby tag filter s
  | .toService tag filter => Sys2Proof.Machine.execToService tag filter s
  | .filtersFirst tag start => Sys2Proof.Machine.execFiltersFirst tag start s
  | .filtersNext tag => Sys2Proof.Machine.execFiltersNext tag s
  | .requestWash tag filter override => Sys2Proof.Machine.execRequestWash tag filter override s
  | .cancelRequest tag filter => Sys2Proof.Machine.execCancelRequest tag filter s
  | .defer tag filter minutes => Sys2Proof.Machine.execDefer tag filter minutes s
  | .setMask tag set => Sys2Proof.Machine.execSetMask tag set s
  | .getQueue tag first => Sys2Proof.Machine.execGetQueue tag first s
  | .accept tag filter => Sys2Proof.Machine.execAccept tag filter s
  | .decline tag filter minutes => Sys2Proof.Machine.execDecline tag filter minutes s
  | .recipeBegin tag slot n => Sys2Proof.Machine.execRecipeBegin tag slot n s
  | .recipePhases tag records => Sys2Proof.Machine.execRecipePhases tag records s
  | .recipeErase tag slot => Sys2Proof.Machine.execRecipeErase tag slot s
  | .getRecipeSignature tag slot => Sys2Proof.Machine.execGetRecipeSignature tag slot s
  | .getRecipe tag slot first => Sys2Proof.Machine.execGetRecipe tag slot first s
  | .hold tag lane => Sys2Proof.Machine.execHold tag lane s
  | .resume tag lane => Sys2Proof.Machine.execResume tag lane s
  | .abort tag form target => Sys2Proof.Machine.execAbort tag form target s
  | .getLanes tag => Sys2Proof.Machine.execGetLanes tag s
  | .equipmentLock tag unit => Sys2Proof.Machine.execEquipmentLock tag unit s
  | .equipmentUnlock tag unit => Sys2Proof.Machine.execEquipmentUnlock tag unit s
  | .equipmentResetFault tag unit => Sys2Proof.Machine.execEquipmentResetFault tag unit s
  | .getEquipment tag => Sys2Proof.Machine.execGetEquipment tag s
  | .mapValve tag filter role channel sense => Sys2Proof.Machine.execMapValve tag filter role channel sense s
  | .lockChannelLock tag channel => Sys2Proof.Machine.execLockChannelLock tag channel s
  | .lockChannelUnlock tag channel => Sys2Proof.Machine.execLockChannelUnlock tag channel s
  | .directSelect tag channel => Sys2Proof.Machine.execDirectSelect tag channel s
  | .directDriveOpen tag => Sys2Proof.Machine.execDirectDriveOpen tag s
  | .directDriveClose tag => Sys2Proof.Machine.execDirectDriveClose tag s
  | .directDriveStop tag => Sys2Proof.Machine.execDirectDriveStop tag s
  | .clearChannel tag channel => Sys2Proof.Machine.execClearChannel tag channel s
  | .getChannels tag first count => Sys2Proof.Machine.execGetChannels tag first count s
  | .getChannelFault tag => Sys2Proof.Machine.execGetChannelFault tag s
  | .stopInputFirstTaken level => Sys2Proof.Machine.execStopInputFirstTaken level s
  | .supplyLoss => Sys2Proof.Machine.execSupplyLoss s

end Sys2Proof.Machine
end

