-- ==== Sys2Proof/Machine/Step.lean ====
section
/-! DEFINITION. One step: the row at the front of the queue, run on the state with the queue's rest. -/

namespace Sys2Proof.Machine

/-- The row at the front of the queue acts; with no row waiting the part idles (DESIGN CHOICE, log 5). -/
def step (s : State) : Host.Outcome State Fault Refusal :=
  match s.pending with
  | c :: rest => exec c { s with pending := rest }
  | [] => .next s

/-- The state with the row a table word spells put at the front of the queue; no row gives bits, so none is. -/
def State.withFetchWord (s : State) (nbits w : Nat) : State :=
  match decodeTableWord nbits w with
  | some c => { s with pending := c :: s.pending }
  | none => s

end Sys2Proof.Machine
end

