-- ==== Sys2Proof/Safety.lean ====
section
/-! DEFINITION. The words the statements are written in: what changes and what stays, when a row can act, what a reply and
a report are, the reset values of the spec, and the invariants. -/

namespace Sys2Proof

open Machine

/-! ### What changes and what stays -/

/-- The pieces of the part. -/
inductive Piece where
  | supply | resetHeld
  | clock | top | survey | readyCall | silence | silent | lastAccepted
  | plant | plantReceived
  | counts | points | volumes
  | filters | marker
  | queue | mask | mode | blocked | proposal | shares | lastAdmission | overload | flags | scanDue
  | slots | staging
  | lanes
  | units | duty | pumpWait | blowerWait
  | channels | map | selection | capture | stop
  | rx | rxQueue | reply | reports | sending | seq | errors | overflow | reportLoss | cursor | rate | softReset
  | events
  deriving DecidableEq, Repr

/-- The piece is in `q` as it is in `p`. -/
def Piece.kept (p q : Part) : Piece → Prop
  | .supply => q.supply = p.supply
  | .resetHeld => q.resetHeld = p.resetHeld
  | .clock => q.startUp.clock = p.startUp.clock
  | .top => q.startUp.top = p.startUp.top
  | .survey => q.startUp.survey = p.startUp.survey
  | .readyCall => q.startUp.readyCall = p.startUp.readyCall
  | .silence => q.startUp.silence = p.startUp.silence
  | .silent => q.startUp.silent = p.startUp.silent
  | .lastAccepted => q.startUp.lastAccepted = p.startUp.lastAccepted
  | .plant => q.plant = p.plant
  | .plantReceived => q.plantReceived = p.plantReceived
  | .counts => q.front.counts = p.front.counts
  | .points => q.front.hl = p.front.hl ∧ q.front.tb = p.front.tb ∧ q.front.flow = p.front.flow ∧
      q.front.tank = p.front.tank ∧ q.front.basin = p.front.basin
  | .volumes => q.front.tankAvail = p.front.tankAvail ∧ q.front.basinRoom = p.front.basinRoom
  | .filters => q.table.filters = p.table.filters
  | .marker => q.table.marker = p.table.marker
  | .queue => q.sched.queue = p.sched.queue
  | .mask => q.sched.mask = p.sched.mask
  | .mode => q.sched.mode = p.sched.mode
  | .blocked => q.sched.blocked = p.sched.blocked
  | .proposal => q.sched.proposal = p.sched.proposal
  | .shares => q.sched.shares = p.sched.shares
  | .lastAdmission => q.sched.lastAdmission = p.sched.lastAdmission
  | .overload => q.sched.overload = p.sched.overload
  | .flags => q.sched.flags = p.sched.flags
  | .scanDue => q.sched.scanDue = p.sched.scanDue
  | .slots => q.recipes.slots = p.recipes.slots
  | .staging => q.recipes.staging = p.recipes.staging
  | .lanes => q.lanes = p.lanes
  | .units => q.arb.units = p.arb.units
  | .duty => q.arb.duty = p.arb.duty
  | .pumpWait => q.arb.pumpWait = p.arb.pumpWait
  | .blowerWait => q.arb.blowerWait = p.arb.blowerWait
  | .channels => q.valves.channels = p.valves.channels
  | .map => q.valves.map = p.valves.map
  | .selection => q.valves.selection = p.valves.selection
  | .capture => q.valves.capture = p.valves.capture
  | .stop => q.valves.stop = p.valves.stop
  | .rx => q.link.rx = p.link.rx
  | .rxQueue => q.link.queue = p.link.queue
  | .reply => q.link.reply = p.link.reply
  | .reports => q.link.reports = p.link.reports
  | .sending => q.link.sending = p.link.sending
  | .seq => q.link.seq = p.link.seq
  | .errors => q.link.errors = p.link.errors
  | .overflow => q.link.overflow = p.link.overflow
  | .reportLoss => q.link.reportLoss = p.link.reportLoss
  | .cursor => q.link.cursor = p.link.cursor
  | .rate => q.link.rate = p.link.rate
  | .softReset => q.link.softReset = p.link.softReset
  | .events => q.events = p.events

/-- From `p` to `q` nothing outside these pieces changes. -/
def OnlyChanges (xs : List Piece) (p q : Part) : Prop := ∀ x : Piece, x ∉ xs → x.kept p q

/-- What making reports changes: each is numbered and queues or is lost, and a free transmitter begins what waits, a
reply first (R178, R179). -/
abbrev reporting : List Piece := [.reply, .reports, .sending, .seq, .reportLoss]

/-- What a reply that waits or begins changes (R176, R179). -/
abbrev replying : List Piece := [.reply, .sending]

/-! ### When a row can act -/

/-- A host command's frame that arrives is handled at once: supply on, RESET released, the reply buffer and the receive
queue empty, no SOFT_RESET accepted (R175, R176, R185). -/
def CanHandle (s : State) : Prop := s.part.live = true ∧ s.part.linkReady = true

/-- The event has come about and the part can act on it. -/
def Outstanding (s : State) (e : Event) : Prop := s.part.live = true ∧ e ∈ s.part.events

/-- The part as the row of an event finds it: the event taken. -/
def taking (p : Part) (e : Event) : Part := { p with events := p.events.erase e }

/-! ### The command a row's frame carries (log 1) -/

/-- Tag and command of a host command's row (Table 11-6). -/
def Instr.command : Instr → Option (Byte × HostCommand)
  | .getIdent tag => some (tag, .getIdent)
  | .getStatus tag => some (tag, .getStatus)
  | .ping tag => some (tag, .ping)
  | .getLinkErrors tag => some (tag, .getLinkErrors)
  | .softReset tag => some (tag, .softReset)
  | .commission tag => some (tag, .commission)
  | .clearSilence tag => some (tag, .clearSilence)
  | .setPlant tag r => some (tag, .setPlant r)
  | .setMode tag m => some (tag, .setMode m)
  | .clearCalc tag => some (tag, .clearCalc)
  | .getLoading tag => some (tag, .getLoading)
  | .setPoint tag pt src i lo hi => some (tag, .setPoint pt src i lo hi)
  | .putMeasure tag pairs => some (tag, .putMeasure (BitVec.ofNat 8 pairs.length) (pairBytes pairs))
  | .getPoints tag a n => some (tag, .getPoints a n)
  | .setFilterDefine tag f c => some (tag, .setFilter f 0 c)
  | .setFilterUndefine tag f => some (tag, .setFilter f 1 ⟨0, 0, 0, 0, 0, 0, 0, 0, 0⟩)
  | .takeOut tag f => some (tag, .takeOut f)
  | .putIn tag f c => some (tag, .putIn f c)
  | .clearFault tag f => some (tag, .clearFault f)
  | .toStandby tag f => some (tag, .toStandby f)
  | .toService tag f => some (tag, .toService f)
  | .filtersFirst tag f => some (tag, .filtersFirst f)
  | .filtersNext tag => some (tag, .filtersNext)
  | .requestWash tag f o => some (tag, .requestWash f o)
  | .cancelRequest tag f => some (tag, .cancelRequest f)
  | .defer tag f m => some (tag, .defer f m)
  | .setMask tag m => some (tag, .setMask m)
  | .getQueue tag k => some (tag, .getQueue k)
  | .accept tag f => some (tag, .accept f)
  | .decline tag f m => some (tag, .decline f m)
  | .recipeBegin tag slot n => some (tag, .recipeBegin slot n)
  | .recipePhases tag rs => some (tag, .recipePhases (BitVec.ofNat 8 rs.length) (rawPhaseBytes rs))
  | .recipeErase tag slot => some (tag, .recipeErase slot)
  | .getRecipeSignature tag slot => some (tag, .getRecipeSignature slot)
  | .getRecipe tag slot k => some (tag, .getRecipe slot k)
  | .hold tag l => some (tag, .hold l)
  | .resume tag l => some (tag, .resume l)
  | .abort tag form x => some (tag, .abort form x)
  | .getLanes tag => some (tag, .getLanes)
  | .equipmentLock tag u => some (tag, .equipmentCommand u 0)
  | .equipmentUnlock tag u => some (tag, .equipmentCommand u 1)
  | .equipmentResetFault tag u => some (tag, .equipmentCommand u 2)
  | .getEquipment tag => some (tag, .getEquipment)
  | .mapValve tag f r c x => some (tag, .mapValve f r c x)
  | .lockChannelLock tag c => some (tag, .lockChannel c 0)
  | .lockChannelUnlock tag c => some (tag, .lockChannel c 1)
  | .directSelect tag c => some (tag, .directSelect c)
  | .directDriveOpen tag => some (tag, .directDrive 0)
  | .directDriveClose tag => some (tag, .directDrive 1)
  | .directDriveStop tag => some (tag, .directDrive 2)
  | .clearChannel tag c => some (tag, .clearChannel c)
  | .getChannels tag a n => some (tag, .getChannels a n)
  | .getChannelFault tag => some (tag, .getChannelFault)
  | _ => none

/-- The frame whose arrival a row is: a host command's, or one of a kind that is no command (R171, R176). -/
def Instr.frame : Instr → Option Frame
  | .unknownKindCommand tag kind payload => some ⟨kind, tag, payload⟩
  | i => i.command.map fun x => x.2.frame x.1

/-! ### Replies and reports -/

/-- The reply is being sent, or waits in the reply buffer while another frame is sent. -/
def Replied (p : Part) (r : Reply) : Prop :=
  (p.link.sending = some (.reply r) ∧ p.link.reply = none) ∨ (p.link.reply = some r ∧ p.link.sending.isSome = true)

/-- The link port after these reports are made one after the other at second `clock`, each by the rule R178 states. -/
def afterReports (clock : Nat) (k : LinkPort) : List ReportBody → LinkPort
  | [] => k
  | b :: rest =>
    let numbered : Report := ⟨k.seq, clock, b⟩
    let k := { k with seq := (k.seq + 1) % 65536 }
    let k := if k.reports.length < 24 then { k with reports := k.reports ++ [numbered] } else { k with reportLoss := true }
    afterReports clock k.beginSend rest

/-- Exactly these reports are made, and nothing else happens on the link. -/
def Reports (p q : Part) (bs : List ReportBody) : Prop := q.link = afterReports p.clock p.link bs

/-- Exactly these reports are made, then the reply goes to its buffer and on to a free transmitter, and nothing else
happens on the link. -/
def RepliesAfter (p q : Part) (bs : List ReportBody) (r : Reply) : Prop :=
  q.link = { afterReports p.clock p.link bs with reply := some r }.beginSend

/-- The reply is given, and nothing else happens on the link. -/
def Replies (p q : Part) (r : Reply) : Prop := RepliesAfter p q [] r

/-! ### Washes -/

/-- The wash is in the same phase, at the same point of it. -/
def SamePhase (w w' : Wash) : Prop :=
  w'.filter = w.filter ∧ w'.slot = w.slot ∧ w'.phase = w.phase ∧ w'.elapsed = w.elapsed ∧ w'.remWater = w.remWater ∧
  w'.remWaste = w.remWaste ∧ w'.startedAt = w.startedAt ∧ w'.ripenTimeout = w.ripenTimeout

/-- What a lane touches while it works through a phase. -/
abbrev laneWork : List Piece := [Piece.lanes, .channels, .units, .duty, .pumpWait, .blowerWait, .events] ++ reporting

/-- The other lane is as it was. -/
def OtherLaneKept (p q : Part) (l : LaneId) : Prop := ∀ m, m ≠ l → q.lane m = p.lane m

/-- The lane holds no unit and waits for none (R117, R125, R128). -/
def HoldsNoUnit (q : Part) (l : LaneId) : Prop :=
  (∀ u, (q.unit u).state.lane ≠ some l) ∧ l ∉ q.arb.pumpWait ∧ l ∉ q.arb.blowerWait

/-- A step that neither faults nor refuses. -/
def StepsOn (s : State) : Prop := ∃ t, step s = .next t

/-! ### Invariants -/

/-- R172: what the receive process has collected of a frame: fewer than the four header bytes, or a header that passed its
check and less than the whole frame. -/
def Collecting (got : List Byte) : Prop :=
  4 ≤ got.length → headerGood got = true ∧ got.length < (byteAt got 2).toNat + 6

/-- The link port keeps within its buffers: two received frames (R175), which wait only while the reply buffer is full or
a SOFT_RESET is accepted (R176, R185), 24 reports (R178), a 16-bit sequence number, an error count to 127 (R174); and a
free transmitter leaves no reply and no report waiting (R179), except between the SOFT_RESET reply and its effect. -/
def LinkInBounds (p : Part) : Prop :=
  let k := p.link
  (∀ got, k.rx = .assembling got → Collecting got) ∧ k.queue.length ≤ 2 ∧ k.reports.length ≤ 24 ∧ k.seq < 65536 ∧
  k.errors ≤ 127 ∧ (k.queue ≠ [] → k.reply ≠ none ∨ k.softReset ≠ .none) ∧
  (k.sending = none → k.softReset ≠ .sent → k.reply = none ∧ k.reports = [])

/-- R164: while STOP is asserted no channel is in travel. -/
def StopHoldsTheDrives (p : Part) : Prop := p.stopAsserted = true → ∀ ch, (p.channel ch).state.inTravel = false

/-- R46, R44: the rotation queue stands in the order of its keys, with at most one entry a filter. -/
def QueueInOrder (p : Part) : Prop :=
  p.sched.queue.Pairwise (fun x y => x.before y = true) ∧ (p.sched.queue.map Entry.filter).Nodup

end Sys2Proof
end

