-- ==== Sys2Proof/Certificates/Slice0/Obligations.lean ====
section
/-! DEFINITION. The statements for the provers, rule by rule. `p` and `q` in the words of Safety.lean are the part before and
after a row; a host command is stated at a part that can handle it at once (`CanHandle`), against that part with the
command's frame accepted (R189). -/

namespace Sys2Proof

open Machine

/-! ### The step -/

/-- With no row waiting the part idles. The model's choice (log 5). -/
def EmptyQueueIdles : Prop := ∀ s : State, s.pending = [] → step s = .next s

/-- Every row, on every state, gives a next state and leaves the rows that wait alone. -/
def EveryRowCompletes : Prop :=
  ∀ (c : Instr) (s : State), ∃ t, exec c s = .next t ∧ t.pending = s.pending

/-- A row that only the field's supply, reset and feedback lines can bring. -/
def IsLineRow : Instr → Prop
  | .powerOnReset _ _ | .resetLineAsserted | .resetLineReleased _ _ | .supplyLoss | .feedbackChange _ _ => True
  | _ => False

/-- Without supply, or while the RESET line holds the part, no other row changes anything (log 11), and every drive and
run output and READY are off (R184, R166). -/
def NothingActsWithoutSupplyOrInReset : Prop :=
  ∀ (s : State), s.part.live = false →
    (∀ c : Instr, ¬ IsLineRow c → exec c s = .next s) ∧
    (∀ ch, s.part.drive ch = .off) ∧ (∀ u, s.part.runOutput u = false) ∧ s.part.ready = false

/-! ### Resets -/

/-- The values of Table 4-1's last column (R89). -/
def PlantDefaults (r : PlantRecord) : Prop :=
  r.vmax = 100 ∧ r.qDesign = 0 ∧ r.concurrency = 1 ∧ r.spacing = 30 ∧ r.lifetime = 120 ∧ r.overloadDelay = 60 ∧
  r.early = 0 ∧ (∀ k, r.calcEnables.get k = true) ∧ r.staleLimit = 60 ∧
  r.tankArea = none ∧ r.basinArea = none ∧ r.tankMin = none ∧ r.basinMax = none ∧
  r.holdLimit = 30 ∧ r.autoResume = false ∧ r.debounce = 100 ∧ (∀ x, r.travel.get x = 60) ∧
  r.pumpProve = 15 ∧ r.blowerProve = 20 ∧ r.pumpGuard = 120 ∧ r.blowerGuard = 300 ∧
  (∀ u, r.polarity.get u = .energised) ∧ r.silenceInterval = 0 ∧ r.silenceAction = .note

/-- What every kind of reset leaves: R135, R150, R182, R184, R89's scheduler items, R59. -/
def RunStateCleared (p : Part) : Prop :=
  p.startUp.clock = 0 ∧ p.startUp.top = .configuring ∧ p.startUp.survey = none ∧ p.startUp.readyCall = false ∧
  p.startUp.silence = none ∧ p.startUp.silent = false ∧ p.startUp.lastAccepted = none ∧
  p.sched.queue = [] ∧ p.sched.mask = 0 ∧ p.sched.mode = .paused ∧ p.sched.blocked = .paused ∧
  p.sched.proposal = none ∧ (∀ l, p.sched.shares.get l = ⟨0, 0⟩) ∧ p.sched.lastAdmission = none ∧
  p.sched.overload = none ∧ (∀ k, p.sched.flags.get k = false) ∧
  p.table.marker = none ∧ p.recipes.staging = none ∧ (∀ l, p.lane l = none) ∧
  (∀ u, (p.unit u).state = .available) ∧ p.arb.duty = .p1 ∧ p.arb.pumpWait = [] ∧ p.arb.blowerWait = [] ∧
  p.valves.selection = none ∧ p.valves.capture = none ∧ p.valves.stop = .untaken ∧
  p.link.rx = .hunting ∧ p.link.queue = [] ∧ p.link.reply = none ∧ p.link.reports = [] ∧ p.link.sending = none ∧
  p.link.seq = 0 ∧ p.link.errors = 0 ∧ p.link.overflow = false ∧ p.link.reportLoss = false ∧ p.link.cursor = none ∧
  (∀ i : InputId, p.front.counts[i] = none) ∧ p.front.tankAvail = none ∧ p.front.basinRoom = none ∧
  (∀ id, (p.point id).ring = [] ∧ (p.point id).value = none ∧ (p.point id).quality = .none ∧
    (p.point id).lastAccepted = none) ∧
  (∀ ch, (p.channel ch).state = .unknown ∧ (p.channel ch).openInput = none ∧ (p.channel ch).closedInput = none ∧
    (p.channel ch).target = none)

/-- What a power-on reset or the RESET line leaves of the configuration: nothing (R184, Table 10-2). -/
def ConfigurationCleared (p : Part) : Prop :=
  p.plantReceived = false ∧ PlantDefaults p.plant ∧ (∀ f, p.filter f = none) ∧ (∀ id, (p.point id).source = .none) ∧
  (∀ s, p.recipe s = none) ∧ (∀ f r, p.mapped f r = none) ∧
  (∀ ch, (p.channel ch).sense = .normal ∧ (p.channel ch).locked = false ∧ (p.channel ch).mappedTo = none)

/-- The rates of Table 9-1, by STRAP2 and STRAP1. -/
def strapRate (strap1 strap2 : Level) : Rate :=
  if strap2 = .deEnergised then (if strap1 = .deEnergised then .r19200 else .r38400)
  else if strap1 = .deEnergised then .r57600 else .r115200

/-- Table 1-12: a defined filter after SOFT_RESET. -/
def softResetRecord (r : FilterRecord) : FilterRecord :=
  { r with
    cfg := { r.cfg with initRun := r.runMin }
    state := .outOfService
    transfer := none
    runSec := 0
    armedMin := 240
    aborts := 0
    lastWashEnd := none
    u := 0
    dominant := .turbidity }

/-- SUPPLY_LOSS: every output is off and nothing is sent; the state is otherwise as it was until the next power-on reset
clears it. -/
def SupplyLossTurnsEveryOutputOff : Prop :=
  ∀ (s : State), ∃ t, exec .supplyLoss s = .next t ∧ t.pending = s.pending ∧
    OnlyChanges [.supply] s.part t.part ∧ t.part.supply = false ∧
    (∀ ch, t.part.drive ch = .off) ∧ (∀ u, t.part.runOutput u = false) ∧ t.part.ready = false

/-! ### The second, run time and urgency -/

/-- R15: one second of run time. Seconds that have reached 60 stand until RUN_MINUTE counts their minute (log 18). -/
def secondCounted (r : FilterRecord) : FilterRecord :=
  if r.state = .online then { r with runSec := r.runSec + 1 } else r

/-- R183: the second `d` seconds after `t`; one beyond the largest clock value is written as that. -/
def secondAfter (t d : Nat) : Nat := min (t + d) 4294967295

/-- GALLERY_CLOCK_TICK: the clock advances by one and stops at its largest value (R183); ONLINE filters count run time
(R15); a whole minute of the clock is told (R42), and RUNNING lanes are told of their second (R111). -/
def TickCountsASecond : Prop :=
  ∀ (s : State), s.part.live = true →
    (s.part.startUp.clock < 4294967295 →
      ∃ t, exec .galleryClockTick s = .next t ∧ t.pending = s.pending ∧
        OnlyChanges [.clock, .filters, .events] s.part t.part ∧
        t.part.startUp.clock = s.part.startUp.clock + 1 ∧
        (∀ f, t.part.filter f = (s.part.filter f).map secondCounted) ∧
        (∀ f r, s.part.filter f = some r → r.state = .online → 59 ≤ r.runSec → .runMinute f ∈ t.part.events) ∧
        ((s.part.startUp.clock + 1) % 60 = 0 → .minuteTick ∈ t.part.events) ∧
        (∀ l w, s.part.lane l = some w → w.state = .running → .laneSecond l ∈ t.part.events) ∧
        ∀ e ∈ s.part.events, e ∈ t.part.events) ∧
    (s.part.startUp.clock = 4294967295 → exec .galleryClockTick s = .next s)

/-- GALLERY_CLOCK_TICK raises every timer that the new second reaches: stale limits, the overload deadline, deferrals, the
start spacing, the proposal lifetime, hold limits, travel, prove and guard times, and silence. Those that would lie
beyond the largest clock value fall at it (R183; for limits that no expiry second is kept for, log 40). -/
def TickRaisesEveryTimerReached : Prop :=
  ∀ (s : State), s.part.live = true → s.part.startUp.clock < 4294967295 →
    ∃ t, exec .galleryClockTick s = .next t ∧
      (∀ id a, (s.part.point id).quality.usable = true → (s.part.point id).lastAccepted = some a →
        secondAfter a s.part.plant.staleLimit ≤ s.part.startUp.clock + 1 → .stale id ∈ t.part.events) ∧
      (∀ o, s.part.sched.overload = some o → o.deadline ≤ s.part.startUp.clock + 1 →
        .overloadDeadline ∈ t.part.events) ∧
      (∀ e ∈ s.part.sched.queue, ∀ d, e.deferUntil = some d → d ≤ s.part.startUp.clock + 1 →
        .deferExpiry e.filter ∈ t.part.events) ∧
      (∀ a, s.part.sched.lastAdmission = some a → a < s.part.startUp.clock + 1 →
        secondAfter a (60 * s.part.plant.spacing) = s.part.startUp.clock + 1 → .spacingExpiry ∈ t.part.events) ∧
      (∀ pr, s.part.sched.proposal = some pr → pr.expiry ≤ s.part.startUp.clock + 1 →
        .proposalExpiry ∈ t.part.events) ∧
      (∀ l w h, s.part.lane l = some w → w.state = .held h →
        secondAfter h (60 * s.part.plant.holdLimit) ≤ s.part.startUp.clock + 1 → .holdLimit l ∈ t.part.events) ∧
      (∀ ch e ran, ((s.part.channel ch).state = .opening e ran ∨ (s.part.channel ch).state = .closing e ran) →
        e ≤ s.part.startUp.clock + 1 → .travelExpiry ch ∈ t.part.events) ∧
      (∀ u l e, (s.part.unit u).state = .proving l e → e ≤ s.part.startUp.clock + 1 →
        .proveExpiry u ∈ t.part.events) ∧
      (∀ u e, (s.part.unit u).state = .guarded e → e ≤ s.part.startUp.clock + 1 → .guardEnd u ∈ t.part.events) ∧
      (∀ e, s.part.startUp.silence = some e → e ≤ s.part.startUp.clock + 1 → .silenceExpiry ∈ t.part.events)

/-- RUN_MINUTE: the whole minute that a filter's run seconds have reached leaves them, and run minutes and armed minutes
are one more, stopping at 65535 and 240 (R15). Seconds counted since stay, and every whole minute reached is counted, in
whatever state the filter is by then (log 18). -/
def RunMinuteCounts : Prop :=
  ∀ (s : State) (f : FilterId) (r : FilterRecord), Outstanding s (.runMinute f) → s.part.filter f = some r →
    ∃ t, exec (.runMinute f) s = .next t ∧ t.pending = s.pending ∧
      OnlyChanges [.filters, .events] s.part t.part ∧
      t.part.filter f = some { r with
        runSec := r.runSec % 60
        runMin := min (r.runMin + r.runSec / 60) 65535
        armedMin := min (r.armedMin + r.runSec / 60) 240 } ∧
      (∀ g, g ≠ f → t.part.filter g = s.part.filter g) ∧
      t.part.events = s.part.events.erase (.runMinute f)

/-- MINUTE_TICK: every filter is evaluated, each by an event of its own (R42). -/
def MinuteTickCallsForEveryEvaluation : Prop :=
  ∀ (s : State), Outstanding s .minuteTick →
    ∃ t, exec .minuteTick s = .next t ∧ t.pending = s.pending ∧ OnlyChanges [.events] s.part t.part ∧
      t.part.events = s.part.events.erase .minuteTick ++ (List.finRange 16).map .urgency

/-- R37, before clamping. -/
def headlossPart (c : FilterConfig) (x : Point) : Nat :=
  match x.usableValue with
  | some h => 1000 * (h - c.h0) / (c.ht - c.h0)
  | none => 0

/-- R38, before clamping. -/
def turbidityPart (r : FilterRecord) (x : Point) : Nat :=
  if r.armedMin < r.cfg.arming then 0
  else
    match x.usableValue with
    | some v => 1000 * v / r.cfg.tt
    | none => 0

/-- R39, before clamping. -/
def runtimePart (r : FilterRecord) : Nat := 1000 * r.runMin / r.cfg.rmax

/-- R43. -/
def classOf (h t k : Nat) : Option RequestClass :=
  if 1000 ≤ t then some .breakthrough else if 1000 ≤ h then some .terminal else if 1000 ≤ k then some .routine else none

/-- Table 3-3: the filter's entry after an evaluation at second `clock`. -/
def entryEvaluated (f : FilterId) (clock u : Nat) (old : Option Entry) (c : Option RequestClass) : Option Entry :=
  match old, c with
  | none, none => none
  | none, some c => some ⟨f, c, .auto, u, clock, none, none⟩
  | some e, none => some { e with u := u }
  | some e, some c =>
    if c.rank < e.cls.rank then some { e with u := u, cls := c, source := .auto } else some { e with u := u }

/-! ### Measurement -/

/-- ANALOG_SCAN: every input's count is stored, and the count of each assigned input is a sample for its point (R21). -/
def AnalogScanStoresEveryCount : Prop :=
  ∀ (s : State) (counts : Vector (BitVec 12) 40), s.part.live = true →
    ∃ t, exec (.analogScan counts) s = .next t ∧ t.pending = s.pending ∧
      OnlyChanges [.counts, .events] s.part t.part ∧
      (∀ i : InputId, t.part.front.counts[i] = some (counts[i]).toNat) ∧
      (∀ id i lo hi, (s.part.point id).source = .analog i lo hi → .sample id (counts[i]).toNat ∈ t.part.events) ∧
      ∀ e ∈ s.part.events, e ∈ t.part.events

/-- R30: who is told of a change of a point's quality or value. -/
def ReadersTold (p : Part) (events : List Event) : PointId → Prop
  | .hl n => .urgency n ∈ events
  | .tb n => .urgency n ∈ events ∧
      ∀ r l, p.filter n = some r → r.state = .washing l → .lanePoint l (.tb n) ∈ events
  | .flow => .schedulerMeasure .flow ∈ events
  | .tank => .schedulerMeasure .tank ∈ events ∧ ∀ l w, p.lane l = some w → .lanePoint l .tank ∈ events
  | .basin => .schedulerMeasure .basin ∈ events ∧ ∀ l w, p.lane l = some w → .lanePoint l .basin ∈ events

/-- R32: the available volume that a tank point gives. -/
def tankGives (p : Part) (x : Point) : Option Nat :=
  match p.plantReceived, x.usableValue, p.plant.tankMin, p.plant.tankArea with
  | true, some v, some low, some area => some ((v - low) * area / 1000)
  | _, _, _, _ => none

/-- R33: the room that a basin point gives. -/
def basinGives (p : Part) (x : Point) : Option Nat :=
  match p.plantReceived, x.usableValue, p.plant.basinMax, p.plant.basinArea with
  | true, some v, some high, some area => some ((high - v) * area / 1000)
  | _, _, _, _ => none

/-- R32: the available volume after TANK becomes `x`, derived anew where its quality or value changes. -/
def TankFollows (p q : Part) (x : Point) : Prop :=
  (¬ (x.quality = (p.point .tank).quality ∧ x.value = (p.point .tank).value) → q.front.tankAvail = tankGives p x) ∧
  (x.quality = (p.point .tank).quality ∧ x.value = (p.point .tank).value → q.front.tankAvail = p.front.tankAvail)

/-- R33: the room after BASIN becomes `x`, derived anew where its quality or value changes. -/
def BasinFollows (p q : Part) (x : Point) : Prop :=
  (¬ (x.quality = (p.point .basin).quality ∧ x.value = (p.point .basin).value) → q.front.basinRoom = basinGives p x) ∧
  (x.quality = (p.point .basin).quality ∧ x.value = (p.point .basin).value → q.front.basinRoom = p.front.basinRoom)

/-- A point's record becomes `x`: MEASURE for a change of quality (R31), the readers told of a change of quality or value
(R30), the volume of TANK or BASIN derived anew at such a change (R32, R33), no other point touched. -/
def PointBecomes (p q : Part) (id : PointId) (x : Point) : Prop :=
  let changed := ¬ (x.quality = (p.point id).quality ∧ x.value = (p.point id).value)
  q.point id = x ∧ (∀ other, other ≠ id → q.point other = p.point other) ∧
  Reports p q (if x.quality = (p.point id).quality then []
    else [.measure id x.quality (p.point id).quality x.source (if x.quality = .none then none else x.value)]) ∧
  (changed → ReadersTold p q.events id) ∧
  (id = .tank ∧ changed → q.front.tankAvail = tankGives p x) ∧
  (¬ (id = .tank ∧ changed) → q.front.tankAvail = p.front.tankAvail) ∧
  (id = .basin ∧ changed → q.front.basinRoom = basinGives p x) ∧
  (¬ (id = .basin ∧ changed) → q.front.basinRoom = p.front.basinRoom)

/-- Table 2-5, for an accepted sample: E. -/
def engineering (c lo hi : Nat) : Nat :=
  if c < 640 then lo else if c ≤ 3200 then lo + (2 * ((c - 640) * (hi - lo)) + 2560) / 5120 else hi

/-- R25: the last four accepted samples. -/
def lastFour (ring : List Nat) : List Nat := ring.drop (ring.length - 4)

/-- R24 to R26: a point with an analog source after a sample of count `c` at second `clock`. -/
def pointSampled (x : Point) (c lo hi clock : Nat) : Point :=
  if c < 576 then (if x.quality.usable then { x with quality := .held } else x)
  else
    let ring := lastFour (x.ring ++ [engineering c lo hi])
    if c ≤ 3280 then
      { x with ring := ring, value := some ((2 * ring.sum + ring.length) / (2 * ring.length)), quality := .good
               lastAccepted := some clock }
    else { x with ring := ring, value := some hi, quality := .over, lastAccepted := some clock }

/-- POINT_SAMPLE: the oldest sample on its way to a point is converted and joins it (R24, R25, R26). -/
def PointSampleFollowsTheTables : Prop :=
  ∀ (s : State) (id : PointId) (c lo hi : Nat) (i : InputId), s.part.live = true →
    s.part.events.find? (Event.isSampleOf id) = some (.sample id c) →
    (s.part.point id).source = .analog i lo hi →
    ∃ t, exec (.pointSample id) s = .next t ∧ t.pending = s.pending ∧
      OnlyChanges ([Piece.points, .volumes, .events] ++ reporting) s.part t.part ∧
      PointBecomes s.part t.part id (pointSampled (s.part.point id) c lo hi s.part.startUp.clock)

/-- POINT_STALE: quality STALE, ring emptied, value and last accepted kept (R27). -/
def PointGoesStale : Prop :=
  ∀ (s : State) (id : PointId), Outstanding s (.stale id) → (s.part.point id).quality.usable = true →
    ∃ t, exec (.pointStale id) s = .next t ∧ t.pending = s.pending ∧
      OnlyChanges ([Piece.points, .volumes, .events] ++ reporting) s.part t.part ∧
      PointBecomes s.part t.part id { s.part.point id with quality := .stale, ring := [] }

/-- R71: the current loading: 360 × Q over the area of the ONLINE filters, rounded up, 9999 at most and for no area. -/
def currentLoading (p : Part) : Nat :=
  let area := ((List.finRange 16).filterMap fun f =>
    (p.filter f).bind fun r => if r.state = .online then some r.cfg.area else none).sum
  let q := match p.front.flow.usableValue with
    | some v => v
    | none => p.plant.qDesign
  if area = 0 then 9999 else min 9999 ((360 * q + area - 1) / area)

/-- R79: the overload timer after the loading `v` is computed at second `clock`. -/
def overloadAt (p : Part) (v : Nat) : Option Overload :=
  if v ≤ p.plant.vmax then none
  else
    match p.sched.overload with
    | some o => some o
    | none => some ⟨p.startUp.clock, min (p.startUp.clock + p.plant.overloadDelay) 4294967295⟩

/-! ### Commands that are handled at once -/

/-- The reply a command of this kind and tag gets: the reports made before it, its result, its fields. -/
def Answers (s t : State) (c : HostCommand) (tag : Byte) (bs : List ReportBody) (r : Result) (fields : ReplyFields) :
    Prop :=
  t.pending = s.pending ∧ RepliesAfter s.part t.part bs ⟨replyKind c.kind, tag, r, fields⟩

/-- The row's command is handled at once: the reports are made, then the reply is given; beside the link and what the
frame's acceptance moves (R189) only these pieces change; `now` says what the part then is. -/
def Done (s : State) (row : Instr) (xs : List Piece) (bs : List ReportBody) (r : Result) (fields : ReplyFields)
    (now : Part → Prop) : Prop :=
  ∃ tag c t, row.command = some (tag, c) ∧ exec row s = .next t ∧ Answers s t c tag bs r fields ∧
    OnlyChanges (xs ++ reporting) s.part.frameAccepted t.part ∧ now t.part

/-- The row's command is answered with these fields and changes nothing. -/
def Reads (s : State) (row : Instr) (r : Result) (fields : ReplyFields) : Prop :=
  Done s row [] [] r fields fun _ => True

/-- The row's command is refused with a code alone and changes nothing. -/
def Refused (s : State) (row : Instr) (r : Result) : Prop := Reads s row r .none

/-! ### Roles and channels -/

/-- The channel of the role rests at this position. -/
def RestsAt (p : Part) (f : FilterId) (r : Role) (pos : Position) : Prop :=
  ∃ ch, p.mapped f r = some ch ∧
    ((pos = .opened ∧ (p.channel ch).state = .opened) ∨ (pos = .closed ∧ (p.channel ch).state = .closed))

/-- The channel of the role is in FAULT. -/
def RoleInFault (p : Part) (f : FilterId) (r : Role) : Prop :=
  ∃ ch c, p.mapped f r = some ch ∧ (p.channel ch).state = .fault c

/-- Table 8-3: a command to this position puts the channel in travel from rest. -/
def TravelsTo (x : ChannelState) (pos : Position) : Prop :=
  x = .unknown ∨ (x = .closed ∧ pos = .opened) ∨ (x = .opened ∧ pos = .closed)

/-- R153: the channel put in travel by a command at second `clock`, for a travel time of `secs`. -/
def inTravelTo (c : Channel) (clock secs : Nat) (pos : Position) : Channel :=
  { c with
    target := some pos
    state :=
      match pos with
      | .opened => .opening (min (clock + secs) 4294967295) secs
      | .closed => .closing (min (clock + secs) 4294967295) secs }

/-- The role's channel is mapped both ways and a command puts it in travel. -/
def RoleTravels (p : Part) (f : FilterId) (r : Role) (pos : Position) : Prop :=
  ∃ ch, p.mapped f r = some ch ∧ (p.channel ch).mappedTo = some (f, r) ∧ TravelsTo (p.channel ch).state pos

/-- R153 for a command that finds the channel at the position, or at rest elsewhere. -/
def RoleCommanded (p q : Part) (f : FilterId) (r : Role) (pos : Position) : Prop :=
  ∀ ch, p.mapped f r = some ch →
    (RestsAt p f r pos → q.channel ch = { p.channel ch with target := some pos }) ∧
    (RoleTravels p f r pos →
      q.channel ch = inTravelTo (p.channel ch) p.startUp.clock (p.plant.travel.get r) pos)

/-- Nothing of any other filter changes. -/
def OtherFiltersKept (p q : Part) (f : FilterId) : Prop := ∀ g, g ≠ f → q.filter g = p.filter g

/-! ### The loading computations -/

/-- R71: the loading with an ONLINE head of area `a` removed. -/
def loadingWithout (p : Part) (a : Nat) : Nat :=
  if p.serviceArea ≤ a then 9999 else min ((360 * p.flowUsed.1 + (p.serviceArea - a - 1)) / (p.serviceArea - a)) 9999

/-- R71: the flags a loading computed over this area meets. -/
def loadingFlags (p : Part) (area : Nat) : CalcFlags where
  sat := decide (0 < area ∧ 9999 < (360 * p.flowUsed.1 + area - 1) / area)
  zarea := decide (area = 0)
  staleUsed := false
  flowSubst := p.front.flow.usableValue.isNone

/-- R86: the flags once these are met. -/
def flagsWith (p : Part) (met : CalcFlags) : CalcFlags where
  sat := p.sched.flags.sat || met.sat
  zarea := p.sched.flags.zarea || met.zarea
  staleUsed := p.sched.flags.staleUsed || met.staleUsed
  flowSubst := p.sched.flags.flowSubst || met.flowSubst

/-- R88: one CALC report for each flag newly set and enabled, in the order of Table 4-4; each carries the flags after the
whole event (log 20). -/
def calcReports (p : Part) (met : CalcFlags) (origin : CalcOrigin) : List ReportBody :=
  ([CalcFlag.sat, .zarea, .staleUsed, .flowSubst].filter fun k =>
    met.get k && !p.sched.flags.get k && p.plant.calcEnables.get k).map fun k => .calcSet k (flagsWith p met) origin

/-! ### Transfers -/

/-- Table 1-10: the roles of a transfer's step, each with the position it is commanded to. -/
def transferStep : TransferKind → Nat → List (Role × Position)
  | .toService, 1 => [(.bww, .closed), (.air, .closed), (.wst, .closed), (.ftw, .closed)]
  | .toService, 2 => [(.eff, .opened)]
  | .toService, 3 => [(.inf, .opened)]
  | .toStandby, 1 => [(.inf, .closed), (.bww, .closed), (.air, .closed), (.wst, .closed), (.ftw, .closed)]
  | .toStandby, 2 => [(.eff, .closed)]
  | _, _ => []

def finalStep : TransferKind → Nat
  | .toService => 3
  | .toStandby => 2

/-- The state a transfer runs in, and the state its end leaves (R9 to R11). -/
def stateFrom : TransferKind → FilterState
  | .toService => .standby
  | .toStandby => .online

def stateTo : TransferKind → FilterState
  | .toService => .online
  | .toStandby => .standby

/-- A filter outside ONLINE and WASHING has index 0 and dominant term TURBIDITY (R41). -/
def offIndex (r : FilterRecord) : FilterRecord := { r with u := 0, dominant := .turbidity }

/-- R72, R80: a filter the scheduler may name for a substitution. -/
def CanSubstitute (p : Part) (f : FilterId) : Prop :=
  ∃ r, p.filter f = some r ∧ r.state = .standby ∧ r.transfer = none ∧ p.entry f = none

/-- The roles of a transfer's first `n` steps, each with its position. -/
def stepsUpTo (k : TransferKind) (n : Nat) : List (Role × Position) :=
  (List.range n).flatMap fun i => transferStep k (i + 1)

/-- Each of these roles has been commanded to its position, and no channel of another role is touched. -/
def OnlyCommanded (p q : Part) (f : FilterId) (roles : List (Role × Position)) : Prop :=
  (∀ x ∈ roles, RoleCommanded p q f x.1 x.2) ∧
  ∀ ch, (∀ x ∈ roles, p.mapped f x.1 ≠ some ch) → q.channel ch = p.channel ch

/-- Every mapped role's channel is mapped back to it (R159). -/
def MapBothWays (p : Part) (f : FilterId) : Prop :=
  ∀ r ch, p.mapped f r = some ch → (p.channel ch).mappedTo = some (f, r)

/-- The course of a transfer that a row starts on filter `f`, with the substitution marker then standing at `marker` (R9 to
R14, Table 1-10). It is reported at step 1. STOP asserted: no command is issued. STOP released: the steps whose roles all
rest in position are passed, each role commanded; it waits in the first step with a role that travels; a command to a
channel in FAULT ends it at once, no later role commanded, the filter FAULTED VALVE; and with every role of every step in
position it completes. `ends xs bs now` says that the row ends so: it touches the pieces `xs`, makes the reports `bs`, and
`now` holds of the part after it. -/
def TransferBegins (p : Part) (f : FilterId) (rec : FilterRecord) (k : TransferKind) (marker : Option FilterId)
    (ends : List Piece → List ReportBody → (Part → Prop) → Prop) : Prop :=
  let said := fun (x : FilterState) t => ReportBody.filterState f (some x) (some (stateFrom k)) t (marker == some f)
  let first := said (stateFrom k) (some ⟨k, 1⟩)
  let at' : Nat → FilterRecord := fun n =>
    let r : FilterRecord := { rec with transfer := some ⟨k, n⟩ }
    if k = .toService then offIndex r else r
  let final : FilterRecord := { rec with state := stateTo k, transfer := none }
  let isNow := fun (r : FilterRecord) m (q : Part) => q.filter f = some r ∧ OtherFiltersKept p q f ∧ q.table.marker = m
  let cleared := if marker = some f then none else marker
  (p.stopAsserted = true → ends [.filters, .selection, .events] [first] (isNow (at' 1) marker)) ∧
  (p.stopAsserted = false → MapBothWays p f →
    (∀ n, 1 ≤ n → n ≤ finalStep k → (∀ x ∈ stepsUpTo k (n - 1), RestsAt p f x.1 x.2) →
      ((∀ x ∈ transferStep k n, RestsAt p f x.1 x.2 ∨ RoleTravels p f x.1 x.2) →
        (∃ x ∈ transferStep k n, RoleTravels p f x.1 x.2) →
        ends [.filters, .selection, .channels, .events] [first] fun q =>
          isNow (at' n) marker q ∧ OnlyCommanded p q f (stepsUpTo k n)) ∧
      (∀ before r pos later, transferStep k n = before ++ (r, pos) :: later →
        (∀ x ∈ before, RestsAt p f x.1 x.2 ∨ RoleTravels p f x.1 x.2) → RoleInFault p f r →
        ∃ cs, (k = .toService → cs = []) ∧ ends ([Piece.filters, .selection, .channels, .events, .marker, .scanDue] ++
            if k = .toService then [] else [.flags, .overload])
          ([first, said (.faulted .valve) none] ++ cs) fun q =>
            isNow (offIndex { rec with state := .faulted .valve, transfer := none }) cleared q ∧
            OnlyCommanded p q f (stepsUpTo k (n - 1) ++ before))) ∧
    ((∀ x ∈ stepsUpTo k (finalStep k), RestsAt p f x.1 x.2) →
      ∃ cs, ends [.filters, .selection, .channels, .events, .marker, .scanDue, .flags, .overload]
        ([first, said (stateTo k) none] ++ cs) fun q =>
          isNow (offIndex final) cleared q ∧
          OnlyCommanded p q f (stepsUpTo k (finalStep k)) ∧ (k = .toService → .urgency f ∈ q.events)))

/-! ### The plant record -/

/-- Table 4-1: every field within its range. -/
def PlantInRange (r : RawPlant) : Prop :=
  (20 ≤ r.vmax.toNat ∧ r.vmax.toNat ≤ 300) ∧ r.qDesign.toNat ≤ 30000 ∧
  (1 ≤ r.concurrency.toNat ∧ r.concurrency.toNat ≤ 2) ∧ r.spacing.toNat ≤ 240 ∧
  (10 ≤ r.lifetime.toNat ∧ r.lifetime.toNat ≤ 600) ∧ (10 ≤ r.overloadDelay.toNat ∧ r.overloadDelay.toNat ≤ 600) ∧
  (r.early.toNat = 0 ∨ (700 ≤ r.early.toNat ∧ r.early.toNat ≤ 999)) ∧ r.calcEnables.toNat < 16 ∧
  (10 ≤ r.staleLimit.toNat ∧ r.staleLimit.toNat ≤ 600) ∧
  (10 ≤ r.tankArea.toNat ∧ r.tankArea.toNat ≤ 20000) ∧ (10 ≤ r.basinArea.toNat ∧ r.basinArea.toNat ≤ 20000) ∧
  r.tankMin.toNat ≤ 10000 ∧ r.basinMax.toNat ≤ 10000 ∧ (1 ≤ r.holdLimit.toNat ∧ r.holdLimit.toNat ≤ 120) ∧
  r.autoResume.toNat ≤ 1 ∧ (20 ≤ r.debounce.toNat ∧ r.debounce.toNat ≤ 1000) ∧
  (∀ t ∈ [r.travelInf, r.travelEff, r.travelBww, r.travelAir, r.travelWst, r.travelFtw], 5 ≤ t.toNat ∧ t.toNat ≤ 300) ∧
  (3 ≤ r.pumpProve.toNat ∧ r.pumpProve.toNat ≤ 60) ∧ (3 ≤ r.blowerProve.toNat ∧ r.blowerProve.toNat ≤ 60) ∧
  r.pumpGuard.toNat ≤ 600 ∧ r.blowerGuard.toNat ≤ 900 ∧
  (r.polP1.toNat ≤ 1 ∧ r.polP2.toNat ≤ 1 ∧ r.polBl.toNat ≤ 1) ∧
  (r.silenceInterval.toNat = 0 ∨ (5 ≤ r.silenceInterval.toNat ∧ r.silenceInterval.toNat ≤ 3600)) ∧
  r.silenceAction.toNat ≤ 2

/-- Polarity by its code. -/
def polarityCoded (b : Byte) : Polarity := if b = 0 then .energised else .deEnergised

/-- The plant record that the fields of SET_PLANT write. -/
def plantWritten (r : RawPlant) : PlantRecord where
  vmax := r.vmax.toNat
  qDesign := r.qDesign.toNat
  concurrency := r.concurrency.toNat
  spacing := r.spacing.toNat
  lifetime := r.lifetime.toNat
  overloadDelay := r.overloadDelay.toNat
  early := r.early.toNat
  calcEnables := ⟨r.calcEnables.getLsbD 0, r.calcEnables.getLsbD 1, r.calcEnables.getLsbD 2, r.calcEnables.getLsbD 3⟩
  staleLimit := r.staleLimit.toNat
  tankArea := some r.tankArea.toNat
  basinArea := some r.basinArea.toNat
  tankMin := some r.tankMin.toNat
  basinMax := some r.basinMax.toNat
  holdLimit := r.holdLimit.toNat
  autoResume := decide (r.autoResume = 1)
  debounce := r.debounce.toNat
  travel := ⟨r.travelInf.toNat, r.travelEff.toNat, r.travelBww.toNat, r.travelAir.toNat, r.travelWst.toNat,
    r.travelFtw.toNat⟩
  pumpProve := r.pumpProve.toNat
  blowerProve := r.blowerProve.toNat
  pumpGuard := r.pumpGuard.toNat
  blowerGuard := r.blowerGuard.toNat
  polarity := ⟨polarityCoded r.polP1, polarityCoded r.polP2, polarityCoded r.polBl⟩
  silenceInterval := r.silenceInterval.toNat
  silenceAction := if r.silenceAction = 0 then .note else if r.silenceAction = 1 then .auto else .pause

/-- What the new record may touch. -/
abbrev replanning : List Piece :=
  [.plant, .plantReceived, .volumes, .silence, .flags, .overload, .scanDue, .events, .units, .lanes, .channels, .duty,
    .pumpWait, .blowerWait]
/-! ### The scheduler's timers -/

/-! ### Valves and STOP -/

/-- R151: the reading of an input level under the switch sense. -/
def ReadsActive (sense : SwitchSense) (level : Option Level) : Prop :=
  (sense = .normal ∧ level = some .energised) ∨ (sense = .inverted ∧ level = some .deEnergised)

/-- A channel with one of its inputs taken at a level. -/
def withInput (c : Channel) (which : Limit) (level : Level) : Channel :=
  match which with
  | .openLimit => { c with openInput := some level }
  | .closedLimit => { c with closedInput := some level }

/-- R152: the state of an idle channel by its readings, where not both are ACTIVE. -/
def StateByReadings (c : Channel) (x : ChannelState) : Prop :=
  (ReadsActive c.sense c.closedInput → x = .closed) ∧
  (¬ ReadsActive c.sense c.closedInput → ReadsActive c.sense c.openInput → x = .opened) ∧
  (¬ ReadsActive c.sense c.closedInput → ¬ ReadsActive c.sense c.openInput → x = .unknown)

/-- Both limits of the channel read ACTIVE. -/
def BothActive (c : Channel) : Prop := ReadsActive c.sense c.openInput ∧ ReadsActive c.sense c.closedInput

/-- Nothing of any other channel changes. -/
def OtherChannelsKept (p q : Part) (ch : ChannelId) : Prop := ∀ d, d ≠ ch → q.channel d = p.channel d

/-- R156, R157: who is told of a fault, by the state of the filter the channel is mapped to. -/
def FaultTold (p : Part) (events : List Event) (m : Option (FilterId × Role)) : Prop :=
  ∀ f role r, m = some (f, role) → p.filter f = some r →
    (∀ l, r.state = .washing l → .roleFault l role ∈ events) ∧
    ((r.state = .online ∨ r.state = .standby ∨ r.state = .stranded) → r.transfer ≠ none →
      .transferFault f role ∈ events) ∧
    ((r.state = .online ∨ r.state = .standby ∨ r.state = .stranded) → r.transfer = none →
      .filterFault f role ∈ events)

/-- The capture record of a fault of channel `ch`, whose record is `c` (R167). -/
abbrev CaptureOf (cap : Capture) (ch : ChannelId) (c : Channel) (cause : ChannelFault) (clock : Nat) (ran : Option Nat)
    (owner : Owner) : Prop :=
  cap.channel = ch ∧ cap.cause = cause ∧ cap.time = clock ∧ cap.before = c.state ∧ cap.target = c.target ∧
  (cap.openRead = .active ↔ ReadsActive c.sense c.openInput) ∧
  (cap.closedRead = .active ↔ ReadsActive c.sense c.closedInput) ∧
  cap.ran = ran ∧ cap.owner = owner ∧ cap.mappedTo = c.mappedTo

/-- A channel with record `c` enters FAULT (R156, R167, Table 8-5): the drive goes off with the state, the record is
captured and reported, and the fault is told. -/
def EntersFault (p q : Part) (ch : ChannelId) (c : Channel) (cause : ChannelFault) (ran : Option Nat) : Prop :=
  q.channel ch = { c with state := .fault cause } ∧ OtherChannelsKept p q ch ∧
  (∃ cap : Capture, q.valves.capture = some cap ∧ Reports p q [.valveFault cap] ∧
    CaptureOf cap ch c cause p.startUp.clock ran (p.ownerOf ch)) ∧
  FaultTold p q.events c.mappedTo

/-- LIMIT_READING_CHANGE: the input is taken, and the channel follows its readings (R151, R152, R154, R155): both ACTIVE is
a SWITCH fault; an idle channel takes its state from them; the limit travelled to arrives; a held limit lost is a drift;
any other change, in travel too, leaves the state as it is. -/
def LimitReadingMovesTheChannel : Prop :=
  ∀ (s : State) (ch : ChannelId) (which : Limit) (level : Level), s.part.live = true →
    let c := withInput (s.part.channel ch) which level
    (s.part.channel ch).input which ≠ some level →
    ∃ t, exec (.limitReadingChange ch which level) s = .next t ∧ t.pending = s.pending ∧
      OnlyChanges ([Piece.channels, .capture, .events] ++ reporting) s.part t.part ∧ OtherChannelsKept s.part t.part ch ∧
      (ReadsActive c.sense c.openInput → ReadsActive c.sense c.closedInput → (∀ x, c.state ≠ .fault x) →
        EntersFault s.part t.part ch c .switch none) ∧
      (¬ (ReadsActive c.sense c.openInput ∧ ReadsActive c.sense c.closedInput) →
        (c.state = .unknown → ∃ x, StateByReadings c x ∧ t.part.channel ch = { c with state := x } ∧
          t.part.link = s.part.link ∧ t.part.events = s.part.events) ∧
        (∀ e ran, c.state = .opening e ran → which = .openLimit → ReadsActive c.sense c.openInput →
          t.part.channel ch = { c with state := .opened } ∧ t.part.link = s.part.link) ∧
        (∀ e ran, c.state = .closing e ran → which = .closedLimit → ReadsActive c.sense c.closedInput →
          t.part.channel ch = { c with state := .closed } ∧ t.part.link = s.part.link) ∧
        (c.state = .closed → ¬ ReadsActive c.sense c.closedInput →
          ∃ x, StateByReadings c x ∧ t.part.channel ch = { c with state := x } ∧
            Reports s.part t.part [.valveDrift ch c.mappedTo .closed x (s.part.ownerOf ch)]) ∧
        (c.state = .opened → ¬ ReadsActive c.sense c.openInput →
          ∃ x, StateByReadings c x ∧ t.part.channel ch = { c with state := x } ∧
            Reports s.part t.part [.valveDrift ch c.mappedTo .opened x (s.part.ownerOf ch)])) ∧
      ((∃ x, c.state = .fault x) ∨ (¬ (ReadsActive c.sense c.openInput ∧ ReadsActive c.sense c.closedInput) ∧
          (c.state = .stopped ∨ (c.state = .closed ∧ ReadsActive c.sense c.closedInput) ∨
            (c.state = .opened ∧ ReadsActive c.sense c.openInput) ∨
            ((∃ e ran, c.state = .opening e ran) ∧ ¬ (which = .openLimit ∧ ReadsActive c.sense c.openInput)) ∨
            ((∃ e ran, c.state = .closing e ran) ∧ ¬ (which = .closedLimit ∧ ReadsActive c.sense c.closedInput)))) →
        t.part.channel ch = c ∧ t.part.link = s.part.link ∧ t.part.events = s.part.events)

/-- TRAVEL_EXPIRY on a channel still in travel: TRAVEL fault, with the travel time that ran (R154, R156, R167). -/
def TravelExpiryFaultsTheChannel : Prop :=
  ∀ (s : State) (ch : ChannelId) (e ran : Nat), Outstanding s (.travelExpiry ch) →
    ((s.part.channel ch).state = .opening e ran ∨ (s.part.channel ch).state = .closing e ran) →
    ∃ t, exec (.travelExpiry ch) s = .next t ∧ t.pending = s.pending ∧
      OnlyChanges ([Piece.channels, .capture, .events] ++ reporting) s.part t.part ∧
      EntersFault s.part t.part ch (s.part.channel ch) .travel (some ran) ∧ t.part.drive ch = .off

/-- The channel is OPENING or CLOSING. -/
def InTravel (c : Channel) : Prop := ∃ e ran, c.state = .opening e ran ∨ c.state = .closing e ran

/-- The assertion of STOP on the channels, the arbiter and the lanes (R164). -/
def StopTakesEffect (p q : Part) : Prop :=
  q.valves.stop = .asserted ∧
  (∀ ch, (InTravel (p.channel ch) → q.channel ch = { p.channel ch with state := .stopped }) ∧
    (¬ InTravel (p.channel ch) → q.channel ch = p.channel ch)) ∧
  (∀ ch, q.drive ch = .off) ∧ q.ready = false ∧
  .arbiterStopAsserted ∈ q.events ∧ ∀ l, .laneStopAsserted l ∈ q.events

/-- The release of STOP on the channels (R165): a STOPPED channel takes its state from its readings; one that shows both
limits enters FAULT SWITCH, is captured, reported and told (R152, R156). Channel after channel in ascending number, and
STOP (released) reported after them: the model's order (log 44). -/
def StoppedChannelsSettle (p q : Part) : Prop :=
  (∀ ch, (p.channel ch).state ≠ .stopped → q.channel ch = p.channel ch) ∧
  (∀ ch, (p.channel ch).state = .stopped → ¬ BothActive (p.channel ch) →
    ∃ x, StateByReadings (p.channel ch) x ∧ q.channel ch = { p.channel ch with state := x }) ∧
  ∃ caps : List Capture,
    (caps.map (·.channel)).Pairwise (· < ·) ∧
    (∀ ch, (p.channel ch).state = .stopped → BothActive (p.channel ch) → ∃ cap ∈ caps, cap.channel = ch) ∧
    (∀ cap ∈ caps, (p.channel cap.channel).state = .stopped ∧ BothActive (p.channel cap.channel) ∧
      q.channel cap.channel = { p.channel cap.channel with state := .fault .switch } ∧
      CaptureOf cap cap.channel (p.channel cap.channel) .switch p.startUp.clock none (p.ownerOf cap.channel) ∧
      FaultTold p q.events (p.channel cap.channel).mappedTo) ∧
    q.valves.capture = caps.getLast?.or p.valves.capture ∧
    Reports p q (caps.map .valveFault ++ [.stopReleased p.startUp.clock])

/-! ### Units -/

/-- Nothing of any other unit changes. -/
def OtherUnitsKept (p q : Part) (u : UnitId) : Prop := ∀ v, v ≠ u → q.unit v = p.unit v

/-- R141: the reading of the feedback input. -/
def readingAt (pol : Polarity) (level : Level) : Feedback :=
  if (pol = .energised ∧ level = .energised) ∨ (pol = .deEnergised ∧ level = .deEnergised) then .running else .stopped

/-- R145: what a unit tells the lanes and the scheduler. -/
def NewsTold (events : List Event) (u : UnitId) (n : UnitNews) : Prop :=
  (∀ l, .laneUnitNews l u n ∈ events) ∧ .schedulerUnitNews u n ∈ events

/-- R148: the cause an EQUIPMENT report carries for a FAILED unit. -/
def failureOf : UnitState → Option FailCause
  | .failed c => some c
  | _ => none

/-- The wait list a unit of this kind serves. -/
def waitOf (p : Part) : UnitId → List LaneId
  | .p1 | .p2 => p.arb.pumpWait
  | .bl => p.arb.blowerWait

/-- R138: a unit that becomes AVAILABLE goes to the lane at the head of its wait list, which is told. -/
def FreedUnit (p q : Part) (u : UnitId) : Prop :=
  (waitOf p u = [] → (q.unit u).state = .available ∧ waitOf q u = []) ∧
  (∀ l rest, waitOf p u = l :: rest →
    (q.unit u).state = .allocated l ∧ waitOf q u = rest ∧ .grant l u ∈ q.events)

/-- Pieces a unit that changes hands touches. -/
abbrev handing : List Piece := [.units, .duty, .pumpWait, .blowerWait, .events]

/-- PROVE_EXPIRY: a unit still PROVING is FAILED PROVE, reported and told (R140); GUARD_END: a unit in GUARD is AVAILABLE,
its wait list served, and told (R143, R138, R145). -/
def ProveAndGuardTimesEnd : Prop :=
  ∀ (s : State) (u : UnitId),
    (∀ l e, Outstanding s (.proveExpiry u) → (s.part.unit u).state = .proving l e →
      ∃ t, exec (.proveExpiry u) s = .next t ∧ t.pending = s.pending ∧
        OnlyChanges ([Piece.units, .events] ++ reporting) s.part t.part ∧ OtherUnitsKept s.part t.part u ∧
        (t.part.unit u).state = .failed .prove ∧ .proveFailed l u ∈ t.part.events ∧
        NewsTold t.part.events u .failed ∧
        Reports s.part t.part [.equipment u .proveFailed (.failed .prove) (.proving l e) (some l) (some .prove)
          (readingAt (s.part.plant.polarity.get u) (s.part.unit u).input)]) ∧
    (∀ e, Outstanding s (.guardEnd u) → (s.part.unit u).state = .guarded e →
      ∃ t, exec (.guardEnd u) s = .next t ∧ t.pending = s.pending ∧
        OnlyChanges handing s.part t.part ∧ OtherUnitsKept s.part t.part u ∧ FreedUnit s.part t.part u ∧
        NewsTold t.part.events u .available)

/-- Guard time of a unit in the plant record. -/
def guardOf (p : Part) : UnitId → Nat
  | .p1 | .p2 => p.plant.pumpGuard
  | .bl => p.plant.blowerGuard

/-- The unit is PROVING or RUNNING for the lane. -/
def RunsFor (p : Part) (u : UnitId) (l : LaneId) : Prop :=
  (p.unit u).state = .running l ∨ ∃ e, (p.unit u).state = .proving l e

/-- A wash that no longer names the unit as granted. -/
def withoutUnit (w : Wash) (u : UnitId) : Wash :=
  match u with
  | .p1 => if w.pump = some .p1 then { w with pump := none } else w
  | .p2 => if w.pump = some .p2 then { w with pump := none } else w
  | .bl => { w with blower := false }

/-- R144 for one unit. PROVING or RUNNING for a lane, it is stopped: GUARD until its guard end, or with a guard time of 0
AVAILABLE, its wait list served and the AVAILABLE notice sent (R138); EQUIPMENT (STOPPED) is reported, with new state GUARD
or AVAILABLE. The lane's record of the grant is cleared in the same step, by the model's choice (log 13). Any other unit
stays. -/
def UnitStopped (p q : Part) (u : UnitId) : Prop :=
  ((∀ l, ¬ RunsFor p u l) → q = p) ∧
  ∀ l, RunsFor p u l →
    let said := fun now => ReportBody.equipment u .stopped now (p.unit u).state (some l) none
      (readingAt (p.plant.polarity.get u) (p.unit u).input)
    let guarded := UnitState.guarded (min (p.startUp.clock + guardOf p u) 4294967295)
    OnlyChanges ([Piece.lanes] ++ handing ++ reporting) p q ∧ OtherUnitsKept p q u ∧
    (q.unit u).input = (p.unit u).input ∧
    q.lane l = (p.lane l).map (withoutUnit · u) ∧ OtherLaneKept p q l ∧
    (0 < guardOf p u → OnlyChanges ([Piece.lanes, .units, .events] ++ reporting) p q ∧
      (q.unit u).state = guarded ∧ Reports p q [said guarded]) ∧
    (guardOf p u = 0 → FreedUnit p q u ∧ NewsTold q.events u .available ∧ Reports p q [said .available])

/-- ARBITER_STOP_ASSERTED (R144): the units one after the other, in the model's order P1, P2, BL (log 43). -/
def ArbiterStopActsUnitByUnit : Prop :=
  ∀ (s : State), Outstanding s .arbiterStopAsserted →
    ∃ t p₁ p₂, exec .arbiterStopAsserted s = .next t ∧ t.pending = s.pending ∧
      UnitStopped (taking s.part .arbiterStopAsserted) p₁ .p1 ∧ UnitStopped p₁ p₂ .p2 ∧ UnitStopped p₂ t.part .bl

/-- ARBITER_STOP_ASSERTED: with guard times above 0 every PROVING or RUNNING unit goes to GUARD, the lane's record of its
grant is cleared, by the model's choice in the same step (log 13), and no other unit changes (R144). -/
def ArbiterStopGuardsRunningUnits : Prop :=
  ∀ (s : State), Outstanding s .arbiterStopAsserted → (∀ u, 0 < guardOf s.part u) →
    ∃ t, exec .arbiterStopAsserted s = .next t ∧ t.pending = s.pending ∧
      OnlyChanges ([Piece.lanes, .units, .events] ++ reporting) s.part t.part ∧
      (∀ u, (t.part.unit u).input = (s.part.unit u).input ∧
        ((∃ l, (s.part.unit u).state = .running l ∨ ∃ e, (s.part.unit u).state = .proving l e) →
          (t.part.unit u).state = .guarded (min (s.part.startUp.clock + guardOf s.part u) 4294967295)) ∧
        ((∀ l, (s.part.unit u).state ≠ .running l) → (∀ l e, (s.part.unit u).state ≠ .proving l e) →
          (t.part.unit u).state = (s.part.unit u).state)) ∧
      (∀ l w, s.part.lane l = some w → ∃ w', t.part.lane l = some w' ∧
        (RunsFor s.part .p1 l → w'.pump ≠ some .p1) ∧ (RunsFor s.part .p2 l → w'.pump ≠ some .p2) ∧
        (RunsFor s.part .bl l → w'.blower = false))

/-! ### The admission scan -/

/-- R46, R49, R51: the scan does not pass over the entry. -/
def Eligible (p : Part) (e : Entry) : Prop :=
  (∀ d, e.deferUntil = some d → d ≤ p.startUp.clock) ∧ hasClass p.sched.mask e.cls = false

/-- R65: the head of the queue, the first entry the scan does not pass over. -/
def IsHead (p : Part) (e : Entry) : Prop :=
  ∃ front back, p.sched.queue = front ++ e :: back ∧ Eligible p e ∧ ∀ x ∈ front, ¬ Eligible p x

/-- R67. -/
def LaneFree (p : Part) : Prop := (∃ l, p.lane l = none) ∧ p.busyLanes.length < p.plant.concurrency

/-- R68. -/
def Spaced (p : Part) (e : Entry) : Prop :=
  e.cls = .breakthrough ∨ e.cls = .restart ∨
    ∀ a, p.sched.lastAdmission = some a → 60 * p.plant.spacing ≤ p.startUp.clock - a

/-- Outside FAILED and LOCKED. -/
def UsableUnit (p : Part) (u : UnitId) : Prop := (p.unit u).state ≠ .locked ∧ ∀ c, (p.unit u).state ≠ .failed c

/-- R69. -/
def Equipped (p : Part) (r : Recipe) : Prop :=
  ((∃ ph ∈ r.phases, ph.kind = .airWater ∨ ph.kind = .water) → UsableUnit p .p1 ∨ UsableUnit p .p2) ∧
  ((∃ ph ∈ r.phases, ph.kind = .airWater ∨ ph.kind = .air) → UsableUnit p .bl)

/-- R70. -/
def Measured (p : Part) : Prop := p.front.tank.quality.usable = true ∧ p.front.basin.quality.usable = true

/-- R73: W of the recipe for the filter. -/
def waterNeed (rec : FilterRecord) (r : Recipe) : Nat := (rec.cfg.area * r.sumWater + 35999) / 36000

/-- R73: X of the recipe for the filter. -/
def wasteNeed (rec : FilterRecord) (r : Recipe) : Nat :=
  (36 * rec.cfg.area * r.sumDrain + rec.cfg.area * r.sumWaste + 35999) / 36000

/-- R74. -/
def WaterFor (p : Part) (w : Nat) : Prop :=
  ∃ v, p.front.tankAvail = some v ∧ w + (p.sched.shares.a.water + p.sched.shares.b.water) ≤ v

/-- R75. -/
def RoomFor (p : Part) (x : Nat) : Prop :=
  ∃ v, p.front.basinRoom = some v ∧ x + (p.sched.shares.a.waste + p.sched.shares.b.waste) ≤ v

/-- The scan comes to this head: OPERATING, the mode not PAUSED; the filter and the recipe a wash of it would use. -/
def ScanReaches (s : State) (e : Entry) (rec : FilterRecord) (r : Recipe) : Prop :=
  s.part.live = true ∧ s.part.startUp.top = .operating ∧ s.part.sched.scanDue = true ∧ s.part.sched.mode ≠ .paused ∧
  IsHead s.part e ∧ s.part.filter e.filter = some rec ∧ s.part.recipe (e.override.getD rec.cfg.slot) = some r

/-- The scan ends with this blocked reason and does nothing else. -/
def EndsBlocked (s : State) (b : BlockedReason) : Prop :=
  ∃ t, exec .admissionScan s = .next t ∧ t.pending = s.pending ∧ OnlyChanges [.blocked, .scanDue] s.part t.part ∧
    t.part.sched.blocked = b ∧ t.part.sched.scanDue = false

/-- ADMISSION_SCAN before the tests (R65, R66): PAUSED ends it; so does a queue without a head, where the EARLY rule raises
nothing; so does an outstanding proposal that the head does not outrank. -/
def ScanEndsBeforeTheTests : Prop :=
  ∀ (s : State), s.part.live = true → s.part.startUp.top = .operating → s.part.sched.scanDue = true →
    (s.part.sched.mode = .paused → EndsBlocked s .paused) ∧
    (s.part.sched.mode ≠ .paused → (∀ e ∈ s.part.sched.queue, ¬ Eligible s.part e) →
      (s.part.plant.early = 0 ∨ hasClass s.part.sched.mask .early = true ∨ (∃ l w, s.part.lane l = some w) ∨
        ∃ e ∈ s.part.sched.queue, e.cls = .early) →
      EndsBlocked s .empty) ∧
    (s.part.sched.mode ≠ .paused → ∀ e pr, IsHead s.part e → s.part.sched.proposal = some pr →
      (e.filter = pr.filter ∨ ∀ x, s.part.entry pr.filter = some x → x.cls.rank ≤ e.cls.rank) →
      EndsBlocked s .proposed)

/-- The first failing test of Table 4-2, of those before the loading test (R67 to R70). -/
def FailsBeforeLoading (p : Part) (e : Entry) (r : Recipe) (b : BlockedReason) : Prop :=
  (b = .noLane ∧ ¬ LaneFree p) ∨
  (b = .spacing ∧ LaneFree p ∧ ¬ Spaced p e) ∨
  (b = .equipment ∧ LaneFree p ∧ Spaced p e ∧ ¬ Equipped p r) ∨
  (b = .measure ∧ LaneFree p ∧ Spaced p e ∧ Equipped p r ∧ ¬ Measured p)

/-- The tests before the loading test all pass. -/
def ReadyForLoading (p : Part) (e : Entry) (r : Recipe) : Prop := LaneFree p ∧ Spaced p e ∧ Equipped p r ∧ Measured p

/-- The first failing test after the loading test (R74, R75). -/
def FailsAfterLoading (p : Part) (rec : FilterRecord) (r : Recipe) (b : BlockedReason) : Prop :=
  (b = .water ∧ ¬ WaterFor p (waterNeed rec r)) ∨
  (b = .waste ∧ WaterFor p (waterNeed rec r) ∧ ¬ RoomFor p (wasteNeed rec r))

/-- R71, R72: the flags the loading test of an ONLINE head meets; for any other head no loading is computed. -/
def testFlags (p : Part) (rec : FilterRecord) : CalcFlags := loadingFlags p (p.serviceArea - rec.cfg.area)

/-- R71, R88: the reports of the loading test. -/
def testReports (p : Part) (f : FilterId) (rec : FilterRecord) : List ReportBody :=
  calcReports p (testFlags p rec) (.loading (some f))

/-- The lowest-numbered filter that can be substituted (R72). -/
def FirstSubstitute (p : Part) (g : FilterId) (x : FilterRecord) : Prop :=
  p.filter g = some x ∧ CanSubstitute p g ∧ ∀ h, h < g → ¬ CanSubstitute p h

/-- How a row that puts the entry to the tests of Table 4-2 goes when one fails (R65 to R75). `stops xs bs b now`: it touches
the pieces `xs`, makes the reports `bs`, the reason is `b`, and `now` holds of the part after it. An ONLINE head's loading is
computed and its flags set, whether or not a later test then fails; over Vmax the lowest-numbered filter that can be
substituted is started and named by the marker, when the marker names none. -/
def TestsEnd (p : Part) (e : Entry) (rec : FilterRecord) (r : Recipe)
    (stops : List Piece → List ReportBody → BlockedReason → (Part → Prop) → Prop) : Prop :=
  let loaded := fun b => stops ([.flags] ++ reporting) (testReports p e.filter rec) b fun q =>
    q.sched.flags = flagsWith p (testFlags p rec)
  (∀ b, FailsBeforeLoading p e r b → stops [] [] b fun _ => True) ∧
  (ReadyForLoading p e r →
    (rec.state ≠ .online → ∀ b, FailsAfterLoading p rec r b → stops [] [] b fun _ => True) ∧
    (rec.state = .online → loadingWithout p rec.cfg.area ≤ p.plant.vmax → ∀ b, FailsAfterLoading p rec r b → loaded b) ∧
    (rec.state = .online → p.plant.vmax < loadingWithout p rec.cfg.area →
      (p.table.marker ≠ none → loaded .loadingSubst) ∧
      (p.table.marker = none → (∀ g, ¬ CanSubstitute p g) → loaded .loading) ∧
      (∀ g x, p.table.marker = none → FirstSubstitute p g x →
        TransferBegins p g x .toService (some g) fun xs bs now =>
          stops ([Piece.flags, .marker] ++ xs ++ reporting) (testReports p e.filter rec ++ bs) .loadingSubst now)))

/-- ADMISSION_SCAN ends with the blocked reason; beside it and the trigger taken it touches `xs` and makes the reports `bs`.
`due`: whether another scan is triggered, where `xs` does not tell that itself. -/
def ScanEnds (s : State) (due : Bool) (xs : List Piece) (bs : List ReportBody) (b : BlockedReason) (now : Part → Prop) :
    Prop :=
  ∃ t, exec .admissionScan s = .next t ∧ t.pending = s.pending ∧
    OnlyChanges ([Piece.blocked, .scanDue] ++ xs) s.part t.part ∧ t.part.sched.blocked = b ∧
    (.scanDue ∉ xs → t.part.sched.scanDue = due) ∧ Reports s.part t.part bs ∧ now t.part

/-- R65: the head ranks strictly above the entry of another filter that a proposal is outstanding for. -/
def RanksAboveProposal (p : Part) (e : Entry) (pr : Proposal) : Prop :=
  p.sched.proposal = some pr ∧ e.filter ≠ pr.filter ∧ ∃ x, p.entry pr.filter = some x ∧ e.cls.rank < x.cls.rank

/-- ADMISSION_SCAN under a proposal that the head outranks: it is withdrawn HIGHER, which triggers another scan (R65, R85),
and the tests follow. -/
def ScanEndsHigher (s : State) (pr : Proposal) (xs : List Piece) (bs : List ReportBody) (b : BlockedReason)
    (now : Part → Prop) : Prop :=
  ScanEnds s true ([Piece.proposal, .events] ++ reporting ++ xs) ([.proposalWithdrawn pr.filter .higher none] ++ bs) b now

/-- ADMISSION_SCAN at a test of Table 4-2 that fails (R65 to R75): the first that fails gives the blocked reason. With a
proposal outstanding that the head outranks, the proposal is withdrawn first. -/
def ScanEndsAtTheFirstFailingTest : Prop :=
  ∀ (s : State) (e : Entry) (rec : FilterRecord) (r : Recipe), ScanReaches s e rec r →
    (s.part.sched.proposal = none → TestsEnd s.part e rec r (ScanEnds s false)) ∧
    ∀ pr, RanksAboveProposal s.part e pr → TestsEnd s.part e rec r fun xs bs b now =>
      ScanEndsHigher s pr xs bs b fun q => now q ∧ q.sched.proposal = none

/-- A lane just assigned by admission, on its way through its first phase (R106). -/
def WashStarted (p : Part) (w : Wash) (f : FilterId) (slot : SlotId) (water waste : Nat) : Prop :=
  w.filter = f ∧ w.slot = slot ∧ w.phase = 1 ∧ w.elapsed = 0 ∧ w.remWater = water ∧ w.remWaste = waste ∧
  w.startedAt = p.startUp.clock ∧ w.ripenTimeout = false

/-- The wash of the entry is admitted to lane `l` (R77, R16, R78, R106). -/
def Admits (p q : Part) (e : Entry) (rec : FilterRecord) (r : Recipe) (l : LaneId) : Prop :=
  q.entry e.filter = none ∧ q.filter e.filter = some { rec with state := .washing l } ∧
  (∀ g, g ≠ e.filter → q.entry g = p.entry g ∧ q.filter g = p.filter g) ∧
  (∃ w, q.lane l = some w ∧
    WashStarted p w e.filter (e.override.getD rec.cfg.slot) (waterNeed rec r) (wasteNeed rec r)) ∧
  OtherLaneKept p q l ∧ q.sched.shares = p.sched.shares.set l ⟨waterNeed rec r, wasteNeed rec r⟩ ∧
  q.sched.lastAdmission = some p.startUp.clock

/-- What an admission touches. -/
abbrev admitting : List Piece :=
  laneWork ++ [.queue, .filters, .selection, .shares, .lastAdmission, .flags, .overload, .scanDue]

/-- The lane admission takes: the lowest-lettered IDLE one. -/
def LowestIdle (p : Part) (l : LaneId) : Prop := p.lane l = none ∧ (l = .b → ∃ w, p.lane .a = some w)

/-- The reports of an admission, in their order (R77, R106): the entry removed, the filter's state, the flags that the
loading computed anew may set, the admission, the first phase, and then what that phase's entry reports. -/
def admissionReports (p : Part) (e : Entry) (rec : FilterRecord) (r : Recipe) (l : LaneId)
    (between after : List ReportBody) : List ReportBody :=
  let slot := e.override.getD rec.cfg.slot
  let held := p.sched.shares.set l ⟨waterNeed rec r, wasteNeed rec r⟩
  let first := r.phases.headD noPhase
  [.request .removed e.filter e.cls none e.source e.u (some .admitted),
    .filterState e.filter (some (.washing l)) (some rec.state) rec.transfer (p.table.marker == some e.filter)] ++ between ++
  [.admitted e.filter l e.cls e.source slot e.override.isSome (waterNeed rec r) (wasteNeed rec r)
      (held.a.water + held.b.water) (held.a.waste + held.b.waste) p.startUp.clock,
    .phase l e.filter 1 first.kind first.duration none (waterNeed rec r) (wasteNeed rec r)] ++ after

/-- Every test of Table 4-2 passes for the entry (R67 to R75). -/
def PassesTests (p : Part) (e : Entry) (rec : FilterRecord) (r : Recipe) : Prop :=
  ReadyForLoading p e r ∧ (rec.state = .online → loadingWithout p rec.cfg.area ≤ p.plant.vmax) ∧
  WaterFor p (waterNeed rec r) ∧ RoomFor p (wasteNeed rec r)

/-- The row admits the entry (R77): `done` as for `TestsEnd`. -/
def AdmitsByTests (p : Part) (e : Entry) (rec : FilterRecord) (r : Recipe) (l : LaneId)
    (done : List Piece → List ReportBody → (Part → Prop) → Prop) : Prop :=
  ∃ between after, (rec.state ≠ .online → between = []) ∧
    (∀ b ∈ between, ∃ k all, b = .calcSet k all (.loading none)) ∧
    done admitting
      ((if rec.state = .online then testReports p e.filter rec else []) ++ admissionReports p e rec r l between after)
      fun q => Admits p q e rec r l ∧ q.sched.scanDue = true

/-- R76, R77, R82: what a scan does with a head that passes every test. -/
def TestsPass (p : Part) (e : Entry) (rec : FilterRecord) (r : Recipe)
    (ends : List Piece → List ReportBody → BlockedReason → (Part → Prop) → Prop) : Prop :=
  PassesTests p e rec r → ∀ l, LowestIdle p l →
    ((p.sched.mode = .auto ∨ e.cls = .manual) → AdmitsByTests p e rec r l fun xs bs now => ends xs bs .none now) ∧
    (p.sched.mode = .directed → e.cls ≠ .manual →
      let expiry := min (p.startUp.clock + p.plant.lifetime) 4294967295
      ends ([Piece.proposal, .flags, .events] ++ reporting)
        ((if rec.state = .online then testReports p e.filter rec else []) ++
          [.proposal e.filter e.cls e.source e.u (e.override.getD rec.cfg.slot) (waterNeed rec r) (wasteNeed rec r) l expiry])
        .proposed fun q => q.sched.proposal = some ⟨e.filter, expiry⟩ ∧
          q.sched.flags = if rec.state = .online then flagsWith p (testFlags p rec) else p.sched.flags)

/-- Washwater rate of a phase (R113). -/
def waterFlow (ph : Phase) : Nat := if ph.kind = .airWater ∨ ph.kind = .water then ph.rate else 0

/-- Waste rate of a phase (R113). -/
def wasteFlow (ph : Phase) : Nat := if ph.kind = .airWater ∨ ph.kind = .water ∨ ph.kind = .ripen then ph.rate else 0

/-- Drain depth of a phase (R113). -/
def drainOf (ph : Phase) : Nat := if ph.kind = .drain then ph.depth else 0

/-- R113: the washwater remaining in phase `ph`, number `c`, after `e` seconds of it. -/
def waterLeft (area : Nat) (ps : List Phase) (c : Nat) (ph : Phase) (e : Nat) : Nat :=
  (area * (((ps.drop c).map fun x => waterFlow x * x.duration).sum + waterFlow ph * (ph.duration - e)) + 35999) / 36000

/-- R113: the waste remaining in phase `ph`, number `c`, after `e` seconds of it. -/
def wasteLeft (area : Nat) (ps : List Phase) (c : Nat) (ph : Phase) (e : Nat) : Nat :=
  (36 * area * (drainOf ph + ((ps.drop c).map drainOf).sum) +
    area * (((ps.drop c).map fun x => wasteFlow x * x.duration).sum + wasteFlow ph * (ph.duration - e)) + 35999) / 36000

/-- Lane `l` washes filter `w.filter`, of record `rec`, with recipe `r`, and stands in its phase `ph`. -/
def WashesBy (p : Part) (l : LaneId) (w : Wash) (rec : FilterRecord) (r : Recipe) (ph : Phase) : Prop :=
  p.lane l = some w ∧ p.filter w.filter = some rec ∧ p.recipe w.slot = some r ∧ r.phases[w.phase - 1]? = some ph

/-- The filter's turbidity point is usable and at or below the phase's target (R112). -/
def TurbidityMet (p : Part) (w : Wash) (ph : Phase) : Prop :=
  ∃ v, (p.point (.tb w.filter)).usableValue = some v ∧ v ≤ ph.target

/-- LANE_SECOND of a RUNNING lane with no end of its phase outstanding (R111 to R114): elapsed and, in a RIPEN phase, the
confirm count move; the amounts are computed afresh and become the lane's shares; an end reached is told. With a confirm time
of 0 a point that confirms ends the phase CONFIRMED. -/
def LaneSecondCountsASecond : Prop :=
  ∀ (s : State) (l : LaneId) (w : Wash) (rec : FilterRecord) (r : Recipe) (ph : Phase), Outstanding s (.laneSecond l) →
    WashesBy s.part l w rec r ph → w.state = .running → .phaseTimeEnd l ∉ s.part.events →
    .ripenConfirmed l ∉ s.part.events →
    ∃ t confirm, exec (.laneSecond l) s = .next t ∧ t.pending = s.pending ∧
      OnlyChanges [.lanes, .shares, .scanDue, .events] s.part t.part ∧ OtherLaneKept s.part t.part l ∧
      (let water := waterLeft rec.cfg.area r.phases w.phase ph (w.elapsed + 1)
       let waste := wasteLeft rec.cfg.area r.phases w.phase ph (w.elapsed + 1)
       t.part.lane l =
         some { w with elapsed := w.elapsed + 1, confirm := confirm, remWater := water, remWaste := waste } ∧
       t.part.sched.shares = s.part.sched.shares.set l ⟨water, waste⟩) ∧
      (ph.kind ≠ .ripen → confirm = w.confirm) ∧
      (ph.kind = .ripen → TurbidityMet s.part w ph → confirm = w.confirm + 1) ∧
      (ph.kind = .ripen → ¬ TurbidityMet s.part w ph → confirm = 0) ∧
      (let confirms := ph.kind = .ripen ∧
         ((ph.confirm = 0 ∧ TurbidityMet s.part w ph) ∨ (ph.confirm ≠ 0 ∧ ph.confirm ≤ confirm))
       (confirms → .ripenConfirmed l ∈ t.part.events) ∧
       (¬ confirms → ph.duration ≤ w.elapsed + 1 → .phaseTimeEnd l ∈ t.part.events))

/-- LANE_POINT_CHANGE of the filter's turbidity point in a RUNNING RIPEN phase (R112): one that leaves the point not usable
or above the target sets the confirm count to 0; one that meets the target ends the phase CONFIRMED where the confirm time
is 0, and else changes nothing. With an end of the phase outstanding it has no effect (log 19). -/
def TurbidityChangesCount : Prop :=
  ∀ (s : State) (l : LaneId) (w : Wash) (rec : FilterRecord) (r : Recipe) (ph : Phase), WashesBy s.part l w rec r ph →
    Outstanding s (.lanePoint l (.tb w.filter)) → w.state = .running → ph.kind = .ripen →
    ∃ t, exec (.lanePointChange l (.tb w.filter)) s = .next t ∧ t.pending = s.pending ∧
      OnlyChanges [.lanes, .events] s.part t.part ∧ OtherLaneKept s.part t.part l ∧
      (let ended := .phaseTimeEnd l ∈ s.part.events ∨ .ripenConfirmed l ∈ s.part.events
       (¬ ended → ¬ TurbidityMet s.part w ph → t.part.lane l = some { w with confirm := 0 }) ∧
       (ended ∨ TurbidityMet s.part w ph → t.part.lane l = some w) ∧
       (¬ ended → TurbidityMet s.part w ph → ph.confirm = 0 → .ripenConfirmed l ∈ t.part.events))

/-- What the end of a phase touches. -/
abbrev phaseEnding : List Piece := laneWork ++ [.filters, .selection, .shares, .flags, .overload, .scanDue]

/-- The phase of a RUNNING lane has ended (R111): the next phase is entered at 0 seconds with its amounts, or after the
last the lane gives up its units and returns its filter to the destination, or has returned it. -/
def PhaseEnded (p q : Part) (l : LaneId) (w : Wash) (rec : FilterRecord) (r : Recipe) (timeout : Bool) : Prop :=
  OnlyChanges phaseEnding p q ∧ OtherLaneKept p q l ∧
  (∀ ph, w.phase < r.phases.length → r.phases[w.phase]? = some ph →
    ∃ w', q.lane l = some w' ∧ w'.state.holdable = true ∧
      SamePhase { w with
        phase := w.phase + 1
        elapsed := 0
        remWater := waterLeft rec.cfg.area r.phases (w.phase + 1) ph 0
        remWaste := wasteLeft rec.cfg.area r.phases (w.phase + 1) ph 0
        ripenTimeout := timeout } w' ∧
      q.sched.shares = p.sched.shares.set l ⟨w'.remWater, w'.remWaste⟩ ∧ q.filter w.filter = some rec) ∧
  (r.phases.length ≤ w.phase →
    let d := if p.plant.vmax < currentLoading p then Destination.online else rec.cfg.dest
    q.sched.shares = p.sched.shares.set l ⟨0, 0⟩ ∧
    HoldsNoUnit q l ∧
    ((∃ w' step, q.lane l = some w' ∧ w'.state = .returning d step ∧
        SamePhase { w with remWater := 0, remWaste := 0, ripenTimeout := timeout } w' ∧ q.filter w.filter = some rec) ∨
      (q.lane l = none ∧ ∃ x, q.filter w.filter = some x ∧ x.state = destinationState d ∧
        x.washes = min (rec.washes + 1) 65535)))

/-- The kinds of unit the phase needs (Table 5-4) include this unit's, and no unit of it is usable. -/
def KindLost (p : Part) (ph : Phase) (u : UnitId) : Prop :=
  match u with
  | .p1 | .p2 => (ph.kind = .airWater ∨ ph.kind = .water) ∧ ¬ UsableUnit p .p1 ∧ ¬ UsableUnit p .p2
  | .bl => (ph.kind = .air ∨ ph.kind = .airWater) ∧ ¬ UsableUnit p .bl

/-- R115: the condition under which a tested cause joins on a lane in phase `ph`. -/
def CauseHolds (p : Part) (ph : Phase) : HoldCause → Prop
  | .inhibit => p.stopAsserted = true
  | .water => (ph.kind = .airWater ∨ ph.kind = .water) ∧
      ∃ v low, p.front.tank.usableValue = some v ∧ p.plant.tankMin = some low ∧ v ≤ low
  | .waste => (ph.kind = .drain ∨ ph.kind = .airWater ∨ ph.kind = .water ∨ ph.kind = .ripen) ∧
      ∃ v high, p.front.basin.usableValue = some v ∧ p.plant.basinMax = some high ∧ high ≤ v
  | .equipment => KindLost p ph .p1 ∨ KindLost p ph .bl
  | .host | .valve => False

/-- These are the causes, of those tested in this order, whose condition holds. -/
def CausesAre (p : Part) (ph : Phase) (tested causes : List HoldCause) : Prop :=
  causes.Sublist tested ∧ ∀ c ∈ tested, c ∈ causes ↔ CauseHolds p ph c

/-- A set that causes have joined. -/
def joined (h : HoldSet) (causes : List HoldCause) : HoldSet := causes.foldl (fun h c => h.set c true) h

/-- R118: one report for each cause that joins, with the set as it then is; the first begins the hold. -/
def heldReports (p : Part) (l : LaneId) (w : Wash) : HoldSet → Bool → List HoldCause → List ReportBody
  | _, _, [] => []
  | h, began, c :: rest =>
    .laneHeld l w.filter w.phase w.elapsed c (h.set c true) began (min (w.holdCount + 1) 255) p.startUp.clock ::
      heldReports p l w (h.set c true) false rest

/-- The lane has entered HELD by these causes (R117): its place in the phase kept, every unit released and every request
withdrawn, AIR and BWW to be closed. -/
def HeldBy (p q : Part) (l : LaneId) (w : Wash) (causes : List HoldCause) : Prop :=
  OtherLaneKept p q l ∧
  (∃ w', q.lane l = some w' ∧ SamePhase w w' ∧ w'.state = .held p.startUp.clock ∧ w'.holds = joined w.holds causes ∧
    w'.holdCount = min (w.holdCount + 1) 255 ∧ w'.pump = none ∧ w'.blower = false ∧
    w'.targets.get .air = some .closed ∧ w'.targets.get .bww = some .closed) ∧
  HoldsNoUnit q l

/-- The lane has entered HELD with this cause, and LANE_HELD is reported (R117, R118). -/
def HoldBegan (p q : Part) (l : LaneId) (w : Wash) (cause : HoldCause) : Prop :=
  OnlyChanges laneWork p q ∧ HeldBy p q l w [cause] ∧ Reports p q (heldReports p l w w.holds true [cause])

/-- The lane is in a state from ACQUIRING to RUNNING, without this cause. -/
def CanHold (p : Part) (l : LaneId) (w : Wash) (cause : HoldCause) : Prop :=
  p.lane l = some w ∧ w.state.holdable = true ∧ w.state.isHeld = false ∧ w.holds.get cause = false

/-- The notices that bring a first hold cause (R115 to R117, R121, R123, R124): TANK at or below its minimum in a phase that
uses washwater, BASIN at or above its maximum in a phase that makes waste, a needed kind of unit lost by a notice, a trip or
a failed proving, STOP, a role drifted to UNKNOWN. -/
def NoticesEnterHeld : Prop :=
  ∀ (s : State) (l : LaneId) (w : Wash) (rec : FilterRecord) (r : Recipe) (ph : Phase), WashesBy s.part l w rec r ph →
    (Outstanding s (.lanePoint l .tank) → CanHold s.part l w .water → CauseHolds s.part ph .water →
      ∃ t, exec (.lanePointChange l .tank) s = .next t ∧ t.pending = s.pending ∧ HoldBegan s.part t.part l w .water) ∧
    (Outstanding s (.lanePoint l .basin) → CanHold s.part l w .waste → CauseHolds s.part ph .waste →
      ∃ t, exec (.lanePointChange l .basin) s = .next t ∧ t.pending = s.pending ∧ HoldBegan s.part t.part l w .waste) ∧
    (∀ u n, n ≠ .available → Outstanding s (.laneUnitNews l u n) → CanHold s.part l w .equipment →
      KindLost s.part ph u →
      ∃ t, exec (.laneUnitNotice l u n) s = .next t ∧ t.pending = s.pending ∧
        HoldBegan s.part t.part l w .equipment) ∧
    (∀ u, Outstanding s (.tripped l u) → CanHold s.part l w .equipment → w.holdsUnit u = true → KindLost s.part ph u →
      ∃ t, exec (.laneUnitTripped l u) s = .next t ∧ t.pending = s.pending ∧ HoldBegan s.part t.part l w .equipment) ∧
    (∀ u, Outstanding s (.proveFailed l u) → CanHold s.part l w .equipment → w.holdsUnit u = true →
      KindLost s.part ph u →
      ∃ t, exec (.laneProveFailed l u) s = .next t ∧ t.pending = s.pending ∧ HoldBegan s.part t.part l w .equipment) ∧
    (s.part.live = true → s.part.events.find? (Event.isStopOf l) = some (.laneStopAsserted l) →
      CanHold s.part l w .inhibit →
      ∃ t, exec (.laneStopAsserted l) s = .next t ∧ t.pending = s.pending ∧ HoldBegan s.part t.part l w .inhibit) ∧
    (∀ role ch pos, Outstanding s (.roleDrift l role) → CanHold s.part l w .valve → w.targets.get role = some pos →
      s.part.mapped w.filter role = some ch → (s.part.channel ch).state = .unknown →
      ∃ t, exec (.laneRoleDrift l role) s = .next t ∧ t.pending = s.pending ∧ HoldBegan s.part t.part l w .valve ∧
        ∃ w', t.part.lane l = some w' ∧ w'.drifted.get role = true)

/-- Phase entry tests INHIBIT, WATER, WASTE and EQUIPMENT in this order (R107, R116): those whose condition holds join, and
the lane that has ended a phase enters HELD in the next one. -/
def PhaseEntryEntersHeld : Prop :=
  ∀ (s : State) (l : LaneId) (w : Wash) (rec : FilterRecord) (r : Recipe) (ph ph' : Phase) (causes : List HoldCause),
    WashesBy s.part l w rec r ph → w.state = .running → w.holds = HoldSet.empty → w.phase < r.phases.length →
    r.phases[w.phase]? = some ph' → CausesAre s.part ph' [.inhibit, .water, .waste, .equipment] causes → causes ≠ [] →
    let entered := fun timeout => { w with
      phase := w.phase + 1
      elapsed := 0
      remWater := waterLeft rec.cfg.area r.phases (w.phase + 1) ph' 0
      remWaste := wasteLeft rec.cfg.area r.phases (w.phase + 1) ph' 0
      ripenTimeout := timeout }
    let holds := fun (p q : Part) w' how => OnlyChanges phaseEnding p q ∧ HeldBy p q l w' causes ∧
      Reports p q (.phase l w'.filter w'.phase ph'.kind ph'.duration (some how) w'.remWater w'.remWaste ::
        heldReports p l w' HoldSet.empty true causes)
    (Outstanding s (.phaseTimeEnd l) →
      ∃ t, exec (.phaseTimeEnd l) s = .next t ∧ t.pending = s.pending ∧
        holds s.part t.part (entered (w.ripenTimeout || decide (ph.kind = .ripen))) .time) ∧
    (Outstanding s (.ripenConfirmed l) →
      ∃ t, exec (.ripenConfirmed l) s = .next t ∧ t.pending = s.pending ∧
        holds s.part t.part (entered w.ripenTimeout) .confirmed)

/-- SET_PLANT writes the record, in OPERATING, beside one lane at work; no run-feedback reading changes. -/
def PlantMeetsLane (s : State) (raw : RawPlant) (l : LaneId) : Prop :=
  CanHandle s ∧ s.part.startUp.top = .operating ∧ PlantInRange raw ∧
  ¬ raw.concurrency.toNat < s.part.busyLanes.length ∧ (plantWritten raw).polarity = s.part.plant.polarity ∧
  ∀ m, m ≠ l → s.part.lane m = none

/-- The reports of the loading that the new record has computed (R63, R71). -/
def plantReports (p : Part) (raw : RawPlant) : List ReportBody :=
  let pw : Part := { p with plant := plantWritten raw }
  calcReports pw (loadingFlags pw p.serviceArea) (.loading none)

/-- The acceptance of a plant record tests WATER and WASTE under the new record (R116). -/
def PlantRecordEntersHeld : Prop :=
  ∀ (s : State) (tag : Byte) (raw : RawPlant) (l : LaneId) (w : Wash) (rec : FilterRecord) (r : Recipe) (ph : Phase)
    (causes : List HoldCause), PlantMeetsLane s raw l → WashesBy s.part l w rec r ph → w.state.holdable = true →
    w.state.isHeld = false → w.holds = HoldSet.empty →
    CausesAre { s.part with plant := plantWritten raw } ph [.water, .waste] causes → causes ≠ [] →
    Done s (.setPlant tag raw) replanning (plantReports s.part raw ++ heldReports s.part l w HoldSet.empty true causes)
      .ok .none fun q => q.plant = plantWritten raw ∧ HeldBy s.part q l w causes

/-- Some role of the filter is mapped to a channel that a CLOSE command does not bring to rest at once. -/
def RoleAway (p : Part) (f : FilterId) : Prop :=
  ∃ r ch, p.mapped f r = some ch ∧ ((p.channel ch).state = .unknown ∨ (p.channel ch).state = .opened)

/-- The lane has begun an abort (R125): causes gone, units released and requests withdrawn, all six roles to be closed. -/
def AbortBegan (p q : Part) (l : LaneId) (w : Wash) (cause : AbortCause) : Prop :=
  OtherLaneKept p q l ∧ HoldsNoUnit q l ∧
  ∃ w', q.lane l = some w' ∧ SamePhase w w' ∧ w'.state = .aborting cause ∧ w'.holds = HoldSet.empty ∧
    w'.drifted = PerRole.all false ∧ w'.pump = none ∧ w'.blower = false ∧ ∀ r, w'.targets.get r = some .closed

/-- The lane is IDLE again, its shares 0 (R78), the other lane and every other filter as they were. -/
def LaneFreed (p q : Part) (l : LaneId) (f : FilterId) : Prop :=
  q.lane l = none ∧ OtherLaneKept p q l ∧ q.sched.shares = p.sched.shares.set l ⟨0, 0⟩ ∧ q.sched.scanDue = true ∧
  ∀ g, g ≠ f → q.filter g = p.filter g ∧ q.entry g = p.entry g

/-- What the end of a wash touches. -/
abbrev washEnding : List Piece := laneWork ++ [.filters, .selection, .queue, .shares, .flags, .overload, .scanDue]

/-- An abort of the lane can end: OPERATING; its filter, of record `rec`, stands WASHING, without an entry and not named by
the substitution marker; each of the six roles is CLOSED or its channel in FAULT (R126). -/
def AbortCanEnd (p : Part) (l : LaneId) (w : Wash) (rec : FilterRecord) : Prop :=
  p.startUp.top = .operating ∧ p.lane l = some w ∧ p.filter w.filter = some rec ∧ rec.state = .washing l ∧
  p.entry w.filter = none ∧ p.table.marker ≠ some w.filter ∧
  ∀ r, RestsAt p w.filter r .closed ∨ RoleInFault p w.filter r

/-- The abort of lane `l` has ended (R126, R18), with these reports: a role in FAULT leaves the filter FAULTED VALVE; else a
first abort leaves it STRANDED with a RESTART request, a further one FAULTED ABORTS. That a role in FAULT makes the cause
CHANNEL is the model's choice (log 15). -/
def AbortEnded (p q : Part) (l : LaneId) (w : Wash) (rec : FilterRecord) (cause : AbortCause) (bs : List ReportBody) : Prop :=
  let told := fun (c : AbortCause) (x : FilterState) =>
    ReportBody.washAborted l w.filter c w.phase w.elapsed w.holdCount (min (p.startUp.clock - w.startedAt) 65535) (some x)
  let stands := fun (x : FilterState) => ReportBody.filterState w.filter (some x) (some (.washing l)) rec.transfer false
  LaneFreed p q l w.filter ∧
  (cause = .channel ∨ (∃ r, RoleInFault p w.filter r) →
    q.filter w.filter = some { rec with state := .faulted .valve, u := 0, dominant := .turbidity } ∧
    q.entry w.filter = none ∧ bs = [stands (.faulted .valve), told .channel (.faulted .valve)]) ∧
  (cause ≠ .channel → (∀ r, ¬ RoleInFault p w.filter r) → rec.aborts = 0 →
    q.filter w.filter = some { rec with state := .stranded, aborts := 1, u := 0, dominant := .turbidity } ∧
    q.entry w.filter = some ⟨w.filter, .restart, .auto, 0, p.startUp.clock, none, none⟩ ∧
    bs = [stands .stranded, .request .added w.filter .restart none .auto 0 none, told cause .stranded]) ∧
  (cause ≠ .channel → (∀ r, ¬ RoleInFault p w.filter r) → 1 ≤ rec.aborts →
    q.filter w.filter = some { rec with state := .faulted .aborts, aborts := 2, u := 0, dominant := .turbidity } ∧
    q.entry w.filter = none ∧ bs = [stands (.faulted .aborts), told cause (.faulted .aborts)])

/-- HOLD_LIMIT_EXPIRY of a HELD lane (R120), LANE_CHANNEL_FAULT (R127) and ABORT, which names a lane or a filter (R133): with
each role CLOSED or in FAULT the abort ends at once, its units released and its lane IDLE (R126). -/
def AbortsEndAtOnce : Prop :=
  ∀ (s : State) (l : LaneId) (w : Wash) (rec : FilterRecord), AbortCanEnd s.part l w rec →
    (∀ h, Outstanding s (.holdLimit l) → w.state = .held h →
      ∃ t bs, exec (.holdLimitExpiry l) s = .next t ∧ t.pending = s.pending ∧ OnlyChanges washEnding s.part t.part ∧
        HoldsNoUnit t.part l ∧ Reports s.part t.part bs ∧ AbortEnded s.part t.part l w rec .holdLimit bs) ∧
    (∀ role, Outstanding s (.roleFault l role) →
      ∃ t bs, exec (.laneChannelFault l role) s = .next t ∧ t.pending = s.pending ∧
        OnlyChanges washEnding s.part t.part ∧ ((∀ c, w.state ≠ .aborting c) → HoldsNoUnit t.part l) ∧
        Reports s.part t.part bs ∧ AbortEnded s.part t.part l w rec .channel bs) ∧
    (∀ tag form target, CanHandle s → w.state.holdable = true →
      ((form = 0 ∧ laneOfByte target = some l) ∨ (form = 1 ∧ filterOf target = some w.filter)) →
      ∃ bs, Done s (.abort tag form target) washEnding bs .ok (.laneNow none HoldSet.empty) fun q =>
        HoldsNoUnit q l ∧ AbortEnded s.part q l w rec .host bs)

/-- HOLD_LIMIT_EXPIRY of a HELD lane (R120), LANE_CHANNEL_FAULT (R127) and ABORT, which names a lane or a filter (R133):
the lane aborts. One role at least is still to close, so the abort does not end at once. -/
def AbortsBegin : Prop :=
  ∀ (s : State) (l : LaneId) (w : Wash), s.part.lane l = some w → RoleAway s.part w.filter →
    (∀ h, Outstanding s (.holdLimit l) → w.state = .held h →
      ∃ t, exec (.holdLimitExpiry l) s = .next t ∧ t.pending = s.pending ∧
        OnlyChanges ([Piece.lanes, .channels] ++ handing) s.part t.part ∧ AbortBegan s.part t.part l w .holdLimit) ∧
    (∀ role, Outstanding s (.roleFault l role) → (∀ c, w.state ≠ .aborting c) →
      ∃ t, exec (.laneChannelFault l role) s = .next t ∧ t.pending = s.pending ∧
        OnlyChanges ([Piece.lanes, .channels] ++ handing) s.part t.part ∧ AbortBegan s.part t.part l w .channel) ∧
    (∀ role c, Outstanding s (.roleFault l role) → w.state = .aborting c →
      ∃ t, exec (.laneChannelFault l role) s = .next t ∧ t.pending = s.pending ∧
        OnlyChanges [.lanes, .events] s.part t.part ∧ OtherLaneKept s.part t.part l ∧
        t.part.lane l = some { w with state := .aborting .channel }) ∧
    (∀ tag form target, CanHandle s → s.part.startUp.top = .operating → w.state.holdable = true →
      ((form = 0 ∧ laneOfByte target = some l) ∨
        (form = 1 ∧ filterOf target = some w.filter ∧
          ∃ rec, s.part.filter w.filter = some rec ∧ rec.state = .washing l)) →
      ∃ t, exec (.abort tag form target) s = .next t ∧
        Answers s t (.abort form target) tag [] .ok (.laneNow (some (.aborting .host)) HoldSet.empty) ∧
        OnlyChanges ([Piece.lanes, .channels] ++ handing ++ reporting) s.part.frameAccepted t.part ∧
        AbortBegan s.part.frameAccepted t.part l w .host)

/-- The lane's record names every kind of unit the phase needs (Table 5-4). -/
def HasKinds (w : Wash) (ph : Phase) : Prop :=
  ((ph.kind = .airWater ∨ ph.kind = .water) → w.pump ≠ none) ∧
  ((ph.kind = .air ∨ ph.kind = .airWater) → w.blower = true)

/-- The lane's place in its phase is kept and its state is past this one. -/
def MovesOn (p q : Part) (l : LaneId) (w : Wash) : Prop :=
  OnlyChanges laneWork p q ∧ OtherLaneKept p q l ∧
  ∃ w', q.lane l = some w' ∧ SamePhase w w' ∧ w'.state.holdable = true ∧ w'.state ≠ w.state

/-- The lane waits for a unit of the kind of `u`, or has been granted one. -/
def AskedFor (q : Part) (l : LaneId) (u : UnitId) : Prop :=
  l ∈ waitOf q u ∨ ∃ v, unitKind v = unitKind u ∧ (q.unit v).state = .allocated l ∧ .grant l v ∈ q.events

/-- The lane has resumed (R119): LANE_RESUMED is reported and the phase is entered anew at its place. -/
def Resumed (p q : Part) (l : LaneId) (w : Wash) (heldAt : Nat) : Prop :=
  OtherLaneKept p q l ∧ (∃ w', q.lane l = some w' ∧ SamePhase w w' ∧ w'.state.holdable = true) ∧
  ∃ bs, Reports p q
    (.laneResumed l w.filter w.phase w.elapsed (p.startUp.clock - heldAt) w.holdCount :: bs)

/-- R115: the condition under which WATER or WASTE clears. -/
def LevelClears (p : Part) : HoldCause → Prop
  | .water => ∃ v low, p.front.tank.usableValue = some v ∧ p.plant.tankMin = some low ∧ low + 200 ≤ v
  | .waste => ∃ v high, p.front.basin.usableValue = some v ∧ p.plant.basinMax = some high ∧ v + 200 ≤ high
  | _ => False

/-- The notices that take the last cause from a HELD lane (R115, R118, R119, R122, R123): WATER with TANK 200 mm above its
minimum, WASTE with BASIN 200 mm below its maximum, EQUIPMENT with every kind usable, VALVE with the last drifted role
arrived, INHIBIT at the release of STOP with automatic resume. Without automatic resume the release is only seen. -/
def NoticesResumeTheLane : Prop :=
  ∀ (s : State) (l : LaneId) (w : Wash) (h : Nat), s.part.lane l = some w → w.state = .held h →
    (Outstanding s (.lanePoint l .tank) → w.holds = HoldSet.empty.set .water true → LevelClears s.part .water →
      ∃ t, exec (.lanePointChange l .tank) s = .next t ∧ t.pending = s.pending ∧ OnlyChanges laneWork s.part t.part ∧
        Resumed s.part t.part l w h) ∧
    (Outstanding s (.lanePoint l .basin) → w.holds = HoldSet.empty.set .waste true → LevelClears s.part .waste →
      ∃ t, exec (.lanePointChange l .basin) s = .next t ∧ t.pending = s.pending ∧ OnlyChanges laneWork s.part t.part ∧
        Resumed s.part t.part l w h) ∧
    (∀ role pos, Outstanding s (.roleArrival l role) → w.holds = HoldSet.empty.set .valve true →
      (∀ x, w.drifted.get x = true ↔ x = role) → w.targets.get role = some pos → RestsAt s.part w.filter role pos →
      ∃ t, exec (.laneRoleArrival l role) s = .next t ∧ t.pending = s.pending ∧ OnlyChanges laneWork s.part t.part ∧
        Resumed s.part t.part l w h) ∧
    (∀ u, Outstanding s (.laneUnitNews l u .available) → w.holds = HoldSet.empty.set .equipment true →
      (∀ k, s.part.kindUsable k = true) →
      ∃ t, exec (.laneUnitNotice l u .available) s = .next t ∧ t.pending = s.pending ∧
        OnlyChanges laneWork s.part t.part ∧ Resumed s.part t.part l w h) ∧
    (s.part.live = true → s.part.events.find? (Event.isStopOf l) = some (.laneStopReleased l) →
      s.part.plant.autoResume = true → w.holds = HoldSet.empty.set .inhibit true →
      ∃ t, exec (.laneStopReleased l) s = .next t ∧ t.pending = s.pending ∧ OnlyChanges laneWork s.part t.part ∧
        Resumed s.part t.part l w h) ∧
    (s.part.live = true → s.part.events.find? (Event.isStopOf l) = some (.laneStopReleased l) →
      s.part.plant.autoResume = false → w.holds.inhibit = true → w.drifted = PerRole.all false →
      ∃ t, exec (.laneStopReleased l) s = .next t ∧ t.pending = s.pending ∧
        OnlyChanges [.lanes, .channels, .events] s.part t.part ∧ OtherLaneKept s.part t.part l ∧
        ∃ w', t.part.lane l = some w' ∧ SamePhase w w' ∧ w'.state = .held h ∧ w'.holds = w.holds ∧
          w'.releaseSeen = true)

/-- The acceptance of a plant record tests WATER, WASTE and a seen release's INHIBIT for clearing, under the new record
(R116, R118): the last cause gone, the lane resumes. -/
def PlantRecordResumesTheLane : Prop :=
  ∀ (s : State) (tag : Byte) (raw : RawPlant) (l : LaneId) (w : Wash) (rec : FilterRecord) (r : Recipe) (ph : Phase)
    (h : Nat), PlantMeetsLane s raw l → WashesBy s.part l w rec r ph → w.state = .held h →
    let pw : Part := { s.part with plant := plantWritten raw }
    let resumes := ∃ bs, Done s (.setPlant tag raw) replanning (plantReports s.part raw ++
        .laneResumed l w.filter w.phase w.elapsed (s.part.startUp.clock - h) w.holdCount :: bs) .ok .none fun q =>
      q.plant = plantWritten raw ∧ OtherLaneKept s.part q l ∧
      ∃ w', q.lane l = some w' ∧ SamePhase w w' ∧ w'.state.holdable = true
    (w.holds = HoldSet.empty.set .water true → LevelClears pw .water → ¬ CauseHolds pw ph .waste → resumes) ∧
    (w.holds = HoldSet.empty.set .waste true → LevelClears pw .waste → ¬ CauseHolds pw ph .water → resumes) ∧
    (w.holds = HoldSet.empty.set .inhibit true → w.releaseSeen = true → raw.autoResume = 1 → s.part.stopAsserted = false →
      ¬ CauseHolds pw ph .water → ¬ CauseHolds pw ph .waste → resumes)

/-- The causes RESUME leaves (R132). -/
def afterResume (p : Part) (w : Wash) : HoldSet :=
  { w.holds with
    host := false
    valve := false
    inhibit := w.holds.inhibit && !(w.releaseSeen && !p.stopAsserted) }

/-- HOLD and RESUME (R130 to R132): HOST joins the causes of a lane from ACQUIRING to HELD; RESUME takes HOST, VALVE and a
released INHIBIT from a HELD lane, which goes on when none is left. -/
def HoldAndResumeMoveTheLane : Prop :=
  ∀ (s : State) (tag b : Byte) (l : LaneId) (w : Wash), CanHandle s → s.part.startUp.top = .operating →
    laneOfByte b = some l → s.part.lane l = some w →
    (CanHold s.part l w .host →
      ∃ t, exec (.hold tag b) s = .next t ∧
        Answers s t (.hold b) tag
          [.laneHeld l w.filter w.phase w.elapsed .host (w.holds.set .host true) true (min (w.holdCount + 1) 255)
            s.part.startUp.clock] .ok
          (.laneNow (some (.held s.part.startUp.clock)) (w.holds.set .host true)) ∧
        OnlyChanges laneWork s.part.frameAccepted t.part ∧ OtherLaneKept s.part t.part l ∧
        HoldsNoUnit t.part l ∧
        ∃ w', t.part.lane l = some w' ∧ SamePhase w w' ∧ w'.state = .held s.part.startUp.clock ∧
          w'.holds = w.holds.set .host true ∧ w'.holdCount = min (w.holdCount + 1) 255 ∧ w'.pump = none ∧
          w'.blower = false ∧ w'.targets.get .air = some .closed ∧ w'.targets.get .bww = some .closed) ∧
    (∀ h, w.state = .held h → w.holds.host = false →
      ∃ t, exec (.hold tag b) s = .next t ∧
        Answers s t (.hold b) tag
          [.laneHeld l w.filter w.phase w.elapsed .host (w.holds.set .host true) false w.holdCount h] .ok
          (.laneNow (some (.held h)) (w.holds.set .host true)) ∧
        OnlyChanges ([Piece.lanes] ++ reporting) s.part.frameAccepted t.part ∧ OtherLaneKept s.part t.part l ∧
        t.part.lane l = some { w with holds := w.holds.set .host true }) ∧
    (∀ h, w.state = .held h → afterResume s.part w = HoldSet.empty →
      ∃ t bs w', exec (.resume tag b) s = .next t ∧
        Answers s t (.resume b) tag
          (.laneResumed l w.filter w.phase w.elapsed (s.part.startUp.clock - h) w.holdCount :: bs) .ok
          (.laneNow (some w'.state) w'.holds) ∧
        OnlyChanges laneWork s.part.frameAccepted t.part ∧ OtherLaneKept s.part t.part l ∧
        t.part.lane l = some w' ∧ SamePhase w w' ∧ w'.state.holdable = true) ∧
    (∀ h, w.state = .held h → afterResume s.part w ≠ HoldSet.empty →
      ∃ t seen, exec (.resume tag b) s = .next t ∧
        Answers s t (.resume b) tag [] .ok (.laneNow (some (.held h)) (afterResume s.part w)) ∧
        OnlyChanges ([Piece.lanes] ++ reporting) s.part.frameAccepted t.part ∧ OtherLaneKept s.part t.part l ∧
        t.part.lane l =
          some { w with holds := afterResume s.part w, drifted := PerRole.all false, releaseSeen := seen })

/-- HOLD, RESUME and ABORT turned away, and a HOLD that finds HOST in the set (R130 to R133): RANGE for no lane or filter,
STATE for a lane whose state does not admit the command, or a filter that no lane washes. That a form of neither kind is
refused RANGE is the model's reading (log 31). -/
def LaneCommandsCheckTheLane : Prop :=
  ∀ (s : State) (tag b form : Byte), CanHandle s → s.part.startUp.top = .operating →
    (laneOfByte b = none → Refused s (.hold tag b) .range ∧ Refused s (.resume tag b) .range ∧
      Refused s (.abort tag 0 b) .range) ∧
    (filterOf b = none → Refused s (.abort tag 1 b) .range) ∧
    (2 ≤ form.toNat → Refused s (.abort tag form b) .range) ∧
    (∀ l, laneOfByte b = some l →
      ((∀ w, s.part.lane l = some w → w.state.holdable = false) →
        Refused s (.hold tag b) .state ∧ Refused s (.abort tag 0 b) .state) ∧
      ((∀ w h, s.part.lane l = some w → w.state ≠ .held h) → Refused s (.resume tag b) .state) ∧
      ∀ w, s.part.lane l = some w → w.state.holdable = true → w.holds.host = true →
        Reads s (.hold tag b) .ok (.laneNow (some w.state) w.holds)) ∧
    ∀ f, filterOf b = some f → (∀ rec l, s.part.filter f = some rec → rec.state ≠ .washing l) →
      Refused s (.abort tag 1 b) .state

/-! ### Transfers and filter faults -/

/-- A role, and the position one of the steps up to the present one commands it to. -/
def CommandedSoFar (t : Transfer) (x : Role × Position) : Prop :=
  ∃ i, 1 ≤ i ∧ i ≤ t.step ∧ x ∈ transferStep t.kind i

/-- The row leaves the part as it was, its event taken. -/
def OnlyTaken (row : Instr) (s : State) : Prop :=
  ∃ t, exec row s = .next t ∧ t.pending = s.pending ∧ OnlyChanges [.events] s.part t.part

/-- The substitution marker once filter `f` is through with its transfer (R11, R13). -/
def markerWithout (p : Part) (f : FilterId) : Option FilterId := if p.table.marker = some f then none else p.table.marker

/-- The role's channel, mapped both ways, is put in travel to the position; nothing of another channel changes. -/
def RoleSetOff (p q : Part) (f : FilterId) (r : Role) (pos : Position) : Prop :=
  ∀ ch, p.mapped f r = some ch →
    q.channel ch = inTravelTo (p.channel ch) p.startUp.clock (p.plant.travel.get r) pos ∧ OtherChannelsKept p q ch

/-- A transfer of filter `f` is under way. -/
def Transferring (p : Part) (f : FilterId) (rec : FilterRecord) (t : Transfer) : Prop :=
  p.startUp.top = .operating ∧ p.filter f = some rec ∧ rec.transfer = some t ∧ rec.state = stateFrom t.kind ∧
  1 ≤ t.step ∧ t.step ≤ finalStep t.kind

/-- TRANSFER_ROLE_ARRIVAL (R11, R12, Table 1-10): while a role commanded so far is not in position the transfer waits; with
all in position the next step's role is commanded, STOP released, or the transfer completes. That STOP asserted holds a
step back is the model's reading (log 16). -/
def TransferArrivalPassesTheStepOrCompletes : Prop :=
  ∀ (s : State) (f : FilterId) (rec : FilterRecord) (t : Transfer) (role : Role), Transferring s.part f rec t →
    Outstanding s (.transferArrival f role) →
    let inPlace := ∀ x, CommandedSoFar t x → RestsAt s.part f x.1 x.2
    (¬ inPlace ∨ (t.step < finalStep t.kind ∧ s.part.stopAsserted = true) → OnlyTaken (.transferRoleArrival f role) s) ∧
    (inPlace → t.step = finalStep t.kind →
      ∃ t' bs, exec (.transferRoleArrival f role) s = .next t' ∧ t'.pending = s.pending ∧
        OnlyChanges ([Piece.filters, .marker, .selection, .flags, .overload, .scanDue, .events] ++ reporting) s.part t'.part ∧
        OtherFiltersKept s.part t'.part f ∧ t'.part.table.marker = markerWithout s.part f ∧
        t'.part.filter f = some (if t.kind = .toService then { rec with state := .online, transfer := none }
          else offIndex { rec with state := .standby, transfer := none }) ∧
        t'.part.sched.overload = overloadAt s.part (currentLoading t'.part) ∧ t'.part.sched.scanDue = true ∧
        (t.kind = .toService → .urgency f ∈ t'.part.events) ∧
        Reports s.part t'.part (.filterState f (some (stateTo t.kind)) (some (stateFrom t.kind)) none
          (s.part.table.marker == some f) :: bs)) ∧
    (inPlace → s.part.stopAsserted = false →
      ∀ r pos, transferStep t.kind (t.step + 1) = [(r, pos)] → RoleTravels s.part f r pos →
      ∃ t', exec (.transferRoleArrival f role) s = .next t' ∧ t'.pending = s.pending ∧
        OnlyChanges [.filters, .channels, .events] s.part t'.part ∧ OtherFiltersKept s.part t'.part f ∧
        t'.part.filter f = some { rec with transfer := some ⟨t.kind, t.step + 1⟩ } ∧ RoleSetOff s.part t'.part f r pos)

/-- TRANSFER_ROLE_DRIFT and TRANSFER_STOP_RELEASED (R12): a commanded role that has drifted is commanded again; so is, at
the release of STOP, every role commanded so far that is not in position (log 16). -/
def TransferCommandsAgain : Prop :=
  ∀ (s : State) (f : FilterId) (rec : FilterRecord) (t : Transfer), Transferring s.part f rec t →
    ¬ (∀ x, CommandedSoFar t x → RestsAt s.part f x.1 x.2) →
    (∀ role, Outstanding s (.transferDrift f role) →
      (s.part.stopAsserted = true ∨ (∀ pos, ¬ CommandedSoFar t (role, pos)) → OnlyTaken (.transferRoleDrift f role) s) ∧
      (s.part.stopAsserted = false → ∀ pos, CommandedSoFar t (role, pos) → RoleTravels s.part f role pos →
        ∃ t', exec (.transferRoleDrift f role) s = .next t' ∧ t'.pending = s.pending ∧
          OnlyChanges [.channels, .events] s.part t'.part ∧ RoleSetOff s.part t'.part f role pos)) ∧
    (Outstanding s (.transferStopReleased f) →
      (s.part.stopAsserted = true → OnlyTaken (.transferStopReleased f) s) ∧
      (s.part.stopAsserted = false →
        (∀ x, CommandedSoFar t x → RestsAt s.part f x.1 x.2 ∨ RoleTravels s.part f x.1 x.2) →
        ∃ t', exec (.transferStopReleased f) s = .next t' ∧ t'.pending = s.pending ∧
          OnlyChanges [.channels, .events] s.part t'.part ∧
          (∀ x ch, CommandedSoFar t x → ¬ RestsAt s.part f x.1 x.2 → s.part.mapped f x.1 = some ch →
            t'.part.channel ch =
              inTravelTo (s.part.channel ch) s.part.startUp.clock (s.part.plant.travel.get x.1) x.2) ∧
          ∀ ch, (∀ x, CommandedSoFar t x → RestsAt s.part f x.1 x.2 ∨ s.part.mapped f x.1 ≠ some ch) →
            t'.part.channel ch = s.part.channel ch))

/-- The reports of an entry that leaves the queue, and of a proposal for its filter that goes with it (R55, R85). -/
def removalReports (p : Part) (f : FilterId) (cause : RemovalCause) : List ReportBody :=
  (match p.entry f with
    | some e => [.request .removed f e.cls none e.source e.u (some cause)]
    | none => []) ++
  (match p.sched.proposal with
    | some pr => if pr.filter = f then [.proposalWithdrawn f .filter none] else []
    | none => [])

/-- The filter's entry has gone, and a proposal for it; every other entry is as it was. -/
def EntryGone (p q : Part) (f : FilterId) : Prop :=
  q.entry f = none ∧ (∀ g, g ≠ f → q.entry g = p.entry g) ∧
  q.sched.proposal = if p.sched.proposal.any (fun pr => pr.filter == f) then none else p.sched.proposal

/-! ### Start-up -/

/-- R187: the state a filter's channels give. -/
def surveyedState (p : Part) (f : FilterId) (x : FilterState) : Prop :=
  let online := RestsAt p f .inf .opened ∧ RestsAt p f .eff .opened ∧ ∀ r ∈ [Role.bww, .air, .wst, .ftw], RestsAt p f r .closed
  let standby := ∀ r, RestsAt p f r .closed
  (online → x = .online) ∧ (standby → x = .standby) ∧ (¬ online → ¬ standby → x = .faulted .survey)

/-- How many filters are in a state. -/
def filtersIn (p : Part) (x : FilterState) : Nat :=
  ((List.finRange 16).filter fun f => (p.filter f).map (·.state) == some x).length

/-- R190: the plant mode the silence action leaves. -/
def modeAfterSilence (a : SilenceAction) (m : PlantMode) : PlantMode :=
  if a = .auto ∧ m = .directed then .auto else if a = .pause then .paused else m

/-- The reports of a change of mode with this proposal outstanding (R61, R85). -/
def modeReports (p : Part) (m : PlantMode) : List ReportBody :=
  if m = p.sched.mode then []
  else
    match p.sched.proposal with
    | some pr => [.proposalWithdrawn pr.filter .mode none]
    | none => []

/-! ### The link -/

/-- R174: one link error counted; nothing else changes. -/
def LinkErrorCounted (p q : Part) : Prop :=
  OnlyChanges [.errors, .overflow] p q ∧
  (p.link.errors < 127 → q.link.errors = p.link.errors + 1 ∧ q.link.overflow = p.link.overflow) ∧
  (127 ≤ p.link.errors → q.link.errors = p.link.errors ∧ q.link.overflow = true)

/-- R189: a frame is accepted: its second is kept, and in OPERATING with a nonzero interval the silence timer starts
afresh. -/
def SilenceRestarted (p q : Part) : Prop :=
  q.startUp.lastAccepted = some p.startUp.clock ∧
  q.startUp.silence = (if p.startUp.top = .operating ∧ p.plant.silenceInterval ≠ 0 then
    some (min (p.startUp.clock + p.plant.silenceInterval) 4294967295) else p.startUp.silence)

/-- What a host command's statement says of the frame's acceptance, in the words of R189. -/
def AcceptanceRestartsTheSilenceTimer : Prop :=
  ∀ p : Part, SilenceRestarted p p.frameAccepted ∧ OnlyChanges [.silence, .lastAccepted, .events] p p.frameAccepted ∧
    ∀ e, e ≠ .silenceExpiry → (e ∈ p.frameAccepted.events ↔ e ∈ p.events)

/-- A frame arrives (R175, R176), by UNKNOWN_KIND_COMMAND or by a host command's row: with a reply waiting or a SOFT_RESET
accepted it joins the receive queue, accepted, behind at most one other; a third is an overrun; otherwise it is accepted
and answered at once, UNKNOWN_KIND if its kind is none of Table 11-6. -/
def FramesAreAcceptedQueuedOrOverrun : Prop :=
  ∀ (s : State) (row : Instr) (f : Frame), s.part.live = true → row.frame = some f →
    (2 ≤ s.part.link.queue.length →
      ∃ t, exec row s = .next t ∧ t.pending = s.pending ∧ LinkErrorCounted s.part t.part) ∧
    (s.part.link.queue.length < 2 → (s.part.link.reply ≠ none ∨ s.part.link.softReset ≠ .none) →
      ∃ t, exec row s = .next t ∧ t.pending = s.pending ∧
        OnlyChanges [.silence, .lastAccepted, .events, .rxQueue] s.part t.part ∧
        t.part.link.queue = s.part.link.queue ++ [f] ∧ SilenceRestarted s.part t.part) ∧
    (CanHandle s → ∀ c, f.command = .ok c →
      ∃ t r fields, exec row s = .next t ∧ t.pending = s.pending ∧ t.part.link.queue = [] ∧
        Replied t.part ⟨replyKind f.kind, f.tag, r, fields⟩) ∧
    (CanHandle s → commandKinds.contains f.kind = false →
      ∃ t, exec row s = .next t ∧ t.pending = s.pending ∧
        OnlyChanges ([Piece.silence, .lastAccepted, .events] ++ replying) s.part t.part ∧ SilenceRestarted s.part t.part ∧
        Replies s.part t.part ⟨replyKind f.kind, f.tag, .unknownKind, .none⟩)

/-- A character that ends no frame leaves the receive process in this state and changes nothing else. -/
def OnlyReceives (row : Instr) (s : State) (x : RxState) : Prop :=
  ∃ t, exec row s = .next t ∧ t.pending = s.pending ∧ OnlyChanges [.rx] s.part t.part ∧ t.part.link.rx = x

/-- The receive process goes to this state and one link error is counted. -/
def FailsReceiving (row : Instr) (s : State) (x : RxState) : Prop :=
  ∃ t, exec row s = .next t ∧ t.pending = s.pending ∧ OnlyChanges [.rx, .errors, .overflow] s.part t.part ∧
    t.part.link.rx = x ∧ ((s.part.link.errors < 127 → t.part.link.errors = s.part.link.errors + 1) ∧
      (127 ≤ s.part.link.errors → t.part.link.errors = s.part.link.errors ∧ t.part.link.overflow = true))

/-- R172: the header taken so far is whole and its HCHK or its LEN is wrong. -/
def BadHeader (got : List Byte) : Prop :=
  ∃ kind tag len check, got = [kind, tag, len, check] ∧ (check ≠ ~~~(kind ^^^ tag ^^^ len) ∨ 200 < len.toNat)

/-- The characters of a whole frame after SOF, with the CRC the frame calls for (R171). -/
def WholeFrame (got : List Byte) (f : Frame) : Prop := f.payload.length ≤ 200 ∧ sof :: got = f.bytes

/-! ### Reading commands -/

/-- What R35 shows of a point. -/
def PointShown (p : Part) (id : PointId) (v : PointView) : Prop :=
  let x := p.point id
  v.point = id ∧ v.source = x.source ∧ v.quality = x.quality ∧ v.value = x.value ∧
  v.age = x.lastAccepted.map (fun t => min (p.startUp.clock - t) 65535) ∧
  v.count = (match x.source with
    | .analog i _ _ => p.front.counts[i]
    | _ => none)

/-- What R134 shows of a lane. A hold limit past the largest clock value falls at it, the model's reading (log 40). -/
def LaneShown (p : Part) (l : LaneId) (v : LaneView) : Prop :=
  v.lane = l ∧ v.wash = p.lane l ∧ (p.lane l = none → v.kind = none ∧ v.secsLeft = none) ∧
  (∀ w rec r ph, WashesBy p l w rec r ph → v.kind = some ph.kind) ∧
  (∀ w h, p.lane l = some w → w.state = .held h →
    v.secsLeft = some (secondAfter h (60 * p.plant.holdLimit) - p.startUp.clock)) ∧
  (∀ w, p.lane l = some w → (∀ h, w.state ≠ .held h) → v.secsLeft = none)

/-- What R149 shows of a unit. -/
def UnitShown (p : Part) (u : UnitId) (v : UnitView) : Prop :=
  let x := (p.unit u).state
  v.state = x ∧ (v.runOutput = true ↔ (∃ l e, x = .proving l e) ∨ ∃ l, x = .running l) ∧
  (∀ l e, x = .proving l e → v.proveLeft = some (e - p.startUp.clock)) ∧
  ((∀ l e, x ≠ .proving l e) → v.proveLeft = none) ∧
  (∀ e, x = .guarded e → v.guardLeft = some (e - p.startUp.clock)) ∧
  ((∀ e, x ≠ .guarded e) → v.guardLeft = none) ∧ v.feedback = p.feedback u

/-- What R168 shows of a channel. -/
def ChannelShown (p : Part) (ch : ChannelId) (v : ChannelView) : Prop :=
  let c := p.channel ch
  v.channel = ch ∧ v.record = c ∧
  (v.openRead = some .active ↔ ReadsActive c.sense c.openInput) ∧ (v.openRead = none ↔ c.openInput = none) ∧
  (v.closedRead = some .active ↔ ReadsActive c.sense c.closedInput) ∧ (v.closedRead = none ↔ c.closedInput = none) ∧
  (v.drive = .openDrive ↔ ∃ e n, c.state = .opening e n) ∧ (v.drive = .closeDrive ↔ ∃ e n, c.state = .closing e n) ∧
  v.owner = p.ownerOf ch ∧
  (∀ e n, (c.state = .opening e n ∨ c.state = .closing e n) → v.expiryLeft = some (e - p.startUp.clock)) ∧
  (c.state.inTravel = false → v.expiryLeft = none) ∧
  (∀ f r, c.mappedTo = some (f, r) → v.travelTime = p.plant.travel.get r) ∧ (c.mappedTo = none → v.travelTime = 120)

/-- What R101 shows of a slot. -/
def SlotShown (p : Part) (slot : SlotId) (v : SignatureView) : Prop :=
  v.slot = slot ∧ v.installed = (p.recipe slot).map (fun r => (r.phases.length, r.signature, r.totalTime)) ∧
  (v.named = true ↔ ∃ f r, p.filter f = some r ∧ r.cfg.slot = slot) ∧
  (v.laneA = true ↔ ∃ w, p.lane .a = some w ∧ w.slot = slot) ∧
  (v.laneB = true ↔ ∃ w, p.lane .b = some w ∧ w.slot = slot) ∧
  v.staging = p.recipes.staging.map (fun x => (x.slot, x.count, x.records.length))

/-- GET_IDENT, PING (R180), GET_POINTS (R35), GET_QUEUE (R58), GET_RECIPE_SIGNATURE (R101), GET_RECIPE (R102), GET_LANES
(R134), GET_EQUIPMENT (R149), GET_CHANNELS (R168) and GET_CHANNEL_FAULT (R167) answer with what they read and change
nothing. -/
def ReadingCommandsAnswer : Prop :=
  ∀ (s : State) (tag : Byte), CanHandle s →
    let p := s.part
    Reads s (.getIdent tag) .ok (.ident Config.logicRevision p.link.rate) ∧ Reads s (.ping tag) .ok .none ∧
    (p.startUp.top ≠ .surveying →
      (∀ a n : Byte, 1 ≤ a.toNat → 1 ≤ n.toNat → n.toNat ≤ 16 → a.toNat + n.toNat ≤ 36 →
        ∃ vs, Reads s (.getPoints tag a n) .ok (.points p.front.tankAvail p.front.basinRoom vs) ∧
          vs.length = n.toNat ∧
          ∀ i id, i < n.toNat → pointIndex id = a.toNat + i → ∃ v, vs[i]? = some v ∧ PointShown p id v) ∧
      (∀ k : Byte, 1 ≤ k.toNat → k.toNat ≤ 16 →
        (p.sched.queue.length < k.toNat →
          Reads s (.getQueue tag k) .endOfRead (.queue p.sched.queue.length p.sched.mask [])) ∧
        (k.toNat ≤ p.sched.queue.length →
          ∃ es, Reads s (.getQueue tag k) .ok (.queue p.sched.queue.length p.sched.mask es) ∧
            es.length = min 8 (p.sched.queue.length + 1 - k.toNat) ∧
            ∀ i e, i < 8 → p.sched.queue[k.toNat - 1 + i]? = some e → es[i]? = some (k.toNat + i, e))) ∧
      (∀ b slot, slotOf b = some slot →
        (∃ v, Reads s (.getRecipeSignature tag b) .ok (.signature v) ∧ SlotShown p slot v) ∧
        ∀ k : Byte, 1 ≤ k.toNat → k.toNat ≤ 16 →
          (p.recipe slot = none → Reads s (.getRecipe tag b k) .endOfRead (.recipeEnd none)) ∧
          (∀ r, p.recipe slot = some r → r.phases.length < k.toNat →
            Reads s (.getRecipe tag b k) .endOfRead (.recipeEnd (some r.phases.length))) ∧
          (∀ r, p.recipe slot = some r → k.toNat ≤ r.phases.length →
            ∃ xs, Reads s (.getRecipe tag b k) .ok (.phases r.phases.length r.signature xs) ∧
              xs.length = min 8 (r.phases.length + 1 - k.toNat) ∧
              ∀ i ph, i < 8 → r.phases[k.toNat - 1 + i]? = some ph → xs[i]? = some (k.toNat + i, ph))) ∧
      (∃ a b, Reads s (.getLanes tag) .ok (.lanes a b) ∧ LaneShown p.frameAccepted .a a ∧ LaneShown p.frameAccepted .b b) ∧
      (∃ a b c, Reads s (.getEquipment tag) .ok (.equipment a b c p.arb.duty p.arb.pumpWait p.arb.blowerWait) ∧
        UnitShown p .p1 a ∧ UnitShown p .p2 b ∧ UnitShown p .bl c) ∧
      (∀ a n : Byte, 1 ≤ n.toNat → n.toNat ≤ 8 → a.toNat + n.toNat ≤ 112 →
        ∃ vs, Reads s (.getChannels tag a n) .ok (.channels p.stopAsserted p.ready p.valves.selection vs) ∧
          vs.length = n.toNat ∧
          ∀ i (ch : ChannelId), i < n.toNat → ch.val = a.toNat + i → ∃ v, vs[i]? = some v ∧ ChannelShown p ch v) ∧
      Reads s (.getChannelFault tag) .ok (.capture p.valves.capture))

/-- The ranges of the reading commands (R35, R58, R101, R102, R168, R19): outside them RANGE. -/
def ReadingCommandsCheckTheirRanges : Prop :=
  ∀ (s : State) (tag a n : Byte), CanHandle s → s.part.startUp.top ≠ .surveying →
    (¬ (1 ≤ a.toNat ∧ 1 ≤ n.toNat ∧ n.toNat ≤ 16 ∧ a.toNat + n.toNat ≤ 36) → Refused s (.getPoints tag a n) .range) ∧
    (¬ (1 ≤ a.toNat ∧ a.toNat ≤ 16) → Refused s (.getQueue tag a) .range ∧ Refused s (.filtersFirst tag a) .range) ∧
    (8 ≤ a.toNat → Refused s (.getRecipeSignature tag a) .range) ∧
    (8 ≤ a.toNat ∨ ¬ (1 ≤ n.toNat ∧ n.toNat ≤ 16) → Refused s (.getRecipe tag a n) .range) ∧
    (¬ (1 ≤ n.toNat ∧ n.toNat ≤ 8 ∧ a.toNat + n.toNat ≤ 112) → Refused s (.getChannels tag a n) .range)

/-- The reply is given on a link that is otherwise `k`. -/
def RepliesOn (k : LinkPort) (q : Part) (r : Reply) : Prop := q.link = { k with reply := some r }.beginSend

/-- What Table 11-3 shows: the defined filters numbered `start` and up, at most four, in order. -/
def filtersFrom (p : Part) (start : Nat) : List FilterView :=
  (((List.finRange 16).filter fun f => decide (start ≤ f.val + 1)).filterMap fun f =>
    (p.filter f).map fun r => ⟨f, r, (p.entry f).map (·.cls)⟩).take 4

/-- FILTERS_FIRST or FILTERS_NEXT answers a chunk from number `start` on, and the cursor follows it (R19). -/
def Chunked (s : State) (row : Instr) (tag : Byte) (c : HostCommand) (start : Nat) : Prop :=
  ∃ t, exec row s = .next t ∧ t.pending = s.pending ∧
    OnlyChanges ([Piece.cursor] ++ replying) s.part.frameAccepted t.part ∧
    (filtersFrom s.part start = [] → t.part.link.cursor = none ∧
      RepliesOn { s.part.link with cursor := none } t.part ⟨replyKind c.kind, tag, .endOfRead, .none⟩) ∧
    (∀ front v, filtersFrom s.part start = front ++ [v] → t.part.link.cursor = some (v.filter.val + 2) ∧
      RepliesOn { s.part.link with cursor := some (v.filter.val + 2) } t.part
        ⟨replyKind c.kind, tag, .ok, .filters (front ++ [v])⟩)

/-- The commands accepted in every top state (R176). -/
def AnyTopState : HostCommand → Prop
  | .getIdent | .getStatus | .getLinkErrors | .ping => True
  | _ => False

/-- R176, R183: in SURVEYING every other command is refused BUSY. -/
def SurveyingRefusesBusy : Prop :=
  ∀ (s : State) (row : Instr) (tag : Byte) (c : HostCommand), CanHandle s → s.part.startUp.top = .surveying →
    row.command = some (tag, c) → ¬ AnyTopState c → Refused s row .busy

/-- The commands that need OPERATING. -/
def NeedsOperating : HostCommand → Prop
  | .setMode _ | .getLoading | .takeOut _ | .putIn .. | .clearFault _ | .toStandby _ | .toService _ | .requestWash ..
  | .cancelRequest _ | .defer .. | .setMask _ | .accept _ | .decline .. | .hold _ | .resume _ | .abort .. => True
  | _ => False

/-- R176: in CONFIGURING a command that needs OPERATING is refused NOT_CONFIGURED. -/
def ConfiguringRefusesNotConfigured : Prop :=
  ∀ (s : State) (row : Instr) (tag : Byte) (c : HostCommand), CanHandle s → s.part.startUp.top = .configuring →
    row.command = some (tag, c) → NeedsOperating c → Refused s row .notConfigured

/-! ### Commissioning, mode and flags -/

/-- Table 10-3, items 6 to 8, for one filter. -/
def FilterLacks (p : Part) (f : FilterId) : Prop :=
  ∃ rec, p.filter f = some rec ∧
    ((∃ r, p.mapped f r = none) ∨ (∃ r ch, p.mapped f r = some ch ∧ (p.channel ch).locked = true) ∨
      p.recipe rec.cfg.slot = none)

/-- The role is the first of the six, in their order, of which this holds. -/
def FirstRole (bad : Role → Prop) (r : Role) : Prop := bad r ∧ ∀ r', allRoles.idxOf r' < allRoles.idxOf r → ¬ bad r'

/-- Items 1 to 5 of Table 10-3 are present. -/
def PlantComplete (p : Part) : Prop :=
  p.plantReceived = true ∧ p.front.flow.source ≠ .none ∧ p.front.tank.source ≠ .none ∧ p.front.basin.source ≠ .none ∧
  ∃ f rec, p.filter f = some rec

/-! ### Points -/

/-- R22: the source a SET_POINT carries for this point, its input and span in order. -/
def SourceNamed (id : PointId) (source input : Byte) (lo hi : Half) (src : PointSource) : Prop :=
  (source = 0 ∧ input = 0 ∧ lo = 0 ∧ hi = 0 ∧ src = .none) ∨
  (source = 2 ∧ input = 0 ∧ lo = 0 ∧ hi = 0 ∧ src = .pushed) ∨
  (source = 1 ∧ ∃ i, inputOf input = some i ∧ lo.toNat < hi.toNat ∧ hi.toNat ≤ pointMax id ∧
    src = .analog i lo.toNat hi.toNat)

/-- The point's source is this input. -/
def HasInput (p : Part) (id : PointId) (i : InputId) : Prop := ∃ lo hi, (p.point id).source = .analog i lo hi

/-- R31: MEASURE for a change of quality. -/
def pointReports (p : Part) (id : PointId) (x : Point) : List ReportBody :=
  if x.quality = (p.point id).quality then []
  else [.measure id x.quality (p.point id).quality x.source (if x.quality = .none then none else x.value)]

/-- R28: every pair names a point, and no two name the same one. -/
def PairsName (pairs : List (Byte × Half)) (ids : List PointId) : Prop :=
  ids.map pointIndex = pairs.map (fun x => x.1.toNat) ∧ ids.Nodup

/-- R29: a point after a pushed value at second `clock`. -/
def pushedPoint (id : PointId) (x : Point) (v clock : Nat) : Point :=
  { x with value := some (min v (pointMax id)), quality := .good, lastAccepted := some clock }

/-! ### The filter table -/

/-- Table 1-6: the configuration fields SET_FILTER carries, within their ranges; the slot holds a recipe. -/
def FilterFields (p : Part) (c : RawFilter) (slot : SlotId) (d : Destination) : Prop :=
  (10 ≤ c.area.toNat ∧ c.area.toNat ≤ 3000) ∧ c.h0.toNat ≤ 4900 ∧
  (c.h0.toNat + 100 ≤ c.ht.toNat ∧ c.ht.toNat ≤ 5000) ∧ (50 ≤ c.tt.toNat ∧ c.tt.toNat ≤ 2000) ∧
  (360 ≤ c.rmax.toNat ∧ c.rmax.toNat ≤ 10080) ∧ c.arming.toNat ≤ 240 ∧
  (c.slot.toNat = slot.val ∧ p.recipe slot ≠ none) ∧ ((c.dest = 1 ∧ d = .online) ∨ (c.dest = 2 ∧ d = .standby))

/-- The configuration written. -/
def configWritten (c : RawFilter) (slot : SlotId) (d : Destination) : FilterConfig :=
  ⟨c.area.toNat, c.h0.toNat, c.ht.toNat, c.tt.toNat, c.rmax.toNat, c.arming.toNat, slot, d, c.initRun.toNat⟩

/-- R1: the record a definition creates. -/
def newRecord (cfg : FilterConfig) : FilterRecord where
  cfg := cfg
  state := .outOfService
  transfer := none
  runMin := cfg.initRun
  runSec := 0
  armedMin := 240
  washes := 0
  aborts := 0
  lastWashEnd := none
  u := 0
  dominant := .turbidity

/-- The commands that name one filter (R5, R52), with the byte that names it. -/
def OnOneFilter : HostCommand → Byte → Prop
  | .takeOut b, x | .putIn b _, x | .clearFault b, x | .toStandby b, x | .toService b, x | .requestWash b _, x
  | .cancelRequest b, x | .defer b _, x => b = x
  | _, _ => False

/-- R5 and R52 in OPERATING: RANGE outside 1 to 16, STATE for an UNDEFINED filter, BUSY while a transfer runs. -/
def FilterCommandsCheckTheFilterFirst : Prop :=
  ∀ (s : State) (row : Instr) (tag b : Byte) (c : HostCommand), CanHandle s → s.part.startUp.top = .operating →
    row.command = some (tag, c) → OnOneFilter c b →
    (filterOf b = none → Refused s row .range) ∧
    ∀ f, filterOf b = some f → (s.part.filter f = none → Refused s row .state) ∧
      ∀ rec, s.part.filter f = some rec → rec.transfer ≠ none → Refused s row .busy

/-- The filter's role is mapped to a channel that is not locked. -/
def RoleUsable (p : Part) (f : FilterId) (r : Role) : Prop := ∃ ch, p.mapped f r = some ch ∧ (p.channel ch).locked = false

/-- The filter's state is reported with its earlier one (R4). -/
def stateReport (p : Part) (f : FilterId) (before after : FilterState) (t : Option Transfer) : ReportBody :=
  .filterState f (some after) (some before) t (p.table.marker == some f)

/-- TAKE_OUT (R6), PUT_IN (R7) and CLEAR_FAULT (R8) of a filter with no transfer running. A TAKE_OUT of an ONLINE filter
leaves the service area, so the loading is computed anew. That a PUT_IN condition of neither kind is refused RANGE first is
the model's reading (log 31); the order of the reports is too (log 22). -/
def FiltersLeaveAndJoinTheRotation : Prop :=
  ∀ (s : State) (tag b x : Byte) (f : FilterId) (rec : FilterRecord), CanHandle s → s.part.startUp.top = .operating →
    filterOf b = some f → s.part.filter f = some rec → rec.transfer = none →
    let p := s.part
    let out := offIndex { rec with state := .outOfService }
    ((rec.state = .outOfService ∨ ∃ l, rec.state = .washing l) → Refused s (.takeOut tag b) .state) ∧
    ((rec.state = .standby ∨ rec.state = .stranded ∨ ∃ c, rec.state = .faulted c) →
      Done s (.takeOut tag b) [.filters, .queue, .proposal, .scanDue, .events]
        (removalReports p f .takenOut ++ [stateReport p f rec.state .outOfService none]) .ok .none fun q =>
          q.filter f = some out ∧ OtherFiltersKept p q f ∧ EntryGone p q f) ∧
    (rec.state = .online →
      ∃ cs, Done s (.takeOut tag b) [.filters, .queue, .proposal, .scanDue, .events, .flags, .overload]
        (removalReports p f .takenOut ++ [stateReport p f rec.state .outOfService none] ++ cs) .ok .none fun q =>
          q.filter f = some out ∧ OtherFiltersKept p q f ∧ EntryGone p q f ∧ q.sched.scanDue = true ∧
          q.sched.overload = overloadAt p (currentLoading q)) ∧
    (¬ x.toNat ≤ 1 → Refused s (.putIn tag b x) .range) ∧
    (x.toNat ≤ 1 → rec.state ≠ .outOfService → Refused s (.putIn tag b x) .state) ∧
    (x.toNat ≤ 1 → rec.state = .outOfService → ¬ (∀ r, RoleUsable p f r) → Refused s (.putIn tag b x) .map) ∧
    (x.toNat ≤ 1 → rec.state = .outOfService → (∀ r, RoleUsable p f r) → ¬ (∀ r, RestsAt p f r .closed) →
      Refused s (.putIn tag b x) .state) ∧
    (rec.state = .outOfService → (∀ r, RoleUsable p f r) → (∀ r, RestsAt p f r .closed) →
      (x = 0 →
        Done s (.putIn tag b x) [.filters, .selection, .events] [stateReport p f .outOfService .standby none] .ok .none
          fun q => q.filter f =
              some (offIndex { rec with state := .standby, runMin := 0, runSec := 0, armedMin := 0, aborts := 0 }) ∧
            OtherFiltersKept p q f) ∧
      (x = 1 →
        Done s (.putIn tag b x) [.filters, .selection, .queue, .scanDue, .events]
          [stateReport p f .outOfService .standby none, .request .added f .manual none .host 0 none] .ok .none
          fun q => q.filter f = some (offIndex { rec with state := .standby }) ∧ OtherFiltersKept p q f ∧
            q.entry f = some ⟨f, .manual, .host, 0, p.startUp.clock, none, none⟩ ∧
            (∀ g, g ≠ f → q.entry g = p.entry g) ∧ q.sched.scanDue = true)) ∧
    ((∀ c, rec.state ≠ .faulted c) → Refused s (.clearFault tag b) .state) ∧
    ∀ c, rec.state = .faulted c →
      Done s (.clearFault tag b) [.filters, .events] [stateReport p f rec.state .outOfService none] .ok .none fun q =>
        q.filter f = some { out with aborts := 0 } ∧ OtherFiltersKept p q f

/-! ### The queue by command -/

/-- R53: the override a REQUEST_WASH carries: none, or an installed slot. -/
def OverrideNamed (p : Part) (o : Byte) (x : Option SlotId) : Prop :=
  (o = 255 ∧ x = none) ∨ ∃ slot : SlotId, o.toNat = slot.val ∧ p.recipe slot ≠ none ∧ x = some slot

/-- Every other filter's entry is as it was, and a scan is due. -/
def QueueChanged (p q : Part) (f : FilterId) : Prop := (∀ g, g ≠ f → q.entry g = p.entry g) ∧ q.sched.scanDue = true

/-- A proposal is outstanding, for this filter. -/
def ProposalFor (p : Part) (f : FilterId) : Prop := ∃ pr, p.sched.proposal = some pr ∧ pr.filter = f

/-- R49, R50: the second a deferral by some minutes holds, none for 0. -/
def deferralOf (p : Part) (minutes : Nat) : Option Nat :=
  if minutes = 0 then none else some (min (p.startUp.clock + 60 * minutes) 4294967295)

/-! ### Proposals by command -/

/-- The proposal of the filter is withdrawn with this cause, its entry as given. -/
def Withdrawn (p q : Part) (f : FilterId) (e : Entry) : Prop :=
  q.sched.proposal = none ∧ q.entry f = some e ∧ QueueChanged p q f

/-! ### Recipes -/

/-- The kind a record names (Table 11-4). -/
def KindNamed (r : RawPhase) (k : PhaseKind) : Prop :=
  (r.kind = 0 ∧ k = .drain) ∨ (r.kind = 1 ∧ k = .air) ∨ (r.kind = 2 ∧ k = .airWater) ∨ (r.kind = 3 ∧ k = .water) ∨
  (r.kind = 4 ∧ k = .rest) ∨ (r.kind = 5 ∧ k = .ripen)

/-- Table 5-3: rate, drain depth, target and confirm time a kind allows. -/
def KindAllows (k : PhaseKind) (rate depth target confirm : Nat) : Prop :=
  match k with
  | .drain => rate = 0 ∧ (50 ≤ depth ∧ depth ≤ 1500) ∧ target = 0 ∧ confirm = 0
  | .air | .rest => rate = 0 ∧ depth = 0 ∧ target = 0 ∧ confirm = 0
  | .airWater => (20 ≤ rate ∧ rate ≤ 400) ∧ depth = 0 ∧ target = 0 ∧ confirm = 0
  | .water => (50 ≤ rate ∧ rate ≤ 800) ∧ depth = 0 ∧ target = 0 ∧ confirm = 0
  | .ripen => (10 ≤ rate ∧ rate ≤ 300) ∧ depth = 0 ∧ (20 ≤ target ∧ target ≤ 2000) ∧ confirm ≤ 600

/-- R91, R94: record number `i` (from 0) of the recipe passes the checks of Table 5-5. -/
def RecordPasses (rs : List RawPhase) (i : Nat) : Prop :=
  ∃ r k, rs[i]? = some r ∧ KindNamed r k ∧ (10 ≤ r.duration.toNat ∧ r.duration.toNat ≤ 3600) ∧
    KindAllows k r.rate.toNat r.depth.toNat r.target.toNat r.confirm.toNat ∧ (k = .ripen → i + 1 = rs.length) ∧
    (k = .air ∨ k = .airWater → ∃ j x, j < i ∧ rs[j]? = some x ∧ x.kind = 0)

/-- R94, R95: the recipe is valid. -/
def RecipeValid (rs : List RawPhase) : Prop := (∀ i, i < rs.length → RecordPasses rs i) ∧ ∃ r ∈ rs, r.kind = 3

/-- R94, R95: the offending phase index of an invalid recipe, 0 for the recipe as a whole. -/
def Offending (rs : List RawPhase) (n : Nat) : Prop :=
  (∃ i, n = i + 1 ∧ i < rs.length ∧ ¬ RecordPasses rs i ∧ ∀ j, j < i → RecordPasses rs j) ∨
  (n = 0 ∧ (∀ i, i < rs.length → RecordPasses rs i) ∧ ∀ r ∈ rs, r.kind ≠ 3)

/-- The phase a record holds. -/
def PhaseOfRecord (r : RawPhase) (ph : Phase) : Prop :=
  KindNamed r ph.kind ∧ ph.duration = r.duration.toNat ∧ ph.rate = r.rate.toNat ∧ ph.depth = r.depth.toNat ∧
  ph.target = r.target.toNat ∧ ph.confirm = r.confirm.toNat

/-- R90, R93, R100: the slot as an installation writes it. -/
def RecipeWritten (rs : List RawPhase) (r : Recipe) : Prop :=
  r.phases.length = rs.length ∧
  (∀ (i : Nat) (x : RawPhase) (ph : Phase), rs[i]? = some x → r.phases[i]? = some ph → PhaseOfRecord x ph) ∧
  r.signature = crc16 (BitVec.ofNat 8 rs.length :: rawPhaseBytes rs) ∧
  r.totalTime = (r.phases.map fun ph => ph.duration).sum ∧
  r.sumWater = (r.phases.map fun ph => waterFlow ph * ph.duration).sum ∧
  r.sumDrain = (r.phases.map drainOf).sum ∧
  r.sumWaste = (r.phases.map fun ph => wasteFlow ph * ph.duration).sum

/-- A non-IDLE lane runs the slot. -/
def LaneRuns (p : Part) (slot : SlotId) : Prop := ∃ l w, p.lane l = some w ∧ w.slot = slot

/-- RECIPE_BEGIN (R96) and RECIPE_PHASES (R97, R98): staging, and the installation of the complete recipe. -/
def RecipesAreStagedAndInstalled : Prop :=
  ∀ (s : State) (tag b n : Byte) (rs : List RawPhase), CanHandle s → s.part.startUp.top ≠ .surveying →
    let p := s.part
    let opens := Instr.recipeBegin tag b n
    let carries := Instr.recipePhases tag rs
    let x := p.recipes.staging
    (¬ (b.toNat ≤ 7 ∧ 1 ≤ n.toNat ∧ n.toNat ≤ 16) → Refused s opens .range) ∧
    (∀ slot : SlotId, b.toNat = slot.val → 1 ≤ n.toNat → n.toNat ≤ 16 →
      Done s opens [.staging] [] .ok .none fun q => q.recipes.staging = some ⟨slot, n.toNat, []⟩) ∧
    (rs.length < 256 → ¬ (1 ≤ rs.length ∧ rs.length ≤ 8) →
      Reads s carries .length (.picture (x.map fun st => (st.slot, st.count, st.records.length)))) ∧
    (1 ≤ rs.length → rs.length ≤ 8 →
      (x = none → Reads s carries .state (.picture none)) ∧
      ∀ st, x = some st →
        let held := st.records ++ rs
        (st.count < held.length →
          Done s carries [.staging] [] .length (.picture none) fun q => q.recipes.staging = none) ∧
        (held.length < st.count →
          Done s carries [.staging] [] .ok (.staged st.slot st.count held.length) fun q =>
            q.recipes.staging = some { st with records := held }) ∧
        (held.length = st.count →
          (∀ i, Offending held i →
            Done s carries [.staging] [] .range (.offending i) fun q => q.recipes.staging = none) ∧
          (RecipeValid held → LaneRuns p st.slot →
            Done s carries [.staging] [] .inUse .none fun q => q.recipes.staging = none) ∧
          (RecipeValid held → ¬ LaneRuns p st.slot →
            ∃ r, RecipeWritten held r ∧
              Done s carries [.staging, .slots] [] .ok (.installed st.slot held.length r.signature r.totalTime) fun q =>
                q.recipes.staging = none ∧ q.recipe st.slot = some r ∧
                ∀ other, other ≠ st.slot → q.recipe other = p.recipe other)))

/-- RECIPE_ERASE (R103, R56). -/
def RecipeEraseEmptiesTheSlot : Prop :=
  ∀ (s : State) (tag b : Byte), CanHandle s → s.part.startUp.top ≠ .surveying →
    let p := s.part
    let row := Instr.recipeErase tag b
    (8 ≤ b.toNat → Refused s row .range) ∧
    ∀ slot : SlotId, b.toNat = slot.val →
      let named := ∃ f rec, p.filter f = some rec ∧ rec.cfg.slot = slot
      (named ∨ LaneRuns p slot → Refused s row .inUse) ∧
      (¬ named → ¬ LaneRuns p slot →
        (p.recipe slot = none → Reads s row .ok .none) ∧
        (p.recipe slot ≠ none →
          Done s row [.slots, .queue, .scanDue] [] .ok .none fun q =>
            q.recipe slot = none ∧ (∀ other, other ≠ slot → q.recipe other = p.recipe other) ∧
            q.sched.queue = p.sched.queue.map (fun e => if e.override = some slot then { e with override := none } else e) ∧
            (p.startUp.top = .operating → (∃ e ∈ p.sched.queue, e.override = some slot) → q.sched.scanDue = true)))

/-! ### Units by command -/

/-- A unit that is ALLOCATED, PROVING or RUNNING. -/
def InHand (x : UnitState) : Prop := ∃ l, x = .allocated l ∨ x = .running l ∨ ∃ e, x = .proving l e

/-! ### Valves by command -/

/-- R161: the pairs that are never both commanded open. -/
def Partners (r r' : Role) : Prop :=
  (r = .inf ∧ r' = .bww) ∨ (r = .bww ∧ r' = .inf) ∨ (r = .eff ∧ r' = .wst) ∨ (r = .wst ∧ r' = .eff)

/-- R161: the role's partner counts as open: mapped, and not CLOSED or commanded open. -/
def PartnerOpen (p : Part) (f : FilterId) (r : Role) : Prop :=
  ∃ r' ch, Partners r r' ∧ p.mapped f r' = some ch ∧
    ((p.channel ch).state ≠ .closed ∨ (p.channel ch).target = some .opened)

/-- The filter's channels do not belong to the window: it is defined, and neither OUT_OF_SERVICE nor FAULTED. -/
def WindowClosed (p : Part) (f : FilterId) : Prop :=
  ∃ rec, p.filter f = some rec ∧ rec.state ≠ .outOfService ∧ ∀ c, rec.state ≠ .faulted c

/-- A channel byte: 0xFF for none, else a channel. -/
def ChannelNamed (b : Byte) (x : Option ChannelId) : Prop :=
  (b = 255 ∧ x = none) ∨ ∃ ch : ChannelId, b.toNat = ch.val ∧ x = some ch

/-- The channel is mapped to a filter that keeps it from the window (R157). -/
def KeptFromWindow (p : Part) (ch : ChannelId) : Prop :=
  ∃ f r, (p.channel ch).mappedTo = some (f, r) ∧ WindowClosed p f

/-- R153: the travel time a command to the channel takes. -/
def travelOf (p : Part) (c : Channel) : Nat :=
  match c.mappedTo with
  | some (_, r) => p.plant.travel.get r
  | none => 120

/-- Table 8-3: the channel after a command taken; a channel at the position, or on its way there, only keeps the target. -/
def commanded (p : Part) (c : Channel) (pos : Position) : Channel :=
  match c.state, pos with
  | .opened, .opened | .closed, .closed | .opening _ _, .opened | .closing _ _, .closed => { c with target := some pos }
  | _, _ => inTravelTo c p.startUp.clock (travelOf p c) pos

end Sys2Proof

open Sys2Proof Sys2Proof.Machine

/-! ### The step -/

/-- The row at the front of the queue runs on the state with the queue's rest. -/
def Obligations.StepRunsTheFrontRow : Prop :=
  ∀ (c : Instr) (rest : List Instr) (s : State),
    step { s with pending := c :: rest } = exec c { s with pending := rest }

/-! ### Resets -/

/-- The state right after reset holds every value the spec gives; and the part works, with no row waiting and no event
outstanding (the model's own fields, log 3). -/
def Obligations.ResetStateHoldsTheResetValues : Prop :=
  RunStateCleared State.reset.part ∧ ConfigurationCleared State.reset.part ∧ State.reset.part.live = true ∧
  State.reset.pending = [] ∧ State.reset.part.events = []

/-- POWER_ON_RESET and the RESET line clear run state and configuration and read the straps; the line holds the part until
its release. No reset moves a feedback input. That the straps are read at the release is the model's choice (log 10). -/
def Obligations.HardResetsClearEverything : Prop :=
  ∀ (s : State) (a b : Level),
    (∃ t, exec (.powerOnReset a b) s = .next t ∧ t.pending = s.pending ∧ RunStateCleared t.part ∧
      ConfigurationCleared t.part ∧ t.part.link.rate = strapRate a b ∧ t.part.supply = true ∧
      t.part.resetHeld = s.part.resetHeld ∧ ∀ u, (t.part.unit u).input = (s.part.unit u).input) ∧
    (∃ t, exec .resetLineAsserted s = .next t ∧ t.pending = s.pending ∧ RunStateCleared t.part ∧
      ConfigurationCleared t.part ∧ t.part.supply = s.part.supply ∧ t.part.resetHeld = true ∧
      ∀ u, (t.part.unit u).input = (s.part.unit u).input) ∧
    (s.part.resetHeld = true →
      ∃ t, exec (.resetLineReleased a b) s = .next t ∧ t.pending = s.pending ∧ RunStateCleared t.part ∧
        ConfigurationCleared t.part ∧ t.part.link.rate = strapRate a b ∧ t.part.supply = s.part.supply ∧
        t.part.resetHeld = false ∧ ∀ u, (t.part.unit u).input = (s.part.unit u).input)

/-- SOFT_RESET_EFFECT clears the run state and keeps the configuration, the run minutes copied into the initial run
minutes (R20, R185, Table 10-2). -/
def Obligations.SoftResetKeepsTheConfiguration : Prop :=
  ∀ (s : State), s.part.live = true → s.part.link.softReset = .sent →
    ∃ t, exec .softResetEffect s = .next t ∧ t.pending = s.pending ∧ RunStateCleared t.part ∧
      t.part.live = true ∧ t.part.link.softReset = .none ∧ t.part.link.rate = s.part.link.rate ∧
      t.part.plant = s.part.plant ∧ t.part.plantReceived = s.part.plantReceived ∧
      (∀ f, t.part.filter f = (s.part.filter f).map softResetRecord) ∧
      (∀ id, (t.part.point id).source = (s.part.point id).source) ∧
      (∀ slot, t.part.recipe slot = s.part.recipe slot) ∧ (∀ f r, t.part.mapped f r = s.part.mapped f r) ∧
      (∀ ch, (t.part.channel ch).sense = (s.part.channel ch).sense ∧
        (t.part.channel ch).locked = (s.part.channel ch).locked ∧
        (t.part.channel ch).mappedTo = (s.part.channel ch).mappedTo) ∧
      ∀ u, (t.part.unit u).input = (s.part.unit u).input

/-- Every row, on every state, gives a next state and leaves the rows that wait alone; with no row waiting the part idles, by
the model's choice (log 5). -/
def Obligations.RowsCompleteAndNoRowIdles : Prop :=
  EmptyQueueIdles ∧ EveryRowCompletes

/-- SUPPLY_LOSS, and what a part without supply or held in reset does (R166, R184; log 11). -/
def Obligations.PartWithoutSupplyOrInResetIsStill : Prop :=
  NothingActsWithoutSupplyOrInReset ∧ SupplyLossTurnsEveryOutputOff

/-! ### The second, run time and urgency -/

/-- URGENCY_EVALUATION of an ONLINE filter with no transfer: fractions, clamping, index and dominant term (R37 to R40),
flags (R37, R38, R40), class (R43), and the filter's entry (R44). -/
def Obligations.UrgencyEvaluationFollowsTheFractions : Prop :=
  ∀ (s : State) (f : FilterId) (r : FilterRecord), Outstanding s (.urgency f) → s.part.filter f = some r →
    r.state = .online → r.transfer = none →
    let h := headlossPart r.cfg (s.part.point (.hl f))
    let t := turbidityPart r (s.part.point (.tb f))
    let k := runtimePart r
    let u := max (min h 1999) (max (min t 1999) (min k 1999))
    let staleUsed := (s.part.point (.hl f)).quality = .stale ∨
      (r.cfg.arming ≤ r.armedMin ∧ (s.part.point (.tb f)).quality = .stale)
    ∃ t', exec (.urgencyEvaluation f) s = .next t' ∧ t'.pending = s.pending ∧
      OnlyChanges ([Piece.filters, .queue, .flags, .scanDue, .events] ++ reporting) s.part t'.part ∧
      t'.part.filter f = some { r with
        u := u
        dominant := if min t 1999 = u then .turbidity else if min h 1999 = u then .headloss else .runtime } ∧
      (∀ g, g ≠ f → t'.part.filter g = s.part.filter g) ∧
      t'.part.sched.flags = { s.part.sched.flags with
        sat := s.part.sched.flags.sat || decide (1999 < h ∨ 1999 < t ∨ 1999 < k)
        staleUsed := s.part.sched.flags.staleUsed || decide staleUsed } ∧
      t'.part.entry f = entryEvaluated f s.part.startUp.clock u (s.part.entry f) (classOf h t k) ∧
      (∀ g, g ≠ f → t'.part.entry g = s.part.entry g) ∧
      t'.part.events = s.part.events.erase (.urgency f)

/-! ### Measurement -/

/-- SCHEDULER_MEASURE_CHANGE, SPACING_EXPIRY and SCHEDULER_UNIT_NOTICE trigger an admission scan in OPERATING, and a change
of FLOW has the current loading computed (R30, R64, R68, R71, R79, R145). -/
def Obligations.SchedulerEventsTriggerAScan : Prop :=
  ∀ (s : State), s.part.startUp.top = .operating →
    (∀ id, (id = .tank ∨ id = .basin) → Outstanding s (.schedulerMeasure id) →
      ∃ t, exec (.schedulerMeasureChange id) s = .next t ∧ t.pending = s.pending ∧
        OnlyChanges [.scanDue, .events] s.part t.part ∧ t.part.sched.scanDue = true) ∧
    (Outstanding s (.schedulerMeasure .flow) →
      ∃ t, exec (.schedulerMeasureChange .flow) s = .next t ∧ t.pending = s.pending ∧
        OnlyChanges ([Piece.scanDue, .overload, .flags, .events] ++ reporting) s.part t.part ∧
        t.part.sched.scanDue = true ∧ t.part.sched.overload = overloadAt s.part (currentLoading s.part)) ∧
    (Outstanding s .spacingExpiry →
      ∃ t, exec .spacingExpiry s = .next t ∧ t.pending = s.pending ∧
        OnlyChanges [.scanDue, .events] s.part t.part ∧ t.part.sched.scanDue = true) ∧
    ∀ u n, Outstanding s (.schedulerUnitNews u n) →
      ∃ t, exec (.schedulerUnitNotice u n) s = .next t ∧ t.pending = s.pending ∧
        OnlyChanges [.scanDue, .events] s.part t.part ∧ t.part.sched.scanDue = true

/-- GALLERY_CLOCK_TICK (R15, R42, R111, R183 and the timers' rules). -/
def Obligations.TickCountsAndRaisesTimers : Prop :=
  TickCountsASecond ∧ TickRaisesEveryTimerReached

/-- RUN_MINUTE (R15) and MINUTE_TICK (R42). -/
def Obligations.FilterMinutesCountAndCallForEvaluations : Prop :=
  RunMinuteCounts ∧ MinuteTickCallsForEveryEvaluation

/-- ANALOG_SCAN (R21), POINT_SAMPLE (R24 to R26) and POINT_STALE (R27). -/
def Obligations.SamplesReachTheirPoints : Prop :=
  AnalogScanStoresEveryCount ∧ PointSampleFollowsTheTables ∧ PointGoesStale

/-! ### The plant record -/

/-- DEFER_EXPIRY clears a deferral that is reached (R49); PROPOSAL_EXPIRY defers the entry by the lifetime and withdraws the
proposal EXPIRED (R85). Each triggers a scan in OPERATING. -/
def Obligations.DeferralsAndProposalsExpire : Prop :=
  ∀ (s : State) (e : Entry), s.part.startUp.top = .operating → s.part.entry e.filter = some e →
    (∀ d, Outstanding s (.deferExpiry e.filter) → e.deferUntil = some d → d ≤ s.part.startUp.clock →
      ∃ t, exec (.deferExpiry e.filter) s = .next t ∧ t.pending = s.pending ∧
        OnlyChanges [.queue, .scanDue, .events] s.part t.part ∧
        t.part.entry e.filter = some { e with deferUntil := none } ∧
        (∀ g, g ≠ e.filter → t.part.entry g = s.part.entry g) ∧ t.part.sched.scanDue = true) ∧
    ∀ x, Outstanding s .proposalExpiry → s.part.sched.proposal = some ⟨e.filter, x⟩ →
      let until' := min (s.part.startUp.clock + s.part.plant.lifetime) 4294967295
      ∃ t, exec .proposalExpiry s = .next t ∧ t.pending = s.pending ∧
        OnlyChanges ([Piece.queue, .proposal, .scanDue, .events] ++ reporting) s.part t.part ∧
        t.part.sched.proposal = none ∧ t.part.entry e.filter = some { e with deferUntil := some until' } ∧
        (∀ g, g ≠ e.filter → t.part.entry g = s.part.entry g) ∧ t.part.sched.scanDue = true ∧
        Reports s.part t.part [.proposalWithdrawn e.filter .expired (some until')]

/-- OVERLOAD_DEADLINE: the deadline moves on by the delay and OVERLOAD is reported, with the loading as it then is; the
lowest-numbered filter that can be substituted is started and named when the marker names none (R80, R14), STOP asserted
or released. That the substitution is reported before OVERLOAD is the model's reading (log 22). -/
def Obligations.OverloadDeadlineReportsAndSubstitutes : Prop :=
  ∀ (s : State) (o : Overload), Outstanding s .overloadDeadline → s.part.sched.overload = some o →
    let moved : Overload := ⟨o.start, min (o.deadline + s.part.plant.overloadDelay) 4294967295⟩
    let body := fun (q : Part) started => ReportBody.overload (currentLoading q) s.part.plant.vmax s.part.flowUsed.1
      s.part.flowUsed.2 q.serviceArea o.start started
    ((s.part.table.marker ≠ none ∨ ∀ f, ¬ CanSubstitute s.part f) →
      ∃ t, exec .overloadDeadline s = .next t ∧ t.pending = s.pending ∧
        OnlyChanges ([Piece.overload, .events] ++ reporting) s.part t.part ∧ t.part.sched.overload = some moved ∧
        Reports s.part t.part [body s.part none]) ∧
    ∀ f r, s.part.table.marker = none → s.part.filter f = some r → CanSubstitute s.part f →
      (∀ g, g < f → ¬ CanSubstitute s.part g) →
      TransferBegins s.part f r .toService (some f) fun xs bs now =>
        ∃ t, exec .overloadDeadline s = .next t ∧ t.pending = s.pending ∧
          OnlyChanges ([Piece.overload, .marker, .events] ++ xs ++ reporting) s.part t.part ∧
          (.overload ∉ xs → t.part.sched.overload = some moved) ∧
          Reports s.part t.part (bs ++ [body t.part (some f)]) ∧ now t.part

/-! ### Valves and STOP -/

/-- STOP_ASSERTED, STOP_RELEASED and STOP_INPUT_FIRST_TAKEN (R164, R165, R169): an assertion stops every travel and is told;
a release gives STOPPED channels their state by their readings and is told; the first taking after a reset makes no
report. The order of the channels at a release is the model's (log 44). -/
def Obligations.StopInputActsOnEveryChannel : Prop :=
  ∀ (s : State), s.part.live = true →
    (s.part.valves.stop = .released →
      ∃ t, exec .stopAsserted s = .next t ∧ t.pending = s.pending ∧
        OnlyChanges ([Piece.channels, .stop, .events] ++ reporting) s.part t.part ∧ StopTakesEffect s.part t.part ∧
        Reports s.part t.part [.stopAsserted s.part.startUp.clock s.part.travelling]) ∧
    (s.part.valves.stop = .asserted →
      ∃ t, exec .stopReleased s = .next t ∧ t.pending = s.pending ∧
        OnlyChanges ([Piece.channels, .capture, .stop, .events] ++ reporting) s.part t.part ∧
        t.part.valves.stop = .released ∧ StoppedChannelsSettle s.part t.part ∧
        (∀ l, .laneStopReleased l ∈ t.part.events) ∧
        ∀ f r, s.part.filter f = some r → (r.state = .online ∨ r.state = .standby ∨ r.state = .stranded) →
          r.transfer ≠ none → .transferStopReleased f ∈ t.part.events) ∧
    (s.part.valves.stop = .untaken →
      (∃ t, exec (.stopInputFirstTaken .deEnergised) s = .next t ∧ t.pending = s.pending ∧
        OnlyChanges [.channels, .stop, .events] s.part t.part ∧ StopTakesEffect s.part t.part) ∧
      ∃ t, exec (.stopInputFirstTaken .energised) s = .next t ∧ t.pending = s.pending ∧
        OnlyChanges [.stop] s.part t.part ∧ t.part.valves.stop = .released)

/-! ### Units -/

/-- FEEDBACK_CHANGE, Table 7-3 (R140 to R142, R148): a running reading proves a PROVING unit; a stopped reading trips a
RUNNING one; a running reading of any other unit is reported as unexpected; nothing else changes. -/
def Obligations.FeedbackProvesTripsOrIsReported : Prop :=
  ∀ (s : State) (u : UnitId) (level : Level), s.part.live = true → (s.part.unit u).input ≠ level →
    let reading := readingAt (s.part.plant.polarity.get u) level
    let before := (s.part.unit u).state
    ∃ t, exec (.feedbackChange u level) s = .next t ∧ t.pending = s.pending ∧
      OnlyChanges ([Piece.units, .events] ++ reporting) s.part t.part ∧ OtherUnitsKept s.part t.part u ∧
      (t.part.unit u).input = level ∧
      (∀ l e, reading = .running → before = .proving l e →
        (t.part.unit u).state = .running l ∧ .proven l u ∈ t.part.events ∧
        Reports s.part t.part [.equipment u .proven (.running l) before (some l) none .running]) ∧
      (∀ l, reading = .stopped → before = .running l →
        (t.part.unit u).state = .failed .trip ∧ .tripped l u ∈ t.part.events ∧ NewsTold t.part.events u .failed ∧
        Reports s.part t.part [.equipment u .tripped (.failed .trip) before (some l) (some .trip) .stopped]) ∧
      (reading = .running → (∀ l e, before ≠ .proving l e) → (∀ l, before ≠ .running l) →
        (t.part.unit u).state = before ∧ t.part.events = s.part.events ∧
        Reports s.part t.part [.equipment u .feedbackUnexpected before before before.lane (failureOf before) .running]) ∧
      (reading = .stopped → (∀ l, before ≠ .running l) →
        (t.part.unit u).state = before ∧ t.part.events = s.part.events ∧ t.part.link = s.part.link) ∧
      (∀ l, reading = .running → before = .running l →
        (t.part.unit u).state = before ∧ t.part.events = s.part.events ∧ t.part.link = s.part.link)

/-- LIMIT_READING_CHANGE (R151, R152, R154, R155) and TRAVEL_EXPIRY (R154, R156, R167). -/
def Obligations.ChannelsFollowTheirInputsAndTimes : Prop :=
  LimitReadingMovesTheChannel ∧ TravelExpiryFaultsTheChannel

/-- PROVE_EXPIRY and GUARD_END (R140, R143) and ARBITER_STOP_ASSERTED (R144). That the lane's record of a stopped unit is
cleared in the step of ARBITER_STOP_ASSERTED, and the order of the units, are the model's choices (log 13, 43). -/
def Obligations.UnitTimesEndAndStopGuardsUnits : Prop :=
  ProveAndGuardTimesEnd ∧ ArbiterStopGuardsRunningUnits ∧ ArbiterStopActsUnitByUnit

/-! ### The admission scan -/

/-- ADMISSION_SCAN whose head passes every test (R76, R77, R82): in AUTO, and in DIRECTED for class MANUAL, the wash is
admitted; in DIRECTED any other class is proposed, for the plant record's lifetime. With a proposal outstanding that the
head outranks, the proposal is withdrawn HIGHER first (R65). The head is its filter's one entry (`QueueInOrder`). That each
CALC report carries the flags after the whole event is the model's reading (log 20). -/
def Obligations.ScanAdmitsOrProposes : Prop :=
  ∀ (s : State) (e : Entry) (rec : FilterRecord) (r : Recipe), ScanReaches s e rec r → s.part.entry e.filter = some e →
    (s.part.sched.proposal = none → TestsPass s.part e rec r (ScanEnds s false)) ∧
    ∀ pr, RanksAboveProposal s.part e pr → TestsPass s.part e rec r (ScanEndsHigher s pr)

/-- ADMISSION_SCAN with no head whose EARLY rule raises an entry (R48): the ONLINE filter of the highest index, at or above
the threshold, with no transfer and no entry. The scan goes on with it: it is put to the tests, and admitted or proposed
where it passes them. CALC reports carry the flags after the whole event, the model's reading (log 20). -/
def Obligations.ScanRaisesAnEarlyEntry : Prop :=
  ∀ (s : State) (f : FilterId) (rec : FilterRecord) (r : Recipe), s.part.live = true →
    s.part.startUp.top = .operating → s.part.sched.scanDue = true → s.part.sched.mode ≠ .paused →
    s.part.sched.proposal = none → s.part.plant.early ≠ 0 → hasClass s.part.sched.mask .early = false →
    (∀ l, s.part.lane l = none) →
    (∀ e ∈ s.part.sched.queue, ¬ Eligible s.part e ∧ e.cls ≠ .early) →
    s.part.filter f = some rec → rec.state = .online → rec.transfer = none → s.part.entry f = none →
    s.part.plant.early ≤ rec.u →
    (∀ g x, s.part.filter g = some x → x.state = .online → x.transfer = none → s.part.entry g = none →
      x.u < rec.u ∨ (x.u = rec.u ∧ f ≤ g)) →
    s.part.recipe rec.cfg.slot = some r →
    let e : Entry := ⟨f, .early, .auto, rec.u, s.part.startUp.clock, none, none⟩
    let ends := fun xs bs b now => ScanEnds s false ([Piece.queue] ++ reporting ++ xs)
      ([.request .added f .early none .auto rec.u none] ++ bs) b now
    TestsEnd s.part e rec r (fun xs bs b now => ends xs bs b fun q => now q ∧ q.entry f = some e ∧
      ∀ g, g ≠ f → q.entry g = s.part.entry g) ∧
    TestsPass s.part e rec r fun xs bs b now => ends xs bs b fun q => now q ∧
      ∀ g, g ≠ f → q.entry g = s.part.entry g

/-- ADMISSION_SCAN that ends with a blocked reason, before the tests or at one of them (R65 to R75). CALC reports carry the
flags after the whole event, the model's reading (log 20). -/
def Obligations.ScansEndBlocked : Prop := ScanEndsBeforeTheTests ∧ ScanEndsAtTheFirstFailingTest
/-! ### Lanes -/

/-- What counts in a RUNNING lane: its seconds, and in a RIPEN phase the changes of the turbidity point (R111 to R114). -/
def Obligations.LaneSecondCounts : Prop := LaneSecondCountsASecond ∧ TurbidityChangesCount

/-- PHASE_TIME_END and RIPEN_CONFIRMED (R111, R112, R128, R17): a RIPEN phase that ends by time sets the ripen timeout. -/
def Obligations.PhaseEndsEnterTheNextPhaseOrReturn : Prop :=
  ∀ (s : State) (l : LaneId) (w : Wash) (rec : FilterRecord) (r : Recipe) (ph : Phase), WashesBy s.part l w rec r ph →
    w.state = .running →
    (Outstanding s (.phaseTimeEnd l) →
      ∃ t, exec (.phaseTimeEnd l) s = .next t ∧ t.pending = s.pending ∧
        PhaseEnded s.part t.part l w rec r (w.ripenTimeout || decide (ph.kind = .ripen))) ∧
    (Outstanding s (.ripenConfirmed l) →
      ∃ t, exec (.ripenConfirmed l) s = .next t ∧ t.pending = s.pending ∧
        PhaseEnded s.part t.part l w rec r w.ripenTimeout)

/-- Every row that can bring a first hold cause, but for the command HOLD (R115 to R117, R121, R123, R124): the notices to
the lane, phase entry, SET_PLANT. The CALC reports of SET_PLANT carry the flags after the whole event, the model's reading
(log 20). -/
def Obligations.HoldRowsEnterHeld : Prop := NoticesEnterHeld ∧ PhaseEntryEntersHeld ∧ PlantRecordEntersHeld
/-! ### Aborts, the end of a wash, the course of a phase -/

/-- The rows that abort a lane (R120, R125 to R127, R133): with a role to close, and with none. That a role in FAULT makes
the cause CHANNEL, and the order of the reports, are the model's (log 15, 22). -/
def Obligations.AbortRowsBeginAborts : Prop := AbortsBegin ∧ AbortsEndAtOnce

/-- LANE_ROLE_ARRIVAL that brings an aborting lane's last role to rest ends the abort (R126, R18). That a role in FAULT makes
the cause CHANNEL, and the order of the reports, are the model's (log 15, 22). -/
def Obligations.ArrivalEndsAnAbort : Prop :=
  ∀ (s : State) (l : LaneId) (role : Role) (w : Wash) (rec : FilterRecord) (cause : AbortCause),
    Outstanding s (.roleArrival l role) → AbortCanEnd s.part l w rec → w.state = .aborting cause →
    w.drifted.get role = false →
    ∃ t bs, exec (.laneRoleArrival l role) s = .next t ∧ t.pending = s.pending ∧ OnlyChanges washEnding s.part t.part ∧
      Reports s.part t.part bs ∧ AbortEnded s.part t.part l w rec cause bs

/-- LANE_ROLE_ARRIVAL that brings a returning lane's last role into place (R129, R17): the wash is done. The reports are
stated for STANDBY; a filter that goes ONLINE also has its loading computed and its urgency evaluated. -/
def Obligations.ArrivalEndsAReturn : Prop :=
  ∀ (s : State) (l : LaneId) (role : Role) (w : Wash) (rec : FilterRecord) (r : Recipe) (d : Destination),
    Outstanding s (.roleArrival l role) → s.part.startUp.top = .operating → s.part.lane l = some w →
    w.state = .returning d .openUp → w.drifted.get role = false → s.part.filter w.filter = some rec →
    rec.state = .washing l → s.part.recipe w.slot = some r → s.part.table.marker ≠ some w.filter →
    (∀ x, ∃ pos, w.targets.get x = some pos ∧ RestsAt s.part w.filter x pos) →
    let washed : FilterRecord := { rec with
      runMin := 0, runSec := 0, armedMin := 0, washes := min (rec.washes + 1) 65535, aborts := 0
      lastWashEnd := some s.part.startUp.clock }
    ∃ t, exec (.laneRoleArrival l role) s = .next t ∧ t.pending = s.pending ∧ OnlyChanges washEnding s.part t.part ∧
      LaneFreed s.part t.part l w.filter ∧
      (d = .online → t.part.filter w.filter = some { washed with state := .online } ∧
        .urgency w.filter ∈ t.part.events) ∧
      (d = .standby →
        t.part.filter w.filter = some { washed with state := .standby, u := 0, dominant := .turbidity } ∧
        Reports s.part t.part [.filterState w.filter (some .standby) (some (.washing l)) rec.transfer false,
          .washDone l w.filter .standby (min (s.part.startUp.clock - w.startedAt) 65535)
            ((rec.cfg.area * (r.phases.map fun x => waterFlow x * x.duration).sum + 35999) / 36000) w.holdCount
            w.ripenTimeout])

/-- LANE_GRANT, LANE_ROLE_ARRIVAL and LANE_UNIT_PROVEN carry a lane through its phase (R108 to R110): ACQUIRING until
every kind is held, the CLOSE step until every role it closes is CLOSED, the OPEN step until every role it opens is OPEN,
STARTING until every unit runs. -/
def Obligations.LaneMovesThroughItsPhase : Prop :=
  ∀ (s : State) (l : LaneId) (w : Wash) (rec : FilterRecord) (r : Recipe) (ph : Phase), WashesBy s.part l w rec r ph →
    (∀ u, Outstanding s (.grant l u) → (s.part.unit u).state.lane = some l → w.state = .acquiring →
      (¬ HasKinds (w.takeUnit u) ph →
        ∃ t, exec (.laneGrant l u) s = .next t ∧ t.pending = s.pending ∧ OnlyChanges [.lanes, .events] s.part t.part ∧
          OtherLaneKept s.part t.part l ∧ t.part.lane l = some (w.takeUnit u)) ∧
      (HasKinds (w.takeUnit u) ph →
        ∃ t, exec (.laneGrant l u) s = .next t ∧ t.pending = s.pending ∧ MovesOn s.part t.part l w)) ∧
    (∀ role, Outstanding s (.roleArrival l role) → w.drifted.get role = false →
      (w.state = .positioning .close → s.part.stopAsserted = false →
        (∀ x ∈ closedRoles ph.kind, RestsAt s.part w.filter x .closed) →
        ∃ t, exec (.laneRoleArrival l role) s = .next t ∧ t.pending = s.pending ∧ MovesOn s.part t.part l w) ∧
      (w.state = .positioning .openUp → (∀ x ∈ openRoles ph.kind, RestsAt s.part w.filter x .opened) →
        ∃ t, exec (.laneRoleArrival l role) s = .next t ∧ t.pending = s.pending ∧ MovesOn s.part t.part l w)) ∧
    (∀ u, Outstanding s (.proven l u) → w.state = .starting →
      (HasKinds w ph → (∀ v, w.holdsUnit v = true → (s.part.unit v).state = .running l) →
        ∃ t, exec (.laneUnitProven l u) s = .next t ∧ t.pending = s.pending ∧
          OnlyChanges [.lanes, .events] s.part t.part ∧ OtherLaneKept s.part t.part l ∧
          t.part.lane l = some { w with state := .running }) ∧
      ((∃ v, w.holdsUnit v = true ∧ (s.part.unit v).state ≠ .running l) →
        ∃ t, exec (.laneUnitProven l u) s = .next t ∧ t.pending = s.pending ∧ OnlyChanges [.events] s.part t.part))

/-- LANE_PROVE_FAILED of a lane that is not HELD, while another unit of the kind is usable (R110): the lane asks for the
kind again. LANE_UNIT_TRIPPED while each kind the phase needs is usable, and no other cause's condition holds (R124): a hold
of EQUIPMENT that clears as it joins. It is reported and counted, every unit is given up, and the phase is entered anew at
its place, each kind it needs asked for again. That a grant comes as a notice is the model's reading (log 12). -/
def Obligations.LostUnitsAreAskedForAgain : Prop :=
  ∀ (s : State) (l : LaneId) (w : Wash) (u : UnitId), s.part.lane l = some w → w.holdsUnit u = true →
    w.state.holdable = true → w.state.isHeld = false →
    (Outstanding s (.proveFailed l u) → s.part.kindUsable (unitKind u) = true →
      ∃ t, exec (.laneProveFailed l u) s = .next t ∧ t.pending = s.pending ∧
        OnlyChanges ([Piece.lanes] ++ handing) s.part t.part ∧ OtherLaneKept s.part t.part l ∧
        t.part.lane l = some { w.dropUnit u with state := .acquiring } ∧ AskedFor t.part l u) ∧
    ∀ rec r ph, WashesBy s.part l w rec r ph → Outstanding s (.tripped l u) → w.holds = HoldSet.empty →
      (∀ c, ¬ CauseHolds s.part ph c) →
      ((u = .p1 ∨ u = .p2) ∧ (ph.kind = .airWater ∨ ph.kind = .water)) ∨
        (u = .bl ∧ (ph.kind = .air ∨ ph.kind = .airWater)) →
      let count := min (w.holdCount + 1) 255
      ∃ t, exec (.laneUnitTripped l u) s = .next t ∧ t.pending = s.pending ∧ OnlyChanges laneWork s.part t.part ∧
        OtherLaneKept s.part t.part l ∧
        (∃ w', t.part.lane l = some w' ∧ SamePhase w w' ∧ w'.state = .acquiring ∧ w'.holds = HoldSet.empty ∧
          w'.holdCount = count ∧ w'.confirm = 0 ∧ w'.pump = none ∧ w'.blower = false ∧
          w'.targets.get .air = some .closed ∧ w'.targets.get .bww = some .closed) ∧
        ((ph.kind = .airWater ∨ ph.kind = .water) → AskedFor t.part l .p1) ∧
        ((ph.kind = .air ∨ ph.kind = .airWater) → AskedFor t.part l .bl) ∧
        Reports s.part t.part
          (heldReports s.part l w HoldSet.empty true [.equipment] ++
            [.laneResumed l w.filter w.phase w.elapsed 0 count])

/-- The rows that take the last cause from a HELD lane, but for the command RESUME (R115, R116, R118, R119, R122, R123).
The CALC reports of SET_PLANT carry the flags after the whole event, the model's reading (log 20). -/
def Obligations.ClearedCausesResumeTheLane : Prop := NoticesResumeTheLane ∧ PlantRecordResumesTheLane

/-- HOLD and RESUME (R131, R132), and what HOLD, RESUME and ABORT refuse (R130 to R133). -/
def Obligations.HostHoldsAndResumesLanes : Prop :=
  HoldAndResumeMoveTheLane ∧ LaneCommandsCheckTheLane

/-! ### Transfers and filter faults -/

/-- TRANSFER_CHANNEL_FAULT and FILTER_CHANNEL_FAULT, by the filter's state when the fault is taken (R3, R13; log 17): a
running transfer ends and the filter is FAULTED VALVE; a filter with none, ONLINE, STANDBY or STRANDED, is FAULTED VALVE
and loses its entry; a lane washing it is told; OUT_OF_SERVICE, FAULTED and UNDEFINED keep their state. -/
def Obligations.ChannelFaultsFaultTheFilter : Prop :=
  ∀ (s : State) (f : FilterId) (role : Role) (row : Instr), s.part.startUp.top = .operating →
    ((Outstanding s (.transferFault f role) ∧ row = .transferChannelFault f role) ∨
      (Outstanding s (.filterFault f role) ∧ row = .filterChannelFault f role)) →
    (∀ rec, s.part.filter f = some rec → (rec.state = .online ∨ rec.state = .standby ∨ rec.state = .stranded) →
      let now := fun sub => ReportBody.filterState f (some (.faulted .valve)) (some rec.state) none sub
      (rec.transfer ≠ none →
        ∃ t bs, exec row s = .next t ∧ t.pending = s.pending ∧
          OnlyChanges ([Piece.filters, .marker, .flags, .overload, .scanDue, .events] ++ reporting) s.part t.part ∧
          OtherFiltersKept s.part t.part f ∧ t.part.table.marker = markerWithout s.part f ∧
          t.part.filter f = some (offIndex { rec with state := .faulted .valve, transfer := none }) ∧
          Reports s.part t.part (now (s.part.table.marker == some f) :: bs) ∧ (rec.state ≠ .online → bs = [])) ∧
      (rec.transfer = none →
        ∃ t bs, exec row s = .next t ∧ t.pending = s.pending ∧
          OnlyChanges ([Piece.filters, .queue, .proposal, .flags, .overload, .scanDue, .events] ++ reporting)
            s.part t.part ∧
          OtherFiltersKept s.part t.part f ∧ EntryGone s.part t.part f ∧
          t.part.filter f = some (offIndex { rec with state := .faulted .valve }) ∧
          Reports s.part t.part
            (removalReports s.part f .faulted ++ now (s.part.table.marker == some f) :: bs) ∧
          (rec.state ≠ .online → bs = []))) ∧
    (∀ rec l, s.part.filter f = some rec → rec.state = .washing l →
      ∃ t, exec row s = .next t ∧ t.pending = s.pending ∧ OnlyChanges [.events] s.part t.part ∧
        .roleFault l role ∈ t.part.events) ∧
    ((s.part.filter f = none ∨ ∃ rec, s.part.filter f = some rec ∧ (rec.state = .outOfService ∨ ∃ c, rec.state = .faulted c)) →
      OnlyTaken row s)

/-! ### Start-up -/

/-- SURVEY_END (R187, R158): every mapped channel takes its state from its readings, every defined filter its state from its
channels, run time set afresh; OPERATING begins, READY is called for, and the reports end with SURVEY_DONE and what the
first loading computation reports. -/
def Obligations.SurveyEndSetsTheFilterStates : Prop :=
  ∀ (s : State), s.part.live = true → s.part.startUp.top = .surveying →
    ∃ t bs cs, exec .surveyEnd s = .next t ∧ t.pending = s.pending ∧
      OnlyChanges ([Piece.top, .survey, .readyCall, .silence, .filters, .channels, .selection, .capture, .flags, .overload,
        .scanDue, .events] ++ reporting) s.part t.part ∧
      t.part.startUp.top = .operating ∧ t.part.startUp.survey = none ∧ t.part.startUp.readyCall = true ∧
      t.part.sched.scanDue = true ∧ t.part.sched.overload = overloadAt s.part (currentLoading t.part) ∧
      t.part.startUp.silence = (if s.part.plant.silenceInterval = 0 then s.part.startUp.silence
        else some (min (s.part.startUp.clock + s.part.plant.silenceInterval) 4294967295)) ∧
      (∀ ch, (s.part.channel ch).mappedTo = none → t.part.channel ch = s.part.channel ch) ∧
      (∀ ch, (s.part.channel ch).mappedTo ≠ none →
        let c := s.part.channel ch
        let both := ReadsActive c.sense c.openInput ∧ ReadsActive c.sense c.closedInput
        ∃ x, t.part.channel ch = { c with state := x, target := none } ∧ (c.state.isFault = true → x = c.state) ∧
          (c.state.isFault = false → both → x = .fault .switch) ∧
          (c.state.isFault = false → ¬ both → StateByReadings c x)) ∧
      (∀ f, s.part.filter f = none → t.part.filter f = none) ∧
      (∀ f r, s.part.filter f = some r →
        ∃ x, surveyedState t.part f x ∧
          t.part.filter f = some
            (let r' := { r with state := x, runMin := r.cfg.initRun, runSec := 0, armedMin := 240 }
             if x = .online then r' else offIndex r') ∧
          (x = .online → .urgency f ∈ t.part.events)) ∧
      Reports s.part t.part (bs ++ [.surveyDone (filtersIn t.part .online) (filtersIn t.part .standby)
        (filtersIn t.part (.faulted .survey))
        (((List.finRange 112).filter fun ch =>
          (t.part.channel ch).mappedTo.isSome && (t.part.channel ch).state.isFault).length) s.part.stopAsserted] ++ cs)

/-- SILENCE_EXPIRY (R190): silent, the mode by the silence action, a proposal withdrawn when the mode changes, SILENCE
reported. -/
def Obligations.SilenceExpiryActsOnTheMode : Prop :=
  ∀ (s : State), Outstanding s .silenceExpiry → s.part.startUp.top = .operating →
    let before := s.part.sched.mode
    let after := modeAfterSilence s.part.plant.silenceAction before
    ∃ t, exec .silenceExpiry s = .next t ∧ t.pending = s.pending ∧
      OnlyChanges ([Piece.silence, .silent, .mode, .proposal, .scanDue, .events] ++ reporting) s.part t.part ∧
      t.part.startUp.silence = none ∧ t.part.startUp.silent = true ∧ t.part.sched.mode = after ∧
      (after = before → t.part.sched.proposal = s.part.sched.proposal ∧ t.part.sched.scanDue = s.part.sched.scanDue) ∧
      (after ≠ before → t.part.sched.proposal = none ∧ t.part.sched.scanDue = true) ∧
      Reports s.part t.part (modeReports s.part after ++ [.silence s.part.plant.silenceInterval
        s.part.plant.silenceAction before after s.part.startUp.lastAccepted])

/-- TRANSFER_ROLE_ARRIVAL, TRANSFER_ROLE_DRIFT and TRANSFER_STOP_RELEASED (R11, R12). -/
def Obligations.TransfersRunTheirSteps : Prop :=
  TransferArrivalPassesTheStepOrCompletes ∧ TransferCommandsAgain

/-! ### The link -/

/-- RECEIVE_CHARACTER, CHARACTER_ERROR and RECEIVE_GAP_TIMEOUT (R172, R173): SOF begins a frame; a bad header is examined
anew from its first SOF on; a frame cut short counts one link error; one whole frame with a wrong CRC counts one; with the
right CRC it arrives as its row would bring it, and one that carries no command is refused with the code its kind and length
give. -/
def Obligations.CharactersMakeFrames : Prop :=
  ∀ (s : State), s.part.live = true →
    (s.part.link.rx = .hunting →
      OnlyReceives (.receiveCharacter 0xC3) s (.assembling []) ∧
      (∀ c, c ≠ 0xC3 → OnlyReceives (.receiveCharacter c) s .hunting) ∧
      OnlyReceives .characterError s .hunting ∧ OnlyReceives .receiveGapTimeout s .hunting) ∧
    (∀ got, s.part.link.rx = .assembling got →
      FailsReceiving .characterError s .hunting ∧ FailsReceiving .receiveGapTimeout s .hunting ∧
      ∀ c,
        (got.length < 3 → OnlyReceives (.receiveCharacter c) s (.assembling (got ++ [c]))) ∧
        (got.length = 3 → ¬ BadHeader (got ++ [c]) → OnlyReceives (.receiveCharacter c) s (.assembling (got ++ [c]))) ∧
        (BadHeader (got ++ [c]) →
          (sof ∉ got ++ [c] → FailsReceiving (.receiveCharacter c) s .hunting) ∧
          ∀ front back, got ++ [c] = front ++ sof :: back → sof ∉ front →
            FailsReceiving (.receiveCharacter c) s (.assembling back)) ∧
        (∀ kind tag len rest, got = kind :: tag :: len :: rest → 1 ≤ rest.length →
          (got.length + 1 < len.toNat + 6 → OnlyReceives (.receiveCharacter c) s (.assembling (got ++ [c]))) ∧
          (got.length + 1 = len.toNat + 6 → crcGood (got ++ [c]) = false →
            FailsReceiving (.receiveCharacter c) s .hunting)) ∧
        ∀ f, WholeFrame (got ++ [c]) f →
          (∀ row, row.frame = some f →
            exec (.receiveCharacter c) s =
              exec row { s with part := { s.part with link := { s.part.link with rx := .hunting } } }) ∧
          (∀ r, f.command = .error r → CanHandle s →
            ∃ t, exec (.receiveCharacter c) s = .next t ∧ t.pending = s.pending ∧
              OnlyChanges ([Piece.rx, .silence, .lastAccepted, .events] ++ replying) s.part t.part ∧
              t.part.link.rx = .hunting ∧ SilenceRestarted s.part t.part ∧
              Replied t.part ⟨replyKind f.kind, f.tag, r, .none⟩))

/-- TRANSMIT_FRAME_END (R179, R185, log 26): the transmitter is free and begins the waiting reply, else the oldest report;
a freed reply buffer lets the oldest frame of the receive queue be taken; after the reply of an accepted SOFT_RESET nothing
more is begun. -/
def Obligations.TransmitterSendsRepliesFirst : Prop :=
  ∀ (s : State), s.part.live = true → (s.part.link.sending = none → exec .transmitFrameEnd s = .next s) ∧
    ∀ m, s.part.link.sending = some m →
    let k := s.part.link
    (k.softReset = .waiting → (∃ tag, m = .reply ⟨0x85, tag, .ok, .none⟩) →
      ∃ t, exec .transmitFrameEnd s = .next t ∧ t.pending = s.pending ∧
        OnlyChanges [.sending, .softReset] s.part t.part ∧ t.part.link.sending = none ∧ t.part.link.softReset = .sent) ∧
    ((k.softReset = .none ∧ k.queue = []) ∨
        (k.softReset = .waiting ∧ ∀ tag fields, m ≠ .reply ⟨0x85, tag, .ok, fields⟩) →
        ∃ t, exec .transmitFrameEnd s = .next t ∧ t.pending = s.pending ∧
          OnlyChanges [.sending, .reply, .reports] s.part t.part ∧ t.part.link.reply = none ∧
          (∀ r, k.reply = some r → t.part.link.sending = some (.reply r) ∧ t.part.link.reports = k.reports) ∧
          (k.reply = none → ∀ r rest, k.reports = r :: rest →
            t.part.link.sending = some (.report r) ∧ t.part.link.reports = rest) ∧
          (k.reply = none → k.reports = [] → t.part.link.sending = none ∧ t.part.link.reports = [])) ∧
    (k.softReset = .none → ∀ r f rest, k.reply = some r → k.queue = f :: rest →
        let freed : Part := { s.part with link := { k with sending := some (.reply r), reply := none, queue := rest } }
        (∀ res, f.command = .error res →
          ∃ t, exec .transmitFrameEnd s = .next t ∧ t.pending = s.pending ∧
            OnlyChanges [.reply] freed t.part ∧
            t.part.link.reply = some ⟨replyKind f.kind, f.tag, res, .none⟩) ∧
        (∀ c, f.command = .ok c →
          ∃ t, exec .transmitFrameEnd s = .next t ∧ t.pending = s.pending ∧ t.part = freed.handle f.tag c))

/-! ### Reading commands -/

/-- The reading commands answer within their ranges and refuse outside them. -/
def Obligations.ReadingCommandsReadAndChangeNothing : Prop :=
  ReadingCommandsAnswer ∧ ReadingCommandsCheckTheirRanges

/-- GET_STATUS clears REPORT_LOSS (R181), GET_LINK_ERRORS the count and the flag (R174), FILTERS_FIRST and FILTERS_NEXT move
the cursor (R19), and SOFT_RESET accepted lets no further frame be taken (R185). -/
def Obligations.ReadingCommandsThatMoveTheLink : Prop :=
  ∀ (s : State) (tag : Byte), CanHandle s →
    let p := s.part
    (∃ t, exec (.getStatus tag) s = .next t ∧ t.pending = s.pending ∧
      OnlyChanges ([Piece.reportLoss] ++ replying) p.frameAccepted t.part ∧
      RepliesOn { p.link with reportLoss := false } t.part
        ⟨replyKind 0x02, tag, .ok, .status
          { top := p.startUp.top, mode := p.sched.mode, stopAsserted := p.stopAsserted, ready := p.ready
            silent := p.startUp.silent, flags := p.sched.flags, reportLoss := p.link.reportLoss
            blocked := p.sched.blocked, proposal := p.sched.proposal
            reservedWater := p.sched.shares.a.water + p.sched.shares.b.water
            reservedWaste := p.sched.shares.a.waste + p.sched.shares.b.waste
            reports := p.link.reports.length, clock := p.startUp.clock }⟩) ∧
    (∃ t, exec (.getLinkErrors tag) s = .next t ∧ t.pending = s.pending ∧
      OnlyChanges ([Piece.errors, .overflow] ++ replying) p.frameAccepted t.part ∧
      RepliesOn { p.link with errors := 0, overflow := false } t.part
        ⟨replyKind 0x04, tag, .ok, .linkErrors p.link.errors p.link.overflow⟩) ∧
    (p.startUp.top ≠ .surveying →
      (∃ t, exec (.softReset tag) s = .next t ∧ t.pending = s.pending ∧
        OnlyChanges ([Piece.softReset] ++ replying) p.frameAccepted t.part ∧
        RepliesOn { p.link with softReset := .waiting } t.part ⟨replyKind 0x05, tag, .ok, .none⟩) ∧
      (∀ b f, filterOf b = some f → Chunked s (.filtersFirst tag b) tag (.filtersFirst b) (f.val + 1)) ∧
      (∀ n, p.link.cursor = some n → Chunked s (.filtersNext tag) tag .filtersNext n) ∧
      (p.link.cursor = none → Refused s (.filtersNext tag) .state))

/-- A frame's arrival and its acceptance (R175, R176, R189). That a frame accepted with the command slot free is answered in
the same step is the model's choice (log 2). -/
def Obligations.FramesArriveAtTheLink : Prop :=
  AcceptanceRestartsTheSilenceTimer ∧ FramesAreAcceptedQueuedOrOverrun

/-- R176, R183: what SURVEYING and CONFIGURING refuse. -/
def Obligations.TopStatesRefuseCommands : Prop :=
  SurveyingRefusesBusy ∧ ConfiguringRefusesNotConfigured

/-! ### Commissioning, mode and flags -/

/-- COMMISSION (R186, Table 10-3): BUSY in SURVEYING, STATE in OPERATING; in CONFIGURING the first missing item answers
NOT_CONFIGURED, and with none missing the survey begins, the debounce time and 1000 ms long. -/
def Obligations.CommissionStartsTheSurvey : Prop :=
  ∀ (s : State) (tag : Byte), CanHandle s →
    let p := s.part
    let refuses := fun item f r => Reads s (.commission tag) .notConfigured (.missing item f r)
    (p.startUp.top = .surveying → Refused s (.commission tag) .busy) ∧
    (p.startUp.top = .operating → Refused s (.commission tag) .state) ∧
    (p.startUp.top = .configuring →
      (p.plantReceived = false → refuses .plant none none) ∧
      (p.plantReceived = true → p.front.flow.source = .none → refuses .flowSource none none) ∧
      (p.plantReceived = true → p.front.flow.source ≠ .none → p.front.tank.source = .none →
        refuses .tankSource none none) ∧
      (p.plantReceived = true → p.front.flow.source ≠ .none → p.front.tank.source ≠ .none →
        p.front.basin.source = .none → refuses .basinSource none none) ∧
      (p.plantReceived = true → p.front.flow.source ≠ .none → p.front.tank.source ≠ .none →
        p.front.basin.source ≠ .none → (∀ f, p.filter f = none) → refuses .filter none none) ∧
      (PlantComplete p → ∀ f rec, p.filter f = some rec → FilterLacks p f → (∀ g, g < f → ¬ FilterLacks p g) →
        let unmapped := fun r => p.mapped f r = none
        let locked := fun r => ∃ ch, p.mapped f r = some ch ∧ (p.channel ch).locked = true
        (∀ r, FirstRole unmapped r → refuses .roleUnmapped (some f) (some r)) ∧
        ((∀ r, ¬ unmapped r) → ∀ r, FirstRole locked r → refuses .channelLocked (some f) (some r)) ∧
        ((∀ r, ¬ unmapped r) → (∀ r, ¬ locked r) → refuses .recipe (some f) none)) ∧
      (PlantComplete p → (∀ f, ¬ FilterLacks p f) →
        Done s (.commission tag) [.top, .survey] [] .ok .none fun q =>
          q.startUp.top = .surveying ∧ q.startUp.survey = some (p.plant.debounce + 1000)))

/-- SET_MODE (R60, R61), SET_MASK (R51), CLEAR_SILENCE (R191), CLEAR_CALC (R87) and GET_LOADING (R81, R71, R79, R88), and
what each refuses in SURVEYING and CONFIGURING. That each CALC report of GET_LOADING carries the flags after the whole event
is the model's reading (log 20). -/
def Obligations.ModeMaskAndFlagCommands : Prop :=
  ∀ (s : State) (tag b : Byte), CanHandle s →
    let p := s.part
    (p.startUp.top = .surveying →
      Refused s (.clearSilence tag) .busy ∧ Refused s (.clearCalc tag) .busy ∧ Refused s (.setMode tag b) .busy ∧
      Refused s (.setMask tag b) .busy ∧ Refused s (.getLoading tag) .busy) ∧
    (p.startUp.top = .configuring →
      Refused s (.setMode tag b) .notConfigured ∧ Refused s (.setMask tag b) .notConfigured ∧
      Refused s (.getLoading tag) .notConfigured) ∧
    (p.startUp.top ≠ .surveying →
      Done s (.clearSilence tag) [.silent] [] .ok .none (fun q => q.startUp.silent = false) ∧
      Done s (.clearCalc tag) [.flags] [] .ok .none (fun q => q.sched.flags = ⟨false, false, false, false⟩)) ∧
    (p.startUp.top = .operating →
      (modeOf b = none → Refused s (.setMode tag b) .range) ∧
      (∀ m, modeOf b = some m → m = p.sched.mode → Reads s (.setMode tag b) .ok .none) ∧
      (∀ m, modeOf b = some m → m ≠ p.sched.mode →
        Done s (.setMode tag b) [.mode, .proposal, .scanDue, .events] (modeReports p m) .ok .none fun q =>
          q.sched.mode = m ∧ q.sched.proposal = none ∧ q.sched.scanDue = true) ∧
      (64 ≤ b.toNat → Refused s (.setMask tag b) .range) ∧
      (b.toNat < 64 → b.setWidth 6 = p.sched.mask → Reads s (.setMask tag b) .ok .none) ∧
      (b.toNat < 64 → b.setWidth 6 ≠ p.sched.mask →
        let held := p.sched.proposal.filter fun pr => (p.entry pr.filter).any fun e => b.getLsbD e.cls.rank
        Done s (.setMask tag b) [.mask, .proposal, .scanDue, .events]
          (held.toList.map fun pr => .proposalWithdrawn pr.filter .mask none) .ok .none fun q =>
            q.sched.mask = b.setWidth 6 ∧ q.sched.scanDue = true ∧
            q.sched.proposal = if held.isSome then none else p.sched.proposal) ∧
      Done s (.getLoading tag) [.flags, .overload, .events]
        (calcReports p (loadingFlags p p.serviceArea) (.loading none)) .ok
        (.loading
          { flow := p.flowUsed.1, isDesign := p.front.flow.usableValue.isNone, area := p.serviceArea
            online := filtersIn p .online, loading := currentLoading p, vmax := p.plant.vmax
            overload := overloadAt p (currentLoading p), marker := p.table.marker }) fun q =>
          q.sched.flags = flagsWith p (loadingFlags p p.serviceArea) ∧
          q.sched.overload = overloadAt p (currentLoading p))

/-! ### The plant record -/

/-- SET_PLANT (R62, R63, R32, R33): a field out of range is refused RANGE, a concurrency limit below the lanes at work
BUSY in OPERATING; otherwise the whole record is written, the volumes are derived anew, and in OPERATING the overload timer
follows, the silence timer too, and a scan is triggered. With both lanes IDLE and the run-feedback polarity unchanged no
lane, unit or valve changes. CALC reports carry the flags after the whole event, the model's reading (log 20). -/
def Obligations.SetPlantReplacesTheRecord : Prop :=
  ∀ (s : State) (tag : Byte) (r : RawPlant), CanHandle s → s.part.startUp.top ≠ .surveying →
    let p := s.part
    let pw : Part := { p with plant := plantWritten r }
    let busy := p.startUp.top = .operating ∧ r.concurrency.toNat < p.busyLanes.length
    (¬ PlantInRange r → Refused s (.setPlant tag r) .range) ∧
    (PlantInRange r → busy → Refused s (.setPlant tag r) .busy) ∧
    (PlantInRange r → ¬ busy →
      ∃ bs, Done s (.setPlant tag r) replanning bs .ok .none fun q =>
        q.plant = plantWritten r ∧ q.plantReceived = true ∧
        (∀ v, p.front.tank.usableValue = some v →
          q.front.tankAvail = some ((v - r.tankMin.toNat) * r.tankArea.toNat / 1000)) ∧
        (p.front.tank.usableValue = none → q.front.tankAvail = none) ∧
        (∀ v, p.front.basin.usableValue = some v →
          q.front.basinRoom = some ((r.basinMax.toNat - v) * r.basinArea.toNat / 1000)) ∧
        (p.front.basin.usableValue = none → q.front.basinRoom = none) ∧
        (p.startUp.top = .operating → q.sched.scanDue = true ∧
          q.sched.overload = overloadAt pw (currentLoading pw) ∧
          q.startUp.silence = if r.silenceInterval.toNat = 0 then none
            else some (min (p.startUp.clock + r.silenceInterval.toNat) 4294967295)) ∧
        ((∀ l, p.lane l = none) → pw.plant.polarity = p.plant.polarity →
          q.lanes = p.lanes ∧ q.arb = p.arb ∧ q.valves = p.valves ∧
          bs = if p.startUp.top = .operating then calcReports pw (loadingFlags pw p.serviceArea) (.loading none) else []))

/-! ### Points -/

/-- SET_POINT (R22, R23): its checks, and the point started afresh with the source, its readers told of a change. -/
def Obligations.SetPointStartsThePointAfresh : Prop :=
  ∀ (s : State) (tag : Byte) (point source input : Byte) (lo hi : Half), CanHandle s → s.part.startUp.top ≠ .surveying →
    let p := s.part
    let row := Instr.setPoint tag point source input lo hi
    (¬ (1 ≤ point.toNat ∧ point.toNat ≤ 35) → Refused s row .range) ∧
    ∀ id, pointIndex id = point.toNat →
      ((∀ src, ¬ SourceNamed id source input lo hi src) → Refused s row .range) ∧
      ∀ src, SourceNamed id source input lo hi src →
        let free := ∀ i lo hi, src = .analog i lo hi → ∀ other, other ≠ id → ¬ HasInput p other i
        let strips := p.startUp.top = .operating ∧ src = .none ∧ (id = .flow ∨ id = .tank ∨ id = .basin)
        let x : Point := ⟨src, [], none, .none, none⟩
        (∀ i lo hi other, src = .analog i lo hi → HasInput p other i → ¬ HasInput p id i → Refused s row .inUse) ∧
        (strips → Refused s row .state) ∧
        (free → ¬ strips →
          Done s row [.points, .volumes, .events] (pointReports p id x) .ok .none fun q =>
            q.point id = x ∧ (∀ other, other ≠ id → q.point other = p.point other) ∧
            (¬ ((p.point id).quality = .none ∧ (p.point id).value = none) → ReadersTold p q.events id) ∧
            (id = .tank → TankFollows p q x) ∧ (id ≠ .tank → q.front.tankAvail = p.front.tankAvail) ∧
            (id = .basin → BasinFollows p q x) ∧ (id ≠ .basin → q.front.basinRoom = p.front.basinRoom))

/-- PUT_MEASURE (R28, R29): 1 to 16 pairs, each naming a different point with a pushed source; every value is taken,
clamped to its point's range, and the readers of a point that changes are told. -/
def Obligations.PutMeasurePushesEveryPair : Prop :=
  ∀ (s : State) (tag : Byte) (pairs : List (Byte × Half)), CanHandle s → s.part.startUp.top ≠ .surveying →
    let p := s.part
    let row := Instr.putMeasure tag pairs
    (pairs.length < 256 → ¬ (1 ≤ pairs.length ∧ pairs.length ≤ 16) → Refused s row .length) ∧
    (1 ≤ pairs.length → pairs.length ≤ 16 → (∀ ids, ¬ PairsName pairs ids) → Refused s row .range) ∧
    (1 ≤ pairs.length → pairs.length ≤ 16 → ∀ ids, PairsName pairs ids →
      ((∃ id ∈ ids, (p.point id).source ≠ .pushed) → Refused s row .state) ∧
      ((∀ id ∈ ids, (p.point id).source = .pushed) →
        let told := (ids.zip (pairs.map Prod.snd)).flatMap fun x =>
          pointReports p x.1 (pushedPoint x.1 (p.point x.1) x.2.toNat p.startUp.clock)
        Done s row [.points, .volumes, .events] told .ok .none fun q =>
          (∀ (i : Nat) (id : PointId) (v : Half), ids[i]? = some id → (pairs[i]?).map Prod.snd = some v →
            let x := pushedPoint id (p.point id) v.toNat p.startUp.clock
            q.point id = x ∧
            (¬ (x.quality = (p.point id).quality ∧ x.value = (p.point id).value) → ReadersTold p q.events id) ∧
            (id = .tank → TankFollows p q x) ∧ (id = .basin → BasinFollows p q x)) ∧
          (.tank ∉ ids → q.front.tankAvail = p.front.tankAvail) ∧
          (.basin ∉ ids → q.front.basinRoom = p.front.basinRoom) ∧
          ∀ id, id ∉ ids → q.point id = p.point id))

/-! ### The filter table -/

/-- SET_FILTER, define (R1) and undefine (R2). Whole minutes among the run seconds are counted before the configuration
is replaced, the model's reading (log 18). -/
def Obligations.SetFilterDefinesAndUndefines : Prop :=
  ∀ (s : State) (tag b : Byte) (c : RawFilter), CanHandle s → s.part.startUp.top ≠ .surveying →
    let p := s.part
    let defines := Instr.setFilterDefine tag b c
    let undefines := Instr.setFilterUndefine tag b
    (filterOf b = none → Refused s defines .range ∧ Refused s undefines .range) ∧
    ∀ f, filterOf b = some f →
      let closedTo := p.startUp.top = .operating ∧ ∃ rec, p.filter f = some rec ∧ rec.state ≠ .outOfService
      (closedTo → Refused s defines .state) ∧
      (¬ closedTo → (∀ slot d, ¬ FilterFields p c slot d) → Refused s defines .range) ∧
      (¬ closedTo → ∀ slot d, FilterFields p c slot d →
        let cfg := configWritten c slot d
        (p.filter f = none →
          Done s defines [.filters] [.filterState f (some .outOfService) none none (p.table.marker == some f)] .ok .none
            fun q => q.filter f = some (newRecord cfg) ∧ OtherFiltersKept p q f) ∧
        (∀ rec, p.filter f = some rec →
          Done s defines [.filters] [] .ok .none fun q =>
            q.filter f = some { rec with
                cfg := cfg, runMin := cfg.initRun, runSec := rec.runSec % 60
                armedMin := min (rec.armedMin + rec.runSec / 60) 240 } ∧
              OtherFiltersKept p q f)) ∧
      (p.filter f = none → Reads s undefines .ok .none) ∧
      ∀ rec, p.filter f = some rec →
        (rec.state ≠ .outOfService → Refused s undefines .state) ∧
        (rec.state = .outOfService →
          Done s undefines [.filters, .selection]
            [.filterState f none (some .outOfService) none (p.table.marker == some f)] .ok .none fun q =>
              q.filter f = none ∧ OtherFiltersKept p q f ∧
              ((∃ ch r, p.valves.selection = some ch ∧ (p.channel ch).mappedTo = some (f, r)) →
                q.valves.selection = none))

/-- TO_STANDBY (R9) and TO_SERVICE (R10) of a filter with no transfer running: the checks, the loading test of TO_STANDBY
with the flags it sets and the CALC reports they queue, and the transfer's course from its start: STOP asserted, waiting
in any step, failing at a command to a channel in FAULT, or complete at once. CALC reports carry the flags after the whole
event, the model's reading (log 20). -/
def Obligations.TransfersStart : Prop :=
  ∀ (s : State) (tag b : Byte) (f : FilterId) (rec : FilterRecord), CanHandle s → s.part.startUp.top = .operating →
    filterOf b = some f → s.part.filter f = some rec → rec.transfer = none →
    let p := s.part
    let met := loadingFlags p (p.serviceArea - rec.cfg.area)
    let told := calcReports p met (.loading (some f))
    (rec.state ≠ .online ∨ p.entry f ≠ none → Refused s (.toStandby tag b) .state) ∧
    (rec.state = .online → p.entry f = none → p.plant.vmax < loadingWithout p rec.cfg.area →
      Done s (.toStandby tag b) [.flags] told .loading .none fun q => q.sched.flags = flagsWith p met) ∧
    (rec.state = .online → p.entry f = none → loadingWithout p rec.cfg.area ≤ p.plant.vmax →
      TransferBegins p f rec .toStandby p.table.marker fun xs bs now =>
        Done s (.toStandby tag b) ([.flags] ++ xs) (told ++ bs) .ok .none fun q =>
          now q ∧ (.overload ∉ xs → q.sched.flags = flagsWith p met)) ∧
    (rec.state ≠ .standby ∨ p.entry f ≠ none → Refused s (.toService tag b) .state) ∧
    (rec.state = .standby → p.entry f = none →
      TransferBegins p f rec .toService p.table.marker fun xs bs now =>
        Done s (.toService tag b) xs bs .ok .none now)

/-- The checks shared by the commands on one filter (R5, R52), and TAKE_OUT, PUT_IN and CLEAR_FAULT (R6 to R8). -/
def Obligations.FilterCommandsMoveTheFilter : Prop :=
  FilterCommandsCheckTheFilterFirst ∧ FiltersLeaveAndJoinTheRotation

/-! ### The queue by command -/

/-- REQUEST_WASH (R53, Table 3-6), CANCEL_REQUEST (R54) and DEFER (R50) on a filter with no transfer running. -/
def Obligations.EntriesFollowTheHost : Prop :=
  ∀ (s : State) (tag b o : Byte) (m : Half) (f : FilterId) (rec : FilterRecord), CanHandle s →
    s.part.startUp.top = .operating → filterOf b = some f → s.part.filter f = some rec → rec.transfer = none →
    let p := s.part
    let asks := Instr.requestWash tag b o
    ((∀ x, ¬ OverrideNamed p o x) → Refused s asks .range) ∧
    (∀ x, OverrideNamed p o x →
      (p.entry f = none → rec.state = .online ∨ rec.state = .standby →
        Done s asks [.queue, .scanDue] [.request .added f .manual none .host rec.u none] .ok .none fun q =>
          q.entry f = some ⟨f, .manual, .host, rec.u, p.startUp.clock, x, none⟩ ∧ QueueChanged p q f) ∧
      (p.entry f = none → rec.state ≠ .online → rec.state ≠ .standby → Refused s asks .state) ∧
      ∀ e, p.entry f = some e →
        let upgrades := rec.state = .online ∧ (e.cls = .terminal ∨ e.cls = .routine ∨ e.cls = .early)
        (¬ upgrades → Refused s asks .state) ∧
        (upgrades → ∀ withdrawn, (ProposalFor p f → withdrawn = [.proposalWithdrawn f .manual none]) →
          (¬ ProposalFor p f → withdrawn = []) →
          Done s asks [.queue, .proposal, .scanDue, .events]
            (.request .upgraded f .manual (some e.cls) .host e.u none :: withdrawn) .ok .none fun q =>
              q.entry f = some { e with cls := .manual, source := .host, override := x, deferUntil := none } ∧
              QueueChanged p q f ∧ (ProposalFor p f → q.sched.proposal = none) ∧
              (¬ ProposalFor p f → q.sched.proposal = p.sched.proposal))) ∧
    (p.entry f = none → Refused s (.cancelRequest tag b) .state) ∧
    (∀ e, p.entry f = some e →
      (e.cls ≠ .manual → e.cls ≠ .early → Refused s (.cancelRequest tag b) .state) ∧
      (e.cls = .manual ∨ e.cls = .early →
        Done s (.cancelRequest tag b) [.queue, .proposal, .scanDue, .events] (removalReports p f .cancelled) .ok .none
          fun q => EntryGone p q f ∧ q.sched.scanDue = true)) ∧
    (1440 < m.toNat → Refused s (.defer tag b m) .range) ∧
    (m.toNat ≤ 1440 → p.entry f = none → Refused s (.defer tag b m) .state) ∧
    (m.toNat ≤ 1440 → ∀ e, p.entry f = some e →
      Done s (.defer tag b m) [.queue, .scanDue, .events] [] .ok .none fun q =>
        q.entry f = some { e with deferUntil := deferralOf p m.toNat } ∧ (∀ g, g ≠ f → q.entry g = p.entry g) ∧
        (deferralOf p m.toNat ≠ e.deferUntil → q.sched.scanDue = true))

/-! ### Proposals by command -/

/-- DECLINE (R84) and ACCEPT (R83). ACCEPT runs the tests on the entry as it stands, deferred or not: the first that fails
withdraws the proposal and is the reply's reason, after the substitution that a failing loading test may start; when all
pass the wash is admitted, and the reply carries the lane. That CALC reports carry the flags after the whole event, and that
the tests' reports stand before the withdrawal's, are the model's readings (log 20, 22). -/
def Obligations.HostAnswersProposals : Prop :=
  ∀ (s : State) (tag b : Byte) (m : Half), CanHandle s → s.part.startUp.top = .operating →
    let p := s.part
    let takes := Instr.accept tag b
    let turnsDown := Instr.decline tag b m
    (filterOf b = none → Refused s takes .range ∧ Refused s turnsDown .range) ∧
    ∀ f, filterOf b = some f →
      (1440 < m.toNat → Refused s turnsDown .range) ∧
      (¬ ProposalFor p f → Refused s takes .late ∧ (m.toNat ≤ 1440 → Refused s turnsDown .late)) ∧
      (∀ e, ProposalFor p f → p.entry f = some e →
        (m.toNat ≤ 1440 →
          Done s turnsDown [.queue, .proposal, .scanDue, .events]
            [.proposalWithdrawn f .declined (deferralOf p m.toNat)] .ok .none fun q =>
              Withdrawn p q f (if m.toNat = 0 then e else { e with deferUntil := deferralOf p m.toNat })) ∧
        ∀ rec r, p.filter f = some rec → p.recipe (e.override.getD rec.cfg.slot) = some r →
          TestsEnd p e rec r (fun xs bs b now =>
            Done s takes ([Piece.proposal, .scanDue, .events] ++ xs) (bs ++ [.proposalWithdrawn f .blocked none]) .blocked
              (.reason b) fun q => Withdrawn p q f e ∧ now q) ∧
          (PassesTests p e rec r → ∀ l, LowestIdle p l → AdmitsByTests p e rec r l fun xs bs now =>
            Done s takes ([Piece.proposal] ++ xs) bs .ok (.laneOf l) fun q => now q ∧ q.sched.proposal = none))

/-! ### Units by command -/

/-- LOCK, UNLOCK and RESET_FAULT (R146 to R148, R138, R145). The unit freed by the last two goes to the lane at the head
of its wait list; report and reply show it as it then stands. -/
def Obligations.UnitsAreLockedUnlockedAndReset : Prop :=
  ∀ (s : State) (tag b : Byte), CanHandle s → s.part.startUp.top ≠ .surveying →
    let p := s.part
    let locks := Instr.equipmentLock tag b
    let unlocks := Instr.equipmentUnlock tag b
    let resets := Instr.equipmentResetFault tag b
    (3 ≤ b.toNat → Refused s locks .range ∧ Refused s unlocks .range ∧ Refused s resets .range) ∧
    ∀ u, (b = 0 ∧ u = .p1) ∨ (b = 1 ∧ u = .p2) ∨ (b = 2 ∧ u = .bl) →
      let before := (p.unit u).state
      let fb := readingAt (p.plant.polarity.get u) (p.unit u).input
      let now : UnitState := match waitOf p u with
        | [] => .available
        | l :: _ => .allocated l
      let frees := fun row event => Done s row handing [.equipment u event now before none none fb] .ok (.unitNow now)
        fun q => OtherUnitsKept p q u ∧ FreedUnit p q u ∧ NewsTold q.events u .available
      (InHand before → Refused s locks .busy) ∧
      (before = .locked → Reads s locks .ok (.unitNow .locked)) ∧
      (¬ InHand before → before ≠ .locked →
        Done s locks [.units, .events] [.equipment u .locked .locked before none none fb] .ok (.unitNow .locked) fun q =>
          OtherUnitsKept p q u ∧ (q.unit u).state = .locked ∧ NewsTold q.events u .locked) ∧
      (before ≠ .locked → Refused s unlocks .state) ∧
      (before = .locked → frees unlocks .unlocked) ∧
      ((∀ c, before ≠ .failed c) → Refused s resets .state) ∧
      (∀ c, before = .failed c → frees resets .faultReset)

/-! ### Valves by command -/

/-- MAP_VALVE (R159, R152): its checks, then the entry, the back-links and the sense; a channel whose sense is written
while CLOSED, OPEN or UNKNOWN takes its state from its readings under it, both ACTIVE being a SWITCH fault. -/
def Obligations.MapValveWritesTheMap : Prop :=
  ∀ (s : State) (tag b rb cb sb : Byte), CanHandle s → s.part.startUp.top ≠ .surveying →
    let p := s.part
    let row := Instr.mapValve tag b rb cb sb
    (filterOf b = none ∨ roleOf rb = none ∨ (∀ x, ¬ ChannelNamed cb x) ∨ 2 ≤ sb.toNat → Refused s row .range) ∧
    ∀ f r x sense, filterOf b = some f → roleOf rb = some r → ChannelNamed cb x →
      (sb = 0 ∧ sense = .normal) ∨ (sb = 1 ∧ sense = .inverted) →
      (∀ ch, p.mapped f r = some ch → (p.channel ch).mappedTo = some (f, r)) →
      let closedTo := p.startUp.top = .operating ∧ WindowClosed p f
      let taken := ∃ ch m, x = some ch ∧ (p.channel ch).mappedTo = some m ∧ m ≠ (f, r)
      let moving := ∃ ch, (x = some ch ∨ p.mapped f r = some ch) ∧ InTravel (p.channel ch)
      let crosses := (∃ ch, x = some ch ∧ (p.channel ch).target = some .opened) ∧ PartnerOpen p f r
      let entryNow := fun (q : Part) => q.mapped f r = x ∧ ∀ g k, (g, k) ≠ (f, r) → q.mapped g k = p.mapped g k
      let freed := fun (q : Part) => ∀ ch, x ≠ some ch → q.channel ch =
        if p.mapped f r = some ch then { p.channel ch with mappedTo := none } else p.channel ch
      (closedTo → Refused s row .state) ∧
      (¬ closedTo → taken → Refused s row .inUse) ∧
      (¬ closedTo → ¬ taken → moving → Refused s row .busy) ∧
      (¬ closedTo → ¬ taken → ¬ moving → crosses → Refused s row .interlock) ∧
      (¬ closedTo → ¬ taken → ¬ moving → ¬ crosses →
        (x = none → Done s row [.map, .channels] [] .ok (.channelNow none) fun q => entryNow q ∧ freed q) ∧
        ∀ ch, x = some ch →
          let c : Channel := { p.channel ch with mappedTo := some (f, r), sense := sense }
          let settles := c.state = .closed ∨ c.state = .opened ∨ c.state = .unknown
          (settles → ¬ BothActive c → ∀ y, StateByReadings c y →
            Done s row [.map, .channels] [] .ok (.channelNow (some y)) fun q =>
              entryNow q ∧ freed q ∧ q.channel ch = { c with state := y }) ∧
          (settles → BothActive c → ∃ cap, CaptureOf cap ch c .switch p.startUp.clock none (p.filterOwner f) ∧
            Done s row [.map, .channels, .capture, .events] [.valveFault cap] .ok (.channelNow (some (.fault .switch)))
              fun q => entryNow q ∧ freed q ∧ q.channel ch = { c with state := .fault .switch } ∧
                q.valves.capture = some cap ∧ FaultTold p q.events c.mappedTo) ∧
          (¬ settles → Done s row [.map, .channels] [] .ok (.channelNow (some c.state)) fun q =>
            entryNow q ∧ freed q ∧ q.channel ch = c))

/-- LOCK_CHANNEL (R160), DIRECT_SELECT (R162) and CLEAR_CHANNEL (R158). That a renewed fault is captured with UNKNOWN
before it is the model's choice (log 35). -/
def Obligations.ChannelsAreLockedSelectedAndCleared : Prop :=
  ∀ (s : State) (tag b : Byte), CanHandle s → s.part.startUp.top ≠ .surveying →
    let p := s.part
    let locks := Instr.lockChannelLock tag b
    let unlocks := Instr.lockChannelUnlock tag b
    let selects := Instr.directSelect tag b
    let clears := Instr.clearChannel tag b
    (112 ≤ b.toNat → Refused s locks .range ∧ Refused s unlocks .range ∧ Refused s clears .range ∧
      (b ≠ 255 → Refused s selects .range)) ∧
    (b = 255 → Done s selects [.selection] [] .ok (.channelNow none) fun q => q.valves.selection = none) ∧
    ∀ ch : ChannelId, b.toNat = ch.val →
      let c := p.channel ch
      let derived : Channel := { c with state := .unknown, target := none }
      let held := ∃ f r rec, c.mappedTo = some (f, r) ∧ p.filter f = some rec ∧ ((∃ l, rec.state = .washing l) ∨
        ((rec.state = .online ∨ rec.state = .standby ∨ rec.state = .stranded) ∧ rec.transfer ≠ none))
      (KeptFromWindow p ch → Refused s locks .state ∧ Refused s unlocks .state ∧ Refused s selects .state) ∧
      (¬ KeptFromWindow p ch →
        (InTravel c → Refused s locks .busy ∧ Refused s unlocks .busy) ∧
        (¬ InTravel c →
          Done s locks [.channels] [] .ok (.lockFlag true) (fun q =>
            q.channel ch = { c with locked := true } ∧ OtherChannelsKept p q ch) ∧
          Done s unlocks [.channels] [] .ok (.lockFlag false) (fun q =>
            q.channel ch = { c with locked := false } ∧ OtherChannelsKept p q ch)) ∧
        Done s selects [.selection] [] .ok (.channelNow (some c.state)) fun q => q.valves.selection = some ch) ∧
      ((∀ x, c.state ≠ .fault x) → Refused s clears .state) ∧
      ∀ x, c.state = .fault x →
        (held → Refused s clears .busy) ∧
        (¬ held → ¬ BothActive c → ∀ y, StateByReadings c y →
          Done s clears [.channels] [] .ok (.channelIs y) fun q =>
            q.channel ch = { derived with state := y } ∧ OtherChannelsKept p q ch) ∧
        (¬ held → BothActive c → ∃ cap, CaptureOf cap ch derived .switch p.startUp.clock none (p.ownerOf ch) ∧
          Done s clears [.channels, .capture, .events] [.valveFault cap] .ok (.channelIs (.fault .switch))
            fun q => q.channel ch = { derived with state := .fault .switch } ∧ OtherChannelsKept p q ch ∧
              q.valves.capture = some cap ∧ FaultTold p q.events c.mappedTo)

/-- DIRECT_DRIVE OPEN, CLOSE and STOP on the selected channel (R163, R153, R161). With STOP released no channel is STOPPED
(R165). A fault that STOP's derivation finds is captured without a commanded target (log 35). -/
def Obligations.DirectDriveMovesTheSelectedChannel : Prop :=
  ∀ (s : State) (tag : Byte), CanHandle s → s.part.startUp.top ≠ .surveying →
    let p := s.part
    let opens := Instr.directDriveOpen tag
    let closes := Instr.directDriveClose tag
    let stops := Instr.directDriveStop tag
    let all := fun r => Refused s opens r ∧ Refused s closes r ∧ Refused s stops r
    (p.valves.selection = none → all .state) ∧
    ∀ ch, p.valves.selection = some ch →
      let c := p.channel ch
      (p.stopAsserted = true → all .inhibited) ∧
      (p.stopAsserted = false → c.locked = true → all .locked) ∧
      (p.stopAsserted = false → c.locked = false → (∃ x, c.state = .fault x) → all .state) ∧
      (p.stopAsserted = false → c.locked = false → (∀ x, c.state ≠ .fault x) → c.state ≠ .stopped →
        let crosses := ∃ f r, c.mappedTo = some (f, r) ∧ PartnerOpen p f r
        let drives := fun row pos => Done s row [.channels, .events] [] .ok (.channelIs (commanded p c pos).state)
          fun q => q.channel ch = commanded p c pos ∧ OtherChannelsKept p q ch
        (crosses → Refused s opens .interlock) ∧ (¬ crosses → drives opens .opened) ∧ drives closes .closed ∧
        (¬ InTravel c → Reads s stops .ok (.channelIs c.state)) ∧
        (InTravel c → ¬ BothActive c → ∀ y, StateByReadings c y →
          Done s stops [.channels, .events] [] .ok (.channelIs y) fun q =>
            q.channel ch = { c with state := y, target := none } ∧ OtherChannelsKept p q ch) ∧
        (InTravel c → BothActive c →
          ∃ cap, CaptureOf cap ch { c with target := none } .switch p.startUp.clock none (p.ownerOf ch) ∧
            Done s stops [.channels, .capture, .events] [.valveFault cap] .ok (.channelIs (.fault .switch)) fun q =>
              q.channel ch = { c with state := .fault .switch, target := none } ∧ OtherChannelsKept p q ch ∧
              q.valves.capture = some cap ∧ FaultTold p q.events c.mappedTo))

/-- RECIPE_BEGIN, RECIPE_PHASES and RECIPE_ERASE (R96 to R98, R103, R56). -/
def Obligations.RecipesAreInstalledAndErased : Prop :=
  RecipesAreStagedAndInstalled ∧ RecipeEraseEmptiesTheSlot

/-! ### Frames and invariants -/

/-- The frame of any host command, with any tag, is decoded to that command: no bit of a command's payload is dropped
(R171, R180, Table 11-6). A frame of no command's kind is refused UNKNOWN_KIND; of a command's kind it can only be refused
LENGTH (R176). The payload's layout is the model's where the spec gives none (log 21). -/
def Obligations.FramesCarryTheirCommands : Prop :=
  (∀ (tag : Byte) (c : HostCommand), (c.frame tag).command = .ok c) ∧
  (∀ f : Frame, commandKinds.contains f.kind = false → f.command = .error .unknownKind) ∧
  ∀ (f : Frame) (r : Result), commandKinds.contains f.kind = true → f.command = .error r → r = .length

/-- Every step keeps the link port within its buffers (R172, R174, R175, R176, R178, R179). -/
def Obligations.StepsKeepTheLinkInBounds : Prop :=
  ∀ s t : State, step s = .next t → LinkInBounds s.part → LinkInBounds t.part

/-- No step puts a channel in travel, or leaves one there, while STOP is asserted (R164). -/
def Obligations.StepsKeepStopHoldingTheDrives : Prop :=
  ∀ s t : State, step s = .next t → StopHoldsTheDrives s.part → StopHoldsTheDrives t.part

/-- Every step keeps the rotation queue in order, one entry a filter (R44, R46). -/
def Obligations.StepsKeepTheQueueInOrder : Prop :=
  ∀ s t : State, step s = .next t → QueueInOrder s.part → QueueInOrder t.part

/-- The three invariants hold right after reset. -/
def Obligations.InvariantsHoldAtReset : Prop :=
  LinkInBounds State.reset.part ∧ StopHoldsTheDrives State.reset.part ∧ QueueInOrder State.reset.part
end

