-- ==== Sys2Proof/Laws/Exec.lean ====
section
/-! SUPPORT. The meaning of each row in one equation. -/

namespace Sys2Proof.Laws

open Sys2Proof.Machine

@[simp] theorem exec_powerOnReset (strap1 strap2 : Level) (s : State) :
    exec (.powerOnReset strap1 strap2) s = .next { s with part := { s.part.hardReset (rateOf strap1 strap2) with resetHeld := s.part.resetHeld } } := rfl
@[simp] theorem exec_resetLineAsserted (s : State) :
    exec .resetLineAsserted s = .next { s with part := { s.part.hardReset s.part.link.rate with supply := s.part.supply, resetHeld := true } } := rfl
@[simp] theorem exec_resetLineReleased (strap1 strap2 : Level) (s : State) :
    exec (.resetLineReleased strap1 strap2) s = .next { s with part := if s.part.resetHeld then { s.part.hardReset (rateOf strap1 strap2) with supply := s.part.supply } else s.part } := rfl
@[simp] theorem exec_softResetEffect (s : State) :
    exec .softResetEffect s = act (fun p => if p.link.softReset = .sent then p.softResetPart else p) s := rfl
@[simp] theorem exec_galleryClockTick (s : State) :
    exec .galleryClockTick s = act (fun p => p.tick) s := rfl
@[simp] theorem exec_runMinute (f : FilterId) (s : State) :
    exec (.runMinute f) s = takeEvent (.runMinute f) (fun p => p.runMinute f) s := rfl
@[simp] theorem exec_minuteTick (s : State) :
    exec .minuteTick s = takeEvent .minuteTick (fun p => p.raiseAll (allFilters.map .urgency)) s := rfl
@[simp] theorem exec_urgencyEvaluation (f : FilterId) (s : State) :
    exec (.urgencyEvaluation f) s = takeEvent (.urgency f) (fun p => p.evaluate f) s := rfl
@[simp] theorem exec_analogScan (counts : Vector (BitVec 12) 40) (s : State) :
    exec (.analogScan counts) s = act (fun p => p.scanInputs counts) s := rfl
@[simp] theorem exec_pointSample (id : PointId) (s : State) :
    exec (.pointSample id) s = act (fun p => p.takeOldestSample id) s := rfl
@[simp] theorem exec_pointStale (id : PointId) (s : State) :
    exec (.pointStale id) s = takeEvent (.stale id) (fun p => p.goStale id) s := rfl
@[simp] theorem exec_schedulerMeasureChange (id : PointId) (s : State) :
    exec (.schedulerMeasureChange id) s = takeEvent (.schedulerMeasure id) (fun p => p.schedulerMeasure id) s := rfl
@[simp] theorem exec_lanePointChange (l : LaneId) (id : PointId) (s : State) :
    exec (.lanePointChange l id) s = takeEvent (.lanePoint l id) (fun p => p.lanePoint l id) s := rfl
@[simp] theorem exec_overloadDeadline (s : State) :
    exec .overloadDeadline s = takeEvent .overloadDeadline (fun p => p.overloadFalls) s := rfl
@[simp] theorem exec_deferExpiry (f : FilterId) (s : State) :
    exec (.deferExpiry f) s = takeEvent (.deferExpiry f) (fun p => p.deferralEnds f) s := rfl
@[simp] theorem exec_spacingExpiry (s : State) :
    exec .spacingExpiry s = takeEvent .spacingExpiry (fun p => p.trigger) s := rfl
@[simp] theorem exec_proposalExpiry (s : State) :
    exec .proposalExpiry s = takeEvent .proposalExpiry (fun p => p.proposalExpires) s := rfl
@[simp] theorem exec_admissionScan (s : State) :
    exec .admissionScan s = act (fun p => p.runScan) s := rfl
@[simp] theorem exec_laneSecond (l : LaneId) (s : State) :
    exec (.laneSecond l) s = takeEvent (.laneSecond l) (fun p => p.countSecond l) s := rfl
@[simp] theorem exec_phaseTimeEnd (l : LaneId) (s : State) :
    exec (.phaseTimeEnd l) s = takeEvent (.phaseTimeEnd l) (fun p => p.endRunning l .time) s := rfl
@[simp] theorem exec_ripenConfirmed (l : LaneId) (s : State) :
    exec (.ripenConfirmed l) s = takeEvent (.ripenConfirmed l) (fun p => p.endRunning l .confirmed) s := rfl
@[simp] theorem exec_holdLimitExpiry (l : LaneId) (s : State) :
    exec (.holdLimitExpiry l) s = takeEvent (.holdLimit l) (fun p => p.holdLimitFalls l) s := rfl
@[simp] theorem exec_laneRoleArrival (l : LaneId) (r : Role) (s : State) :
    exec (.laneRoleArrival l r) s = takeEvent (.roleArrival l r) (fun p => p.laneArrival l r) s := rfl
@[simp] theorem exec_laneChannelFault (l : LaneId) (r : Role) (s : State) :
    exec (.laneChannelFault l r) s = takeEvent (.roleFault l r) (fun p => p.laneFault l) s := rfl
@[simp] theorem exec_laneRoleDrift (l : LaneId) (r : Role) (s : State) :
    exec (.laneRoleDrift l r) s = takeEvent (.roleDrift l r) (fun p => p.laneDrift l r) s := rfl
@[simp] theorem exec_laneGrant (l : LaneId) (u : UnitId) (s : State) :
    exec (.laneGrant l u) s = takeEvent (.grant l u) (fun p => p.laneGrant l u) s := rfl
@[simp] theorem exec_laneUnitProven (l : LaneId) (u : UnitId) (s : State) :
    exec (.laneUnitProven l u) s = takeEvent (.proven l u) (fun p => p.checkStarted l) s := rfl
@[simp] theorem exec_laneProveFailed (l : LaneId) (u : UnitId) (s : State) :
    exec (.laneProveFailed l u) s = takeEvent (.proveFailed l u) (fun p => p.laneProveFailed l u) s := rfl
@[simp] theorem exec_laneUnitTripped (l : LaneId) (u : UnitId) (s : State) :
    exec (.laneUnitTripped l u) s = takeEvent (.tripped l u) (fun p => p.laneTripped l u) s := rfl
@[simp] theorem exec_laneUnitNotice (l : LaneId) (u : UnitId) (n : UnitNews) (s : State) :
    exec (.laneUnitNotice l u n) s = takeEvent (.laneUnitNews l u n) (fun p => p.laneNews l n) s := rfl
@[simp] theorem exec_schedulerUnitNotice (u : UnitId) (n : UnitNews) (s : State) :
    exec (.schedulerUnitNotice u n) s = takeEvent (.schedulerUnitNews u n) (fun p => p.trigger) s := rfl
@[simp] theorem exec_laneStopAsserted (l : LaneId) (s : State) :
    exec (.laneStopAsserted l) s = takeStopNotice l (.laneStopAsserted l) (fun p => p.laneStopped l) s := rfl
@[simp] theorem exec_laneStopReleased (l : LaneId) (s : State) :
    exec (.laneStopReleased l) s = takeStopNotice l (.laneStopReleased l) (fun p => p.laneReleased l) s := rfl
@[simp] theorem exec_transferRoleArrival (f : FilterId) (r : Role) (s : State) :
    exec (.transferRoleArrival f r) s = takeEvent (.transferArrival f r) (fun p => p.advanceTransfer f 3) s := rfl
@[simp] theorem exec_transferChannelFault (f : FilterId) (r : Role) (s : State) :
    exec (.transferChannelFault f r) s = takeEvent (.transferFault f r) (fun p => p.tableFault f r) s := rfl
@[simp] theorem exec_transferRoleDrift (f : FilterId) (r : Role) (s : State) :
    exec (.transferRoleDrift f r) s = takeEvent (.transferDrift f r) (fun p => p.transferDrifts f r) s := rfl
@[simp] theorem exec_transferStopReleased (f : FilterId) (s : State) :
    exec (.transferStopReleased f) s = takeEvent (.transferStopReleased f) (fun p => p.transferReleased f) s := rfl
@[simp] theorem exec_filterChannelFault (f : FilterId) (r : Role) (s : State) :
    exec (.filterChannelFault f r) s = takeEvent (.filterFault f r) (fun p => p.tableFault f r) s := rfl
@[simp] theorem exec_limitReadingChange (ch : ChannelId) (which : Limit) (level : Level) (s : State) :
    exec (.limitReadingChange ch which level) s = act (fun p => p.takeLimit ch which level) s := rfl
@[simp] theorem exec_travelExpiry (ch : ChannelId) (s : State) :
    exec (.travelExpiry ch) s = takeEvent (.travelExpiry ch) (fun p => p.travelFails ch) s := rfl
@[simp] theorem exec_stopAsserted (s : State) :
    exec .stopAsserted s = act (fun p => p.stopLineAsserted) s := rfl
@[simp] theorem exec_stopReleased (s : State) :
    exec .stopReleased s = act (fun p => p.stopLineReleased) s := rfl
@[simp] theorem exec_arbiterStopAsserted (s : State) :
    exec .arbiterStopAsserted s = takeEvent .arbiterStopAsserted (fun p => allUnits.foldl (fun p u => p.stopByLine u) p) s := rfl
@[simp] theorem exec_feedbackChange (u : UnitId) (level : Level) (s : State) :
    exec (.feedbackChange u level) s = .next { s with part := if s.part.live then s.part.takeFeedback u level else s.part.putUnit u { s.part.unit u with input := level } } := rfl
@[simp] theorem exec_proveExpiry (u : UnitId) (s : State) :
    exec (.proveExpiry u) s = takeEvent (.proveExpiry u) (fun p => p.proveFails u) s := rfl
@[simp] theorem exec_guardEnd (u : UnitId) (s : State) :
    exec (.guardEnd u) s = takeEvent (.guardEnd u) (fun p => p.guardEnds u) s := rfl
@[simp] theorem exec_surveyEnd (s : State) :
    exec .surveyEnd s = act (fun p => p.endSurvey) s := rfl
@[simp] theorem exec_silenceExpiry (s : State) :
    exec .silenceExpiry s = takeEvent .silenceExpiry (fun p => p.silenceFalls) s := rfl
@[simp] theorem exec_receiveCharacter (c : Byte) (s : State) :
    exec (.receiveCharacter c) s = act (fun p => p.takeCharacter c) s := rfl
@[simp] theorem exec_characterError (s : State) :
    exec .characterError s = act (fun p => p.abandonFrame) s := rfl
@[simp] theorem exec_receiveGapTimeout (s : State) :
    exec .receiveGapTimeout s = act (fun p => p.abandonFrame) s := rfl
@[simp] theorem exec_transmitFrameEnd (s : State) :
    exec .transmitFrameEnd s = act (fun p => p.frameSent) s := rfl
@[simp] theorem exec_unknownKindCommand (tag kind : Byte) (payload : List Byte) (s : State) :
    exec (.unknownKindCommand tag kind payload) s = act (fun p => p.arriveFrame ⟨kind, tag, payload⟩) s := rfl
@[simp] theorem exec_getIdent (tag : Byte) (s : State) :
    exec (.getIdent tag) s = act (fun p => p.submit tag .getIdent) s := rfl
@[simp] theorem exec_getStatus (tag : Byte) (s : State) :
    exec (.getStatus tag) s = act (fun p => p.submit tag .getStatus) s := rfl
@[simp] theorem exec_ping (tag : Byte) (s : State) :
    exec (.ping tag) s = act (fun p => p.submit tag .ping) s := rfl
@[simp] theorem exec_getLinkErrors (tag : Byte) (s : State) :
    exec (.getLinkErrors tag) s = act (fun p => p.submit tag .getLinkErrors) s := rfl
@[simp] theorem exec_softReset (tag : Byte) (s : State) :
    exec (.softReset tag) s = act (fun p => p.submit tag .softReset) s := rfl
@[simp] theorem exec_commission (tag : Byte) (s : State) :
    exec (.commission tag) s = act (fun p => p.submit tag .commission) s := rfl
@[simp] theorem exec_clearSilence (tag : Byte) (s : State) :
    exec (.clearSilence tag) s = act (fun p => p.submit tag .clearSilence) s := rfl
@[simp] theorem exec_setPlant (tag : Byte) (r : RawPlant) (s : State) :
    exec (.setPlant tag r) s = act (fun p => p.submit tag (.setPlant r)) s := rfl
@[simp] theorem exec_setMode (tag mode : Byte) (s : State) :
    exec (.setMode tag mode) s = act (fun p => p.submit tag (.setMode mode)) s := rfl
@[simp] theorem exec_clearCalc (tag : Byte) (s : State) :
    exec (.clearCalc tag) s = act (fun p => p.submit tag .clearCalc) s := rfl
@[simp] theorem exec_getLoading (tag : Byte) (s : State) :
    exec (.getLoading tag) s = act (fun p => p.submit tag .getLoading) s := rfl
@[simp] theorem exec_setPoint (tag point source input : Byte) (lo hi : Half) (s : State) :
    exec (.setPoint tag point source input lo hi) s = act (fun p => p.submit tag (.setPoint point source input lo hi)) s := rfl
@[simp] theorem exec_putMeasure (tag : Byte) (pairs : List (Byte × Half)) (s : State) :
    exec (.putMeasure tag pairs) s = act (fun p => p.submit tag (.putMeasure (BitVec.ofNat 8 pairs.length) (pairBytes pairs))) s := rfl
@[simp] theorem exec_getPoints (tag first count : Byte) (s : State) :
    exec (.getPoints tag first count) s = act (fun p => p.submit tag (.getPoints first count)) s := rfl
@[simp] theorem exec_setFilterDefine (tag filter : Byte) (c : RawFilter) (s : State) :
    exec (.setFilterDefine tag filter c) s = act (fun p => p.submit tag (.setFilter filter 0 c)) s := rfl
@[simp] theorem exec_setFilterUndefine (tag filter : Byte) (s : State) :
    exec (.setFilterUndefine tag filter) s = act (fun p => p.submit tag (.setFilter filter 1 blankFilter)) s := rfl
@[simp] theorem exec_takeOut (tag filter : Byte) (s : State) :
    exec (.takeOut tag filter) s = act (fun p => p.submit tag (.takeOut filter)) s := rfl
@[simp] theorem exec_putIn (tag filter condition : Byte) (s : State) :
    exec (.putIn tag filter condition) s = act (fun p => p.submit tag (.putIn filter condition)) s := rfl
@[simp] theorem exec_clearFault (tag filter : Byte) (s : State) :
    exec (.clearFault tag filter) s = act (fun p => p.submit tag (.clearFault filter)) s := rfl
@[simp] theorem exec_toStandby (tag filter : Byte) (s : State) :
    exec (.toStandby tag filter) s = act (fun p => p.submit tag (.toStandby filter)) s := rfl
@[simp] theorem exec_toService (tag filter : Byte) (s : State) :
    exec (.toService tag filter) s = act (fun p => p.submit tag (.toService filter)) s := rfl
@[simp] theorem exec_filtersFirst (tag start : Byte) (s : State) :
    exec (.filtersFirst tag start) s = act (fun p => p.submit tag (.filtersFirst start)) s := rfl
@[simp] theorem exec_filtersNext (tag : Byte) (s : State) :
    exec (.filtersNext tag) s = act (fun p => p.submit tag .filtersNext) s := rfl
@[simp] theorem exec_requestWash (tag filter override : Byte) (s : State) :
    exec (.requestWash tag filter override) s = act (fun p => p.submit tag (.requestWash filter override)) s := rfl
@[simp] theorem exec_cancelRequest (tag filter : Byte) (s : State) :
    exec (.cancelRequest tag filter) s = act (fun p => p.submit tag (.cancelRequest filter)) s := rfl
@[simp] theorem exec_defer (tag filter : Byte) (minutes : Half) (s : State) :
    exec (.defer tag filter minutes) s = act (fun p => p.submit tag (.defer filter minutes)) s := rfl
@[simp] theorem exec_setMask (tag set : Byte) (s : State) :
    exec (.setMask tag set) s = act (fun p => p.submit tag (.setMask set)) s := rfl
@[simp] theorem exec_getQueue (tag first : Byte) (s : State) :
    exec (.getQueue tag first) s = act (fun p => p.submit tag (.getQueue first)) s := rfl
@[simp] theorem exec_accept (tag filter : Byte) (s : State) :
    exec (.accept tag filter) s = act (fun p => p.submit tag (.accept filter)) s := rfl
@[simp] theorem exec_decline (tag filter : Byte) (minutes : Half) (s : State) :
    exec (.decline tag filter minutes) s = act (fun p => p.submit tag (.decline filter minutes)) s := rfl
@[simp] theorem exec_recipeBegin (tag slot n : Byte) (s : State) :
    exec (.recipeBegin tag slot n) s = act (fun p => p.submit tag (.recipeBegin slot n)) s := rfl
@[simp] theorem exec_recipePhases (tag : Byte) (records : List RawPhase) (s : State) :
    exec (.recipePhases tag records) s = act (fun p => p.submit tag (.recipePhases (BitVec.ofNat 8 records.length) (rawPhaseBytes records))) s := rfl
@[simp] theorem exec_recipeErase (tag slot : Byte) (s : State) :
    exec (.recipeErase tag slot) s = act (fun p => p.submit tag (.recipeErase slot)) s := rfl
@[simp] theorem exec_getRecipeSignature (tag slot : Byte) (s : State) :
    exec (.getRecipeSignature tag slot) s = act (fun p => p.submit tag (.getRecipeSignature slot)) s := rfl
@[simp] theorem exec_getRecipe (tag slot first : Byte) (s : State) :
    exec (.getRecipe tag slot first) s = act (fun p => p.submit tag (.getRecipe slot first)) s := rfl
@[simp] theorem exec_hold (tag lane : Byte) (s : State) :
    exec (.hold tag lane) s = act (fun p => p.submit tag (.hold lane)) s := rfl
@[simp] theorem exec_resume (tag lane : Byte) (s : State) :
    exec (.resume tag lane) s = act (fun p => p.submit tag (.resume lane)) s := rfl
@[simp] theorem exec_abort (tag form target : Byte) (s : State) :
    exec (.abort tag form target) s = act (fun p => p.submit tag (.abort form target)) s := rfl
@[simp] theorem exec_getLanes (tag : Byte) (s : State) :
    exec (.getLanes tag) s = act (fun p => p.submit tag .getLanes) s := rfl
@[simp] theorem exec_equipmentLock (tag unit : Byte) (s : State) :
    exec (.equipmentLock tag unit) s = act (fun p => p.submit tag (.equipmentCommand unit 0)) s := rfl
@[simp] theorem exec_equipmentUnlock (tag unit : Byte) (s : State) :
    exec (.equipmentUnlock tag unit) s = act (fun p => p.submit tag (.equipmentCommand unit 1)) s := rfl
@[simp] theorem exec_equipmentResetFault (tag unit : Byte) (s : State) :
    exec (.equipmentResetFault tag unit) s = act (fun p => p.submit tag (.equipmentCommand unit 2)) s := rfl
@[simp] theorem exec_getEquipment (tag : Byte) (s : State) :
    exec (.getEquipment tag) s = act (fun p => p.submit tag .getEquipment) s := rfl
@[simp] theorem exec_mapValve (tag filter role channel sense : Byte) (s : State) :
    exec (.mapValve tag filter role channel sense) s = act (fun p => p.submit tag (.mapValve filter role channel sense)) s := rfl
@[simp] theorem exec_lockChannelLock (tag channel : Byte) (s : State) :
    exec (.lockChannelLock tag channel) s = act (fun p => p.submit tag (.lockChannel channel 0)) s := rfl
@[simp] theorem exec_lockChannelUnlock (tag channel : Byte) (s : State) :
    exec (.lockChannelUnlock tag channel) s = act (fun p => p.submit tag (.lockChannel channel 1)) s := rfl
@[simp] theorem exec_directSelect (tag channel : Byte) (s : State) :
    exec (.directSelect tag channel) s = act (fun p => p.submit tag (.directSelect channel)) s := rfl
@[simp] theorem exec_directDriveOpen (tag : Byte) (s : State) :
    exec (.directDriveOpen tag) s = act (fun p => p.submit tag (.directDrive 0)) s := rfl
@[simp] theorem exec_directDriveClose (tag : Byte) (s : State) :
    exec (.directDriveClose tag) s = act (fun p => p.submit tag (.directDrive 1)) s := rfl
@[simp] theorem exec_directDriveStop (tag : Byte) (s : State) :
    exec (.directDriveStop tag) s = act (fun p => p.submit tag (.directDrive 2)) s := rfl
@[simp] theorem exec_clearChannel (tag channel : Byte) (s : State) :
    exec (.clearChannel tag channel) s = act (fun p => p.submit tag (.clearChannel channel)) s := rfl
@[simp] theorem exec_getChannels (tag first count : Byte) (s : State) :
    exec (.getChannels tag first count) s = act (fun p => p.submit tag (.getChannels first count)) s := rfl
@[simp] theorem exec_getChannelFault (tag : Byte) (s : State) :
    exec (.getChannelFault tag) s = act (fun p => p.submit tag .getChannelFault) s := rfl
@[simp] theorem exec_stopInputFirstTaken (level : Level) (s : State) :
    exec (.stopInputFirstTaken level) s = act (fun p => p.stopFirstTaken level) s := rfl
@[simp] theorem exec_supplyLoss (s : State) :
    exec .supplyLoss s = .next { s with part := { s.part with supply := false } } := rfl

end Sys2Proof.Laws
end

