-- ==== Sys2Proof/Laws/State.lean ====
section
/-! SUPPORT. What each primitive update of the part leaves as it was, field by field, and what it writes. -/

namespace Sys2Proof.Laws

open Sys2Proof.Machine

/-! ### putFilter -/

@[simp] theorem putFilter_supply (p : Part) (f : FilterId) (r : Option FilterRecord) : (p.putFilter f r).supply = p.supply := rfl
@[simp] theorem putFilter_resetHeld (p : Part) (f : FilterId) (r : Option FilterRecord) : (p.putFilter f r).resetHeld = p.resetHeld := rfl
@[simp] theorem putFilter_startUp (p : Part) (f : FilterId) (r : Option FilterRecord) : (p.putFilter f r).startUp = p.startUp := rfl
@[simp] theorem putFilter_plant (p : Part) (f : FilterId) (r : Option FilterRecord) : (p.putFilter f r).plant = p.plant := rfl
@[simp] theorem putFilter_plantReceived (p : Part) (f : FilterId) (r : Option FilterRecord) : (p.putFilter f r).plantReceived = p.plantReceived := rfl
@[simp] theorem putFilter_front (p : Part) (f : FilterId) (r : Option FilterRecord) : (p.putFilter f r).front = p.front := rfl
@[simp] theorem putFilter_sched (p : Part) (f : FilterId) (r : Option FilterRecord) : (p.putFilter f r).sched = p.sched := rfl
@[simp] theorem putFilter_recipes (p : Part) (f : FilterId) (r : Option FilterRecord) : (p.putFilter f r).recipes = p.recipes := rfl
@[simp] theorem putFilter_lanes (p : Part) (f : FilterId) (r : Option FilterRecord) : (p.putFilter f r).lanes = p.lanes := rfl
@[simp] theorem putFilter_arb (p : Part) (f : FilterId) (r : Option FilterRecord) : (p.putFilter f r).arb = p.arb := rfl
@[simp] theorem putFilter_valves (p : Part) (f : FilterId) (r : Option FilterRecord) : (p.putFilter f r).valves = p.valves := rfl
@[simp] theorem putFilter_link (p : Part) (f : FilterId) (r : Option FilterRecord) : (p.putFilter f r).link = p.link := rfl
@[simp] theorem putFilter_events (p : Part) (f : FilterId) (r : Option FilterRecord) : (p.putFilter f r).events = p.events := rfl

/-! ### setMarker -/

@[simp] theorem setMarker_supply (p : Part) (m : Option FilterId) : (p.setMarker m).supply = p.supply := rfl
@[simp] theorem setMarker_resetHeld (p : Part) (m : Option FilterId) : (p.setMarker m).resetHeld = p.resetHeld := rfl
@[simp] theorem setMarker_startUp (p : Part) (m : Option FilterId) : (p.setMarker m).startUp = p.startUp := rfl
@[simp] theorem setMarker_plant (p : Part) (m : Option FilterId) : (p.setMarker m).plant = p.plant := rfl
@[simp] theorem setMarker_plantReceived (p : Part) (m : Option FilterId) : (p.setMarker m).plantReceived = p.plantReceived := rfl
@[simp] theorem setMarker_front (p : Part) (m : Option FilterId) : (p.setMarker m).front = p.front := rfl
@[simp] theorem setMarker_sched (p : Part) (m : Option FilterId) : (p.setMarker m).sched = p.sched := rfl
@[simp] theorem setMarker_recipes (p : Part) (m : Option FilterId) : (p.setMarker m).recipes = p.recipes := rfl
@[simp] theorem setMarker_lanes (p : Part) (m : Option FilterId) : (p.setMarker m).lanes = p.lanes := rfl
@[simp] theorem setMarker_arb (p : Part) (m : Option FilterId) : (p.setMarker m).arb = p.arb := rfl
@[simp] theorem setMarker_valves (p : Part) (m : Option FilterId) : (p.setMarker m).valves = p.valves := rfl
@[simp] theorem setMarker_link (p : Part) (m : Option FilterId) : (p.setMarker m).link = p.link := rfl
@[simp] theorem setMarker_events (p : Part) (m : Option FilterId) : (p.setMarker m).events = p.events := rfl

/-! ### putChannel -/

@[simp] theorem putChannel_supply (p : Part) (ch : ChannelId) (c : Channel) : (p.putChannel ch c).supply = p.supply := rfl
@[simp] theorem putChannel_resetHeld (p : Part) (ch : ChannelId) (c : Channel) : (p.putChannel ch c).resetHeld = p.resetHeld := rfl
@[simp] theorem putChannel_startUp (p : Part) (ch : ChannelId) (c : Channel) : (p.putChannel ch c).startUp = p.startUp := rfl
@[simp] theorem putChannel_plant (p : Part) (ch : ChannelId) (c : Channel) : (p.putChannel ch c).plant = p.plant := rfl
@[simp] theorem putChannel_plantReceived (p : Part) (ch : ChannelId) (c : Channel) : (p.putChannel ch c).plantReceived = p.plantReceived := rfl
@[simp] theorem putChannel_front (p : Part) (ch : ChannelId) (c : Channel) : (p.putChannel ch c).front = p.front := rfl
@[simp] theorem putChannel_table (p : Part) (ch : ChannelId) (c : Channel) : (p.putChannel ch c).table = p.table := rfl
@[simp] theorem putChannel_sched (p : Part) (ch : ChannelId) (c : Channel) : (p.putChannel ch c).sched = p.sched := rfl
@[simp] theorem putChannel_recipes (p : Part) (ch : ChannelId) (c : Channel) : (p.putChannel ch c).recipes = p.recipes := rfl
@[simp] theorem putChannel_lanes (p : Part) (ch : ChannelId) (c : Channel) : (p.putChannel ch c).lanes = p.lanes := rfl
@[simp] theorem putChannel_arb (p : Part) (ch : ChannelId) (c : Channel) : (p.putChannel ch c).arb = p.arb := rfl
@[simp] theorem putChannel_link (p : Part) (ch : ChannelId) (c : Channel) : (p.putChannel ch c).link = p.link := rfl
@[simp] theorem putChannel_events (p : Part) (ch : ChannelId) (c : Channel) : (p.putChannel ch c).events = p.events := rfl

/-! ### setSelection -/

@[simp] theorem setSelection_supply (p : Part) (x : Option ChannelId) : (p.setSelection x).supply = p.supply := rfl
@[simp] theorem setSelection_resetHeld (p : Part) (x : Option ChannelId) : (p.setSelection x).resetHeld = p.resetHeld := rfl
@[simp] theorem setSelection_startUp (p : Part) (x : Option ChannelId) : (p.setSelection x).startUp = p.startUp := rfl
@[simp] theorem setSelection_plant (p : Part) (x : Option ChannelId) : (p.setSelection x).plant = p.plant := rfl
@[simp] theorem setSelection_plantReceived (p : Part) (x : Option ChannelId) : (p.setSelection x).plantReceived = p.plantReceived := rfl
@[simp] theorem setSelection_front (p : Part) (x : Option ChannelId) : (p.setSelection x).front = p.front := rfl
@[simp] theorem setSelection_table (p : Part) (x : Option ChannelId) : (p.setSelection x).table = p.table := rfl
@[simp] theorem setSelection_sched (p : Part) (x : Option ChannelId) : (p.setSelection x).sched = p.sched := rfl
@[simp] theorem setSelection_recipes (p : Part) (x : Option ChannelId) : (p.setSelection x).recipes = p.recipes := rfl
@[simp] theorem setSelection_lanes (p : Part) (x : Option ChannelId) : (p.setSelection x).lanes = p.lanes := rfl
@[simp] theorem setSelection_arb (p : Part) (x : Option ChannelId) : (p.setSelection x).arb = p.arb := rfl
@[simp] theorem setSelection_link (p : Part) (x : Option ChannelId) : (p.setSelection x).link = p.link := rfl
@[simp] theorem setSelection_events (p : Part) (x : Option ChannelId) : (p.setSelection x).events = p.events := rfl

/-! ### putUnit -/

@[simp] theorem putUnit_supply (p : Part) (u : UnitId) (x : UnitRecord) : (p.putUnit u x).supply = p.supply := rfl
@[simp] theorem putUnit_resetHeld (p : Part) (u : UnitId) (x : UnitRecord) : (p.putUnit u x).resetHeld = p.resetHeld := rfl
@[simp] theorem putUnit_startUp (p : Part) (u : UnitId) (x : UnitRecord) : (p.putUnit u x).startUp = p.startUp := rfl
@[simp] theorem putUnit_plant (p : Part) (u : UnitId) (x : UnitRecord) : (p.putUnit u x).plant = p.plant := rfl
@[simp] theorem putUnit_plantReceived (p : Part) (u : UnitId) (x : UnitRecord) : (p.putUnit u x).plantReceived = p.plantReceived := rfl
@[simp] theorem putUnit_front (p : Part) (u : UnitId) (x : UnitRecord) : (p.putUnit u x).front = p.front := rfl
@[simp] theorem putUnit_table (p : Part) (u : UnitId) (x : UnitRecord) : (p.putUnit u x).table = p.table := rfl
@[simp] theorem putUnit_sched (p : Part) (u : UnitId) (x : UnitRecord) : (p.putUnit u x).sched = p.sched := rfl
@[simp] theorem putUnit_recipes (p : Part) (u : UnitId) (x : UnitRecord) : (p.putUnit u x).recipes = p.recipes := rfl
@[simp] theorem putUnit_lanes (p : Part) (u : UnitId) (x : UnitRecord) : (p.putUnit u x).lanes = p.lanes := rfl
@[simp] theorem putUnit_valves (p : Part) (u : UnitId) (x : UnitRecord) : (p.putUnit u x).valves = p.valves := rfl
@[simp] theorem putUnit_link (p : Part) (u : UnitId) (x : UnitRecord) : (p.putUnit u x).link = p.link := rfl
@[simp] theorem putUnit_events (p : Part) (u : UnitId) (x : UnitRecord) : (p.putUnit u x).events = p.events := rfl

/-! ### putLane -/

@[simp] theorem putLane_supply (p : Part) (l : LaneId) (w : Option Wash) : (p.putLane l w).supply = p.supply := rfl
@[simp] theorem putLane_resetHeld (p : Part) (l : LaneId) (w : Option Wash) : (p.putLane l w).resetHeld = p.resetHeld := rfl
@[simp] theorem putLane_startUp (p : Part) (l : LaneId) (w : Option Wash) : (p.putLane l w).startUp = p.startUp := rfl
@[simp] theorem putLane_plant (p : Part) (l : LaneId) (w : Option Wash) : (p.putLane l w).plant = p.plant := rfl
@[simp] theorem putLane_plantReceived (p : Part) (l : LaneId) (w : Option Wash) : (p.putLane l w).plantReceived = p.plantReceived := rfl
@[simp] theorem putLane_front (p : Part) (l : LaneId) (w : Option Wash) : (p.putLane l w).front = p.front := rfl
@[simp] theorem putLane_table (p : Part) (l : LaneId) (w : Option Wash) : (p.putLane l w).table = p.table := rfl
@[simp] theorem putLane_sched (p : Part) (l : LaneId) (w : Option Wash) : (p.putLane l w).sched = p.sched := rfl
@[simp] theorem putLane_recipes (p : Part) (l : LaneId) (w : Option Wash) : (p.putLane l w).recipes = p.recipes := rfl
@[simp] theorem putLane_arb (p : Part) (l : LaneId) (w : Option Wash) : (p.putLane l w).arb = p.arb := rfl
@[simp] theorem putLane_valves (p : Part) (l : LaneId) (w : Option Wash) : (p.putLane l w).valves = p.valves := rfl
@[simp] theorem putLane_link (p : Part) (l : LaneId) (w : Option Wash) : (p.putLane l w).link = p.link := rfl
@[simp] theorem putLane_events (p : Part) (l : LaneId) (w : Option Wash) : (p.putLane l w).events = p.events := rfl

/-! ### raise -/

@[simp] theorem raise_supply (p : Part) (e : Event) : (p.raise e).supply = p.supply := rfl
@[simp] theorem raise_resetHeld (p : Part) (e : Event) : (p.raise e).resetHeld = p.resetHeld := rfl
@[simp] theorem raise_startUp (p : Part) (e : Event) : (p.raise e).startUp = p.startUp := rfl
@[simp] theorem raise_plant (p : Part) (e : Event) : (p.raise e).plant = p.plant := rfl
@[simp] theorem raise_plantReceived (p : Part) (e : Event) : (p.raise e).plantReceived = p.plantReceived := rfl
@[simp] theorem raise_front (p : Part) (e : Event) : (p.raise e).front = p.front := rfl
@[simp] theorem raise_table (p : Part) (e : Event) : (p.raise e).table = p.table := rfl
@[simp] theorem raise_sched (p : Part) (e : Event) : (p.raise e).sched = p.sched := rfl
@[simp] theorem raise_recipes (p : Part) (e : Event) : (p.raise e).recipes = p.recipes := rfl
@[simp] theorem raise_lanes (p : Part) (e : Event) : (p.raise e).lanes = p.lanes := rfl
@[simp] theorem raise_arb (p : Part) (e : Event) : (p.raise e).arb = p.arb := rfl
@[simp] theorem raise_valves (p : Part) (e : Event) : (p.raise e).valves = p.valves := rfl
@[simp] theorem raise_link (p : Part) (e : Event) : (p.raise e).link = p.link := rfl

/-! ### raiseAll -/

@[simp] theorem raiseAll_supply (p : Part) (es : List Event) : (p.raiseAll es).supply = p.supply := rfl
@[simp] theorem raiseAll_resetHeld (p : Part) (es : List Event) : (p.raiseAll es).resetHeld = p.resetHeld := rfl
@[simp] theorem raiseAll_startUp (p : Part) (es : List Event) : (p.raiseAll es).startUp = p.startUp := rfl
@[simp] theorem raiseAll_plant (p : Part) (es : List Event) : (p.raiseAll es).plant = p.plant := rfl
@[simp] theorem raiseAll_plantReceived (p : Part) (es : List Event) : (p.raiseAll es).plantReceived = p.plantReceived := rfl
@[simp] theorem raiseAll_front (p : Part) (es : List Event) : (p.raiseAll es).front = p.front := rfl
@[simp] theorem raiseAll_table (p : Part) (es : List Event) : (p.raiseAll es).table = p.table := rfl
@[simp] theorem raiseAll_sched (p : Part) (es : List Event) : (p.raiseAll es).sched = p.sched := rfl
@[simp] theorem raiseAll_recipes (p : Part) (es : List Event) : (p.raiseAll es).recipes = p.recipes := rfl
@[simp] theorem raiseAll_lanes (p : Part) (es : List Event) : (p.raiseAll es).lanes = p.lanes := rfl
@[simp] theorem raiseAll_arb (p : Part) (es : List Event) : (p.raiseAll es).arb = p.arb := rfl
@[simp] theorem raiseAll_valves (p : Part) (es : List Event) : (p.raiseAll es).valves = p.valves := rfl
@[simp] theorem raiseAll_link (p : Part) (es : List Event) : (p.raiseAll es).link = p.link := rfl

/-! ### cancel -/

@[simp] theorem cancel_supply (p : Part) (e : Event) : (p.cancel e).supply = p.supply := rfl
@[simp] theorem cancel_resetHeld (p : Part) (e : Event) : (p.cancel e).resetHeld = p.resetHeld := rfl
@[simp] theorem cancel_startUp (p : Part) (e : Event) : (p.cancel e).startUp = p.startUp := rfl
@[simp] theorem cancel_plant (p : Part) (e : Event) : (p.cancel e).plant = p.plant := rfl
@[simp] theorem cancel_plantReceived (p : Part) (e : Event) : (p.cancel e).plantReceived = p.plantReceived := rfl
@[simp] theorem cancel_front (p : Part) (e : Event) : (p.cancel e).front = p.front := rfl
@[simp] theorem cancel_table (p : Part) (e : Event) : (p.cancel e).table = p.table := rfl
@[simp] theorem cancel_sched (p : Part) (e : Event) : (p.cancel e).sched = p.sched := rfl
@[simp] theorem cancel_recipes (p : Part) (e : Event) : (p.cancel e).recipes = p.recipes := rfl
@[simp] theorem cancel_lanes (p : Part) (e : Event) : (p.cancel e).lanes = p.lanes := rfl
@[simp] theorem cancel_arb (p : Part) (e : Event) : (p.cancel e).arb = p.arb := rfl
@[simp] theorem cancel_valves (p : Part) (e : Event) : (p.cancel e).valves = p.valves := rfl
@[simp] theorem cancel_link (p : Part) (e : Event) : (p.cancel e).link = p.link := rfl

/-! ### setBlocked -/

@[simp] theorem setBlocked_supply (p : Part) (b : BlockedReason) : (p.setBlocked b).supply = p.supply := rfl
@[simp] theorem setBlocked_resetHeld (p : Part) (b : BlockedReason) : (p.setBlocked b).resetHeld = p.resetHeld := rfl
@[simp] theorem setBlocked_startUp (p : Part) (b : BlockedReason) : (p.setBlocked b).startUp = p.startUp := rfl
@[simp] theorem setBlocked_plant (p : Part) (b : BlockedReason) : (p.setBlocked b).plant = p.plant := rfl
@[simp] theorem setBlocked_plantReceived (p : Part) (b : BlockedReason) : (p.setBlocked b).plantReceived = p.plantReceived := rfl
@[simp] theorem setBlocked_front (p : Part) (b : BlockedReason) : (p.setBlocked b).front = p.front := rfl
@[simp] theorem setBlocked_table (p : Part) (b : BlockedReason) : (p.setBlocked b).table = p.table := rfl
@[simp] theorem setBlocked_recipes (p : Part) (b : BlockedReason) : (p.setBlocked b).recipes = p.recipes := rfl
@[simp] theorem setBlocked_lanes (p : Part) (b : BlockedReason) : (p.setBlocked b).lanes = p.lanes := rfl
@[simp] theorem setBlocked_arb (p : Part) (b : BlockedReason) : (p.setBlocked b).arb = p.arb := rfl
@[simp] theorem setBlocked_valves (p : Part) (b : BlockedReason) : (p.setBlocked b).valves = p.valves := rfl
@[simp] theorem setBlocked_link (p : Part) (b : BlockedReason) : (p.setBlocked b).link = p.link := rfl
@[simp] theorem setBlocked_events (p : Part) (b : BlockedReason) : (p.setBlocked b).events = p.events := rfl

/-! ### setStaging -/

@[simp] theorem setStaging_supply (p : Part) (x : Option Staging) : (p.setStaging x).supply = p.supply := rfl
@[simp] theorem setStaging_resetHeld (p : Part) (x : Option Staging) : (p.setStaging x).resetHeld = p.resetHeld := rfl
@[simp] theorem setStaging_startUp (p : Part) (x : Option Staging) : (p.setStaging x).startUp = p.startUp := rfl
@[simp] theorem setStaging_plant (p : Part) (x : Option Staging) : (p.setStaging x).plant = p.plant := rfl
@[simp] theorem setStaging_plantReceived (p : Part) (x : Option Staging) : (p.setStaging x).plantReceived = p.plantReceived := rfl
@[simp] theorem setStaging_front (p : Part) (x : Option Staging) : (p.setStaging x).front = p.front := rfl
@[simp] theorem setStaging_table (p : Part) (x : Option Staging) : (p.setStaging x).table = p.table := rfl
@[simp] theorem setStaging_sched (p : Part) (x : Option Staging) : (p.setStaging x).sched = p.sched := rfl
@[simp] theorem setStaging_lanes (p : Part) (x : Option Staging) : (p.setStaging x).lanes = p.lanes := rfl
@[simp] theorem setStaging_arb (p : Part) (x : Option Staging) : (p.setStaging x).arb = p.arb := rfl
@[simp] theorem setStaging_valves (p : Part) (x : Option Staging) : (p.setStaging x).valves = p.valves := rfl
@[simp] theorem setStaging_link (p : Part) (x : Option Staging) : (p.setStaging x).link = p.link := rfl
@[simp] theorem setStaging_events (p : Part) (x : Option Staging) : (p.setStaging x).events = p.events := rfl

/-! ### putRecipe -/

@[simp] theorem putRecipe_supply (p : Part) (s : SlotId) (r : Option Recipe) : (p.putRecipe s r).supply = p.supply := rfl
@[simp] theorem putRecipe_resetHeld (p : Part) (s : SlotId) (r : Option Recipe) : (p.putRecipe s r).resetHeld = p.resetHeld := rfl
@[simp] theorem putRecipe_startUp (p : Part) (s : SlotId) (r : Option Recipe) : (p.putRecipe s r).startUp = p.startUp := rfl
@[simp] theorem putRecipe_plant (p : Part) (s : SlotId) (r : Option Recipe) : (p.putRecipe s r).plant = p.plant := rfl
@[simp] theorem putRecipe_plantReceived (p : Part) (s : SlotId) (r : Option Recipe) : (p.putRecipe s r).plantReceived = p.plantReceived := rfl
@[simp] theorem putRecipe_front (p : Part) (s : SlotId) (r : Option Recipe) : (p.putRecipe s r).front = p.front := rfl
@[simp] theorem putRecipe_table (p : Part) (s : SlotId) (r : Option Recipe) : (p.putRecipe s r).table = p.table := rfl
@[simp] theorem putRecipe_sched (p : Part) (s : SlotId) (r : Option Recipe) : (p.putRecipe s r).sched = p.sched := rfl
@[simp] theorem putRecipe_lanes (p : Part) (s : SlotId) (r : Option Recipe) : (p.putRecipe s r).lanes = p.lanes := rfl
@[simp] theorem putRecipe_arb (p : Part) (s : SlotId) (r : Option Recipe) : (p.putRecipe s r).arb = p.arb := rfl
@[simp] theorem putRecipe_valves (p : Part) (s : SlotId) (r : Option Recipe) : (p.putRecipe s r).valves = p.valves := rfl
@[simp] theorem putRecipe_link (p : Part) (s : SlotId) (r : Option Recipe) : (p.putRecipe s r).link = p.link := rfl
@[simp] theorem putRecipe_events (p : Part) (s : SlotId) (r : Option Recipe) : (p.putRecipe s r).events = p.events := rfl

/-! ### setRx -/

@[simp] theorem setRx_supply (p : Part) (x : RxState) : (p.setRx x).supply = p.supply := rfl
@[simp] theorem setRx_resetHeld (p : Part) (x : RxState) : (p.setRx x).resetHeld = p.resetHeld := rfl
@[simp] theorem setRx_startUp (p : Part) (x : RxState) : (p.setRx x).startUp = p.startUp := rfl
@[simp] theorem setRx_plant (p : Part) (x : RxState) : (p.setRx x).plant = p.plant := rfl
@[simp] theorem setRx_plantReceived (p : Part) (x : RxState) : (p.setRx x).plantReceived = p.plantReceived := rfl
@[simp] theorem setRx_front (p : Part) (x : RxState) : (p.setRx x).front = p.front := rfl
@[simp] theorem setRx_table (p : Part) (x : RxState) : (p.setRx x).table = p.table := rfl
@[simp] theorem setRx_sched (p : Part) (x : RxState) : (p.setRx x).sched = p.sched := rfl
@[simp] theorem setRx_recipes (p : Part) (x : RxState) : (p.setRx x).recipes = p.recipes := rfl
@[simp] theorem setRx_lanes (p : Part) (x : RxState) : (p.setRx x).lanes = p.lanes := rfl
@[simp] theorem setRx_arb (p : Part) (x : RxState) : (p.setRx x).arb = p.arb := rfl
@[simp] theorem setRx_valves (p : Part) (x : RxState) : (p.setRx x).valves = p.valves := rfl
@[simp] theorem setRx_events (p : Part) (x : RxState) : (p.setRx x).events = p.events := rfl

/-! ### setCursor -/

@[simp] theorem setCursor_supply (p : Part) (c : Option Nat) : (p.setCursor c).supply = p.supply := rfl
@[simp] theorem setCursor_resetHeld (p : Part) (c : Option Nat) : (p.setCursor c).resetHeld = p.resetHeld := rfl
@[simp] theorem setCursor_startUp (p : Part) (c : Option Nat) : (p.setCursor c).startUp = p.startUp := rfl
@[simp] theorem setCursor_plant (p : Part) (c : Option Nat) : (p.setCursor c).plant = p.plant := rfl
@[simp] theorem setCursor_plantReceived (p : Part) (c : Option Nat) : (p.setCursor c).plantReceived = p.plantReceived := rfl
@[simp] theorem setCursor_front (p : Part) (c : Option Nat) : (p.setCursor c).front = p.front := rfl
@[simp] theorem setCursor_table (p : Part) (c : Option Nat) : (p.setCursor c).table = p.table := rfl
@[simp] theorem setCursor_sched (p : Part) (c : Option Nat) : (p.setCursor c).sched = p.sched := rfl
@[simp] theorem setCursor_recipes (p : Part) (c : Option Nat) : (p.setCursor c).recipes = p.recipes := rfl
@[simp] theorem setCursor_lanes (p : Part) (c : Option Nat) : (p.setCursor c).lanes = p.lanes := rfl
@[simp] theorem setCursor_arb (p : Part) (c : Option Nat) : (p.setCursor c).arb = p.arb := rfl
@[simp] theorem setCursor_valves (p : Part) (c : Option Nat) : (p.setCursor c).valves = p.valves := rfl
@[simp] theorem setCursor_events (p : Part) (c : Option Nat) : (p.setCursor c).events = p.events := rfl

/-! ### deriveTank -/

@[simp] theorem deriveTank_supply (p : Part) : (p.deriveTank).supply = p.supply := rfl
@[simp] theorem deriveTank_resetHeld (p : Part) : (p.deriveTank).resetHeld = p.resetHeld := rfl
@[simp] theorem deriveTank_startUp (p : Part) : (p.deriveTank).startUp = p.startUp := rfl
@[simp] theorem deriveTank_plant (p : Part) : (p.deriveTank).plant = p.plant := rfl
@[simp] theorem deriveTank_plantReceived (p : Part) : (p.deriveTank).plantReceived = p.plantReceived := rfl
@[simp] theorem deriveTank_table (p : Part) : (p.deriveTank).table = p.table := rfl
@[simp] theorem deriveTank_sched (p : Part) : (p.deriveTank).sched = p.sched := rfl
@[simp] theorem deriveTank_recipes (p : Part) : (p.deriveTank).recipes = p.recipes := rfl
@[simp] theorem deriveTank_lanes (p : Part) : (p.deriveTank).lanes = p.lanes := rfl
@[simp] theorem deriveTank_arb (p : Part) : (p.deriveTank).arb = p.arb := rfl
@[simp] theorem deriveTank_valves (p : Part) : (p.deriveTank).valves = p.valves := rfl
@[simp] theorem deriveTank_link (p : Part) : (p.deriveTank).link = p.link := rfl
@[simp] theorem deriveTank_events (p : Part) : (p.deriveTank).events = p.events := rfl

/-! ### deriveBasin -/

@[simp] theorem deriveBasin_supply (p : Part) : (p.deriveBasin).supply = p.supply := rfl
@[simp] theorem deriveBasin_resetHeld (p : Part) : (p.deriveBasin).resetHeld = p.resetHeld := rfl
@[simp] theorem deriveBasin_startUp (p : Part) : (p.deriveBasin).startUp = p.startUp := rfl
@[simp] theorem deriveBasin_plant (p : Part) : (p.deriveBasin).plant = p.plant := rfl
@[simp] theorem deriveBasin_plantReceived (p : Part) : (p.deriveBasin).plantReceived = p.plantReceived := rfl
@[simp] theorem deriveBasin_table (p : Part) : (p.deriveBasin).table = p.table := rfl
@[simp] theorem deriveBasin_sched (p : Part) : (p.deriveBasin).sched = p.sched := rfl
@[simp] theorem deriveBasin_recipes (p : Part) : (p.deriveBasin).recipes = p.recipes := rfl
@[simp] theorem deriveBasin_lanes (p : Part) : (p.deriveBasin).lanes = p.lanes := rfl
@[simp] theorem deriveBasin_arb (p : Part) : (p.deriveBasin).arb = p.arb := rfl
@[simp] theorem deriveBasin_valves (p : Part) : (p.deriveBasin).valves = p.valves := rfl
@[simp] theorem deriveBasin_link (p : Part) : (p.deriveBasin).link = p.link := rfl
@[simp] theorem deriveBasin_events (p : Part) : (p.deriveBasin).events = p.events := rfl

/-! ### Families: reading back -/

@[simp] theorem perLane_get_set {α : Type} (x : PerLane α) (l : LaneId) (v : α) : (x.set l v).get l = v := by
  cases l <;> rfl

theorem perLane_get_set_ne {α : Type} (x : PerLane α) {l m : LaneId} (h : m ≠ l) (v : α) :
    (x.set l v).get m = x.get m := by
  cases l <;> cases m <;> first | rfl | exact absurd rfl h

@[simp] theorem perUnit_get_set {α : Type} (x : PerUnit α) (u : UnitId) (v : α) : (x.set u v).get u = v := by
  cases u <;> rfl

theorem perUnit_get_set_ne {α : Type} (x : PerUnit α) {u w : UnitId} (h : w ≠ u) (v : α) :
    (x.set u v).get w = x.get w := by
  cases u <;> cases w <;> first | rfl | exact absurd rfl h

@[simp] theorem perRole_get_set {α : Type} (x : PerRole α) (r : Role) (v : α) : (x.set r v).get r = v := by
  cases r <;> rfl

theorem perRole_get_set_ne {α : Type} (x : PerRole α) {r q : Role} (h : q ≠ r) (v : α) :
    (x.set r v).get q = x.get q := by
  cases r <;> cases q <;> first | rfl | exact absurd rfl h

/-! ### Writing and reading one thing -/

@[simp] theorem lane_putLane (p : Part) (l : LaneId) (w : Option Wash) : (p.putLane l w).lane l = w := by
  simp [Part.putLane, Part.lane]

theorem lane_putLane_ne (p : Part) {l m : LaneId} (h : m ≠ l) (w : Option Wash) :
    (p.putLane l w).lane m = p.lane m := by
  simp [Part.putLane, Part.lane, perLane_get_set_ne _ h]

@[simp] theorem unit_putUnit (p : Part) (u : UnitId) (x : UnitRecord) : (p.putUnit u x).unit u = x := by
  simp [Part.putUnit, Part.unit]

theorem unit_putUnit_ne (p : Part) {u w : UnitId} (h : w ≠ u) (x : UnitRecord) :
    (p.putUnit u x).unit w = p.unit w := by
  simp [Part.putUnit, Part.unit, perUnit_get_set_ne _ h]

@[simp] theorem filter_putFilter (p : Part) (f : FilterId) (r : Option FilterRecord) :
    (p.putFilter f r).filter f = r := by
  simp [Part.putFilter, Part.filter]

theorem filter_putFilter_ne (p : Part) {f g : FilterId} (h : g ≠ f) (r : Option FilterRecord) :
    (p.putFilter f r).filter g = p.filter g := by
  have h' : (f : Nat) ≠ g := fun e => h (Fin.ext e.symm)
  simp [Part.putFilter, Part.filter, h']

@[simp] theorem marker_putFilter (p : Part) (f : FilterId) (r : Option FilterRecord) :
    (p.putFilter f r).table.marker = p.table.marker := rfl

@[simp] theorem filter_setMarker (p : Part) (m : Option FilterId) (f : FilterId) :
    (p.setMarker m).filter f = p.filter f := rfl

@[simp] theorem channel_putChannel (p : Part) (ch : ChannelId) (c : Channel) :
    (p.putChannel ch c).channel ch = c := by
  simp [Part.putChannel, Part.channel]

theorem channel_putChannel_ne (p : Part) {ch d : ChannelId} (h : d ≠ ch) (c : Channel) :
    (p.putChannel ch c).channel d = p.channel d := by
  have h' : (ch : Nat) ≠ d := fun e => h (Fin.ext e.symm)
  simp [Part.putChannel, Part.channel, h']

@[simp] theorem stop_putChannel (p : Part) (ch : ChannelId) (c : Channel) :
    (p.putChannel ch c).valves.stop = p.valves.stop := rfl

@[simp] theorem map_putChannel (p : Part) (ch : ChannelId) (c : Channel) :
    (p.putChannel ch c).valves.map = p.valves.map := rfl

@[simp] theorem selection_putChannel (p : Part) (ch : ChannelId) (c : Channel) :
    (p.putChannel ch c).valves.selection = p.valves.selection := rfl

@[simp] theorem capture_putChannel (p : Part) (ch : ChannelId) (c : Channel) :
    (p.putChannel ch c).valves.capture = p.valves.capture := rfl

@[simp] theorem channels_setSelection (p : Part) (x : Option ChannelId) :
    (p.setSelection x).valves.channels = p.valves.channels := rfl

@[simp] theorem stop_setSelection (p : Part) (x : Option ChannelId) :
    (p.setSelection x).valves.stop = p.valves.stop := rfl

@[simp] theorem map_setSelection (p : Part) (x : Option ChannelId) :
    (p.setSelection x).valves.map = p.valves.map := rfl

theorem point_writePoint (p : Part) (id : PointId) (x : Point) : (p.writePoint id x).point id = x := by
  cases id <;> simp [Part.writePoint, Part.point]

@[simp] theorem events_raise (p : Part) (e : Event) : (p.raise e).events = p.events ++ [e] := rfl

@[simp] theorem events_raiseAll (p : Part) (es : List Event) : (p.raiseAll es).events = p.events ++ es := rfl

@[simp] theorem recipe_putRecipe (p : Part) (s : SlotId) (r : Option Recipe) : (p.putRecipe s r).recipe s = r := by
  simp [Part.putRecipe, Part.recipe]

@[simp] theorem staging_setStaging (p : Part) (x : Option Staging) : (p.setStaging x).recipes.staging = x := rfl

@[simp] theorem cursor_setCursor (p : Part) (c : Option Nat) : (p.setCursor c).link.cursor = c := rfl

/-! ### Reads that see one block -/

theorem filter_of_table {p q : Part} (h : q.table = p.table) (f : FilterId) : q.filter f = p.filter f := by
  simp [Part.filter, h]

theorem channel_of_valves {p q : Part} (h : q.valves = p.valves) (ch : ChannelId) : q.channel ch = p.channel ch := by
  simp [Part.channel, h]

theorem lane_of_lanes {p q : Part} (h : q.lanes = p.lanes) (l : LaneId) : q.lane l = p.lane l := by
  simp [Part.lane, h]

theorem unit_of_arb {p q : Part} (h : q.arb = p.arb) (u : UnitId) : q.unit u = p.unit u := by
  simp [Part.unit, h]

theorem point_of_front {p q : Part} (h : q.front = p.front) (id : PointId) : q.point id = p.point id := by
  cases id <;> simp [Part.point, h]

theorem entry_of_queue {p q : Part} (h : q.sched.queue = p.sched.queue) (f : FilterId) : q.entry f = p.entry f := by
  simp [Part.entry, h]

/-! ### Every lane, unit, role is listed -/

theorem mem_allLanes (l : LaneId) : l ∈ allLanes := by cases l <;> simp [allLanes]

theorem mem_allUnits (u : UnitId) : u ∈ allUnits := by cases u <;> simp [allUnits]

theorem mem_allRoles (r : Role) : r ∈ allRoles := by cases r <;> simp [allRoles]

theorem mem_allFilters (f : FilterId) : f ∈ allFilters := List.mem_finRange f

theorem mem_allChannels (ch : ChannelId) : ch ∈ allChannels := List.mem_finRange ch

end Sys2Proof.Laws
end

