-- ==== Sys2Proof/Laws/Frames.lean ====
section
/-! SUPPORT. What each shared operation can change: one lemma an operation, in the form in which `simp` strips the
operations off a part, the last one first. -/

namespace Sys2Proof.Laws

open Sys2Proof.Machine

set_option linter.unusedSimpArgs false

/-! ### `OnlyChanges` -/

@[simp] theorem onlyChanges_refl (xs : List Piece) (p : Part) : OnlyChanges xs p p := by
  intro x _
  cases x <;> simp [Piece.kept]

theorem onlyChanges_trans {xs : List Piece} {p q r : Part} (h : OnlyChanges xs p q) (k : OnlyChanges xs q r) :
    OnlyChanges xs p r := by
  intro x hx
  have a := h x hx
  have b := k x hx
  cases x <;> simp_all [Piece.kept]

theorem onlyChanges_symm {xs : List Piece} {p q : Part} (h : OnlyChanges xs p q) : OnlyChanges xs q p := by
  intro x hx
  have a := h x hx
  cases x <;> simp_all [Piece.kept]

theorem onlyChanges_mono {xs ys : List Piece} {p q : Part} (h : OnlyChanges ys p q) (s : ys ⊆ xs) :
    OnlyChanges xs p q := fun x hx => h x fun hy => hx (s hy)

/-- The pieces are the whole part. -/
theorem onlyChanges_nil {p q : Part} : OnlyChanges [] p q ↔ q = p := by
  constructor
  · intro h
    have k : ∀ x : Piece, x.kept p q := fun x => h x (by simp)
    have h1 := k .supply
    have h2 := k .resetHeld
    have h3 := k .plant
    have h4 := k .plantReceived
    have h5 := k .lanes
    have h6 := k .events
    have e1 : q.startUp = p.startUp := by
      have a1 := k .clock; have a2 := k .top; have a3 := k .survey; have a4 := k .readyCall
      have a5 := k .silence; have a6 := k .silent; have a7 := k .lastAccepted
      simp only [Piece.kept] at a1 a2 a3 a4 a5 a6 a7
      cases hq : q.startUp; cases hp : p.startUp; simp_all
    have e2 : q.front = p.front := by
      have a1 := k .counts; have a2 := k .points; have a3 := k .volumes
      simp only [Piece.kept] at a1 a2 a3
      cases hq : q.front; cases hp : p.front; simp_all
    have e3 : q.table = p.table := by
      have a1 := k .filters; have a2 := k .marker
      simp only [Piece.kept] at a1 a2
      cases hq : q.table; cases hp : p.table; simp_all
    have e4 : q.sched = p.sched := by
      have a1 := k .queue; have a2 := k .mask; have a3 := k .mode; have a4 := k .blocked; have a5 := k .proposal
      have a6 := k .shares; have a7 := k .lastAdmission; have a8 := k .overload; have a9 := k .flags
      have a10 := k .scanDue
      simp only [Piece.kept] at a1 a2 a3 a4 a5 a6 a7 a8 a9 a10
      cases hq : q.sched; cases hp : p.sched; simp_all
    have e5 : q.recipes = p.recipes := by
      have a1 := k .slots; have a2 := k .staging
      simp only [Piece.kept] at a1 a2
      cases hq : q.recipes; cases hp : p.recipes; simp_all
    have e6 : q.arb = p.arb := by
      have a1 := k .units; have a2 := k .duty; have a3 := k .pumpWait; have a4 := k .blowerWait
      simp only [Piece.kept] at a1 a2 a3 a4
      cases hq : q.arb; cases hp : p.arb; simp_all
    have e7 : q.valves = p.valves := by
      have a1 := k .channels; have a2 := k .map; have a3 := k .selection; have a4 := k .capture; have a5 := k .stop
      simp only [Piece.kept] at a1 a2 a3 a4 a5
      cases hq : q.valves; cases hp : p.valves; simp_all
    have e8 : q.link = p.link := by
      have a1 := k .rx; have a2 := k .rxQueue; have a3 := k .reply; have a4 := k .reports; have a5 := k .sending
      have a6 := k .seq; have a7 := k .errors; have a8 := k .overflow; have a9 := k .reportLoss; have a10 := k .cursor
      have a11 := k .rate; have a12 := k .softReset
      simp only [Piece.kept] at a1 a2 a3 a4 a5 a6 a7 a8 a9 a10 a11 a12
      cases hq : q.link; cases hp : p.link; simp_all
    simp only [Piece.kept] at h1 h2 h3 h4 h5 h6
    cases q; cases p; simp_all
  · rintro rfl
    exact onlyChanges_refl _ _

/-- An operation that changes only `ys` is stripped off wherever `ys` may change. -/
theorem strip {xs ys : List Piece} {p₀ p q : Part} (s : ys ⊆ xs) (h : OnlyChanges ys p q) :
    OnlyChanges xs p₀ q ↔ OnlyChanges xs p₀ p :=
  ⟨fun k => onlyChanges_trans k (onlyChanges_symm (onlyChanges_mono h s)),
    fun k => onlyChanges_trans k (onlyChanges_mono h s)⟩

@[simp] theorem foldl_keeps {α : Type} {xs : List Piece} {p₀ : Part} {g : Part → α → Part} (l : List α) (p : Part)
    (h : ∀ p x, OnlyChanges xs p₀ (g p x) ↔ OnlyChanges xs p₀ p) :
    OnlyChanges xs p₀ (l.foldl g p) ↔ OnlyChanges xs p₀ p := by
  induction l generalizing p with
  | nil => rfl
  | cons x l ih => rw [List.foldl_cons, ih, h]



/-! ### A block written -/

@[simp] theorem with_startUp_keeps {xs : List Piece} {p₀ p : Part} {v : StartUp}
    (h0 : .clock ∈ xs ∨ v.clock = p.startUp.clock) (h1 : .top ∈ xs ∨ v.top = p.startUp.top)
    (h2 : .survey ∈ xs ∨ v.survey = p.startUp.survey) (h3 : .readyCall ∈ xs ∨ v.readyCall = p.startUp.readyCall)
    (h4 : .silence ∈ xs ∨ v.silence = p.startUp.silence) (h5 : .silent ∈ xs ∨ v.silent = p.startUp.silent)
    (h6 : .lastAccepted ∈ xs ∨ v.lastAccepted = p.startUp.lastAccepted) :
    OnlyChanges xs p₀ { p with startUp := v } ↔ OnlyChanges xs p₀ p :=
  strip (List.Subset.refl xs) fun x hx => by cases x <;> simp_all [Piece.kept]

@[simp] theorem with_plant_keeps {xs : List Piece} {p₀ p : Part} {v : PlantRecord} (h : .plant ∈ xs ∨ v = p.plant) :
    OnlyChanges xs p₀ { p with plant := v } ↔ OnlyChanges xs p₀ p :=
  strip (List.Subset.refl xs) fun x hx => by cases x <;> simp_all [Piece.kept]

@[simp] theorem with_table_keeps {xs : List Piece} {p₀ p : Part} {v : FilterTable}
    (h0 : .filters ∈ xs ∨ v.filters = p.table.filters) (h1 : .marker ∈ xs ∨ v.marker = p.table.marker) :
    OnlyChanges xs p₀ { p with table := v } ↔ OnlyChanges xs p₀ p :=
  strip (List.Subset.refl xs) fun x hx => by cases x <;> simp_all [Piece.kept]

@[simp] theorem with_sched_keeps {xs : List Piece} {p₀ p : Part} {v : Scheduler}
    (h0 : .queue ∈ xs ∨ v.queue = p.sched.queue) (h1 : .mask ∈ xs ∨ v.mask = p.sched.mask)
    (h2 : .mode ∈ xs ∨ v.mode = p.sched.mode) (h3 : .blocked ∈ xs ∨ v.blocked = p.sched.blocked)
    (h4 : .proposal ∈ xs ∨ v.proposal = p.sched.proposal) (h5 : .shares ∈ xs ∨ v.shares = p.sched.shares)
    (h6 : .lastAdmission ∈ xs ∨ v.lastAdmission = p.sched.lastAdmission)
    (h7 : .overload ∈ xs ∨ v.overload = p.sched.overload) (h8 : .flags ∈ xs ∨ v.flags = p.sched.flags)
    (h9 : .scanDue ∈ xs ∨ v.scanDue = p.sched.scanDue) :
    OnlyChanges xs p₀ { p with sched := v } ↔ OnlyChanges xs p₀ p :=
  strip (List.Subset.refl xs) fun x hx => by cases x <;> simp_all [Piece.kept]

@[simp] theorem with_recipes_keeps {xs : List Piece} {p₀ p : Part} {v : RecipeStore}
    (h0 : .slots ∈ xs ∨ v.slots = p.recipes.slots) (h1 : .staging ∈ xs ∨ v.staging = p.recipes.staging) :
    OnlyChanges xs p₀ { p with recipes := v } ↔ OnlyChanges xs p₀ p :=
  strip (List.Subset.refl xs) fun x hx => by cases x <;> simp_all [Piece.kept]

@[simp] theorem with_arb_keeps {xs : List Piece} {p₀ p : Part} {v : Arbiter}
    (h0 : .units ∈ xs ∨ v.units = p.arb.units) (h1 : .duty ∈ xs ∨ v.duty = p.arb.duty)
    (h2 : .pumpWait ∈ xs ∨ v.pumpWait = p.arb.pumpWait) (h3 : .blowerWait ∈ xs ∨ v.blowerWait = p.arb.blowerWait) :
    OnlyChanges xs p₀ { p with arb := v } ↔ OnlyChanges xs p₀ p :=
  strip (List.Subset.refl xs) fun x hx => by cases x <;> simp_all [Piece.kept]

@[simp] theorem with_valves_keeps {xs : List Piece} {p₀ p : Part} {v : ValveField}
    (h0 : .channels ∈ xs ∨ v.channels = p.valves.channels) (h1 : .map ∈ xs ∨ v.map = p.valves.map)
    (h2 : .selection ∈ xs ∨ v.selection = p.valves.selection) (h3 : .capture ∈ xs ∨ v.capture = p.valves.capture)
    (h4 : .stop ∈ xs ∨ v.stop = p.valves.stop) :
    OnlyChanges xs p₀ { p with valves := v } ↔ OnlyChanges xs p₀ p :=
  strip (List.Subset.refl xs) fun x hx => by cases x <;> simp_all [Piece.kept]

@[simp] theorem with_link_keeps {xs : List Piece} {p₀ p : Part} {v : LinkPort}
    (h0 : .rx ∈ xs ∨ v.rx = p.link.rx) (h1 : .rxQueue ∈ xs ∨ v.queue = p.link.queue)
    (h2 : .reply ∈ xs ∨ v.reply = p.link.reply) (h3 : .reports ∈ xs ∨ v.reports = p.link.reports)
    (h4 : .sending ∈ xs ∨ v.sending = p.link.sending) (h5 : .seq ∈ xs ∨ v.seq = p.link.seq)
    (h6 : .errors ∈ xs ∨ v.errors = p.link.errors) (h7 : .overflow ∈ xs ∨ v.overflow = p.link.overflow)
    (h8 : .reportLoss ∈ xs ∨ v.reportLoss = p.link.reportLoss) (h9 : .cursor ∈ xs ∨ v.cursor = p.link.cursor)
    (h10 : .rate ∈ xs ∨ v.rate = p.link.rate) (h11 : .softReset ∈ xs ∨ v.softReset = p.link.softReset) :
    OnlyChanges xs p₀ { p with link := v } ↔ OnlyChanges xs p₀ p :=
  strip (List.Subset.refl xs) fun x hx => by cases x <;> simp_all [Piece.kept]

@[simp] theorem with_lanes_keeps {xs : List Piece} {p₀ p : Part} {v : PerLane (Option Wash)} (h : .lanes ∈ xs) :
    OnlyChanges xs p₀ { p with lanes := v } ↔ OnlyChanges xs p₀ p :=
  strip (List.Subset.refl xs) fun x hx => by cases x <;> simp_all [Piece.kept]

@[simp] theorem with_events_keeps {xs : List Piece} {p₀ p : Part} {v : List Event} (h : .events ∈ xs) :
    OnlyChanges xs p₀ { p with events := v } ↔ OnlyChanges xs p₀ p :=
  strip (List.Subset.refl xs) fun x hx => by cases x <;> simp_all [Piece.kept]

@[simp] theorem with_front_keeps {xs : List Piece} {p₀ p : Part} {v : FrontEnd}
    (h0 : .counts ∈ xs ∨ v.counts = p.front.counts)
    (h1 : .points ∈ xs ∨ (v.hl = p.front.hl ∧ v.tb = p.front.tb ∧ v.flow = p.front.flow ∧ v.tank = p.front.tank ∧
      v.basin = p.front.basin))
    (h2 : .volumes ∈ xs ∨ (v.tankAvail = p.front.tankAvail ∧ v.basinRoom = p.front.basinRoom)) :
    OnlyChanges xs p₀ { p with front := v } ↔ OnlyChanges xs p₀ p :=
  strip (List.Subset.refl xs) fun x hx => by cases x <;> simp_all [Piece.kept]

@[simp] theorem with_valves_events_keeps {xs : List Piece} {p₀ p : Part} {v : ValveField} {e : List Event}
    (h0 : .channels ∈ xs ∨ v.channels = p.valves.channels) (h1 : .map ∈ xs ∨ v.map = p.valves.map) (h2 : .selection ∈ xs ∨ v.selection = p.valves.selection)
    (h3 : .capture ∈ xs ∨ v.capture = p.valves.capture) (h4 : .stop ∈ xs ∨ v.stop = p.valves.stop) (h5 : .events ∈ xs) :
    OnlyChanges xs p₀ { p with valves := v, events := e } ↔ OnlyChanges xs p₀ p :=
  strip (List.Subset.refl xs) fun x hx => by cases x <;> simp_all [Piece.kept]

/-! ### Primitive updates -/

@[simp] theorem putFilter_keeps {xs : List Piece} {p₀ p : Part} (f : FilterId) (r : Option FilterRecord) (h : [.filters] ⊆ xs) :
    OnlyChanges xs p₀ (p.putFilter f r) ↔ OnlyChanges xs p₀ p := by
  simp [reporting] at h
  unfold Part.putFilter
  try dsimp only
  (repeat' split) <;> simp [h, reporting]

@[simp] theorem setMarker_keeps {xs : List Piece} {p₀ p : Part} (m : Option FilterId) (h : [.marker] ⊆ xs) :
    OnlyChanges xs p₀ (p.setMarker m) ↔ OnlyChanges xs p₀ p := by
  simp [reporting] at h
  unfold Part.setMarker
  try dsimp only
  (repeat' split) <;> simp [h, reporting]

@[simp] theorem putChannel_keeps {xs : List Piece} {p₀ p : Part} (ch : ChannelId) (c : Channel) (h : [.channels] ⊆ xs) :
    OnlyChanges xs p₀ (p.putChannel ch c) ↔ OnlyChanges xs p₀ p := by
  simp [reporting] at h
  unfold Part.putChannel
  try dsimp only
  (repeat' split) <;> simp [h, reporting]

@[simp] theorem setSelection_keeps {xs : List Piece} {p₀ p : Part} (sel : Option ChannelId) (h : [.selection] ⊆ xs) :
    OnlyChanges xs p₀ (p.setSelection sel) ↔ OnlyChanges xs p₀ p := by
  simp [reporting] at h
  unfold Part.setSelection
  try dsimp only
  (repeat' split) <;> simp [h, reporting]

@[simp] theorem putUnit_keeps {xs : List Piece} {p₀ p : Part} (u : UnitId) (x : UnitRecord) (h : [.units] ⊆ xs) :
    OnlyChanges xs p₀ (p.putUnit u x) ↔ OnlyChanges xs p₀ p := by
  simp [reporting] at h
  unfold Part.putUnit
  try dsimp only
  (repeat' split) <;> simp [h, reporting]

@[simp] theorem putLane_keeps {xs : List Piece} {p₀ p : Part} (l : LaneId) (w : Option Wash) (h : [.lanes] ⊆ xs) :
    OnlyChanges xs p₀ (p.putLane l w) ↔ OnlyChanges xs p₀ p := by
  simp [reporting] at h
  unfold Part.putLane
  try dsimp only
  (repeat' split) <;> simp [h, reporting]

@[simp] theorem raise_keeps {xs : List Piece} {p₀ p : Part} (e : Event) (h : [.events] ⊆ xs) :
    OnlyChanges xs p₀ (p.raise e) ↔ OnlyChanges xs p₀ p := by
  simp [reporting] at h
  unfold Part.raise
  try dsimp only
  (repeat' split) <;> simp [h, reporting]

@[simp] theorem raiseAll_keeps {xs : List Piece} {p₀ p : Part} (es : List Event) (h : [.events] ⊆ xs) :
    OnlyChanges xs p₀ (p.raiseAll es) ↔ OnlyChanges xs p₀ p := by
  simp [reporting] at h
  unfold Part.raiseAll
  try dsimp only
  (repeat' split) <;> simp [h, reporting]

@[simp] theorem cancel_keeps {xs : List Piece} {p₀ p : Part} (e : Event) (h : [.events] ⊆ xs) :
    OnlyChanges xs p₀ (p.cancel e) ↔ OnlyChanges xs p₀ p := by
  simp [reporting] at h
  unfold Part.cancel
  try dsimp only
  (repeat' split) <;> simp [h, reporting]

@[simp] theorem setBlocked_keeps {xs : List Piece} {p₀ p : Part} (b : BlockedReason) (h : [.blocked] ⊆ xs) :
    OnlyChanges xs p₀ (p.setBlocked b) ↔ OnlyChanges xs p₀ p := by
  simp [reporting] at h
  unfold Part.setBlocked
  try dsimp only
  (repeat' split) <;> simp [h, reporting]

@[simp] theorem setStaging_keeps {xs : List Piece} {p₀ p : Part} (x : Option Staging) (h : [.staging] ⊆ xs) :
    OnlyChanges xs p₀ (p.setStaging x) ↔ OnlyChanges xs p₀ p := by
  simp [reporting] at h
  unfold Part.setStaging
  try dsimp only
  (repeat' split) <;> simp [h, reporting]

@[simp] theorem putRecipe_keeps {xs : List Piece} {p₀ p : Part} (s : SlotId) (r : Option Recipe) (h : [.slots] ⊆ xs) :
    OnlyChanges xs p₀ (p.putRecipe s r) ↔ OnlyChanges xs p₀ p := by
  simp [reporting] at h
  unfold Part.putRecipe
  try dsimp only
  (repeat' split) <;> simp [h, reporting]

@[simp] theorem setRx_keeps {xs : List Piece} {p₀ p : Part} (x : RxState) (h : [.rx] ⊆ xs) :
    OnlyChanges xs p₀ (p.setRx x) ↔ OnlyChanges xs p₀ p := by
  simp [reporting] at h
  unfold Part.setRx
  try dsimp only
  (repeat' split) <;> simp [h, reporting]

@[simp] theorem setCursor_keeps {xs : List Piece} {p₀ p : Part} (c : Option Nat) (h : [.cursor] ⊆ xs) :
    OnlyChanges xs p₀ (p.setCursor c) ↔ OnlyChanges xs p₀ p := by
  simp [reporting] at h
  unfold Part.setCursor
  try dsimp only
  (repeat' split) <;> simp [h, reporting]

@[simp] theorem deriveTank_keeps {xs : List Piece} {p₀ p : Part} (h : [.volumes] ⊆ xs) :
    OnlyChanges xs p₀ p.deriveTank ↔ OnlyChanges xs p₀ p := by
  simp [reporting] at h
  unfold Part.deriveTank
  try dsimp only
  (repeat' split) <;> simp [h, reporting]

@[simp] theorem deriveBasin_keeps {xs : List Piece} {p₀ p : Part} (h : [.volumes] ⊆ xs) :
    OnlyChanges xs p₀ p.deriveBasin ↔ OnlyChanges xs p₀ p := by
  simp [reporting] at h
  unfold Part.deriveBasin
  try dsimp only
  (repeat' split) <;> simp [h, reporting]

/-! ### Reports, events, flags -/

@[simp] theorem raiseOnce_keeps {xs : List Piece} {p₀ p : Part} (e : Event) (h : [.events] ⊆ xs) :
    OnlyChanges xs p₀ (p.raiseOnce e) ↔ OnlyChanges xs p₀ p := by
  simp [reporting] at h
  unfold Part.raiseOnce
  try dsimp only
  (repeat' split) <;> simp [h, reporting]

@[simp] theorem trigger_keeps {xs : List Piece} {p₀ p : Part} (h : [.scanDue] ⊆ xs) :
    OnlyChanges xs p₀ p.trigger ↔ OnlyChanges xs p₀ p := by
  simp [reporting] at h
  unfold Part.trigger
  try dsimp only
  (repeat' split) <;> simp [h, reporting]

@[simp] theorem report_keeps {xs : List Piece} {p₀ p : Part} (b : ReportBody) (h : reporting ⊆ xs) :
    OnlyChanges xs p₀ (p.report b) ↔ OnlyChanges xs p₀ p := by
  simp at h
  unfold Part.report LinkPort.beginSend
  dsimp only
  (repeat' split) <;> simp [h]

@[simp] theorem linkError_keeps {xs : List Piece} {p₀ p : Part} (h : [.errors, .overflow] ⊆ xs) :
    OnlyChanges xs p₀ p.linkError ↔ OnlyChanges xs p₀ p := by
  simp at h
  unfold Part.linkError
  dsimp only
  split <;> simp [h]

@[simp] theorem setFlags_keeps {xs : List Piece} {p₀ p : Part} (met : CalcFlags) (origin : CalcOrigin) (h : [Piece.flags] ++ reporting ⊆ xs) :
    OnlyChanges xs p₀ (p.setFlags met origin) ↔ OnlyChanges xs p₀ p := by
  simp at h
  unfold Part.setFlags
  dsimp only
  rw [foldl_keeps]
  · simp [h]
  · intro p k
    split <;> simp [h]

/-! ### Points -/

@[simp] theorem writePoint_keeps {xs : List Piece} {p₀ p : Part} (id : PointId) (x : Point) (h : [.points] ⊆ xs) :
    OnlyChanges xs p₀ (p.writePoint id x) ↔ OnlyChanges xs p₀ p := by
  simp [reporting] at h
  unfold Part.writePoint
  try dsimp only
  (repeat' split) <;> simp [h, reporting]

@[simp] theorem tellReaders_keeps {xs : List Piece} {p₀ p : Part} (id : PointId) (h : [.volumes, .events] ⊆ xs) :
    OnlyChanges xs p₀ (p.tellReaders id) ↔ OnlyChanges xs p₀ p := by
  simp [reporting] at h
  unfold Part.tellReaders
  try dsimp only
  (repeat' split) <;> simp [h, reporting]

@[simp] theorem putPoint_keeps {xs : List Piece} {p₀ p : Part} (id : PointId) (x : Point) (h : [Piece.points, .volumes, .events] ++ reporting ⊆ xs) :
    OnlyChanges xs p₀ (p.putPoint id x) ↔ OnlyChanges xs p₀ p := by
  simp [reporting] at h
  unfold Part.putPoint
  try dsimp only
  (repeat' split) <;> simp [h, reporting]

@[simp] theorem takeSample_keeps {xs : List Piece} {p₀ p : Part} (id : PointId) (c : Nat) (h : [Piece.points, .volumes, .events] ++ reporting ⊆ xs) :
    OnlyChanges xs p₀ (p.takeSample id c) ↔ OnlyChanges xs p₀ p := by
  simp [reporting] at h
  unfold Part.takeSample
  try dsimp only
  (repeat' split) <;> simp [h, reporting]

@[simp] theorem scanInputs_keeps {xs : List Piece} {p₀ p : Part} (counts : Vector (BitVec 12) 40) (h : [.counts, .events] ⊆ xs) :
    OnlyChanges xs p₀ (p.scanInputs counts) ↔ OnlyChanges xs p₀ p := by
  simp [reporting] at h
  unfold Part.scanInputs
  try dsimp only
  (repeat' split) <;> simp [h, reporting]

@[simp] theorem goStale_keeps {xs : List Piece} {p₀ p : Part} (id : PointId) (h : [Piece.points, .volumes, .events] ++ reporting ⊆ xs) :
    OnlyChanges xs p₀ (p.goStale id) ↔ OnlyChanges xs p₀ p := by
  simp [reporting] at h
  unfold Part.goStale
  try dsimp only
  (repeat' split) <;> simp [h, reporting]

@[simp] theorem startPoint_keeps {xs : List Piece} {p₀ p : Part} (id : PointId) (src : PointSource) (h : [Piece.points, .volumes, .events] ++ reporting ⊆ xs) :
    OnlyChanges xs p₀ (p.startPoint id src) ↔ OnlyChanges xs p₀ p := by
  simp [reporting] at h
  unfold Part.startPoint
  try dsimp only
  (repeat' split) <;> simp [h, reporting]

@[simp] theorem push_keeps {xs : List Piece} {p₀ p : Part} (id : PointId) (v : Nat) (h : [Piece.points, .volumes, .events] ++ reporting ⊆ xs) :
    OnlyChanges xs p₀ (p.push id v) ↔ OnlyChanges xs p₀ p := by
  simp [reporting] at h
  unfold Part.push
  try dsimp only
  (repeat' split) <;> simp [h, reporting]

/-! ### Queue -/

@[simp] theorem putEntry_keeps {xs : List Piece} {p₀ p : Part} (e : Entry) (h : [.queue] ⊆ xs) :
    OnlyChanges xs p₀ (p.putEntry e) ↔ OnlyChanges xs p₀ p := by
  simp [reporting] at h
  unfold Part.putEntry
  try dsimp only
  (repeat' split) <;> simp [h, reporting]

@[simp] theorem withdraw_keeps {xs : List Piece} {p₀ p : Part} (cause : WithdrawalCause) (deferUntil : Option Nat) (h : [Piece.proposal, .scanDue, .events] ++ reporting ⊆ xs) :
    OnlyChanges xs p₀ (p.withdraw cause deferUntil) ↔ OnlyChanges xs p₀ p := by
  simp [reporting] at h
  unfold Part.withdraw
  try dsimp only
  (repeat' split) <;> simp [h, reporting]

@[simp] theorem withdrawFor_keeps {xs : List Piece} {p₀ p : Part} (f : FilterId) (cause : WithdrawalCause) (h : [Piece.proposal, .scanDue, .events] ++ reporting ⊆ xs) :
    OnlyChanges xs p₀ (p.withdrawFor f cause) ↔ OnlyChanges xs p₀ p := by
  simp [reporting] at h
  unfold Part.withdrawFor
  try dsimp only
  (repeat' split) <;> simp [h, reporting]

@[simp] theorem reportRequest_keeps {xs : List Piece} {p₀ p : Part} (a : RequestAction) (e : Entry) (previous : Option RequestClass) (cause : Option RemovalCause) (h : reporting ⊆ xs) :
    OnlyChanges xs p₀ (p.reportRequest a e previous cause) ↔ OnlyChanges xs p₀ p := by
  simp [reporting] at h
  unfold Part.reportRequest
  try dsimp only
  (repeat' split) <;> simp [h, reporting]

@[simp] theorem addEntry_keeps {xs : List Piece} {p₀ p : Part} (f : FilterId) (cls : RequestClass) (src : RequestSource) (u : Nat) (override : Option SlotId) (h : [Piece.queue, .scanDue] ++ reporting ⊆ xs) :
    OnlyChanges xs p₀ (p.addEntry f cls src u override) ↔ OnlyChanges xs p₀ p := by
  simp [reporting] at h
  unfold Part.addEntry
  try dsimp only
  (repeat' split) <;> simp [h, reporting]

@[simp] theorem dropEntry_keeps {xs : List Piece} {p₀ p : Part} (f : FilterId) (cause : RemovalCause) (h : [Piece.queue, .scanDue, .events] ++ reporting ⊆ xs) :
    OnlyChanges xs p₀ (p.dropEntry f cause) ↔ OnlyChanges xs p₀ p := by
  simp [reporting] at h
  unfold Part.dropEntry
  try dsimp only
  (repeat' split) <;> simp [h, reporting]

@[simp] theorem expelEntry_keeps {xs : List Piece} {p₀ p : Part} (f : FilterId) (cause : RemovalCause) (h : [Piece.queue, .proposal, .scanDue, .events] ++ reporting ⊆ xs) :
    OnlyChanges xs p₀ (p.expelEntry f cause) ↔ OnlyChanges xs p₀ p := by
  simp [reporting] at h
  unfold Part.expelEntry
  try dsimp only
  (repeat' split) <;> simp [h, reporting]

@[simp] theorem setDefer_keeps {xs : List Piece} {p₀ p : Part} (e : Entry) (t : Option Nat) (h : [.queue, .scanDue, .events] ⊆ xs) :
    OnlyChanges xs p₀ (p.setDefer e t) ↔ OnlyChanges xs p₀ p := by
  simp [reporting] at h
  unfold Part.setDefer
  try dsimp only
  (repeat' split) <;> simp [h, reporting]

@[simp] theorem takeEvaluation_keeps {xs : List Piece} {p₀ p : Part} (f : FilterId) (u : Nat) (cls : Option RequestClass) (h : [Piece.queue, .scanDue] ++ reporting ⊆ xs) :
    OnlyChanges xs p₀ (p.takeEvaluation f u cls) ↔ OnlyChanges xs p₀ p := by
  simp [reporting] at h
  unfold Part.takeEvaluation
  try dsimp only
  (repeat' split) <;> simp [h, reporting]

@[simp] theorem clearOverrides_keeps {xs : List Piece} {p₀ p : Part} (slot : SlotId) (h : [.queue, .scanDue] ⊆ xs) :
    OnlyChanges xs p₀ (p.clearOverrides slot) ↔ OnlyChanges xs p₀ p := by
  simp [reporting] at h
  unfold Part.clearOverrides
  try dsimp only
  (repeat' split) <;> simp [h, reporting]

/-! ### Loading -/

@[simp] theorem overloadAfter_keeps {xs : List Piece} {p₀ p : Part} (v : Nat) (h : [.overload, .events] ⊆ xs) :
    OnlyChanges xs p₀ (p.overloadAfter v) ↔ OnlyChanges xs p₀ p := by
  simp [reporting] at h
  unfold Part.overloadAfter
  try dsimp only
  (repeat' split) <;> simp [h, reporting]

@[simp] theorem computeLoading_keeps {xs : List Piece} {p₀ p : Part} (h : [Piece.flags, .overload, .events] ++ reporting ⊆ xs) :
    OnlyChanges xs p₀ p.computeLoading ↔ OnlyChanges xs p₀ p := by
  simp [reporting] at h
  unfold Part.computeLoading
  try dsimp only
  (repeat' split) <;> simp [h, reporting]

@[simp] theorem loadingTest_keeps {xs : List Piece} {p₀ p : Part} (f : FilterId) (a : Nat) (h : [Piece.flags] ++ reporting ⊆ xs) :
    OnlyChanges xs p₀ (p.loadingTest f a).1 ↔ OnlyChanges xs p₀ p := by
  simp [reporting] at h
  unfold Part.loadingTest
  try dsimp only
  (repeat' split) <;> simp [h, reporting]

/-! ### Valves -/

@[simp] theorem tellFault_keeps {xs : List Piece} {p₀ p : Part} (f : FilterId) (r : Role) (h : [.events] ⊆ xs) :
    OnlyChanges xs p₀ (p.tellFault f r) ↔ OnlyChanges xs p₀ p := by
  simp [reporting] at h
  unfold Part.tellFault
  try dsimp only
  (repeat' split) <;> simp [h, reporting]

@[simp] theorem faultChannel_keeps {xs : List Piece} {p₀ p : Part} (ch : ChannelId) (cause : ChannelFault) (h : [Piece.channels, .capture, .events] ++ reporting ⊆ xs) :
    OnlyChanges xs p₀ (p.faultChannel ch cause) ↔ OnlyChanges xs p₀ p := by
  simp [reporting] at h
  unfold Part.faultChannel
  try dsimp only
  (repeat' split) <;> simp [h, reporting]

@[simp] theorem tellArrival_keeps {xs : List Piece} {p₀ p : Part} (ch : ChannelId) (h : [.events] ⊆ xs) :
    OnlyChanges xs p₀ (p.tellArrival ch) ↔ OnlyChanges xs p₀ p := by
  simp [reporting] at h
  unfold Part.tellArrival
  try dsimp only
  (repeat' split) <;> simp [h, reporting]

@[simp] theorem arrive_keeps {xs : List Piece} {p₀ p : Part} (ch : ChannelId) (at' : ChannelState) (h : [.channels, .events] ⊆ xs) :
    OnlyChanges xs p₀ (p.arrive ch at') ↔ OnlyChanges xs p₀ p := by
  simp [reporting] at h
  unfold Part.arrive
  try dsimp only
  (repeat' split) <;> simp [h, reporting]

@[simp] theorem drift_keeps {xs : List Piece} {p₀ p : Part} (ch : ChannelId) (lost : Position) (h : [Piece.channels, .events] ++ reporting ⊆ xs) :
    OnlyChanges xs p₀ (p.drift ch lost) ↔ OnlyChanges xs p₀ p := by
  simp [reporting] at h
  unfold Part.drift
  try dsimp only
  (repeat' split) <;> simp [h, reporting]

@[simp] theorem takeLimit_keeps {xs : List Piece} {p₀ p : Part} (ch : ChannelId) (which : Limit) (level : Level) (h : [Piece.channels, .capture, .events] ++ reporting ⊆ xs) :
    OnlyChanges xs p₀ (p.takeLimit ch which level) ↔ OnlyChanges xs p₀ p := by
  simp [reporting] at h
  unfold Part.takeLimit
  try dsimp only
  (repeat' split) <;> simp [h, reporting]

@[simp] theorem travelFails_keeps {xs : List Piece} {p₀ p : Part} (ch : ChannelId) (h : [Piece.channels, .capture, .events] ++ reporting ⊆ xs) :
    OnlyChanges xs p₀ (p.travelFails ch) ↔ OnlyChanges xs p₀ p := by
  simp [reporting] at h
  unfold Part.travelFails
  try dsimp only
  (repeat' split) <;> simp [h, reporting]

@[simp] theorem startTravel_keeps {xs : List Piece} {p₀ p : Part} (ch : ChannelId) (target : Position) (h : [.channels, .events] ⊆ xs) :
    OnlyChanges xs p₀ (p.startTravel ch target) ↔ OnlyChanges xs p₀ p := by
  simp [reporting] at h
  unfold Part.startTravel
  try dsimp only
  (repeat' split) <;> simp [h, reporting]

@[simp] theorem completeAt_keeps {xs : List Piece} {p₀ p : Part} (ch : ChannelId) (target : Position) (at' : ChannelState) (h : [.channels] ⊆ xs) :
    OnlyChanges xs p₀ (p.completeAt ch target at') ↔ OnlyChanges xs p₀ p := by
  simp [reporting] at h
  unfold Part.completeAt
  try dsimp only
  (repeat' split) <;> simp [h, reporting]

@[simp] theorem command_keeps {xs : List Piece} {p₀ p : Part} (ch : ChannelId) (target : Position) (h : [.channels, .events] ⊆ xs) :
    OnlyChanges xs p₀ (p.command ch target).1 ↔ OnlyChanges xs p₀ p := by
  simp [reporting] at h
  unfold Part.command
  try dsimp only
  (repeat' split) <;> simp [h, reporting]

@[simp] theorem commandRole_keeps {xs : List Piece} {p₀ p : Part} (f : FilterId) (r : Role) (target : Position) (h : [.channels, .events] ⊆ xs) :
    OnlyChanges xs p₀ (p.commandRole f r target).1 ↔ OnlyChanges xs p₀ p := by
  simp [reporting] at h
  unfold Part.commandRole
  try dsimp only
  (repeat' split) <;> simp [h, reporting]

@[simp] theorem assertStop_keeps {xs : List Piece} {p₀ p : Part} (h : [.channels, .stop, .events] ⊆ xs) :
    OnlyChanges xs p₀ p.assertStop ↔ OnlyChanges xs p₀ p := by
  simp [reporting] at h
  unfold Part.assertStop
  try dsimp only
  (repeat' split) <;> simp [h, reporting]

@[simp] theorem settle_keeps {xs : List Piece} {p₀ p : Part} (ch : ChannelId) (h : [Piece.channels, .capture, .events] ++ reporting ⊆ xs) :
    OnlyChanges xs p₀ (p.settle ch) ↔ OnlyChanges xs p₀ p := by
  simp [reporting] at h
  unfold Part.settle
  try dsimp only
  (repeat' split) <;> simp [h, reporting]

@[simp] theorem unstop_keeps {xs : List Piece} {p₀ p : Part} (ch : ChannelId) (h : [Piece.channels, .capture, .events] ++ reporting ⊆ xs) :
    OnlyChanges xs p₀ (p.unstop ch) ↔ OnlyChanges xs p₀ p := by
  simp [reporting] at h
  unfold Part.unstop
  try dsimp only
  (repeat' split) <;> simp [h, reporting]

@[simp] theorem releaseStop_keeps {xs : List Piece} {p₀ p : Part} (h : [Piece.channels, .capture, .stop, .events] ++ reporting ⊆ xs) :
    OnlyChanges xs p₀ p.releaseStop ↔ OnlyChanges xs p₀ p := by
  simp [reporting] at h
  unfold Part.releaseStop
  try dsimp only
  (repeat' split) <;> simp [h, reporting]

@[simp] theorem derive_keeps {xs : List Piece} {p₀ p : Part} (ch : ChannelId) (h : [Piece.channels, .capture, .events] ++ reporting ⊆ xs) :
    OnlyChanges xs p₀ (p.derive ch) ↔ OnlyChanges xs p₀ p := by
  simp [reporting] at h
  unfold Part.derive
  try dsimp only
  (repeat' split) <;> simp [h, reporting]

@[simp] theorem deriveCleared_keeps {xs : List Piece} {p₀ p : Part} (ch : ChannelId) (h : [Piece.channels, .capture, .events] ++ reporting ⊆ xs) :
    OnlyChanges xs p₀ (p.deriveCleared ch) ↔ OnlyChanges xs p₀ p := by
  simp [reporting] at h
  unfold Part.deriveCleared
  try dsimp only
  (repeat' split) <;> simp [h, reporting]

@[simp] theorem writeSense_keeps {xs : List Piece} {p₀ p : Part} (ch : ChannelId) (sense : SwitchSense) (h : [Piece.channels, .capture, .events] ++ reporting ⊆ xs) :
    OnlyChanges xs p₀ (p.writeSense ch sense) ↔ OnlyChanges xs p₀ p := by
  simp [reporting] at h
  unfold Part.writeSense
  try dsimp only
  (repeat' split) <;> simp [h, reporting]

/-! ### Units -/

@[simp] theorem setUnit_keeps {xs : List Piece} {p₀ p : Part} (u : UnitId) (x : UnitState) (h : [.units, .events] ⊆ xs) :
    OnlyChanges xs p₀ (p.setUnit u x) ↔ OnlyChanges xs p₀ p := by
  simp [reporting] at h
  unfold Part.setUnit
  try dsimp only
  (repeat' split) <;> simp [h, reporting]

@[simp] theorem reportEquipment_keeps {xs : List Piece} {p₀ p : Part} (u : UnitId) (e : EquipmentEvent) (before : UnitState) (h : reporting ⊆ xs) :
    OnlyChanges xs p₀ (p.reportEquipment u e before) ↔ OnlyChanges xs p₀ p := by
  simp [reporting] at h
  unfold Part.reportEquipment
  try dsimp only
  (repeat' split) <;> simp [h, reporting]

@[simp] theorem tellNews_keeps {xs : List Piece} {p₀ p : Part} (u : UnitId) (n : UnitNews) (h : [.events] ⊆ xs) :
    OnlyChanges xs p₀ (p.tellNews u n) ↔ OnlyChanges xs p₀ p := by
  simp [reporting] at h
  unfold Part.tellNews
  try dsimp only
  (repeat' split) <;> simp [h, reporting]

@[simp] theorem setWaiting_keeps {xs : List Piece} {p₀ p : Part} (k : UnitKind) (ls : List LaneId) (h : [.pumpWait, .blowerWait] ⊆ xs) :
    OnlyChanges xs p₀ (p.setWaiting k ls) ↔ OnlyChanges xs p₀ p := by
  simp [reporting] at h
  unfold Part.setWaiting
  try dsimp only
  (repeat' split) <;> simp [h, reporting]

@[simp] theorem grant_keeps {xs : List Piece} {p₀ p : Part} (u : UnitId) (l : LaneId) (h : [.units, .duty, .events] ⊆ xs) :
    OnlyChanges xs p₀ (p.grant u l) ↔ OnlyChanges xs p₀ p := by
  simp [reporting] at h
  unfold Part.grant
  try dsimp only
  (repeat' split) <;> simp [h, reporting]

@[simp] theorem requestUnit_keeps {xs : List Piece} {p₀ p : Part} (l : LaneId) (k : UnitKind) (h : [.units, .duty, .pumpWait, .blowerWait, .events] ⊆ xs) :
    OnlyChanges xs p₀ (p.requestUnit l k) ↔ OnlyChanges xs p₀ p := by
  simp [reporting] at h
  unfold Part.requestUnit
  try dsimp only
  (repeat' split) <;> simp [h, reporting]

@[simp] theorem serveWait_keeps {xs : List Piece} {p₀ p : Part} (u : UnitId) (h : [.units, .duty, .pumpWait, .blowerWait, .events] ⊆ xs) :
    OnlyChanges xs p₀ (p.serveWait u) ↔ OnlyChanges xs p₀ p := by
  simp [reporting] at h
  unfold Part.serveWait
  try dsimp only
  (repeat' split) <;> simp [h, reporting]

@[simp] theorem freeUnit_keeps {xs : List Piece} {p₀ p : Part} (u : UnitId) (h : [.units, .duty, .pumpWait, .blowerWait, .events] ⊆ xs) :
    OnlyChanges xs p₀ (p.freeUnit u) ↔ OnlyChanges xs p₀ p := by
  simp [reporting] at h
  unfold Part.freeUnit
  try dsimp only
  (repeat' split) <;> simp [h, reporting]

@[simp] theorem stopUnit_keeps {xs : List Piece} {p₀ p : Part} (u : UnitId) (h : [.units, .duty, .pumpWait, .blowerWait, .events] ⊆ xs) :
    OnlyChanges xs p₀ (p.stopUnit u) ↔ OnlyChanges xs p₀ p := by
  simp [reporting] at h
  unfold Part.stopUnit
  try dsimp only
  (repeat' split) <;> simp [h, reporting]

@[simp] theorem releaseUnit_keeps {xs : List Piece} {p₀ p : Part} (l : LaneId) (u : UnitId) (h : [.units, .duty, .pumpWait, .blowerWait, .events] ⊆ xs) :
    OnlyChanges xs p₀ (p.releaseUnit l u) ↔ OnlyChanges xs p₀ p := by
  simp [reporting] at h
  unfold Part.releaseUnit
  try dsimp only
  (repeat' split) <;> simp [h, reporting]

@[simp] theorem withdrawRequest_keeps {xs : List Piece} {p₀ p : Part} (l : LaneId) (k : UnitKind) (h : [.pumpWait, .blowerWait] ⊆ xs) :
    OnlyChanges xs p₀ (p.withdrawRequest l k) ↔ OnlyChanges xs p₀ p := by
  simp [reporting] at h
  unfold Part.withdrawRequest
  try dsimp only
  (repeat' split) <;> simp [h, reporting]

@[simp] theorem proveUnit_keeps {xs : List Piece} {p₀ p : Part} (u : UnitId) (h : [Piece.units, .events] ++ reporting ⊆ xs) :
    OnlyChanges xs p₀ (p.proveUnit u) ↔ OnlyChanges xs p₀ p := by
  simp [reporting] at h
  unfold Part.proveUnit
  try dsimp only
  (repeat' split) <;> simp [h, reporting]

@[simp] theorem startUnit_keeps {xs : List Piece} {p₀ p : Part} (l : LaneId) (u : UnitId) (h : [Piece.units, .events] ++ reporting ⊆ xs) :
    OnlyChanges xs p₀ (p.startUnit l u) ↔ OnlyChanges xs p₀ p := by
  simp [reporting] at h
  unfold Part.startUnit
  try dsimp only
  (repeat' split) <;> simp [h, reporting]

@[simp] theorem proveFails_keeps {xs : List Piece} {p₀ p : Part} (u : UnitId) (h : [Piece.units, .events] ++ reporting ⊆ xs) :
    OnlyChanges xs p₀ (p.proveFails u) ↔ OnlyChanges xs p₀ p := by
  simp [reporting] at h
  unfold Part.proveFails
  try dsimp only
  (repeat' split) <;> simp [h, reporting]

@[simp] theorem tripUnit_keeps {xs : List Piece} {p₀ p : Part} (u : UnitId) (h : [Piece.units, .events] ++ reporting ⊆ xs) :
    OnlyChanges xs p₀ (p.tripUnit u) ↔ OnlyChanges xs p₀ p := by
  simp [reporting] at h
  unfold Part.tripUnit
  try dsimp only
  (repeat' split) <;> simp [h, reporting]

@[simp] theorem feedbackActs_keeps {xs : List Piece} {p₀ p : Part} (u : UnitId) (h : [Piece.units, .events] ++ reporting ⊆ xs) :
    OnlyChanges xs p₀ (p.feedbackActs u) ↔ OnlyChanges xs p₀ p := by
  simp [reporting] at h
  unfold Part.feedbackActs
  try dsimp only
  (repeat' split) <;> simp [h, reporting]

@[simp] theorem takeFeedback_keeps {xs : List Piece} {p₀ p : Part} (u : UnitId) (level : Level) (h : [Piece.units, .events] ++ reporting ⊆ xs) :
    OnlyChanges xs p₀ (p.takeFeedback u level) ↔ OnlyChanges xs p₀ p := by
  simp [reporting] at h
  unfold Part.takeFeedback
  try dsimp only
  (repeat' split) <;> simp [h, reporting]

@[simp] theorem guardEnds_keeps {xs : List Piece} {p₀ p : Part} (u : UnitId) (h : [.units, .duty, .pumpWait, .blowerWait, .events] ⊆ xs) :
    OnlyChanges xs p₀ (p.guardEnds u) ↔ OnlyChanges xs p₀ p := by
  simp [reporting] at h
  unfold Part.guardEnds
  try dsimp only
  (repeat' split) <;> simp [h, reporting]

@[simp] theorem modWash_keeps {xs : List Piece} {p₀ p : Part} (l : LaneId) (g : Wash → Wash) (h : [.lanes] ⊆ xs) :
    OnlyChanges xs p₀ (p.modWash l g) ↔ OnlyChanges xs p₀ p := by
  simp [reporting] at h
  unfold Part.modWash
  try dsimp only
  (repeat' split) <;> simp [h, reporting]

@[simp] theorem stopByLine_keeps {xs : List Piece} {p₀ p : Part} (u : UnitId) (h : [Piece.lanes, .units, .duty, .pumpWait, .blowerWait, .events] ++ reporting ⊆ xs) :
    OnlyChanges xs p₀ (p.stopByLine u) ↔ OnlyChanges xs p₀ p := by
  simp [reporting] at h
  unfold Part.stopByLine
  try dsimp only
  (repeat' split) <;> simp [h, reporting]

@[simp] theorem lockUnit_keeps {xs : List Piece} {p₀ p : Part} (u : UnitId) (h : [Piece.units, .events] ++ reporting ⊆ xs) :
    OnlyChanges xs p₀ (p.lockUnit u) ↔ OnlyChanges xs p₀ p := by
  simp [reporting] at h
  unfold Part.lockUnit
  try dsimp only
  (repeat' split) <;> simp [h, reporting]

@[simp] theorem restoreUnit_keeps {xs : List Piece} {p₀ p : Part} (u : UnitId) (e : EquipmentEvent) (h : [Piece.units, .duty, .pumpWait, .blowerWait, .events] ++ reporting ⊆ xs) :
    OnlyChanges xs p₀ (p.restoreUnit u e) ↔ OnlyChanges xs p₀ p := by
  simp [reporting] at h
  unfold Part.restoreUnit
  try dsimp only
  (repeat' split) <;> simp [h, reporting]

/-! ### Filters -/

@[simp] theorem modFilter_keeps {xs : List Piece} {p₀ p : Part} (f : FilterId) (g : FilterRecord → FilterRecord) (h : [.filters] ⊆ xs) :
    OnlyChanges xs p₀ (p.modFilter f g) ↔ OnlyChanges xs p₀ p := by
  simp [reporting] at h
  unfold Part.modFilter
  try dsimp only
  (repeat' split) <;> simp [h, reporting]

@[simp] theorem reportFilter_keeps {xs : List Piece} {p₀ p : Part} (f : FilterId) (before : StateName) (h : reporting ⊆ xs) :
    OnlyChanges xs p₀ (p.reportFilter f before) ↔ OnlyChanges xs p₀ p := by
  simp [reporting] at h
  unfold Part.reportFilter
  try dsimp only
  (repeat' split) <;> simp [h, reporting]

@[simp] theorem releaseWindow_keeps {xs : List Piece} {p₀ p : Part} (f : FilterId) (h : [.selection] ⊆ xs) :
    OnlyChanges xs p₀ (p.releaseWindow f) ↔ OnlyChanges xs p₀ p := by
  simp [reporting] at h
  unfold Part.releaseWindow
  try dsimp only
  (repeat' split) <;> simp [h, reporting]

@[simp] theorem dropNotices_keeps {xs : List Piece} {p₀ p : Part} (f : FilterId) (h : [.events] ⊆ xs) :
    OnlyChanges xs p₀ (p.dropNotices f) ↔ OnlyChanges xs p₀ p := by
  simp [reporting] at h
  unfold Part.dropNotices
  try dsimp only
  (repeat' split) <;> simp [h, reporting]

@[simp] theorem areaChanged_keeps {xs : List Piece} {p₀ p : Part} (f : FilterId) (wasOnline : Bool) (h : [Piece.flags, .overload, .scanDue, .events] ++ reporting ⊆ xs) :
    OnlyChanges xs p₀ (p.areaChanged f wasOnline) ↔ OnlyChanges xs p₀ p := by
  simp [reporting] at h
  unfold Part.areaChanged
  try dsimp only
  (repeat' split) <;> simp [h, reporting]

@[simp] theorem moveFilter_keeps {xs : List Piece} {p₀ p : Part} (f : FilterId) (r : FilterRecord) (h : [Piece.filters, .selection, .events] ++ reporting ⊆ xs) :
    OnlyChanges xs p₀ (p.moveFilter f r) ↔ OnlyChanges xs p₀ p := by
  simp [reporting] at h
  unfold Part.moveFilter
  try dsimp only
  (repeat' split) <;> simp [h, reporting]

@[simp] theorem changeFilter_keeps {xs : List Piece} {p₀ p : Part} (f : FilterId) (g : FilterRecord → FilterRecord) (h : [Piece.filters, .selection, .flags, .overload, .scanDue, .events] ++ reporting ⊆ xs) :
    OnlyChanges xs p₀ (p.changeFilter f g) ↔ OnlyChanges xs p₀ p := by
  simp [reporting] at h
  unfold Part.changeFilter
  try dsimp only
  (repeat' split) <;> simp [h, reporting]

@[simp] theorem transferFails_keeps {xs : List Piece} {p₀ p : Part} (f : FilterId) (h : [Piece.marker, .filters, .selection, .flags, .overload, .scanDue, .events] ++ reporting ⊆ xs) :
    OnlyChanges xs p₀ (p.transferFails f) ↔ OnlyChanges xs p₀ p := by
  simp [reporting] at h
  unfold Part.transferFails
  try dsimp only
  (repeat' split) <;> simp [h, reporting]

@[simp] theorem issue_keeps {xs : List Piece} {p₀ p : Part} (f : FilterId) (x0 : List (Role × Position)) (h : [.channels, .events] ⊆ xs) :
    OnlyChanges xs p₀ (p.issue f x0).1 ↔ OnlyChanges xs p₀ p := by
  induction x0 generalizing p with
  | nil => simp [Part.issue]
  | cons x rest ih =>
    simp at h
    unfold Part.issue
    dsimp only
    split <;> simp [ih, h]

@[simp] theorem transferCompletes_keeps {xs : List Piece} {p₀ p : Part} (f : FilterId) (k : TransferKind) (h : [Piece.marker, .filters, .selection, .flags, .overload, .scanDue, .events] ++ reporting ⊆ xs) :
    OnlyChanges xs p₀ (p.transferCompletes f k) ↔ OnlyChanges xs p₀ p := by
  simp [reporting] at h
  unfold Part.transferCompletes
  try dsimp only
  (repeat' split) <;> simp [h, reporting]

@[simp] theorem advanceTransfer_keeps {xs : List Piece} {p₀ p : Part} (f : FilterId) (x0 : Nat) (h : [Piece.filters, .marker, .channels, .selection, .flags, .overload, .scanDue, .events] ++ reporting ⊆ xs) :
    OnlyChanges xs p₀ (p.advanceTransfer f x0) ↔ OnlyChanges xs p₀ p := by
  induction x0 generalizing p with
  | zero => simp [Part.advanceTransfer]
  | succ n ih =>
    simp at h
    unfold Part.advanceTransfer
    (repeat' split) <;> simp_all <;> split <;> simp_all

@[simp] theorem pressTransfer_keeps {xs : List Piece} {p₀ p : Part} (f : FilterId) (roles : List (Role × Position)) (h : [Piece.filters, .marker, .channels, .selection, .flags, .overload, .scanDue, .events] ++ reporting ⊆ xs) :
    OnlyChanges xs p₀ (p.pressTransfer f roles) ↔ OnlyChanges xs p₀ p := by
  simp [reporting] at h
  unfold Part.pressTransfer
  try dsimp only
  (repeat' split) <;> simp [h, reporting]

@[simp] theorem startTransfer_keeps {xs : List Piece} {p₀ p : Part} (f : FilterId) (k : TransferKind) (h : [Piece.filters, .marker, .channels, .selection, .flags, .overload, .scanDue, .events] ++ reporting ⊆ xs) :
    OnlyChanges xs p₀ (p.startTransfer f k) ↔ OnlyChanges xs p₀ p := by
  simp [reporting] at h
  unfold Part.startTransfer
  try dsimp only
  (repeat' split) <;> simp [h, reporting]

@[simp] theorem transferDrifts_keeps {xs : List Piece} {p₀ p : Part} (f : FilterId) (r : Role) (h : [Piece.filters, .marker, .channels, .selection, .flags, .overload, .scanDue, .events] ++ reporting ⊆ xs) :
    OnlyChanges xs p₀ (p.transferDrifts f r) ↔ OnlyChanges xs p₀ p := by
  simp [reporting] at h
  unfold Part.transferDrifts
  try dsimp only
  (repeat' split) <;> simp [h, reporting]

@[simp] theorem transferReleased_keeps {xs : List Piece} {p₀ p : Part} (f : FilterId) (h : [Piece.filters, .marker, .channels, .selection, .flags, .overload, .scanDue, .events] ++ reporting ⊆ xs) :
    OnlyChanges xs p₀ (p.transferReleased f) ↔ OnlyChanges xs p₀ p := by
  simp [reporting] at h
  unfold Part.transferReleased
  try dsimp only
  (repeat' split) <;> simp [h, reporting]

@[simp] theorem startSubstitution_keeps {xs : List Piece} {p₀ p : Part} (f : FilterId) (h : [Piece.filters, .marker, .channels, .selection, .flags, .overload, .scanDue, .events] ++ reporting ⊆ xs) :
    OnlyChanges xs p₀ (p.startSubstitution f) ↔ OnlyChanges xs p₀ p := by
  simp [reporting] at h
  unfold Part.startSubstitution
  try dsimp only
  (repeat' split) <;> simp [h, reporting]

@[simp] theorem unownedFault_keeps {xs : List Piece} {p₀ p : Part} (f : FilterId) (h : [Piece.queue, .proposal, .filters, .selection, .flags, .overload, .scanDue, .events] ++ reporting ⊆ xs) :
    OnlyChanges xs p₀ (p.unownedFault f) ↔ OnlyChanges xs p₀ p := by
  simp [reporting] at h
  unfold Part.unownedFault
  try dsimp only
  (repeat' split) <;> simp [h, reporting]

@[simp] theorem tableFault_keeps {xs : List Piece} {p₀ p : Part} (f : FilterId) (role : Role) (h : [Piece.queue, .proposal, .marker, .filters, .selection, .flags, .overload, .scanDue, .events] ++ reporting ⊆ xs) :
    OnlyChanges xs p₀ (p.tableFault f role) ↔ OnlyChanges xs p₀ p := by
  simp [reporting] at h
  unfold Part.tableFault
  try dsimp only
  (repeat' split) <;> simp [h, reporting]

@[simp] theorem setWashing_keeps {xs : List Piece} {p₀ p : Part} (f : FilterId) (l : LaneId) (h : [Piece.filters, .selection, .flags, .overload, .scanDue, .events] ++ reporting ⊆ xs) :
    OnlyChanges xs p₀ (p.setWashing f l) ↔ OnlyChanges xs p₀ p := by
  simp [reporting] at h
  unfold Part.setWashing
  try dsimp only
  (repeat' split) <;> simp [h, reporting]

@[simp] theorem destination_keeps {xs : List Piece} {p₀ p : Part} (f : FilterId) (h : [Piece.flags, .overload, .events] ++ reporting ⊆ xs) :
    OnlyChanges xs p₀ (p.destination f).1 ↔ OnlyChanges xs p₀ p := by
  simp [reporting] at h
  unfold Part.destination
  try dsimp only
  (repeat' split) <;> simp [h, reporting]

@[simp] theorem completeWash_keeps {xs : List Piece} {p₀ p : Part} (f : FilterId) (d : Destination) (h : [Piece.filters, .selection, .flags, .overload, .scanDue, .events] ++ reporting ⊆ xs) :
    OnlyChanges xs p₀ (p.completeWash f d) ↔ OnlyChanges xs p₀ p := by
  simp [reporting] at h
  unfold Part.completeWash
  try dsimp only
  (repeat' split) <;> simp [h, reporting]

@[simp] theorem abortWash_keeps {xs : List Piece} {p₀ p : Part} (f : FilterId) (channelFault : Bool) (h : [Piece.queue, .filters, .selection, .flags, .overload, .scanDue, .events] ++ reporting ⊆ xs) :
    OnlyChanges xs p₀ (p.abortWash f channelFault) ↔ OnlyChanges xs p₀ p := by
  simp [reporting] at h
  unfold Part.abortWash
  try dsimp only
  (repeat' split) <;> simp [h, reporting]

@[simp] theorem runSecond_keeps {xs : List Piece} {p₀ p : Part} (f : FilterId) (h : [.filters, .events] ⊆ xs) :
    OnlyChanges xs p₀ (p.runSecond f) ↔ OnlyChanges xs p₀ p := by
  simp [reporting] at h
  unfold Part.runSecond
  try dsimp only
  (repeat' split) <;> simp [h, reporting]

@[simp] theorem runMinute_keeps {xs : List Piece} {p₀ p : Part} (f : FilterId) (h : [.filters] ⊆ xs) :
    OnlyChanges xs p₀ (p.runMinute f) ↔ OnlyChanges xs p₀ p := by
  simp [reporting] at h
  unfold Part.runMinute
  try dsimp only
  (repeat' split) <;> simp [h, reporting]

/-! ### Urgency -/

@[simp] theorem evaluate_keeps {xs : List Piece} {p₀ p : Part} (f : FilterId) (h : [Piece.filters, .flags, .queue, .scanDue] ++ reporting ⊆ xs) :
    OnlyChanges xs p₀ (p.evaluate f) ↔ OnlyChanges xs p₀ p := by
  simp [reporting] at h
  unfold Part.evaluate
  try dsimp only
  (repeat' split) <;> simp [h, reporting]

/-! ### Lanes -/

@[simp] theorem setShares_keeps {xs : List Piece} {p₀ p : Part} (l : LaneId) (s : Share) (h : [.shares, .scanDue] ⊆ xs) :
    OnlyChanges xs p₀ (p.setShares l s) ↔ OnlyChanges xs p₀ p := by
  simp [reporting] at h
  unfold Part.setShares
  try dsimp only
  (repeat' split) <;> simp [h, reporting]

@[simp] theorem putAmounts_keeps {xs : List Piece} {p₀ p : Part} (l : LaneId) (s : Share) (h : [.lanes, .shares, .scanDue] ⊆ xs) :
    OnlyChanges xs p₀ (p.putAmounts l s) ↔ OnlyChanges xs p₀ p := by
  simp [reporting] at h
  unfold Part.putAmounts
  try dsimp only
  (repeat' split) <;> simp [h, reporting]

@[simp] theorem dropRun_keeps {xs : List Piece} {p₀ p : Part} (l : LaneId) (h : [.events] ⊆ xs) :
    OnlyChanges xs p₀ (p.dropRun l) ↔ OnlyChanges xs p₀ p := by
  simp [reporting] at h
  unfold Part.dropRun
  try dsimp only
  (repeat' split) <;> simp [h, reporting]

@[simp] theorem dropLane_keeps {xs : List Piece} {p₀ p : Part} (l : LaneId) (h : [.events] ⊆ xs) :
    OnlyChanges xs p₀ (p.dropLane l) ↔ OnlyChanges xs p₀ p := by
  simp [reporting] at h
  unfold Part.dropLane
  try dsimp only
  (repeat' split) <;> simp [h, reporting]

@[simp] theorem releaseKind_keeps {xs : List Piece} {p₀ p : Part} (l : LaneId) (k : UnitKind) (h : [.lanes, .units, .duty, .pumpWait, .blowerWait, .events] ⊆ xs) :
    OnlyChanges xs p₀ (p.releaseKind l k) ↔ OnlyChanges xs p₀ p := by
  simp [reporting] at h
  unfold Part.releaseKind
  try dsimp only
  (repeat' split) <;> simp [h, reporting]

@[simp] theorem releaseAll_keeps {xs : List Piece} {p₀ p : Part} (l : LaneId) (h : [.lanes, .units, .duty, .pumpWait, .blowerWait, .events] ⊆ xs) :
    OnlyChanges xs p₀ (p.releaseAll l) ↔ OnlyChanges xs p₀ p := by
  simp [reporting] at h
  unfold Part.releaseAll
  try dsimp only
  (repeat' split) <;> simp [h, reporting]

@[simp] theorem orderRoles_keeps {xs : List Piece} {p₀ p : Part} (l : LaneId) (f : FilterId) (roles : List Role) (pos : Position) (h : [.lanes, .channels, .events] ⊆ xs) :
    OnlyChanges xs p₀ (p.orderRoles l f roles pos) ↔ OnlyChanges xs p₀ p := by
  simp at h
  unfold Part.orderRoles
  dsimp only
  split
  · simp [h]
  · rw [foldl_keeps]
    · simp [h]
    · intro p r
      split <;> simp [h]

@[simp] theorem reorderRole_keeps {xs : List Piece} {p₀ p : Part} (l : LaneId) (f : FilterId) (r : Role) (h : [.lanes, .channels, .events] ⊆ xs) :
    OnlyChanges xs p₀ (p.reorderRole l f r) ↔ OnlyChanges xs p₀ p := by
  simp [reporting] at h
  unfold Part.reorderRole
  try dsimp only
  (repeat' split) <;> simp [h, reporting]

@[simp] theorem reportHeld_keeps {xs : List Piece} {p₀ p : Part} (l : LaneId) (cause : HoldCause) (began : Bool) (h : reporting ⊆ xs) :
    OnlyChanges xs p₀ (p.reportHeld l cause began) ↔ OnlyChanges xs p₀ p := by
  simp [reporting] at h
  unfold Part.reportHeld
  try dsimp only
  (repeat' split) <;> simp [h, reporting]

@[simp] theorem enterHeld_keeps {xs : List Piece} {p₀ p : Part} (l : LaneId) (w : Wash) (cause : HoldCause) (h : [Piece.lanes, .channels, .units, .duty, .pumpWait, .blowerWait, .events] ++ reporting ⊆ xs) :
    OnlyChanges xs p₀ (p.enterHeld l w cause) ↔ OnlyChanges xs p₀ p := by
  simp [reporting] at h
  unfold Part.enterHeld
  try dsimp only
  (repeat' split) <;> simp [h, reporting]

@[simp] theorem join_keeps {xs : List Piece} {p₀ p : Part} (l : LaneId) (cause : HoldCause) (h : [Piece.lanes, .channels, .units, .duty, .pumpWait, .blowerWait, .events] ++ reporting ⊆ xs) :
    OnlyChanges xs p₀ (p.join l cause) ↔ OnlyChanges xs p₀ p := by
  simp [reporting] at h
  unfold Part.join
  try dsimp only
  (repeat' split) <;> simp [h, reporting]

@[simp] theorem joinIf_keeps {xs : List Piece} {p₀ p : Part} (l : LaneId) (cause : HoldCause) (h : [Piece.lanes, .channels, .units, .duty, .pumpWait, .blowerWait, .events] ++ reporting ⊆ xs) :
    OnlyChanges xs p₀ (p.joinIf l cause) ↔ OnlyChanges xs p₀ p := by
  simp [reporting] at h
  unfold Part.joinIf
  try dsimp only
  (repeat' split) <;> simp [h, reporting]

@[simp] theorem raiseEnd_keeps {xs : List Piece} {p₀ p : Part} (l : LaneId) (h : [.events] ⊆ xs) :
    OnlyChanges xs p₀ (p.raiseEnd l) ↔ OnlyChanges xs p₀ p := by
  simp [reporting] at h
  unfold Part.raiseEnd
  try dsimp only
  (repeat' split) <;> simp [h, reporting]

@[simp] theorem checkStarted_keeps {xs : List Piece} {p₀ p : Part} (l : LaneId) (h : [.lanes, .events] ⊆ xs) :
    OnlyChanges xs p₀ (p.checkStarted l) ↔ OnlyChanges xs p₀ p := by
  simp [reporting] at h
  unfold Part.checkStarted
  try dsimp only
  (repeat' split) <;> simp [h, reporting]

@[simp] theorem enterStarting_keeps {xs : List Piece} {p₀ p : Part} (l : LaneId) (w : Wash) (h : [Piece.lanes, .units, .events] ++ reporting ⊆ xs) :
    OnlyChanges xs p₀ (p.enterStarting l w) ↔ OnlyChanges xs p₀ p := by
  simp [reporting] at h
  unfold Part.enterStarting
  try dsimp only
  (repeat' split) <;> simp [h, reporting]

@[simp] theorem checkOpened_keeps {xs : List Piece} {p₀ p : Part} (l : LaneId) (h : [Piece.lanes, .units, .events] ++ reporting ⊆ xs) :
    OnlyChanges xs p₀ (p.checkOpened l) ↔ OnlyChanges xs p₀ p := by
  simp [reporting] at h
  unfold Part.checkOpened
  try dsimp only
  (repeat' split) <;> simp [h, reporting]

@[simp] theorem checkClosed_keeps {xs : List Piece} {p₀ p : Part} (l : LaneId) (h : [Piece.lanes, .channels, .units, .events] ++ reporting ⊆ xs) :
    OnlyChanges xs p₀ (p.checkClosed l) ↔ OnlyChanges xs p₀ p := by
  simp [reporting] at h
  unfold Part.checkClosed
  try dsimp only
  (repeat' split) <;> simp [h, reporting]

@[simp] theorem enterPositioning_keeps {xs : List Piece} {p₀ p : Part} (l : LaneId) (w : Wash) (h : [Piece.lanes, .channels, .units, .events] ++ reporting ⊆ xs) :
    OnlyChanges xs p₀ (p.enterPositioning l w) ↔ OnlyChanges xs p₀ p := by
  simp [reporting] at h
  unfold Part.enterPositioning
  try dsimp only
  (repeat' split) <;> simp [h, reporting]

@[simp] theorem checkAcquired_keeps {xs : List Piece} {p₀ p : Part} (l : LaneId) (h : [Piece.lanes, .channels, .units, .events] ++ reporting ⊆ xs) :
    OnlyChanges xs p₀ (p.checkAcquired l) ↔ OnlyChanges xs p₀ p := by
  simp [reporting] at h
  unfold Part.checkAcquired
  try dsimp only
  (repeat' split) <;> simp [h, reporting]

@[simp] theorem requestNeeded_keeps {xs : List Piece} {p₀ p : Part} (l : LaneId) (h : [.units, .duty, .pumpWait, .blowerWait, .events] ⊆ xs) :
    OnlyChanges xs p₀ (p.requestNeeded l) ↔ OnlyChanges xs p₀ p := by
  simp [reporting] at h
  unfold Part.requestNeeded
  try dsimp only
  (repeat' split) <;> simp [h, reporting]

@[simp] theorem releaseUnneeded_keeps {xs : List Piece} {p₀ p : Part} (l : LaneId) (k : PhaseKind) (h : [.lanes, .units, .duty, .pumpWait, .blowerWait, .events] ⊆ xs) :
    OnlyChanges xs p₀ (p.releaseUnneeded l k) ↔ OnlyChanges xs p₀ p := by
  simp [reporting] at h
  unfold Part.releaseUnneeded
  try dsimp only
  (repeat' split) <;> simp [h, reporting]

@[simp] theorem enterPhase_keeps {xs : List Piece} {p₀ p : Part} (l : LaneId) (report : Option (Option PhaseEnd)) (h : [Piece.lanes, .channels, .units, .duty, .pumpWait, .blowerWait, .events] ++ reporting ⊆ xs) :
    OnlyChanges xs p₀ (p.enterPhase l report) ↔ OnlyChanges xs p₀ p := by
  simp [reporting] at h
  unfold Part.enterPhase
  try dsimp only
  (repeat' split) <;> simp [h, reporting]

@[simp] theorem resumeIfClear_keeps {xs : List Piece} {p₀ p : Part} (l : LaneId) (h : [Piece.lanes, .channels, .units, .duty, .pumpWait, .blowerWait, .events] ++ reporting ⊆ xs) :
    OnlyChanges xs p₀ (p.resumeIfClear l) ↔ OnlyChanges xs p₀ p := by
  simp [reporting] at h
  unfold Part.resumeIfClear
  try dsimp only
  (repeat' split) <;> simp [h, reporting]

@[simp] theorem leave_keeps {xs : List Piece} {p₀ p : Part} (l : LaneId) (cause : HoldCause) (h : [.lanes] ⊆ xs) :
    OnlyChanges xs p₀ (p.leave l cause) ↔ OnlyChanges xs p₀ p := by
  simp [reporting] at h
  unfold Part.leave
  try dsimp only
  (repeat' split) <;> simp [h, reporting]

@[simp] theorem leaveIf_keeps {xs : List Piece} {p₀ p : Part} (l : LaneId) (cause : HoldCause) (h : [.lanes] ⊆ xs) :
    OnlyChanges xs p₀ (p.leaveIf l cause) ↔ OnlyChanges xs p₀ p := by
  simp [reporting] at h
  unfold Part.leaveIf
  try dsimp only
  (repeat' split) <;> simp [h, reporting]

@[simp] theorem testCause_keeps {xs : List Piece} {p₀ p : Part} (l : LaneId) (cause : HoldCause) (h : [Piece.lanes, .channels, .units, .duty, .pumpWait, .blowerWait, .events] ++ reporting ⊆ xs) :
    OnlyChanges xs p₀ (p.testCause l cause) ↔ OnlyChanges xs p₀ p := by
  simp [reporting] at h
  unfold Part.testCause
  try dsimp only
  (repeat' split) <;> simp [h, reporting]

@[simp] theorem handOff_keeps {xs : List Piece} {p₀ p : Part} (l : LaneId) (f : FilterId) (slot : SlotId) (s : Share) (h : [Piece.lanes, .channels, .units, .duty, .pumpWait, .blowerWait, .events] ++ reporting ⊆ xs) :
    OnlyChanges xs p₀ (p.handOff l f slot s) ↔ OnlyChanges xs p₀ p := by
  simp [reporting] at h
  unfold Part.handOff
  try dsimp only
  (repeat' split) <;> simp [h, reporting]

@[simp] theorem laneIdle_keeps {xs : List Piece} {p₀ p : Part} (l : LaneId) (h : [.lanes, .shares, .scanDue, .events] ⊆ xs) :
    OnlyChanges xs p₀ (p.laneIdle l) ↔ OnlyChanges xs p₀ p := by
  simp [reporting] at h
  unfold Part.laneIdle
  try dsimp only
  (repeat' split) <;> simp [h, reporting]

@[simp] theorem checkAborted_keeps {xs : List Piece} {p₀ p : Part} (l : LaneId) (h : [Piece.lanes, .filters, .selection, .queue, .shares, .flags, .overload, .scanDue, .events] ++ reporting ⊆ xs) :
    OnlyChanges xs p₀ (p.checkAborted l) ↔ OnlyChanges xs p₀ p := by
  simp [reporting] at h
  unfold Part.checkAborted
  try dsimp only
  (repeat' split) <;> simp [h, reporting]

@[simp] theorem abortLane_keeps {xs : List Piece} {p₀ p : Part} (l : LaneId) (cause : AbortCause) (h : [Piece.lanes, .channels, .units, .duty, .pumpWait, .blowerWait, .events, .filters, .selection, .queue, .shares, .flags, .overload, .scanDue] ++ reporting ⊆ xs) :
    OnlyChanges xs p₀ (p.abortLane l cause) ↔ OnlyChanges xs p₀ p := by
  simp [reporting] at h
  unfold Part.abortLane
  try dsimp only
  (repeat' split) <;> simp [h, reporting]

@[simp] theorem washDone_keeps {xs : List Piece} {p₀ p : Part} (l : LaneId) (w : Wash) (d : Destination) (h : [Piece.lanes, .filters, .selection, .shares, .flags, .overload, .scanDue, .events] ++ reporting ⊆ xs) :
    OnlyChanges xs p₀ (p.washDone l w d) ↔ OnlyChanges xs p₀ p := by
  simp [reporting] at h
  unfold Part.washDone
  try dsimp only
  (repeat' split) <;> simp [h, reporting]

@[simp] theorem checkReturned_keeps {xs : List Piece} {p₀ p : Part} (l : LaneId) (h : [Piece.lanes, .filters, .selection, .shares, .flags, .overload, .scanDue, .events] ++ reporting ⊆ xs) :
    OnlyChanges xs p₀ (p.checkReturned l) ↔ OnlyChanges xs p₀ p := by
  simp [reporting] at h
  unfold Part.checkReturned
  try dsimp only
  (repeat' split) <;> simp [h, reporting]

@[simp] theorem checkReturnClosed_keeps {xs : List Piece} {p₀ p : Part} (l : LaneId) (h : [Piece.lanes, .channels, .filters, .selection, .shares, .flags, .overload, .scanDue, .events] ++ reporting ⊆ xs) :
    OnlyChanges xs p₀ (p.checkReturnClosed l) ↔ OnlyChanges xs p₀ p := by
  simp [reporting] at h
  unfold Part.checkReturnClosed
  try dsimp only
  (repeat' split) <;> simp [h, reporting]

@[simp] theorem startReturn_keeps {xs : List Piece} {p₀ p : Part} (l : LaneId) (f : FilterId) (h : [Piece.units, .duty, .pumpWait, .blowerWait, .events, .lanes, .channels, .filters, .selection, .shares, .flags, .overload, .scanDue] ++ reporting ⊆ xs) :
    OnlyChanges xs p₀ (p.startReturn l f) ↔ OnlyChanges xs p₀ p := by
  simp [reporting] at h
  unfold Part.startReturn
  try dsimp only
  (repeat' split) <;> simp [h, reporting]

@[simp] theorem endPhase_keeps {xs : List Piece} {p₀ p : Part} (l : LaneId) (how : PhaseEnd) (h : [Piece.lanes, .channels, .units, .duty, .pumpWait, .blowerWait, .events, .filters, .selection, .shares, .flags, .overload, .scanDue] ++ reporting ⊆ xs) :
    OnlyChanges xs p₀ (p.endPhase l how) ↔ OnlyChanges xs p₀ p := by
  simp [reporting] at h
  unfold Part.endPhase
  try dsimp only
  (repeat' split) <;> simp [h, reporting]

@[simp] theorem countSecond_keeps {xs : List Piece} {p₀ p : Part} (l : LaneId) (h : [.lanes, .shares, .scanDue, .events] ⊆ xs) :
    OnlyChanges xs p₀ (p.countSecond l) ↔ OnlyChanges xs p₀ p := by
  simp [reporting] at h
  unfold Part.countSecond
  try dsimp only
  (repeat' split) <;> simp [h, reporting]

@[simp] theorem endRunning_keeps {xs : List Piece} {p₀ p : Part} (l : LaneId) (how : PhaseEnd) (h : [Piece.lanes, .channels, .units, .duty, .pumpWait, .blowerWait, .events, .filters, .selection, .shares, .flags, .overload, .scanDue] ++ reporting ⊆ xs) :
    OnlyChanges xs p₀ (p.endRunning l how) ↔ OnlyChanges xs p₀ p := by
  simp [reporting] at h
  unfold Part.endRunning
  try dsimp only
  (repeat' split) <;> simp [h, reporting]

@[simp] theorem settleDrift_keeps {xs : List Piece} {p₀ p : Part} (l : LaneId) (r : Role) (h : [Piece.lanes, .channels, .units, .duty, .pumpWait, .blowerWait, .events] ++ reporting ⊆ xs) :
    OnlyChanges xs p₀ (p.settleDrift l r) ↔ OnlyChanges xs p₀ p := by
  simp [reporting] at h
  unfold Part.settleDrift
  try dsimp only
  (repeat' split) <;> simp [h, reporting]

@[simp] theorem advanceLane_keeps {xs : List Piece} {p₀ p : Part} (l : LaneId) (h : [Piece.lanes, .channels, .units, .duty, .pumpWait, .blowerWait, .events, .filters, .selection, .queue, .shares, .flags, .overload, .scanDue] ++ reporting ⊆ xs) :
    OnlyChanges xs p₀ (p.advanceLane l) ↔ OnlyChanges xs p₀ p := by
  simp [reporting] at h
  unfold Part.advanceLane
  try dsimp only
  (repeat' split) <;> simp [h, reporting]

@[simp] theorem laneArrival_keeps {xs : List Piece} {p₀ p : Part} (l : LaneId) (r : Role) (h : [Piece.lanes, .channels, .units, .duty, .pumpWait, .blowerWait, .events, .filters, .selection, .queue, .shares, .flags, .overload, .scanDue] ++ reporting ⊆ xs) :
    OnlyChanges xs p₀ (p.laneArrival l r) ↔ OnlyChanges xs p₀ p := by
  simp [reporting] at h
  unfold Part.laneArrival
  try dsimp only
  (repeat' split) <;> simp [h, reporting]

@[simp] theorem laneDrift_keeps {xs : List Piece} {p₀ p : Part} (l : LaneId) (r : Role) (h : [Piece.lanes, .channels, .units, .duty, .pumpWait, .blowerWait, .events, .filters, .selection, .queue, .shares, .flags, .overload, .scanDue] ++ reporting ⊆ xs) :
    OnlyChanges xs p₀ (p.laneDrift l r) ↔ OnlyChanges xs p₀ p := by
  simp [reporting] at h
  unfold Part.laneDrift
  try dsimp only
  (repeat' split) <;> simp [h, reporting]

@[simp] theorem laneFault_keeps {xs : List Piece} {p₀ p : Part} (l : LaneId) (h : [Piece.lanes, .channels, .units, .duty, .pumpWait, .blowerWait, .events, .filters, .selection, .queue, .shares, .flags, .overload, .scanDue] ++ reporting ⊆ xs) :
    OnlyChanges xs p₀ (p.laneFault l) ↔ OnlyChanges xs p₀ p := by
  simp [reporting] at h
  unfold Part.laneFault
  try dsimp only
  (repeat' split) <;> simp [h, reporting]

@[simp] theorem laneGrant_keeps {xs : List Piece} {p₀ p : Part} (l : LaneId) (u : UnitId) (h : [Piece.lanes, .channels, .units, .events] ++ reporting ⊆ xs) :
    OnlyChanges xs p₀ (p.laneGrant l u) ↔ OnlyChanges xs p₀ p := by
  simp [reporting] at h
  unfold Part.laneGrant
  try dsimp only
  (repeat' split) <;> simp [h, reporting]

@[simp] theorem laneProveFailed_keeps {xs : List Piece} {p₀ p : Part} (l : LaneId) (u : UnitId) (h : [Piece.lanes, .channels, .units, .duty, .pumpWait, .blowerWait, .events] ++ reporting ⊆ xs) :
    OnlyChanges xs p₀ (p.laneProveFailed l u) ↔ OnlyChanges xs p₀ p := by
  simp [reporting] at h
  unfold Part.laneProveFailed
  try dsimp only
  (repeat' split) <;> simp [h, reporting]

@[simp] theorem laneTripped_keeps {xs : List Piece} {p₀ p : Part} (l : LaneId) (u : UnitId) (h : [Piece.lanes, .channels, .units, .duty, .pumpWait, .blowerWait, .events] ++ reporting ⊆ xs) :
    OnlyChanges xs p₀ (p.laneTripped l u) ↔ OnlyChanges xs p₀ p := by
  simp [reporting] at h
  unfold Part.laneTripped
  try dsimp only
  (repeat' split) <;> simp [h, reporting]

@[simp] theorem laneNews_keeps {xs : List Piece} {p₀ p : Part} (l : LaneId) (n : UnitNews) (h : [Piece.lanes, .channels, .units, .duty, .pumpWait, .blowerWait, .events] ++ reporting ⊆ xs) :
    OnlyChanges xs p₀ (p.laneNews l n) ↔ OnlyChanges xs p₀ p := by
  simp [reporting] at h
  unfold Part.laneNews
  try dsimp only
  (repeat' split) <;> simp [h, reporting]

@[simp] theorem laneStopped_keeps {xs : List Piece} {p₀ p : Part} (l : LaneId) (h : [Piece.lanes, .channels, .units, .duty, .pumpWait, .blowerWait, .events] ++ reporting ⊆ xs) :
    OnlyChanges xs p₀ (p.laneStopped l) ↔ OnlyChanges xs p₀ p := by
  simp [reporting] at h
  unfold Part.laneStopped
  try dsimp only
  (repeat' split) <;> simp [h, reporting]

@[simp] theorem releaseInhibit_keeps {xs : List Piece} {p₀ p : Part} (l : LaneId) (h : [.lanes] ⊆ xs) :
    OnlyChanges xs p₀ (p.releaseInhibit l) ↔ OnlyChanges xs p₀ p := by
  simp [reporting] at h
  unfold Part.releaseInhibit
  try dsimp only
  (repeat' split) <;> simp [h, reporting]

@[simp] theorem heldAfterRelease_keeps {xs : List Piece} {p₀ p : Part} (l : LaneId) (w : Wash) (h : [Piece.lanes, .channels, .units, .duty, .pumpWait, .blowerWait, .events] ++ reporting ⊆ xs) :
    OnlyChanges xs p₀ (p.heldAfterRelease l w) ↔ OnlyChanges xs p₀ p := by
  simp [reporting] at h
  unfold Part.heldAfterRelease
  try dsimp only
  (repeat' split) <;> simp [h, reporting]

@[simp] theorem laneReleased_keeps {xs : List Piece} {p₀ p : Part} (l : LaneId) (h : [Piece.lanes, .channels, .units, .duty, .pumpWait, .blowerWait, .events, .filters, .selection, .queue, .shares, .flags, .overload, .scanDue] ++ reporting ⊆ xs) :
    OnlyChanges xs p₀ (p.laneReleased l) ↔ OnlyChanges xs p₀ p := by
  simp [reporting] at h
  unfold Part.laneReleased
  try dsimp only
  (repeat' split) <;> simp [h, reporting]

@[simp] theorem laneTurbidity_keeps {xs : List Piece} {p₀ p : Part} (l : LaneId) (f : FilterId) (h : [.lanes, .events] ⊆ xs) :
    OnlyChanges xs p₀ (p.laneTurbidity l f) ↔ OnlyChanges xs p₀ p := by
  simp [reporting] at h
  unfold Part.laneTurbidity
  try dsimp only
  (repeat' split) <;> simp [h, reporting]

@[simp] theorem lanePoint_keeps {xs : List Piece} {p₀ p : Part} (l : LaneId) (id : PointId) (h : [Piece.lanes, .channels, .units, .duty, .pumpWait, .blowerWait, .events] ++ reporting ⊆ xs) :
    OnlyChanges xs p₀ (p.lanePoint l id) ↔ OnlyChanges xs p₀ p := by
  simp [reporting] at h
  unfold Part.lanePoint
  try dsimp only
  (repeat' split) <;> simp [h, reporting]

@[simp] theorem lanePlant_keeps {xs : List Piece} {p₀ p : Part} (l : LaneId) (h : [Piece.lanes, .channels, .units, .duty, .pumpWait, .blowerWait, .events] ++ reporting ⊆ xs) :
    OnlyChanges xs p₀ (p.lanePlant l) ↔ OnlyChanges xs p₀ p := by
  simp [reporting] at h
  unfold Part.lanePlant
  try dsimp only
  (repeat' split) <;> simp [h, reporting]

@[simp] theorem laneResume_keeps {xs : List Piece} {p₀ p : Part} (l : LaneId) (h : [Piece.lanes, .channels, .units, .duty, .pumpWait, .blowerWait, .events] ++ reporting ⊆ xs) :
    OnlyChanges xs p₀ (p.laneResume l) ↔ OnlyChanges xs p₀ p := by
  simp [reporting] at h
  unfold Part.laneResume
  try dsimp only
  (repeat' split) <;> simp [h, reporting]

@[simp] theorem holdLimitFalls_keeps {xs : List Piece} {p₀ p : Part} (l : LaneId) (h : [Piece.lanes, .channels, .units, .duty, .pumpWait, .blowerWait, .events, .filters, .selection, .queue, .shares, .flags, .overload, .scanDue] ++ reporting ⊆ xs) :
    OnlyChanges xs p₀ (p.holdLimitFalls l) ↔ OnlyChanges xs p₀ p := by
  simp [reporting] at h
  unfold Part.holdLimitFalls
  try dsimp only
  (repeat' split) <;> simp [h, reporting]

/-! ### Admission -/

@[simp] theorem stampAdmission_keeps {xs : List Piece} {p₀ p : Part} (h : [.lastAdmission] ⊆ xs) :
    OnlyChanges xs p₀ p.stampAdmission ↔ OnlyChanges xs p₀ p := by
  simp [reporting] at h
  unfold Part.stampAdmission
  try dsimp only
  (repeat' split) <;> simp [h, reporting]

@[simp] theorem setScanDue_keeps {xs : List Piece} {p₀ p : Part} (due : Bool) (h : [.scanDue] ⊆ xs) :
    OnlyChanges xs p₀ (p.setScanDue due) ↔ OnlyChanges xs p₀ p := by
  simp [reporting] at h
  unfold Part.setScanDue
  try dsimp only
  (repeat' split) <;> simp [h, reporting]

@[simp] theorem loadingStep_keeps {xs : List Piece} {p₀ p : Part} (e : Entry) (h : [Piece.filters, .marker, .channels, .selection, .flags, .overload, .scanDue, .events] ++ reporting ⊆ xs) :
    OnlyChanges xs p₀ (p.loadingStep e).1 ↔ OnlyChanges xs p₀ p := by
  simp [reporting] at h
  unfold Part.loadingStep
  try dsimp only
  (repeat' split) <;> simp [h, reporting]

@[simp] theorem tests_keeps {xs : List Piece} {p₀ p : Part} (e : Entry) (h : [Piece.filters, .marker, .channels, .selection, .flags, .overload, .scanDue, .events] ++ reporting ⊆ xs) :
    OnlyChanges xs p₀ (p.tests e).1 ↔ OnlyChanges xs p₀ p := by
  simp at h
  have step : OnlyChanges xs p₀ (p.loadingStep e).1 ↔ OnlyChanges xs p₀ p := by simp [h]
  unfold Part.tests
  dsimp only
  (repeat' split) <;> simp_all

@[simp] theorem admitEntry_keeps {xs : List Piece} {p₀ p : Part} (e : Entry) (h : [Piece.lastAdmission, .lanes, .channels, .units, .duty, .pumpWait, .blowerWait, .events, .filters, .selection, .queue, .shares, .flags, .overload, .scanDue] ++ reporting ⊆ xs) :
    OnlyChanges xs p₀ (p.admitEntry e) ↔ OnlyChanges xs p₀ p := by
  simp [reporting] at h
  unfold Part.admitEntry
  try dsimp only
  (repeat' split) <;> simp [h, reporting]

@[simp] theorem propose_keeps {xs : List Piece} {p₀ p : Part} (e : Entry) (h : [Piece.proposal, .events] ++ reporting ⊆ xs) :
    OnlyChanges xs p₀ (p.propose e) ↔ OnlyChanges xs p₀ p := by
  simp [reporting] at h
  unfold Part.propose
  try dsimp only
  (repeat' split) <;> simp [h, reporting]

@[simp] theorem earlyRule_keeps {xs : List Piece} {p₀ p : Part} (h : [Piece.queue, .scanDue] ++ reporting ⊆ xs) :
    OnlyChanges xs p₀ p.earlyRule ↔ OnlyChanges xs p₀ p := by
  simp [reporting] at h
  unfold Part.earlyRule
  try dsimp only
  (repeat' split) <;> simp [h, reporting]

@[simp] theorem testHead_keeps {xs : List Piece} {p₀ p : Part} (e : Entry) (h : [Piece.blocked, .proposal, .lastAdmission, .lanes, .channels, .units, .duty, .pumpWait, .blowerWait, .events, .filters, .marker, .selection, .queue, .shares, .flags, .overload, .scanDue] ++ reporting ⊆ xs) :
    OnlyChanges xs p₀ (p.testHead e) ↔ OnlyChanges xs p₀ p := by
  simp at h
  have step : OnlyChanges xs p₀ (p.tests e).1 ↔ OnlyChanges xs p₀ p := by simp [h]
  unfold Part.testHead
  (repeat' split) <;> simp_all

@[simp] theorem scan_keeps {xs : List Piece} {p₀ p : Part} (h : [Piece.blocked, .proposal, .lastAdmission, .lanes, .channels, .units, .duty, .pumpWait, .blowerWait, .events, .filters, .marker, .selection, .queue, .shares, .flags, .overload, .scanDue] ++ reporting ⊆ xs) :
    OnlyChanges xs p₀ p.scan ↔ OnlyChanges xs p₀ p := by
  simp [reporting] at h
  unfold Part.scan
  try dsimp only
  (repeat' split) <;> simp [h, reporting]

@[simp] theorem runScan_keeps {xs : List Piece} {p₀ p : Part} (h : [Piece.blocked, .proposal, .lastAdmission, .lanes, .channels, .units, .duty, .pumpWait, .blowerWait, .events, .filters, .marker, .selection, .queue, .shares, .flags, .overload, .scanDue] ++ reporting ⊆ xs) :
    OnlyChanges xs p₀ p.runScan ↔ OnlyChanges xs p₀ p := by
  simp [reporting] at h
  unfold Part.runScan
  try dsimp only
  (repeat' split) <;> simp [h, reporting]

@[simp] theorem deferralEnds_keeps {xs : List Piece} {p₀ p : Part} (f : FilterId) (h : [.queue, .scanDue, .events] ⊆ xs) :
    OnlyChanges xs p₀ (p.deferralEnds f) ↔ OnlyChanges xs p₀ p := by
  simp [reporting] at h
  unfold Part.deferralEnds
  try dsimp only
  (repeat' split) <;> simp [h, reporting]

@[simp] theorem proposalExpires_keeps {xs : List Piece} {p₀ p : Part} (h : [Piece.queue, .proposal, .scanDue, .events] ++ reporting ⊆ xs) :
    OnlyChanges xs p₀ p.proposalExpires ↔ OnlyChanges xs p₀ p := by
  simp [reporting] at h
  unfold Part.proposalExpires
  try dsimp only
  (repeat' split) <;> simp [h, reporting]

@[simp] theorem overloadFalls_keeps {xs : List Piece} {p₀ p : Part} (h : [Piece.filters, .marker, .channels, .selection, .flags, .overload, .scanDue, .events] ++ reporting ⊆ xs) :
    OnlyChanges xs p₀ p.overloadFalls ↔ OnlyChanges xs p₀ p := by
  simp [reporting] at h
  unfold Part.overloadFalls
  try dsimp only
  (repeat' split) <;> simp [h, reporting]

@[simp] theorem changeMode_keeps {xs : List Piece} {p₀ p : Part} (m : PlantMode) (h : [Piece.mode, .proposal, .scanDue, .events] ++ reporting ⊆ xs) :
    OnlyChanges xs p₀ (p.changeMode m) ↔ OnlyChanges xs p₀ p := by
  simp [reporting] at h
  unfold Part.changeMode
  try dsimp only
  (repeat' split) <;> simp [h, reporting]

@[simp] theorem schedulerMeasure_keeps {xs : List Piece} {p₀ p : Part} (id : PointId) (h : [Piece.flags, .overload, .scanDue, .events] ++ reporting ⊆ xs) :
    OnlyChanges xs p₀ (p.schedulerMeasure id) ↔ OnlyChanges xs p₀ p := by
  simp [reporting] at h
  unfold Part.schedulerMeasure
  try dsimp only
  (repeat' split) <;> simp [h, reporting]

/-! ### Recipes -/

@[simp] theorem install_keeps {xs : List Piece} {p₀ p : Part} (x : Staging) (h : [.slots, .staging] ⊆ xs) :
    OnlyChanges xs p₀ (p.install x).1 ↔ OnlyChanges xs p₀ p := by
  simp [reporting] at h
  unfold Part.install
  try dsimp only
  (repeat' split) <;> simp [h, reporting]

@[simp] theorem stage_keeps {xs : List Piece} {p₀ p : Part} (records : List RawPhase) (h : [.slots, .staging] ⊆ xs) :
    OnlyChanges xs p₀ (p.stage records).1 ↔ OnlyChanges xs p₀ p := by
  simp [reporting] at h
  unfold Part.stage
  try dsimp only
  (repeat' split) <;> simp [h, reporting]

@[simp] theorem eraseSlot_keeps {xs : List Piece} {p₀ p : Part} (s : SlotId) (h : [.slots, .queue, .scanDue] ⊆ xs) :
    OnlyChanges xs p₀ (p.eraseSlot s) ↔ OnlyChanges xs p₀ p := by
  simp [reporting] at h
  unfold Part.eraseSlot
  try dsimp only
  (repeat' split) <;> simp [h, reporting]

/-! ### Start-up -/

@[simp] theorem advanceClock_keeps {xs : List Piece} {p₀ p : Part} (h : [.clock] ⊆ xs) :
    OnlyChanges xs p₀ p.advanceClock ↔ OnlyChanges xs p₀ p := by
  simp [reporting] at h
  unfold Part.advanceClock
  try dsimp only
  (repeat' split) <;> simp [h, reporting]

@[simp] theorem runSeconds_keeps {xs : List Piece} {p₀ p : Part} (h : [.filters, .events] ⊆ xs) :
    OnlyChanges xs p₀ p.runSeconds ↔ OnlyChanges xs p₀ p := by
  simp [reporting] at h
  unfold Part.runSeconds
  try dsimp only
  (repeat' split) <;> simp [h, reporting]

@[simp] theorem raiseTimers_keeps {xs : List Piece} {p₀ p : Part} (h : [.events] ⊆ xs) :
    OnlyChanges xs p₀ p.raiseTimers ↔ OnlyChanges xs p₀ p := by
  simp [reporting] at h
  unfold Part.raiseTimers
  try dsimp only
  (repeat' split) <;> simp [h, reporting]

@[simp] theorem tick_keeps {xs : List Piece} {p₀ p : Part} (h : [.clock, .filters, .events] ⊆ xs) :
    OnlyChanges xs p₀ p.tick ↔ OnlyChanges xs p₀ p := by
  simp [reporting] at h
  unfold Part.tick
  try dsimp only
  (repeat' split) <;> simp [h, reporting]

@[simp] theorem setSilence_keeps {xs : List Piece} {p₀ p : Part} (t : Option Nat) (h : [.silence, .events] ⊆ xs) :
    OnlyChanges xs p₀ (p.setSilence t) ↔ OnlyChanges xs p₀ p := by
  simp [reporting] at h
  unfold Part.setSilence
  try dsimp only
  (repeat' split) <;> simp [h, reporting]

@[simp] theorem restartSilence_keeps {xs : List Piece} {p₀ p : Part} (h : [.silence, .events] ⊆ xs) :
    OnlyChanges xs p₀ p.restartSilence ↔ OnlyChanges xs p₀ p := by
  simp [reporting] at h
  unfold Part.restartSilence
  try dsimp only
  (repeat' split) <;> simp [h, reporting]

@[simp] theorem frameAccepted_keeps {xs : List Piece} {p₀ p : Part} (h : [.lastAccepted, .silence, .events] ⊆ xs) :
    OnlyChanges xs p₀ p.frameAccepted ↔ OnlyChanges xs p₀ p := by
  simp [reporting] at h
  unfold Part.frameAccepted
  try dsimp only
  (repeat' split) <;> simp [h, reporting]

@[simp] theorem silenceFalls_keeps {xs : List Piece} {p₀ p : Part} (h : [Piece.silence, .silent, .mode, .proposal, .scanDue, .events] ++ reporting ⊆ xs) :
    OnlyChanges xs p₀ p.silenceFalls ↔ OnlyChanges xs p₀ p := by
  simp [reporting] at h
  unfold Part.silenceFalls
  try dsimp only
  (repeat' split) <;> simp [h, reporting]

@[simp] theorem commission_keeps {xs : List Piece} {p₀ p : Part} (h : [.top, .survey] ⊆ xs) :
    OnlyChanges xs p₀ p.commission ↔ OnlyChanges xs p₀ p := by
  simp [reporting] at h
  unfold Part.commission
  try dsimp only
  (repeat' split) <;> simp [h, reporting]

@[simp] theorem surveyFilter_keeps {xs : List Piece} {p₀ p : Part} (f : FilterId) (h : [Piece.filters, .selection, .events] ++ reporting ⊆ xs) :
    OnlyChanges xs p₀ (p.surveyFilter f) ↔ OnlyChanges xs p₀ p := by
  simp [reporting] at h
  unfold Part.surveyFilter
  try dsimp only
  (repeat' split) <;> simp [h, reporting]

@[simp] theorem endSurvey_keeps {xs : List Piece} {p₀ p : Part} (h : [Piece.top, .survey, .readyCall, .silence, .channels, .capture, .filters, .selection, .flags, .overload, .scanDue, .events] ++ reporting ⊆ xs) :
    OnlyChanges xs p₀ p.endSurvey ↔ OnlyChanges xs p₀ p := by
  simp [reporting] at h
  unfold Part.endSurvey
  try dsimp only
  (repeat' split) <;> simp [h, reporting]

end Sys2Proof.Laws
end

