-- ==== Sys2Proof/Laws/Rows.lean ====
section
/-! SUPPORT. What a row does once it may act: the forms `exec` takes for an event outstanding and for a host command that is
handled at once. -/

namespace Sys2Proof.Laws

open Sys2Proof.Machine

/-! ### Outcomes -/

/-- A row that acts always gives a next state and leaves the queue alone. -/
theorem act_next (g : Part → Part) (s : State) :
    act g s = .next { s with part := if s.part.live then g s.part else s.part } := rfl

theorem act_live {s : State} (g : Part → Part) (h : s.part.live = true) : act g s = .next { s with part := g s.part } := by
  simp [act, h]

theorem act_dead {s : State} (g : Part → Part) (h : s.part.live = false) : act g s = .next s := by
  simp [act, h]

theorem takeEvent_outstanding {s : State} {e : Event} (g : Part → Part) (h : Outstanding s e) :
    takeEvent e g s = .next { s with part := g (taking s.part e) } := by
  obtain ⟨hl, he⟩ := h
  simp [takeEvent, act, hl, he, taking]

/-- The row of an event that is not outstanding changes nothing (log 3). -/
theorem takeEvent_idle {s : State} {e : Event} (g : Part → Part) (h : e ∉ s.part.events) :
    takeEvent e g s = .next s := by
  simp [takeEvent, act, h]

@[simp] theorem taking_keeps {xs : List Piece} {p₀ p : Part} (e : Event) (h : [.events] ⊆ xs) :
    OnlyChanges xs p₀ (taking p e) ↔ OnlyChanges xs p₀ p := by
  simp at h
  simp [taking, h]

/-! ### Host commands -/

/-- A host command that can be handled: its frame is accepted, it is answered, and its reply placed. -/
theorem submit_handled {s : State} (tag : Byte) (c : HostCommand) (h : CanHandle s) :
    act (fun p => p.submit tag c) s = .next { s with part := s.part.frameAccepted.handle tag c } := by
  obtain ⟨hl, hr⟩ := h
  simp [act, Part.submit, hl, hr]

theorem handle_part (p : Part) (tag : Byte) (c : HostCommand) :
    p.handle tag c = (p.answer c).1.putReply ⟨replyKind c.kind, tag, (p.answer c).2.1, (p.answer c).2.2⟩ := rfl

@[simp] theorem putReply_keeps {xs : List Piece} {p₀ p : Part} (r : Reply) (h : reporting ⊆ xs) :
    OnlyChanges xs p₀ (p.putReply r) ↔ OnlyChanges xs p₀ p := by
  simp at h
  unfold Part.putReply LinkPort.beginSend
  dsimp only
  (repeat' split) <;> simp [h]

/-- A reply is the first thing a free transmitter begins, so no report moves. -/
theorem putReply_replying (p : Part) (r : Reply) : OnlyChanges replying p (p.putReply r) := by
  unfold Part.putReply LinkPort.beginSend
  dsimp only
  (repeat' split) <;> simp_all

theorem putReply_link (p : Part) (r : Reply) : (p.putReply r).link = { p.link with reply := some r }.beginSend := rfl

/-- A reply given is on the line, or waits in its buffer behind a frame being sent. -/
theorem putReply_replied (p : Part) (r : Reply) (h : p.link.softReset ≠ .sent) : Replied (p.putReply r) r := by
  unfold Part.putReply LinkPort.beginSend Replied
  cases hs : p.link.sending <;> simp_all

@[simp] theorem frameAccepted_link (p : Part) : p.frameAccepted.link = p.link := by
  unfold Part.frameAccepted Part.restartSilence Part.setSilence
  dsimp only
  split <;> rfl

@[simp] theorem frameAccepted_clock (p : Part) : p.frameAccepted.clock = p.clock :=
  ((frameAccepted_keeps (List.Subset.refl _)).2 (onlyChanges_refl _ _)) .clock (by simp)

@[simp] theorem frameAccepted_top (p : Part) : p.frameAccepted.startUp.top = p.startUp.top :=
  ((frameAccepted_keeps (List.Subset.refl _)).2 (onlyChanges_refl _ _)) .top (by simp)

/-! ### Reports -/

theorem afterReports_one (p : Part) (b : ReportBody) : (p.report b).link = afterReports p.clock p.link [b] := rfl

theorem afterReports_append (t : Nat) (k : LinkPort) (xs ys : List ReportBody) :
    afterReports t k (xs ++ ys) = afterReports t (afterReports t k xs) ys := by
  induction xs generalizing k with
  | nil => rfl
  | cons b xs ih => exact ih _

/-- One more report. -/
theorem reports_more {p q : Part} {bs : List ReportBody} (h : Reports p q bs) (hc : q.clock = p.clock) (b : ReportBody) :
    Reports p (q.report b) (bs ++ [b]) := by
  show (q.report b).link = _
  rw [afterReports_append, afterReports_one, hc, h]

theorem reports_none {p q : Part} (h : q.link = p.link) : Reports p q [] := h

end Sys2Proof.Laws
end

