-- ==== Sys2Proof/Laws/Queue.lean ====
section
/-! SUPPORT. The rotation queue: which entry a filter has after each operation, and the order of R46. -/

namespace Sys2Proof.Laws

open Sys2Proof.Machine

/-! ### Finding an entry -/

theorem find_insertEntry_ne {e : Entry} {f : FilterId} (h : e.filter ≠ f) (q : List Entry) :
    (insertEntry e q).find? (fun x => x.filter == f) = q.find? (fun x => x.filter == f) := by
  induction q with
  | nil => simp [insertEntry, h]
  | cons x q ih =>
    unfold insertEntry
    split
    · simp [List.find?_cons, h]
    · simp only [List.find?_cons, ih]

theorem find_insertEntry {e : Entry} (q : List Entry) (h : ∀ x ∈ q, x.filter ≠ e.filter) :
    (insertEntry e q).find? (fun x => x.filter == e.filter) = some e := by
  induction q with
  | nil => simp [insertEntry]
  | cons x q ih =>
    unfold insertEntry
    split
    · simp
    · have hx : (x.filter == e.filter) = false := by simpa using h x (by simp)
      simp only [List.find?_cons, hx]
      exact ih fun y hy => h y (by simp [hy])

theorem find_removeEntry_ne {f g : FilterId} (h : g ≠ f) (q : List Entry) :
    (removeEntry f q).find? (fun x => x.filter == g) = q.find? (fun x => x.filter == g) := by
  induction q with
  | nil => rfl
  | cons x q ih =>
    unfold removeEntry at ih ⊢
    by_cases hx : x.filter = f
    · have hg : (x.filter == g) = false := by simp [hx, Ne.symm h]
      simp only [List.filter_cons, hx, bne_self_eq_false, Bool.false_eq_true, if_false, ih]
      rw [List.find?_cons, hg]
    · simp only [List.filter_cons, bne_iff_ne, ne_eq, hx, not_false_eq_true, if_true, List.find?_cons, ih]

theorem mem_removeEntry {f : FilterId} {q : List Entry} {x : Entry} :
    x ∈ removeEntry f q ↔ x ∈ q ∧ x.filter ≠ f := by
  simp [removeEntry]

/-! ### The entry of a filter -/

@[simp] theorem entry_putEntry (p : Part) (e : Entry) : (p.putEntry e).entry e.filter = some e := by
  unfold Part.entry Part.putEntry
  exact find_insertEntry _ fun x hx => (mem_removeEntry.1 hx).2

theorem entry_putEntry_ne (p : Part) {e : Entry} {g : FilterId} (h : g ≠ e.filter) :
    (p.putEntry e).entry g = p.entry g := by
  unfold Part.entry Part.putEntry
  rw [find_insertEntry_ne (Ne.symm h), find_removeEntry_ne h]

theorem entry_filter {p : Part} {f : FilterId} {e : Entry} (h : p.entry f = some e) : e.filter = f := by
  simpa using List.find?_some h

theorem entry_mem {p : Part} {f : FilterId} {e : Entry} (h : p.entry f = some e) : e ∈ p.sched.queue :=
  List.mem_of_find?_eq_some h

/-- An operation that leaves the queue alone leaves every entry alone. -/
theorem entry_kept {xs : List Piece} {p q : Part} (h : OnlyChanges xs p q) (hx : Piece.queue ∉ xs) (f : FilterId) :
    q.entry f = p.entry f := entry_of_queue (h .queue hx) f

theorem filter_kept {xs : List Piece} {p q : Part} (h : OnlyChanges xs p q) (hx : Piece.filters ∉ xs) (f : FilterId) :
    q.filter f = p.filter f := by
  have k : q.table.filters = p.table.filters := h .filters hx
  simp [Part.filter, k]

theorem channel_kept {xs : List Piece} {p q : Part} (h : OnlyChanges xs p q) (hx : Piece.channels ∉ xs) (ch : ChannelId) :
    q.channel ch = p.channel ch := by
  have k : q.valves.channels = p.valves.channels := h .channels hx
  simp [Part.channel, k]

theorem lane_kept {xs : List Piece} {p q : Part} (h : OnlyChanges xs p q) (hx : Piece.lanes ∉ xs) (l : LaneId) :
    q.lane l = p.lane l := by
  have k : q.lanes = p.lanes := h .lanes hx
  simp [Part.lane, k]

theorem unit_kept {xs : List Piece} {p q : Part} (h : OnlyChanges xs p q) (hx : Piece.units ∉ xs) (u : UnitId) :
    q.unit u = p.unit u := by
  have k : q.arb.units = p.arb.units := h .units hx
  simp [Part.unit, k]

theorem point_kept {xs : List Piece} {p q : Part} (h : OnlyChanges xs p q) (hx : Piece.points ∉ xs) (id : PointId) :
    q.point id = p.point id := by
  obtain ⟨a, b, c, d, e⟩ := h .points hx
  cases id <;> simp [Part.point, a, b, c, d, e]

theorem recipe_kept {xs : List Piece} {p q : Part} (h : OnlyChanges xs p q) (hx : Piece.slots ∉ xs) (slot : SlotId) :
    q.recipe slot = p.recipe slot := by
  have k : q.recipes.slots = p.recipes.slots := h .slots hx
  simp [Part.recipe, k]

/-! ### The order (R46) -/

/-- The keys of an entry, in turn. -/
theorem before_iff (x y : Entry) : x.before y = true ↔
    x.cls.rank < y.cls.rank ∨ (x.cls.rank = y.cls.rank ∧ (y.u < x.u ∨ (x.u = y.u ∧
      (x.raisedAt < y.raisedAt ∨ (x.raisedAt = y.raisedAt ∧ x.filter.val < y.filter.val))))) := by
  unfold Entry.before
  split
  · simp; omega
  · split
    · simp; omega
    · split
      · simp; omega
      · simp; omega

theorem before_trans {x y z : Entry} (h : x.before y = true) (k : y.before z = true) : x.before z = true := by
  rw [before_iff] at *
  omega

theorem before_total {x y : Entry} (h : x.filter ≠ y.filter) (k : x.before y = false) : y.before x = true := by
  have hv : x.filter.val ≠ y.filter.val := fun e => h (Fin.ext e)
  have n : ¬ x.before y = true := by simp [k]
  rw [before_iff] at *
  omega

/-! ### Operations that keep the order -/

theorem inOrder_kept {xs : List Piece} {p q : Part} (h : OnlyChanges xs p q) (hx : Piece.queue ∉ xs)
    (k : QueueInOrder p) : QueueInOrder q := by
  unfold QueueInOrder; rw [show q.sched.queue = p.sched.queue from h .queue hx]; exact k

theorem insertEntry_perm (e : Entry) (q : List Entry) : (insertEntry e q).Perm (e :: q) := by
  induction q with
  | nil => exact List.Perm.refl _
  | cons x q ih =>
    unfold insertEntry
    split
    · exact List.Perm.refl _
    · exact (List.Perm.cons x ih).trans (List.Perm.swap _ _ _)

theorem insertEntry_sorted {e : Entry} {q : List Entry} (h : q.Pairwise fun x y => x.before y = true)
    (hn : ∀ x ∈ q, x.filter ≠ e.filter) : (insertEntry e q).Pairwise fun x y => x.before y = true := by
  induction q with
  | nil => unfold insertEntry; simp
  | cons x q ih =>
    rw [List.pairwise_cons] at h
    unfold insertEntry
    split
    · rename_i hb
      refine List.pairwise_cons.2 ⟨fun y hy => ?_, List.pairwise_cons.2 h⟩
      rcases List.mem_cons.1 hy with rfl | hy
      · exact hb
      · exact before_trans hb (h.1 y hy)
    · rename_i hb
      refine List.pairwise_cons.2 ⟨fun y hy => ?_, ih h.2 fun y hy => hn y (List.mem_cons_of_mem _ hy)⟩
      rcases List.mem_cons.1 ((insertEntry_perm e q).mem_iff.1 hy) with rfl | hy
      · exact before_total (Ne.symm (hn x (by simp))) (by simpa using hb)
      · exact h.1 y hy

theorem removeEntry_inOrder {p : Part} (f : FilterId) (h : QueueInOrder p) :
    QueueInOrder { p with sched := { p.sched with queue := removeEntry f p.sched.queue } } :=
  ⟨h.1.sublist List.filter_sublist, List.Nodup.sublist (List.filter_sublist.map _) h.2⟩

theorem putEntry_inOrder {p : Part} (e : Entry) (h : QueueInOrder p) : QueueInOrder (p.putEntry e) := by
  obtain ⟨a, b⟩ := removeEntry_inOrder e.filter h
  have hn : ∀ x ∈ removeEntry e.filter p.sched.queue, x.filter ≠ e.filter := fun x hx => (mem_removeEntry.1 hx).2
  refine ⟨insertEntry_sorted a hn, ?_⟩
  show ((insertEntry e (removeEntry e.filter p.sched.queue)).map Entry.filter).Nodup
  rw [((insertEntry_perm e _).map Entry.filter).nodup_iff, List.map_cons, List.nodup_cons]
  refine ⟨?_, b⟩
  rw [List.mem_map]
  rintro ⟨x, hx, hf⟩
  exact hn x hx hf

/-- An erased slot's overrides are no keys (R46, R56). -/
theorem withoutOverride_inOrder {p : Part} (slot : SlotId) (h : QueueInOrder p) :
    QueueInOrder { p with sched := { p.sched with queue := p.sched.queue.map (Entry.withoutOverride slot) } } := by
  have hb : ∀ x y : Entry, (x.withoutOverride slot).before (y.withoutOverride slot) = x.before y := by
    intro x y; unfold Entry.withoutOverride Entry.before; split <;> split <;> rfl
  have hf : Entry.filter ∘ Entry.withoutOverride slot = Entry.filter := by
    funext x; unfold Entry.withoutOverride; dsimp only [Function.comp]; split <;> rfl
  refine ⟨?_, ?_⟩
  · show (p.sched.queue.map _).Pairwise _
    rw [List.pairwise_map]; simp only [hb]; exact h.1
  · show ((p.sched.queue.map _).map _).Nodup
    rw [List.map_map, hf]; exact h.2

end Sys2Proof.Laws
end

