-- ==== Sys2Proof/Laws/Filters.lean ====
section
/-! SUPPORT. Changes of a filter's record: what the record becomes, what is reported, when the service area moves. -/

namespace Sys2Proof.Laws

open Sys2Proof.Machine

/-! ### Scans and the top state -/

theorem operating_of {p : Part} (h : p.startUp.top = .operating) : p.operating = true := by simp [Part.operating, h]

theorem operating_kept {xs : List Piece} {p q : Part} (h : OnlyChanges xs p q) (hx : Piece.top ∉ xs) :
    q.operating = p.operating := by
  have k : q.startUp.top = p.startUp.top := h .top hx
  simp [Part.operating, k]

theorem stopAsserted_kept {xs : List Piece} {p q : Part} (h : OnlyChanges xs p q) (hx : Piece.stop ∉ xs) :
    q.stopAsserted = p.stopAsserted := by
  have k : q.valves.stop = p.valves.stop := h .stop hx
  simp [Part.stopAsserted, k]

theorem trigger_due (p : Part) (h : p.operating = true) : p.trigger.sched.scanDue = true := by simp [Part.trigger, h]

@[simp] theorem trigger_link (p : Part) : p.trigger.link = p.link := by unfold Part.trigger; split <;> rfl

@[simp] theorem trigger_events (p : Part) : p.trigger.events = p.events := by unfold Part.trigger; split <;> rfl

/-! ### Entries -/

theorem addEntry_entry (p : Part) (f : FilterId) (c : RequestClass) (src : RequestSource) (u : Nat) (o : Option SlotId) :
    (p.addEntry f c src u o).entry f = some ⟨f, c, src, u, p.clock, o, none⟩ := by
  unfold Part.addEntry
  dsimp only
  rw [entry_kept (p := p.putEntry ⟨f, c, src, u, p.clock, o, none⟩) (xs := [Piece.scanDue] ++ reporting) (by simp) (by simp)]
  exact entry_putEntry p ⟨f, c, src, u, p.clock, o, none⟩

theorem addEntry_entry_ne (p : Part) (f : FilterId) (c : RequestClass) (src : RequestSource) (u : Nat)
    (o : Option SlotId) {g : FilterId} (h : g ≠ f) : (p.addEntry f c src u o).entry g = p.entry g := by
  unfold Part.addEntry
  dsimp only
  rw [entry_kept (p := p.putEntry ⟨f, c, src, u, p.clock, o, none⟩) (xs := [Piece.scanDue] ++ reporting) (by simp) (by simp)]
  exact entry_putEntry_ne p h

theorem addEntry_link (p : Part) (f : FilterId) (c : RequestClass) (src : RequestSource) (u : Nat) (o : Option SlotId) :
    (p.addEntry f c src u o).link = afterReports p.clock p.link [.request .added f c none src u none] := by
  unfold Part.addEntry
  dsimp only
  rw [trigger_link]
  rfl

/-- A filter's entry after a deferral is written. -/
theorem setDefer_entry (p : Part) (e : Entry) (t : Option Nat) :
    (p.setDefer e t).entry e.filter = some { e with deferUntil := t } := by
  have k : OnlyChanges [.scanDue] ((p.cancel (.deferExpiry e.filter)).putEntry { e with deferUntil := t })
      (p.setDefer e t) := by
    unfold Part.setDefer; dsimp only; split <;> simp
  rw [entry_kept k (by simp) e.filter]
  exact entry_putEntry _ { e with deferUntil := t }

theorem setDefer_entry_ne (p : Part) (e : Entry) (t : Option Nat) {g : FilterId} (h : g ≠ e.filter) :
    (p.setDefer e t).entry g = p.entry g := by
  have k : OnlyChanges [.scanDue] ((p.cancel (.deferExpiry e.filter)).putEntry { e with deferUntil := t })
      (p.setDefer e t) := by
    unfold Part.setDefer; dsimp only; split <;> simp
  rw [entry_kept k (by simp) g, entry_putEntry_ne _ (by exact h)]
  rfl

theorem setDefer_due (p : Part) (e : Entry) (t : Option Nat) (ho : p.operating = true) (h : t ≠ e.deferUntil) :
    (p.setDefer e t).sched.scanDue = true := by
  unfold Part.setDefer
  dsimp only
  rw [if_neg h]
  exact trigger_due _ ho

@[simp] theorem setDefer_link (p : Part) (e : Entry) (t : Option Nat) : (p.setDefer e t).link = p.link := by
  unfold Part.setDefer
  dsimp only
  split
  · rfl
  · rw [trigger_link]; rfl

theorem withdraw_of {p : Part} {pr : Proposal} (h : p.sched.proposal = some pr) (c : WithdrawalCause) (d : Option Nat) :
    (p.withdraw c d).sched.proposal = none ∧
    (p.withdraw c d).link = afterReports p.clock p.link [.proposalWithdrawn pr.filter c d] ∧
    (p.operating = true → (p.withdraw c d).sched.scanDue = true) := by
  have k : OnlyChanges ([Piece.scanDue] ++ reporting)
      (({ p with sched := { p.sched with proposal := none } } : Part).cancel .proposalExpiry) (p.withdraw c d) := by
    unfold Part.withdraw; rw [h]; simp
  refine ⟨k .proposal (by simp), ?_, ?_⟩
  · unfold Part.withdraw; rw [h]; dsimp only; rw [trigger_link]; rfl
  · intro ho
    unfold Part.withdraw; rw [h]; dsimp only
    apply trigger_due
    rw [operating_kept (p := p) (xs := [Piece.proposal, .events] ++ reporting) (by simp) (by simp)]
    exact ho

theorem withdraw_none {p : Part} (h : p.sched.proposal = none) (c : WithdrawalCause) (d : Option Nat) :
    p.withdraw c d = p := by
  unfold Part.withdraw; rw [h]

theorem dropEntry_none {p : Part} {f : FilterId} (h : p.entry f = none) (c : RemovalCause) : p.dropEntry f c = p := by
  unfold Part.dropEntry; rw [h]

theorem removeEntry_entry (p : Part) (f : FilterId) :
    Part.entry { p with sched := { p.sched with queue := removeEntry f p.sched.queue } } f = none := by
  unfold Part.entry
  rw [List.find?_eq_none]
  intro x hx
  simpa using (mem_removeEntry.1 hx).2

/-- R55: an entry dropped is gone, reported, and triggers a scan. -/
theorem dropEntry_of {p : Part} {f : FilterId} {e : Entry} (h : p.entry f = some e) (c : RemovalCause) :
    (p.dropEntry f c).entry f = none ∧ (∀ g, g ≠ f → (p.dropEntry f c).entry g = p.entry g) ∧
    (p.dropEntry f c).link = afterReports p.clock p.link [.request .removed f e.cls none e.source e.u (some c)] ∧
    (p.operating = true → (p.dropEntry f c).sched.scanDue = true) := by
  have k : OnlyChanges ([Piece.scanDue, .events] ++ reporting)
      { p with sched := { p.sched with queue := removeEntry f p.sched.queue } } (p.dropEntry f c) := by
    unfold Part.dropEntry; rw [h]; simp
  refine ⟨?_, ?_, ?_, ?_⟩
  · rw [entry_kept k (by simp)]
    exact removeEntry_entry p f
  · intro g hg
    rw [entry_kept k (by simp)]
    exact find_removeEntry_ne hg _
  · unfold Part.dropEntry; rw [h]; dsimp only; rw [trigger_link]
    unfold Part.reportRequest
    rw [afterReports_one, entry_filter h]
    rfl
  · intro ho
    unfold Part.dropEntry; rw [h]; dsimp only
    apply trigger_due
    rw [operating_kept (p := p) (xs := [Piece.queue, .events] ++ reporting) (by simp) (by simp)]
    exact ho

/-! ### Records -/

@[simp] theorem indexed_state (r : FilterRecord) : r.indexed.state = r.state := by
  unfold FilterRecord.indexed; split <;> rfl

@[simp] theorem indexed_transfer (r : FilterRecord) : r.indexed.transfer = r.transfer := by
  unfold FilterRecord.indexed; split <;> rfl

@[simp] theorem indexed_cfg (r : FilterRecord) : r.indexed.cfg = r.cfg := by
  unfold FilterRecord.indexed; split <;> rfl

theorem moveFilter_filter (p : Part) (f : FilterId) (r : FilterRecord) : (p.moveFilter f r).filter f = some r.indexed := by
  have k : OnlyChanges ([Piece.selection, .events] ++ reporting) (p.putFilter f (some r.indexed)) (p.moveFilter f r) := by
    unfold Part.moveFilter; dsimp only; split <;> simp
  rw [filter_kept k (by simp), filter_putFilter]

theorem moveFilter_filter_ne (p : Part) {f g : FilterId} (h : g ≠ f) (r : FilterRecord) :
    (p.moveFilter f r).filter g = p.filter g := by
  have k : OnlyChanges ([Piece.selection, .events] ++ reporting) (p.putFilter f (some r.indexed)) (p.moveFilter f r) := by
    unfold Part.moveFilter; dsimp only; split <;> simp
  rw [filter_kept k (by simp), filter_putFilter_ne _ h]

@[simp] theorem releaseWindow_link (p : Part) (f : FilterId) : (p.releaseWindow f).link = p.link := by
  unfold Part.releaseWindow
  split
  · split
    · split <;> rfl
    · rfl
  · rfl

@[simp] theorem dropNotices_link (p : Part) (f : FilterId) : (p.dropNotices f).link = p.link := by
  unfold Part.dropNotices; split <;> rfl

/-- R4: a change of state or transfer is reported. -/
theorem moveFilter_link (p : Part) (f : FilterId) (r : FilterRecord) :
    (p.moveFilter f r).link = afterReports p.clock p.link
      [.filterState f (some r.state) ((p.filter f).map (·.state)) r.transfer (p.table.marker == some f)] := by
  unfold Part.moveFilter
  dsimp only
  rw [dropNotices_link]
  have e : ((p.putFilter f (some r.indexed)).reportFilter f ((p.filter f).map (·.state))).link =
      afterReports p.clock p.link
        [.filterState f (some r.state) ((p.filter f).map (·.state)) r.transfer (p.table.marker == some f)] := by
    unfold Part.reportFilter
    dsimp only
    rw [afterReports_one, filter_putFilter]
    simp
    rfl
  split
  · exact e
  · rw [releaseWindow_link]; exact e

theorem isOnline_of {p : Part} {f : FilterId} {r : FilterRecord} (h : p.filter f = some r) :
    p.isOnline f = (r.state == .online) := by
  simp [Part.isOnline, h]

theorem changeFilter_of {p : Part} {f : FilterId} {r : FilterRecord} (h : p.filter f = some r)
    (g : FilterRecord → FilterRecord) :
    p.changeFilter f g = (p.moveFilter f (g r)).areaChanged f (r.state == .online) := by
  unfold Part.changeFilter
  rw [h]
  dsimp only
  rw [isOnline_of h]

theorem changeFilter_filter {p : Part} {f : FilterId} {r : FilterRecord} (h : p.filter f = some r)
    (g : FilterRecord → FilterRecord) : (p.changeFilter f g).filter f = some (g r).indexed := by
  rw [changeFilter_of h, filter_kept (p := p.moveFilter f (g r)) (xs := [Piece.flags, .overload, .scanDue, .events] ++ reporting)
    (by simp) (by simp), moveFilter_filter]

theorem changeFilter_filter_ne (p : Part) {f k : FilterId} (hk : k ≠ f) (g : FilterRecord → FilterRecord) :
    (p.changeFilter f g).filter k = p.filter k := by
  cases h : p.filter f with
  | none => unfold Part.changeFilter; rw [h]
  | some r =>
    rw [changeFilter_of h, filter_kept (p := p.moveFilter f (g r))
      (xs := [Piece.flags, .overload, .scanDue, .events] ++ reporting) (by simp) (by simp), moveFilter_filter_ne _ hk]

/-- A change that leaves the filter inside, or outside, the service area computes no loading. -/
theorem changeFilter_quiet {p : Part} {f : FilterId} {r : FilterRecord} (h : p.filter f = some r)
    (g : FilterRecord → FilterRecord) (ho : (g r).state = .online ↔ r.state = .online) :
    p.changeFilter f g = p.moveFilter f (g r) := by
  rw [changeFilter_of h]
  have e : ((g r).state == .online) = (r.state == .online) := by
    rw [Bool.eq_iff_iff, beq_iff_eq, beq_iff_eq]
    exact ho
  unfold Part.areaChanged
  rw [isOnline_of (moveFilter_filter p f (g r)), indexed_state, if_pos e]

theorem changeFilter_clock (p : Part) (f : FilterId) (g : FilterRecord → FilterRecord) :
    (p.changeFilter f g).clock = p.clock :=
  ((changeFilter_keeps f g (List.Subset.refl _)).2 (onlyChanges_refl _ _)) .clock (by simp)

end Sys2Proof.Laws
end

