-- ==== Sys2Proof/Laws/Units.lean ====
section
/-! SUPPORT. The equipment arbiter: which state a unit has after each operation, and who is told. -/

namespace Sys2Proof.Laws

open Sys2Proof.Machine

/-! ### One unit written -/

theorem setUnit_unit (p : Part) (u : UnitId) (x : UnitState) : (p.setUnit u x).unit u = { p.unit u with state := x } :=
  unit_putUnit p u _

theorem setUnit_unit_ne (p : Part) {u v : UnitId} (h : v ≠ u) (x : UnitState) : (p.setUnit u x).unit v = p.unit v :=
  unit_putUnit_ne p h _

@[simp] theorem setUnit_link (p : Part) (u : UnitId) (x : UnitState) : (p.setUnit u x).link = p.link := rfl
@[simp] theorem setUnit_clock (p : Part) (u : UnitId) (x : UnitState) : (p.setUnit u x).clock = p.clock := rfl
@[simp] theorem setUnit_plant (p : Part) (u : UnitId) (x : UnitState) : (p.setUnit u x).plant = p.plant := rfl
@[simp] theorem setUnit_lanes (p : Part) (u : UnitId) (x : UnitState) : (p.setUnit u x).lanes = p.lanes := rfl

/-- The feedback reading hangs on the input and the polarity alone (R141). -/
theorem feedback_of (p : Part) {u : UnitId} {x : UnitRecord} (h : p.unit u = x) :
    p.feedback u = feedbackOf (p.plant.polarity.get u) x.input := by
  unfold Part.feedback; rw [h]

@[simp] theorem setUnit_feedback (p : Part) (u v : UnitId) (x : UnitState) : (p.setUnit u x).feedback v = p.feedback v := by
  by_cases h : v = u
  · subst h; unfold Part.feedback; rw [setUnit_unit]; rfl
  · unfold Part.feedback; rw [setUnit_unit_ne p h]; rfl

/-- A change of a unit's state drops only that unit's own timers. -/
theorem setUnit_events (p : Part) (u : UnitId) (x : UnitState) (e : Event) (h : e ≠ .proveExpiry u) (k : e ≠ .guardEnd u) :
    e ∈ (p.setUnit u x).events ↔ e ∈ p.events := by
  simp [Part.setUnit, Part.cancel, h, k]

theorem reportEquipment_link (p : Part) (u : UnitId) (e : EquipmentEvent) (before : UnitState) :
    (p.reportEquipment u e before).link = afterReports p.clock p.link [.equipment u e (p.unit u).state before before.lane
      (match (p.unit u).state with
        | .failed c => some c
        | _ => none) (p.feedback u)] := rfl

@[simp] theorem reportEquipment_unit (p : Part) (u v : UnitId) (e : EquipmentEvent) (before : UnitState) :
    (p.reportEquipment u e before).unit v = p.unit v := rfl

@[simp] theorem reportEquipment_events (p : Part) (u : UnitId) (e : EquipmentEvent) (before : UnitState) :
    (p.reportEquipment u e before).events = p.events := rfl

@[simp] theorem tellNews_unit (p : Part) (u v : UnitId) (n : UnitNews) : (p.tellNews u n).unit v = p.unit v := rfl
@[simp] theorem tellNews_link (p : Part) (u : UnitId) (n : UnitNews) : (p.tellNews u n).link = p.link := rfl
@[simp] theorem tellNews_arb (p : Part) (u : UnitId) (n : UnitNews) : (p.tellNews u n).arb = p.arb := rfl

/-- The notices of R145. -/
theorem tellNews_events (p : Part) (u : UnitId) (n : UnitNews) : (p.tellNews u n).events =
    p.events ++ [.laneUnitNews .a u n, .laneUnitNews .b u n, .schedulerUnitNews u n] := rfl

/-! ### Grants and wait lists (R138) -/

theorem grant_unit (p : Part) (u : UnitId) (l : LaneId) : (p.grant u l).unit u = { p.unit u with state := .allocated l } := by
  unfold Part.grant
  dsimp only
  split <;> exact setUnit_unit p u _

theorem grant_unit_ne (p : Part) {u v : UnitId} (h : v ≠ u) (l : LaneId) : (p.grant u l).unit v = p.unit v := by
  unfold Part.grant
  dsimp only
  split <;> exact setUnit_unit_ne p h _

theorem grant_told (p : Part) (u : UnitId) (l : LaneId) : .grant l u ∈ (p.grant u l).events := by
  simp [Part.grant, Part.raise]

theorem grant_waiting (p : Part) (u : UnitId) (l : LaneId) (k : UnitKind) : (p.grant u l).waiting k = p.waiting k := by
  unfold Part.grant
  dsimp only
  split <;> cases k <;> rfl

@[simp] theorem setWaiting_unit (p : Part) (k : UnitKind) (ls : List LaneId) (u : UnitId) :
    (p.setWaiting k ls).unit u = p.unit u := by cases k <;> rfl

@[simp] theorem setWaiting_waiting (p : Part) (k : UnitKind) (ls : List LaneId) : (p.setWaiting k ls).waiting k = ls := by
  cases k <;> rfl

@[simp] theorem setUnit_waiting (p : Part) (u : UnitId) (x : UnitState) (k : UnitKind) :
    (p.setUnit u x).waiting k = p.waiting k := by cases k <;> rfl

theorem serveWait_none {p : Part} {u : UnitId} (h : p.waiting (unitKind u) = []) : p.serveWait u = p := by
  unfold Part.serveWait; rw [h]

theorem serveWait_some {p : Part} {u : UnitId} {l : LaneId} {rest : List LaneId} (h : p.waiting (unitKind u) = l :: rest) :
    p.serveWait u = (p.setWaiting (unitKind u) rest).grant u l := by
  unfold Part.serveWait; rw [h]

theorem serveWait_unit_ne (p : Part) {u v : UnitId} (h : v ≠ u) : (p.serveWait u).unit v = p.unit v := by
  unfold Part.serveWait
  split
  · rw [grant_unit_ne _ h, setWaiting_unit]
  · rfl

theorem serveWait_input (p : Part) (u : UnitId) : ((p.serveWait u).unit u).input = (p.unit u).input := by
  unfold Part.serveWait
  split
  · rw [grant_unit, setWaiting_unit]
  · rfl

end Sys2Proof.Laws
end

