-- ==== Sys2Proof/Laws/Lanes.lean ====
section
/-! SUPPORT. The lanes: which record a lane has after each operation. -/

namespace Sys2Proof.Laws

open Sys2Proof.Machine

/-! ### A lane at work in its phase -/

theorem samePhase_refl (w : Wash) : SamePhase w w := ⟨rfl, rfl, rfl, rfl, rfl, rfl, rfl, rfl⟩

theorem samePhase_trans {a b c : Wash} (h : SamePhase a b) (k : SamePhase b c) : SamePhase a c := by
  obtain ⟨h1, h2, h3, h4, h5, h6, h7, h8⟩ := h
  obtain ⟨k1, k2, k3, k4, k5, k6, k7, k8⟩ := k
  exact ⟨k1.trans h1, k2.trans h2, k3.trans h3, k4.trans h4, k5.trans h5, k6.trans h6, k7.trans h7, k8.trans h8⟩

/-- What every operation within a phase does to the lanes: the other lane stays, and this lane keeps its place in its
phase and, from ACQUIRING to HELD, stays in those states. -/
def Working (l : LaneId) (p q : Part) : Prop :=
  OtherLaneKept p q l ∧ ∀ w, p.lane l = some w →
    ∃ w', q.lane l = some w' ∧ SamePhase w w' ∧ (w.state.holdable = true → w'.state.holdable = true)

theorem working_refl (l : LaneId) (p : Part) : Working l p p :=
  ⟨fun _ _ => rfl, fun w h => ⟨w, h, samePhase_refl w, id⟩⟩

theorem working_trans {l : LaneId} {p q r : Part} (h : Working l p q) (k : Working l q r) : Working l p r := by
  refine ⟨fun m hm => (k.1 m hm).trans (h.1 m hm), fun w hw => ?_⟩
  obtain ⟨w1, a, b, c⟩ := h.2 w hw
  obtain ⟨w2, d, e, f⟩ := k.2 w1 a
  exact ⟨w2, d, samePhase_trans b e, fun x => f (c x)⟩

/-- Lanes left alone. -/
theorem working_lanes {l : LaneId} {p q : Part} (h : q.lanes = p.lanes) : Working l p q := by
  have k : ∀ m, q.lane m = p.lane m := fun m => by simp [Part.lane, h]
  exact ⟨fun m _ => k m, fun w hw => ⟨w, (k l).trans hw, samePhase_refl w, id⟩⟩

theorem working_kept {xs : List Piece} {l : LaneId} {p q : Part} (h : OnlyChanges xs p q) (hx : Piece.lanes ∉ xs) :
    Working l p q := working_lanes (h .lanes hx)

theorem working_putLane {l : LaneId} {p : Part} {w w' : Wash} (h : p.lane l = some w) (s : SamePhase w w')
    (k : w.state.holdable = true → w'.state.holdable = true) : Working l p (p.putLane l (some w')) := by
  refine ⟨fun m hm => lane_putLane_ne p hm _, fun x hx => ⟨w', by simp, ?_⟩⟩
  obtain rfl : w = x := by rw [h] at hx; exact Option.some.inj hx
  exact ⟨s, k⟩

theorem working_modWash {l : LaneId} {p : Part} {g : Wash → Wash} (s : ∀ w, SamePhase w (g w))
    (k : ∀ w, (g w).state = w.state) : Working l p (p.modWash l g) := by
  unfold Part.modWash
  split
  · rename_i w h; exact working_putLane h (s w) (by rw [k]; exact id)
  · exact working_refl l p

theorem working_foldl {α : Type} {l : LaneId} {g : Part → α → Part} (h : ∀ p x, Working l p (g p x)) (xs : List α) :
    ∀ p, Working l p (xs.foldl g p) := by
  induction xs with
  | nil => exact working_refl l
  | cons x xs ih => exact fun p => working_trans (h p x) (ih _)

theorem modWash_of {p : Part} {l : LaneId} {w : Wash} (h : p.lane l = some w) (g : Wash → Wash) :
    p.modWash l g = p.putLane l (some (g w)) := by
  unfold Part.modWash; rw [h]

/-! ### Units of a lane -/

theorem samePhase_dropUnit (w : Wash) (u : UnitId) : SamePhase w (w.dropUnit u) := by
  cases u <;> unfold Wash.dropUnit <;> dsimp only <;> (try split) <;> exact ⟨rfl, rfl, rfl, rfl, rfl, rfl, rfl, rfl⟩

@[simp] theorem dropUnit_state (w : Wash) (u : UnitId) : (w.dropUnit u).state = w.state := by
  cases u <;> unfold Wash.dropUnit <;> dsimp only <;> (try split) <;> rfl

theorem releaseUnit_lanes (p : Part) (l : LaneId) (u : UnitId) : (p.releaseUnit l u).lanes = p.lanes :=
  ((releaseUnit_keeps l u (List.Subset.refl _)).2 (onlyChanges_refl _ _)) .lanes (by simp)

theorem releaseKind_working (p : Part) (l : LaneId) (k : UnitKind) : Working l p (p.releaseKind l k) := by
  unfold Part.releaseKind
  refine working_foldl (fun p u => ?_) _ _
  exact working_trans (working_lanes (releaseUnit_lanes p l u))
    (working_modWash (fun w => samePhase_dropUnit w u) fun w => dropUnit_state w u)

/-- A lane's record after it gives up every unit. -/
theorem releaseAll_lane {p : Part} {l : LaneId} {w : Wash} (h : p.lane l = some w) :
    (p.releaseAll l).lane l = some { w with pump := none, blower := false } := by
  have step : ∀ (p : Part) (u : UnitId) (w : Wash), p.lane l = some w →
      (((p.releaseUnit l u).modWash l fun w => w.dropUnit u)).lane l = some (w.dropUnit u) := by
    intro p u w h
    have h' : (p.releaseUnit l u).lane l = some w := by
      rw [← h]; simp [Part.lane, releaseUnit_lanes]
    rw [modWash_of h']; simp
  have h0 : ((p.withdrawRequest l .pump).withdrawRequest l .blower).lane l = some w := h
  have h1 := step _ .p1 _ h0
  have h2 := step _ .p2 _ h1
  have h3 := step _ .bl _ h2
  let drop := fun (p : Part) (u : UnitId) => (p.releaseUnit l u).modWash l fun w => w.dropUnit u
  have e : p.releaseAll l =
      drop (drop (drop ((p.withdrawRequest l .pump).withdrawRequest l .blower) .p1) .p2) .bl := rfl
  rw [e, h3]
  have hw : ((w.dropUnit .p1).dropUnit .p2).dropUnit .bl = { w with pump := none, blower := false } := by
    cases hp : w.pump with
    | none => simp [Wash.dropUnit, hp]
    | some x => cases x <;> simp [Wash.dropUnit, hp]
  rw [hw]

theorem releaseAll_other (p : Part) {l m : LaneId} (h : m ≠ l) : (p.releaseAll l).lane m = p.lane m := by
  unfold Part.releaseAll
  refine (releaseKind_working _ l .blower).1 m h |>.trans ?_
  exact (releaseKind_working _ l .pump).1 m h

theorem releaseAll_working (p : Part) (l : LaneId) : Working l p (p.releaseAll l) := by
  refine ⟨fun m hm => releaseAll_other _ hm, fun x hx => ⟨_, releaseAll_lane hx, ?_, id⟩⟩
  exact ⟨rfl, rfl, rfl, rfl, rfl, rfl, rfl, rfl⟩

/-- The pieces of the link kept one by one are the link kept. -/
theorem link_kept {xs : List Piece} {p q : Part} (h : OnlyChanges xs p q)
    (hx : ∀ x ∈ [Piece.rx, .rxQueue, .reply, .reports, .sending, .seq, .errors, .overflow, .reportLoss, .cursor, .rate,
      .softReset], x ∉ xs) : q.link = p.link := by
  have a : q.link.rx = p.link.rx := h .rx (hx _ (by simp))
  have b : q.link.queue = p.link.queue := h .rxQueue (hx _ (by simp))
  have c : q.link.reply = p.link.reply := h .reply (hx _ (by simp))
  have d : q.link.reports = p.link.reports := h .reports (hx _ (by simp))
  have e : q.link.sending = p.link.sending := h .sending (hx _ (by simp))
  have f : q.link.seq = p.link.seq := h .seq (hx _ (by simp))
  have g : q.link.errors = p.link.errors := h .errors (hx _ (by simp))
  have i : q.link.overflow = p.link.overflow := h .overflow (hx _ (by simp))
  have j : q.link.reportLoss = p.link.reportLoss := h .reportLoss (hx _ (by simp))
  have k : q.link.cursor = p.link.cursor := h .cursor (hx _ (by simp))
  have m : q.link.rate = p.link.rate := h .rate (hx _ (by simp))
  have n : q.link.softReset = p.link.softReset := h .softReset (hx _ (by simp))
  revert a b c d e f g i j k m n
  cases q.link
  cases p.link
  simp only
  rintro rfl rfl rfl rfl rfl rfl rfl rfl rfl rfl rfl rfl
  rfl

/-- The lane asks for no unit. -/
def AsksNothing (p : Part) (l : LaneId) : Prop := l ∉ p.arb.pumpWait ∧ l ∉ p.arb.blowerWait

theorem asksNothing_waiting {p : Part} {l : LaneId} (h : AsksNothing p l) (k : UnitKind) : l ∉ p.waiting k := by
  cases k
  · exact h.1
  · exact h.2

theorem asksNothing_of {p : Part} {l : LaneId} (h : ∀ k, l ∉ p.waiting k) : AsksNothing p l := ⟨h .pump, h .blower⟩

theorem withdrawRequest_waiting (p : Part) (l m : LaneId) (k : UnitKind) (h : m ∉ p.waiting k) :
    m ∉ (p.withdrawRequest l k).waiting k := by
  unfold Part.withdrawRequest
  rw [setWaiting_waiting]
  exact fun x => h (List.mem_filter.1 x).1

theorem withdraw_both (p : Part) (l : LaneId) :
    AsksNothing ((p.withdrawRequest l .pump).withdrawRequest l .blower) l := by
  constructor
  · show l ∉ p.arb.pumpWait.filter (· != l)
    simp
  · show l ∉ p.arb.blowerWait.filter (· != l)
    simp

/-- A unit that becomes AVAILABLE is not granted to a lane that asks for nothing. -/
theorem serveWait_asks {p : Part} {l : LaneId} (h : AsksNothing p l) (u : UnitId) (hu : (p.unit u).state.lane ≠ some l) :
    AsksNothing (p.serveWait u) l ∧ ((p.serveWait u).unit u).state.lane ≠ some l := by
  cases hw : p.waiting (unitKind u) with
  | nil => rw [serveWait_none hw]; exact ⟨h, hu⟩
  | cons m rest =>
    have hm : l ∉ m :: rest := hw ▸ asksNothing_waiting h (unitKind u)
    rw [serveWait_some hw]
    constructor
    · refine asksNothing_of fun k => ?_
      rw [grant_waiting]
      by_cases hk : k = unitKind u
      · subst hk
        rw [setWaiting_waiting]
        exact fun x => hm (List.mem_cons_of_mem _ x)
      · have e : (p.setWaiting (unitKind u) rest).waiting k = p.waiting k := by
          revert hk; cases k <;> cases u <;> simp [unitKind, Part.setWaiting, Part.waiting]
        rw [e]
        exact asksNothing_waiting h k
    · rw [grant_unit]
      show some m ≠ some l
      intro e
      obtain rfl : m = l := Option.some.inj e
      exact hm (by simp)

theorem releaseUnit_asks {p : Part} {l : LaneId} (h : AsksNothing p l) (u : UnitId) :
    AsksNothing (p.releaseUnit l u) l ∧ ((p.releaseUnit l u).unit u).state.lane ≠ some l ∧
      ∀ v, v ≠ u → (p.releaseUnit l u).unit v = p.unit v := by
  have hc : AsksNothing (p.cancel (.grant l u)) l := h
  have free : AsksNothing ((p.cancel (.grant l u)).freeUnit u) l ∧
      (((p.cancel (.grant l u)).freeUnit u).unit u).state.lane ≠ some l ∧
      ∀ v, v ≠ u → ((p.cancel (.grant l u)).freeUnit u).unit v = p.unit v := by
    have h1 : AsksNothing ((p.cancel (.grant l u)).setUnit u .available) l := h
    obtain ⟨a, b⟩ := serveWait_asks h1 u (by rw [setUnit_unit]; simp [UnitState.lane])
    refine ⟨a, b, fun v hv => ?_⟩
    show (((p.cancel (.grant l u)).setUnit u .available).serveWait u).unit v = _
    rw [serveWait_unit_ne _ hv, setUnit_unit_ne _ hv]
    rfl
  have stop : AsksNothing ((p.cancel (.grant l u)).stopUnit u) l ∧
      (((p.cancel (.grant l u)).stopUnit u).unit u).state.lane ≠ some l ∧
      ∀ v, v ≠ u → ((p.cancel (.grant l u)).stopUnit u).unit v = p.unit v := by
    unfold Part.stopUnit
    dsimp only
    split
    · exact free
    · refine ⟨h, ?_, fun v hv => ?_⟩
      · rw [setUnit_unit]; simp [UnitState.lane]
      · rw [setUnit_unit_ne _ hv]; rfl
  have e : (p.cancel (.grant l u)).unit u = p.unit u := rfl
  unfold Part.releaseUnit
  dsimp only
  rw [e]
  cases hs : (p.unit u).state with
  | allocated m =>
    dsimp only
    split
    · exact free
    · rename_i hm
      exact ⟨hc, by rw [e, hs]; simpa [UnitState.lane] using hm, fun _ _ => rfl⟩
  | proving m x =>
    dsimp only
    split
    · exact stop
    · rename_i hm
      exact ⟨hc, by rw [e, hs]; simpa [UnitState.lane] using hm, fun _ _ => rfl⟩
  | running m =>
    dsimp only
    split
    · exact stop
    · rename_i hm
      exact ⟨hc, by rw [e, hs]; simpa [UnitState.lane] using hm, fun _ _ => rfl⟩
  | _ => exact ⟨hc, by rw [e, hs]; simp [UnitState.lane], fun _ _ => rfl⟩

/-- After it gives up every unit, no unit is the lane's, and it waits for none. -/
theorem releaseAll_holdsNoUnit (p : Part) (l : LaneId) : HoldsNoUnit (p.releaseAll l) l := by
  let drop := fun (p : Part) (u : UnitId) => (p.releaseUnit l u).modWash l fun w => w.dropUnit u
  have e : p.releaseAll l =
      drop (drop (drop ((p.withdrawRequest l .pump).withdrawRequest l .blower) .p1) .p2) .bl := rfl
  have keep : ∀ (p : Part) (g : Wash → Wash), (p.modWash l g).arb = p.arb := by
    intro p g; unfold Part.modWash; split <;> rfl
  have step : ∀ (p : Part) (u : UnitId), AsksNothing p l → AsksNothing (drop p u) l ∧
      ((drop p u).unit u).state.lane ≠ some l ∧ ∀ v, v ≠ u → (drop p u).unit v = p.unit v := by
    intro p u h
    obtain ⟨a, b, c⟩ := releaseUnit_asks h u
    have k : (drop p u).arb = (p.releaseUnit l u).arb := keep _ _
    have ku : ∀ v, (drop p u).unit v = (p.releaseUnit l u).unit v := fun v => by unfold Part.unit; rw [k]
    refine ⟨?_, ?_, fun v hv => ?_⟩
    · unfold AsksNothing; rw [k]; exact a
    · rw [ku]; exact b
    · rw [ku]; exact c v hv
  obtain ⟨a1, b1, _⟩ := step _ .p1 (withdraw_both p l)
  obtain ⟨a2, b2, c2⟩ := step _ .p2 a1
  obtain ⟨a3, b3, c3⟩ := step _ .bl a2
  rw [e]
  refine ⟨fun u => ?_, a3⟩
  cases u with
  | p1 => rw [c3 .p1 (by simp), c2 .p1 (by simp)]; exact b1
  | p2 => rw [c3 .p2 (by simp)]; exact b2
  | bl => exact b3

theorem releaseAll_units (p : Part) (l : LaneId) (u : UnitId) : ((p.releaseAll l).unit u).state.lane ≠ some l :=
  (releaseAll_holdsNoUnit p l).1 u

theorem holdsNoUnit_kept {xs : List Piece} {p q : Part} {l : LaneId} (k : OnlyChanges xs p q) (h1 : Piece.units ∉ xs)
    (h2 : Piece.pumpWait ∉ xs) (h3 : Piece.blowerWait ∉ xs) (h : HoldsNoUnit p l) : HoldsNoUnit q l := by
  have a : q.arb.units = p.arb.units := k .units h1
  have b : q.arb.pumpWait = p.arb.pumpWait := k .pumpWait h2
  have c : q.arb.blowerWait = p.arb.blowerWait := k .blowerWait h3
  unfold HoldsNoUnit Part.unit
  rw [a, b, c]
  exact h

/-! ### Commands to roles -/

theorem commandRole_lanes (p : Part) (f : FilterId) (r : Role) (pos : Position) :
    (p.commandRole f r pos).1.lanes = p.lanes :=
  ((commandRole_keeps f r pos (List.Subset.refl _)).2 (onlyChanges_refl _ _)) .lanes (by simp)

/-- Targets after a group of roles is ordered. -/
def orderedTargets (t : PerRole (Option Position)) (roles : List Role) (pos : Position) : PerRole (Option Position) :=
  roles.foldl (fun t r => t.set r (some pos)) t

/-- The commands of a group of roles, a failing one told to the lane. -/
def commandAll (p : Part) (l : LaneId) (f : FilterId) (roles : List Role) (pos : Position) : Part :=
  roles.foldl (init := p) fun p r =>
    let (p, taken) := p.commandRole f r pos
    if taken = .fails then p.raiseOnce (.roleFault l r) else p

theorem commandAll_lanes (l : LaneId) (f : FilterId) (roles : List Role) (pos : Position) :
    ∀ p : Part, (commandAll p l f roles pos).lanes = p.lanes := by
  unfold commandAll
  induction roles with
  | nil => intro p; rfl
  | cons r roles ih =>
    intro p
    rw [List.foldl_cons, ih]
    dsimp only
    rw [← commandRole_lanes p f r pos]
    split
    · unfold Part.raiseOnce; split <;> rfl
    · rfl

theorem orderRoles_eq (p : Part) (l : LaneId) (f : FilterId) (roles : List Role) (pos : Position) :
    p.orderRoles l f roles pos =
      let q := p.modWash l fun w => { w with targets := orderedTargets w.targets roles pos }
      if q.stopAsserted then q else commandAll q l f roles pos := rfl

theorem orderRoles_lane {p : Part} {l : LaneId} {w : Wash} (h : p.lane l = some w) (f : FilterId) (roles : List Role)
    (pos : Position) :
    (p.orderRoles l f roles pos).lane l = some { w with targets := orderedTargets w.targets roles pos } := by
  rw [orderRoles_eq, modWash_of h]
  dsimp only
  split
  · simp
  · unfold Part.lane
    rw [commandAll_lanes]
    exact lane_putLane p l _

theorem orderRoles_other (p : Part) (l : LaneId) (f : FilterId) (roles : List Role) (pos : Position) :
    OtherLaneKept p (p.orderRoles l f roles pos) l := by
  intro m hm
  have e : (p.modWash l fun w => { w with targets := orderedTargets w.targets roles pos }).lane m = p.lane m := by
    unfold Part.modWash
    split
    · exact lane_putLane_ne p hm _
    · rfl
  rw [orderRoles_eq]
  dsimp only
  split
  · exact e
  · rw [← e]; unfold Part.lane; rw [commandAll_lanes]

theorem orderRoles_working (p : Part) (l : LaneId) (f : FilterId) (roles : List Role) (pos : Position) :
    Working l p (p.orderRoles l f roles pos) := by
  refine ⟨orderRoles_other p l f roles pos, fun w hw => ⟨_, orderRoles_lane hw f roles pos, ?_, id⟩⟩
  exact ⟨rfl, rfl, rfl, rfl, rfl, rfl, rfl, rfl⟩

/-! ### Holds -/

theorem reportHeld_lanes (p : Part) (l : LaneId) (c : HoldCause) (b : Bool) : (p.reportHeld l c b).lanes = p.lanes := by
  unfold Part.reportHeld
  repeat' split
  all_goals rfl

theorem enterHeld_working {p : Part} {l : LaneId} {w : Wash} (h : p.lane l = some w) (c : HoldCause) :
    Working l p (p.enterHeld l w c) := by
  unfold Part.enterHeld
  dsimp only
  refine working_trans ?_ (working_lanes (reportHeld_lanes _ _ _ _))
  refine working_trans ?_ (orderRoles_working _ _ _ _ _)
  have h0 : ((p.dropRun l).cancel (.holdLimit l)).lane l = some w := h
  have k0 : Working l p ((p.dropRun l).cancel (.holdLimit l)) := working_lanes rfl
  refine working_trans (working_trans k0 (working_putLane h0 ?_ ?_)) (releaseAll_working _ l)
  · exact ⟨rfl, rfl, rfl, rfl, rfl, rfl, rfl, rfl⟩
  · exact fun _ => rfl

theorem join_working (p : Part) (l : LaneId) (c : HoldCause) : Working l p (p.join l c) := by
  unfold Part.join
  split
  · exact working_refl l p
  · rename_i w h
    split
    · exact working_refl l p
    · split
      · refine working_trans ?_ (working_lanes (reportHeld_lanes _ _ _ _))
        exact working_putLane h ⟨rfl, rfl, rfl, rfl, rfl, rfl, rfl, rfl⟩ id
      · exact enterHeld_working h c

theorem joinIf_working (p : Part) (l : LaneId) (c : HoldCause) : Working l p (p.joinIf l c) := by
  unfold Part.joinIf
  split
  · split
    · exact join_working p l c
    · exact working_refl l p
  · exact working_refl l p

/-! ### A phase entered -/

theorem requestUnit_lanes (p : Part) (l : LaneId) (k : UnitKind) : (p.requestUnit l k).lanes = p.lanes :=
  ((requestUnit_keeps l k (List.Subset.refl _)).2 (onlyChanges_refl _ _)) .lanes (by simp)

theorem startUnit_lanes (p : Part) (l : LaneId) (u : UnitId) : (p.startUnit l u).lanes = p.lanes :=
  ((startUnit_keeps l u (List.Subset.refl _)).2 (onlyChanges_refl _ _)) .lanes (by simp)

theorem raiseEnd_lanes (p : Part) (l : LaneId) : (p.raiseEnd l).lanes = p.lanes := by
  unfold Part.raiseEnd
  repeat' split
  all_goals rfl

theorem checkStarted_working (p : Part) (l : LaneId) : Working l p (p.checkStarted l) := by
  unfold Part.checkStarted
  split
  · rename_i w h
    split
    · refine working_trans (working_putLane h ?_ ?_) (working_lanes (raiseEnd_lanes _ _))
      · exact ⟨rfl, rfl, rfl, rfl, rfl, rfl, rfl, rfl⟩
      · exact fun _ => rfl
    · exact working_refl l p
  · exact working_refl l p

theorem enterStarting_working {p : Part} {l : LaneId} {w : Wash} (h : p.lane l = some w) :
    Working l p (p.enterStarting l w) := by
  unfold Part.enterStarting
  dsimp only
  refine working_trans ?_ (checkStarted_working _ _)
  refine working_trans (working_putLane h ?_ ?_)
    (working_foldl (fun p u => working_lanes (startUnit_lanes p l u)) _ _)
  · exact ⟨rfl, rfl, rfl, rfl, rfl, rfl, rfl, rfl⟩
  · exact fun _ => rfl

theorem checkOpened_working (p : Part) (l : LaneId) : Working l p (p.checkOpened l) := by
  unfold Part.checkOpened
  split
  · rename_i w h
    split
    · exact enterStarting_working h
    · exact working_refl l p
  · exact working_refl l p

theorem checkClosed_working (p : Part) (l : LaneId) : Working l p (p.checkClosed l) := by
  unfold Part.checkClosed
  split
  · rename_i w h
    split
    · dsimp only
      split
      · refine working_trans ?_ (checkOpened_working _ _)
        refine working_trans (working_putLane h ?_ ?_) (orderRoles_working _ _ _ _ _)
        · exact ⟨rfl, rfl, rfl, rfl, rfl, rfl, rfl, rfl⟩
        · exact fun _ => rfl
      · exact working_refl l p
    · exact working_refl l p
  · exact working_refl l p

theorem enterPositioning_working {p : Part} {l : LaneId} {w : Wash} (h : p.lane l = some w) :
    Working l p (p.enterPositioning l w) := by
  unfold Part.enterPositioning
  dsimp only
  refine working_trans ?_ (checkClosed_working _ _)
  refine working_trans (working_putLane h ?_ ?_) (orderRoles_working _ _ _ _ _)
  · exact ⟨rfl, rfl, rfl, rfl, rfl, rfl, rfl, rfl⟩
  · exact fun _ => rfl

theorem checkAcquired_working (p : Part) (l : LaneId) : Working l p (p.checkAcquired l) := by
  unfold Part.checkAcquired
  split
  · rename_i w h
    split
    · exact enterPositioning_working h
    · exact working_refl l p
  · exact working_refl l p

theorem requestNeeded_working (p : Part) (l : LaneId) : Working l p (p.requestNeeded l) := by
  unfold Part.requestNeeded
  split
  · exact working_foldl (fun p k => working_lanes (requestUnit_lanes p l k)) _ _
  · exact working_refl l p

theorem releaseUnneeded_working (p : Part) (l : LaneId) (k : PhaseKind) : Working l p (p.releaseUnneeded l k) :=
  working_foldl (fun p u => releaseKind_working p l u) _ _

/-- R107 from step 3: causes tested, then units asked for. -/
def enterTail (q : Part) (l : LaneId) : Part :=
  let q := (((q.joinIf l .inhibit).joinIf l .water).joinIf l .waste).joinIf l .equipment
  match q.lane l with
  | some w => if w.state = .acquiring then (q.requestNeeded l).checkAcquired l else q
  | none => q

/-- R107 steps 1 and 2. -/
def enterHead (p : Part) (l : LaneId) (w : Wash) (r : Option (Option PhaseEnd)) : Part :=
  let ph := p.phaseNow w
  let p := p.putLane l (some { w with state := .acquiring, confirm := 0 })
  let p := match r with
    | some prev => p.report (.phase l w.filter w.phase ph.kind ph.duration prev w.remWater w.remWaste)
    | none => p
  p.releaseUnneeded l ph.kind

theorem enterPhase_of {p : Part} {l : LaneId} {w : Wash} (h : p.lane l = some w) (r : Option (Option PhaseEnd)) :
    p.enterPhase l r = enterTail (enterHead p l w r) l := by
  unfold Part.enterPhase
  rw [h]
  rfl

theorem enterPhase_idle {p : Part} {l : LaneId} (h : p.lane l = none) (r : Option (Option PhaseEnd)) :
    p.enterPhase l r = p := by
  unfold Part.enterPhase
  rw [h]

theorem enterTail_working (q : Part) (l : LaneId) : Working l q (enterTail q l) := by
  unfold enterTail
  dsimp only
  have k : Working l q ((((q.joinIf l .inhibit).joinIf l .water).joinIf l .waste).joinIf l .equipment) :=
    working_trans (working_trans (working_trans (joinIf_working _ _ _) (joinIf_working _ _ _)) (joinIf_working _ _ _))
      (joinIf_working _ _ _)
  split
  · split
    · exact working_trans k (working_trans (requestNeeded_working _ _) (checkAcquired_working _ _))
    · exact k
  · exact k

/-- Entering a phase keeps its place in it, and ends in one of the states from ACQUIRING to HELD. -/
theorem enterPhase_lane {p : Part} {l : LaneId} {w : Wash} (h : p.lane l = some w) (r : Option (Option PhaseEnd)) :
    ∃ w', (p.enterPhase l r).lane l = some w' ∧ SamePhase w w' ∧ w'.state.holdable = true := by
  rw [enterPhase_of h]
  let q := match r with
    | some prev => (p.putLane l (some { w with state := .acquiring, confirm := 0 })).report
        (.phase l w.filter w.phase (p.phaseNow w).kind (p.phaseNow w).duration prev w.remWater w.remWaste)
    | none => p.putLane l (some { w with state := .acquiring, confirm := 0 })
  have hq : q.lane l = some { w with state := .acquiring, confirm := 0 } := by
    cases r <;> exact lane_putLane p l _
  obtain ⟨w', a, b, c⟩ :=
    (working_trans (releaseUnneeded_working q l (p.phaseNow w).kind) (enterTail_working _ l)).2 _ hq
  exact ⟨w', a, samePhase_trans ⟨rfl, rfl, rfl, rfl, rfl, rfl, rfl, rfl⟩ b, c rfl⟩

theorem enterPhase_other (p : Part) (l : LaneId) (r : Option (Option PhaseEnd)) : OtherLaneKept p (p.enterPhase l r) l := by
  cases h : p.lane l with
  | none => rw [enterPhase_idle h]; exact fun _ _ => rfl
  | some w =>
    rw [enterPhase_of h]
    intro m hm
    refine ((enterTail_working _ l).1 m hm).trans (((releaseUnneeded_working _ l _).1 m hm).trans ?_)
    cases r <;> exact lane_putLane_ne p hm _

/-! ### What a lane tells the host -/

/-- The link moves by reports alone. -/
def Tells (p q : Part) : Prop := q.clock = p.clock ∧ ∃ bs, q.link = afterReports p.clock p.link bs

theorem tells_refl (p : Part) : Tells p p := ⟨rfl, [], rfl⟩

theorem tells_trans {p q r : Part} (h : Tells p q) (k : Tells q r) : Tells p r := by
  obtain ⟨a, xs, b⟩ := h
  obtain ⟨c, ys, d⟩ := k
  exact ⟨c.trans a, xs ++ ys, by rw [afterReports_append, ← b, d, a]⟩

theorem tells_quiet {p q : Part} (h : q.clock = p.clock) (k : q.link = p.link) : Tells p q := ⟨h, [], k⟩

theorem tells_report (p : Part) (b : ReportBody) : Tells p (p.report b) := ⟨rfl, [b], rfl⟩

/-- Operations that leave the clock and the link alone tell nothing. -/
theorem tells_kept {xs : List Piece} {p q : Part} (h : OnlyChanges xs p q)
    (hx : ∀ x ∈ [Piece.clock, .rx, .rxQueue, .reply, .reports, .sending, .seq, .errors, .overflow, .reportLoss, .cursor,
      .rate, .softReset], x ∉ xs) : Tells p q :=
  tells_quiet (h .clock (hx _ (by simp))) (link_kept h fun x k => hx x (by simp at k ⊢; exact Or.inr k))

theorem tells_putLane (p : Part) (l : LaneId) (w : Option Wash) : Tells p (p.putLane l w) := ⟨rfl, [], rfl⟩

theorem tells_setUnit (p : Part) (u : UnitId) (x : UnitState) : Tells p (p.setUnit u x) := ⟨rfl, [], rfl⟩

theorem tells_foldl {α : Type} {g : Part → α → Part} (h : ∀ p x, Tells p (g p x)) (xs : List α) :
    ∀ p, Tells p (xs.foldl g p) := by
  induction xs with
  | nil => exact tells_refl
  | cons x xs ih => exact fun p => tells_trans (h p x) (ih _)

theorem orderRoles_tells (p : Part) (l : LaneId) (f : FilterId) (roles : List Role) (pos : Position) :
    Tells p (p.orderRoles l f roles pos) :=
  tells_kept ((orderRoles_keeps l f roles pos (List.Subset.refl _)).2 (onlyChanges_refl _ _)) (by simp)

theorem releaseAll_tells (p : Part) (l : LaneId) : Tells p (p.releaseAll l) :=
  tells_kept ((releaseAll_keeps l (List.Subset.refl _)).2 (onlyChanges_refl _ _)) (by simp)

theorem releaseUnneeded_tells (p : Part) (l : LaneId) (k : PhaseKind) : Tells p (p.releaseUnneeded l k) :=
  tells_kept ((releaseUnneeded_keeps l k (List.Subset.refl _)).2 (onlyChanges_refl _ _)) (by simp)

theorem requestNeeded_tells (p : Part) (l : LaneId) : Tells p (p.requestNeeded l) :=
  tells_kept ((requestNeeded_keeps l (List.Subset.refl _)).2 (onlyChanges_refl _ _)) (by simp)

theorem raiseEnd_tells (p : Part) (l : LaneId) : Tells p (p.raiseEnd l) :=
  tells_kept ((raiseEnd_keeps l (List.Subset.refl _)).2 (onlyChanges_refl _ _)) (by simp)

theorem reportHeld_tells (p : Part) (l : LaneId) (c : HoldCause) (b : Bool) : Tells p (p.reportHeld l c b) := by
  unfold Part.reportHeld
  repeat' split
  all_goals first | exact tells_report _ _ | exact tells_refl _

theorem enterHeld_tells (p : Part) (l : LaneId) (w : Wash) (c : HoldCause) : Tells p (p.enterHeld l w c) := by
  unfold Part.enterHeld
  dsimp only
  refine tells_trans (tells_trans (tells_trans ?_ (releaseAll_tells _ _)) (orderRoles_tells _ _ _ _ _)) (reportHeld_tells _ _ _ _)
  exact ⟨rfl, [], rfl⟩

theorem join_tells (p : Part) (l : LaneId) (c : HoldCause) : Tells p (p.join l c) := by
  unfold Part.join
  split
  · exact tells_refl p
  · split
    · exact tells_refl p
    · split
      · exact tells_trans (tells_putLane _ _ _) (reportHeld_tells _ _ _ _)
      · exact enterHeld_tells _ _ _ _

theorem joinIf_tells (p : Part) (l : LaneId) (c : HoldCause) : Tells p (p.joinIf l c) := by
  unfold Part.joinIf
  split
  · split
    · exact join_tells p l c
    · exact tells_refl p
  · exact tells_refl p

theorem proveUnit_tells (p : Part) (u : UnitId) : Tells p (p.proveUnit u) := by
  unfold Part.proveUnit
  split
  · exact ⟨rfl, _, reportEquipment_link _ _ _ _⟩
  · exact tells_refl p

theorem startUnit_tells (p : Part) (l : LaneId) (u : UnitId) : Tells p (p.startUnit l u) := by
  unfold Part.startUnit
  split
  · dsimp only
    split
    · exact tells_trans (tells_setUnit _ _ _) (proveUnit_tells _ _)
    · exact tells_setUnit _ _ _
  · exact tells_refl p

theorem checkStarted_tells (p : Part) (l : LaneId) : Tells p (p.checkStarted l) := by
  unfold Part.checkStarted
  split
  · split
    · exact tells_trans (tells_putLane _ _ _) (raiseEnd_tells _ _)
    · exact tells_refl p
  · exact tells_refl p

theorem enterStarting_tells (p : Part) (l : LaneId) (w : Wash) : Tells p (p.enterStarting l w) := by
  unfold Part.enterStarting
  dsimp only
  exact tells_trans (tells_trans (tells_putLane _ _ _) (tells_foldl (fun p u => startUnit_tells p l u) _ _))
    (checkStarted_tells _ _)

theorem checkOpened_tells (p : Part) (l : LaneId) : Tells p (p.checkOpened l) := by
  unfold Part.checkOpened
  split
  · split
    · exact enterStarting_tells _ _ _
    · exact tells_refl p
  · exact tells_refl p

theorem checkClosed_tells (p : Part) (l : LaneId) : Tells p (p.checkClosed l) := by
  unfold Part.checkClosed
  split
  · split
    · dsimp only
      split
      · exact tells_trans (tells_trans (tells_putLane _ _ _) (orderRoles_tells _ _ _ _ _)) (checkOpened_tells _ _)
      · exact tells_refl p
    · exact tells_refl p
  · exact tells_refl p

theorem checkAcquired_tells (p : Part) (l : LaneId) : Tells p (p.checkAcquired l) := by
  unfold Part.checkAcquired
  split
  · split
    · unfold Part.enterPositioning
      dsimp only
      exact tells_trans (tells_trans (tells_putLane _ _ _) (orderRoles_tells _ _ _ _ _)) (checkClosed_tells _ _)
    · exact tells_refl p
  · exact tells_refl p

theorem enterTail_tells (q : Part) (l : LaneId) : Tells q (enterTail q l) := by
  have k : Tells q ((((q.joinIf l .inhibit).joinIf l .water).joinIf l .waste).joinIf l .equipment) :=
    tells_trans (tells_trans (tells_trans (joinIf_tells _ _ _) (joinIf_tells _ _ _)) (joinIf_tells _ _ _))
      (joinIf_tells _ _ _)
  unfold enterTail
  dsimp only
  split
  · split
    · exact tells_trans k (tells_trans (requestNeeded_tells _ _) (checkAcquired_tells _ _))
    · exact k
  · exact k

theorem enterPhase_tells (p : Part) (l : LaneId) (r : Option (Option PhaseEnd)) : Tells p (p.enterPhase l r) := by
  cases h : p.lane l with
  | none => rw [enterPhase_idle h]; exact tells_refl p
  | some w =>
    rw [enterPhase_of h]
    refine tells_trans ?_ (enterTail_tells _ l)
    refine tells_trans ?_ (releaseUnneeded_tells _ l _)
    cases r with
    | none => exact tells_putLane _ _ _
    | some prev => exact ⟨rfl, [_], rfl⟩

end Sys2Proof.Laws
end

