-- ==== Sys2Proof/Laws/Handlers.lean ====
section
/-! SUPPORT. What the handlers of commands can change, operation by operation; a property that every part an answer goes
through has, the answer has; a property that every row keeps, every step keeps. -/

namespace Sys2Proof.Laws

open Sys2Proof.Machine

set_option linter.unusedSimpArgs false

/-! ### Handlers -/

@[simp] theorem repolarise_keeps {xs : List Piece} {p₀ p : Part} (before : PerUnit Feedback) (u : UnitId) (h : [Piece.units, .events] ++ reporting ⊆ xs) :
    OnlyChanges xs p₀ (p.repolarise before u) ↔ OnlyChanges xs p₀ p := by
  simp [reporting] at h
  unfold Part.repolarise
  try dsimp only
  (repeat' split) <;> simp [h, reporting]

@[simp] theorem applyPlant_keeps {xs : List Piece} {p₀ p : Part} (r : PlantRecord) (h : [Piece.plant, .plantReceived, .volumes, .silence, .flags, .overload, .scanDue, .events, .units, .lanes, .channels, .duty, .pumpWait, .blowerWait] ++ reporting ⊆ xs) :
    OnlyChanges xs p₀ (p.applyPlant r) ↔ OnlyChanges xs p₀ p := by
  simp [reporting] at h
  have k0 : ∀ r ev, OnlyChanges xs p₀ { p with plant := r, plantReceived := true, events := ev } ↔ OnlyChanges xs p₀ p :=
    fun r ev => strip (ys := [.plant, .plantReceived, .events]) (by simp [h]) fun x hx => by
      cases x <;> simp_all [Piece.kept]
  unfold Part.applyPlant
  dsimp only
  (repeat' split) <;> simp [h, reporting, k0]

@[simp] theorem defineFilter_keeps {xs : List Piece} {p₀ p : Part} (f : FilterId) (c : FilterConfig) (h : [Piece.filters] ++ reporting ⊆ xs) :
    OnlyChanges xs p₀ (p.defineFilter f c) ↔ OnlyChanges xs p₀ p := by
  simp [reporting] at h
  unfold Part.defineFilter
  try dsimp only
  (repeat' split) <;> simp [h, reporting]

@[simp] theorem putIn_keeps {xs : List Piece} {p₀ p : Part} (f : FilterId) (dirty : Bool) (h : [Piece.queue, .filters, .selection, .flags, .overload, .scanDue, .events] ++ reporting ⊆ xs) :
    OnlyChanges xs p₀ (p.putIn f dirty) ↔ OnlyChanges xs p₀ p := by
  simp [reporting] at h
  unfold Part.putIn
  try dsimp only
  (repeat' split) <;> simp [h, reporting]

@[simp] theorem upgradeManual_keeps {xs : List Piece} {p₀ p : Part} (e : Entry) (override : Option SlotId) (h : [Piece.queue, .proposal, .scanDue, .events] ++ reporting ⊆ xs) :
    OnlyChanges xs p₀ (p.upgradeManual e override) ↔ OnlyChanges xs p₀ p := by
  simp [reporting] at h
  unfold Part.upgradeManual
  try dsimp only
  (repeat' split) <;> simp [h, reporting]

@[simp] theorem changeMask_keeps {xs : List Piece} {p₀ p : Part} (m : BitVec 6) (h : [Piece.mask, .proposal, .scanDue, .events] ++ reporting ⊆ xs) :
    OnlyChanges xs p₀ (p.changeMask m) ↔ OnlyChanges xs p₀ p := by
  simp [reporting] at h
  unfold Part.changeMask
  try dsimp only
  (repeat' split) <;> simp [h, reporting]

@[simp] theorem emptyProposal_keeps {xs : List Piece} {p₀ p : Part} (h : [.proposal, .events] ⊆ xs) :
    OnlyChanges xs p₀ p.emptyProposal ↔ OnlyChanges xs p₀ p := by
  simp [reporting] at h
  unfold Part.emptyProposal
  try dsimp only
  (repeat' split) <;> simp [h, reporting]

@[simp] theorem decline_keeps {xs : List Piece} {p₀ p : Part} (e : Entry) (minutes : Nat) (h : [Piece.queue, .proposal, .scanDue, .events] ++ reporting ⊆ xs) :
    OnlyChanges xs p₀ (p.decline e minutes) ↔ OnlyChanges xs p₀ p := by
  simp [reporting] at h
  unfold Part.decline
  try dsimp only
  (repeat' split) <;> simp [h, reporting]

@[simp] theorem setMapped_keeps {xs : List Piece} {p₀ p : Part} (ch : ChannelId) (m : Option (FilterId × Role)) (h : [.channels] ⊆ xs) :
    OnlyChanges xs p₀ (p.setMapped ch m) ↔ OnlyChanges xs p₀ p := by
  simp [reporting] at h
  unfold Part.setMapped
  try dsimp only
  (repeat' split) <;> simp [h, reporting]

@[simp] theorem setMap_keeps {xs : List Piece} {p₀ p : Part} (f : FilterId) (r : Role) (ch : Option ChannelId) (h : [.map] ⊆ xs) :
    OnlyChanges xs p₀ (p.setMap f r ch) ↔ OnlyChanges xs p₀ p := by
  simp [reporting] at h
  unfold Part.setMap
  try dsimp only
  (repeat' split) <;> simp [h, reporting]

@[simp] theorem freeMapped_keeps {xs : List Piece} {p₀ p : Part} (f : FilterId) (r : Role) (h : [.channels] ⊆ xs) :
    OnlyChanges xs p₀ (p.freeMapped f r) ↔ OnlyChanges xs p₀ p := by
  simp [reporting] at h
  unfold Part.freeMapped
  try dsimp only
  (repeat' split) <;> simp [h, reporting]

@[simp] theorem mapValve_keeps {xs : List Piece} {p₀ p : Part} (f : FilterId) (r : Role) (ch : Option ChannelId) (sense : SwitchSense) (h : [Piece.map, .channels, .capture, .events] ++ reporting ⊆ xs) :
    OnlyChanges xs p₀ (p.mapValve f r ch sense) ↔ OnlyChanges xs p₀ p := by
  simp [reporting] at h
  unfold Part.mapValve
  try dsimp only
  (repeat' split) <;> simp [h, reporting]

@[simp] theorem directDrive_keeps {xs : List Piece} {p₀ p : Part} (ch : ChannelId) (a : DriveAction) (h : [Piece.channels, .capture, .events] ++ reporting ⊆ xs) :
    OnlyChanges xs p₀ (p.directDrive ch a) ↔ OnlyChanges xs p₀ p := by
  simp [reporting] at h
  unfold Part.directDrive
  try dsimp only
  (repeat' split) <;> simp [h, reporting]

/-! ### Answers: the checks first, then the effect -/

theorem answer_unlessSurveying {P : Part → Prop} {p : Part} {k : Answer} (h : P p) (hk : P k.1) :
    P (unlessSurveying p k).1 := by
  unfold unlessSurveying; split <;> assumption

theorem answer_inOperating {P : Part → Prop} {p : Part} {k : Answer} (h : P p) (hk : P k.1) : P (inOperating p k).1 := by
  unfold inOperating; split <;> assumption

theorem answer_named {α : Type} {P : Part → Prop} {p : Part} {x : Option α} {k : α → Answer} (h : P p)
    (hk : ∀ a, P (k a).1) : P (named p x k).1 := by
  unfold named; split
  · exact hk _
  · exact h

theorem answer_unlessFails {P : Part → Prop} {p : Part} {ok : Bool} {r : Result} {k : Answer} (h : P p) (hk : P k.1) :
    P (unlessFails p ok r k).1 := by
  unfold unlessFails; split <;> assumption

theorem answer_onFilter {P : Part → Prop} {p : Part} {b : Byte} {k : FilterId → FilterRecord → Answer} (h : P p)
    (hk : ∀ f r, P (k f r).1) : P (onFilter p b k).1 := by
  unfold onFilter
  refine answer_inOperating h (answer_named h fun f => ?_)
  split
  · exact h
  · split
    · exact h
    · exact hk _ _

/-! ### Steps -/

theorem act_keeps {P : Part → Prop} {g : Part → Part} {s t : State} (hg : P s.part → P (g s.part))
    (h : act g s = .next t) (hp : P s.part) : P t.part := by
  unfold act at h
  cases h
  dsimp only
  split
  · exact hg hp
  · exact hp

theorem takeEvent_keeps {P : Part → Prop} {e : Event} {g : Part → Part} {s t : State}
    (he : ∀ p ev, P p → P { p with events := ev }) (hg : ∀ p, P p → P (g p)) (h : takeEvent e g s = .next t)
    (hp : P s.part) : P t.part := by
  refine act_keeps (fun hp => ?_) h hp
  split
  · exact hg _ (he _ _ hp)
  · exact hp

theorem takeStopNotice_keeps {P : Part → Prop} {e : Event} {l : LaneId} {g : Part → Part} {s t : State}
    (he : ∀ p ev, P p → P { p with events := ev }) (hg : ∀ p, P p → P (g p)) (h : takeStopNotice l e g s = .next t)
    (hp : P s.part) : P t.part := by
  refine act_keeps (fun hp => ?_) h hp
  split
  · exact hg _ (he _ _ hp)
  · exact hp

theorem step_keeps {P : Part → Prop} (h : ∀ c s t, exec c s = .next t → P s.part → P t.part) (s t : State)
    (hs : step s = .next t) (hp : P s.part) : P t.part := by
  unfold step at hs
  cases hpd : s.pending with
  | nil => rw [hpd] at hs; cases hs; exact hp
  | cons c rest => rw [hpd] at hs; exact h _ _ _ hs hp

/-- A row answers one state. -/
theorem next_inj {s t : State} (h : (Host.Outcome.next s : Host.Outcome State Fault Refusal) = .next t) : s = t := by
  cases h; rfl

end Sys2Proof.Laws
end

