-- ==== Sys2Proof/Laws/Commands.lean ====
section
/-! SUPPORT. Host commands in the words of the statements: from a command's answer to what its row does, and what a
frame's acceptance leaves as it was. -/

namespace Sys2Proof.Laws

open Sys2Proof.Machine

/-- A host command's row submits its frame. -/
theorem exec_command {row : Instr} {tag : Byte} {c : HostCommand} (h : row.command = some (tag, c)) (s : State) :
    exec row s = act (fun p => p.submit tag c) s := by
  cases row <;> simp only [Instr.command, Option.some.injEq, Prod.mk.injEq, reduceCtorEq] at h <;>
    obtain ⟨rfl, rfl⟩ := h <;> rfl

/-! ### The frame accepted -/

theorem accepted_only (p : Part) : OnlyChanges [.silence, .lastAccepted, .events] p p.frameAccepted := by simp

theorem accepted_filter (p : Part) (f : FilterId) : p.frameAccepted.filter f = p.filter f :=
  filter_kept (accepted_only p) (by simp) f

theorem accepted_channel (p : Part) (ch : ChannelId) : p.frameAccepted.channel ch = p.channel ch :=
  channel_kept (accepted_only p) (by simp) ch

theorem accepted_mapped (p : Part) (f : FilterId) (r : Role) : p.frameAccepted.mapped f r = p.mapped f r := by
  unfold Part.mapped
  rw [show p.frameAccepted.valves.map = p.valves.map from accepted_only p .map (by simp)]

theorem accepted_recipe (p : Part) (slot : SlotId) : p.frameAccepted.recipe slot = p.recipe slot :=
  recipe_kept (accepted_only p) (by simp) slot

theorem accepted_entry (p : Part) (f : FilterId) : p.frameAccepted.entry f = p.entry f :=
  entry_kept (accepted_only p) (by simp) f

theorem accepted_unit (p : Part) (u : UnitId) : p.frameAccepted.unit u = p.unit u :=
  unit_kept (accepted_only p) (by simp) u

theorem accepted_lane (p : Part) (l : LaneId) : p.frameAccepted.lane l = p.lane l :=
  lane_kept (accepted_only p) (by simp) l

theorem accepted_sched (p : Part) : p.frameAccepted.sched = p.sched := by
  unfold Part.frameAccepted Part.restartSilence Part.setSilence
  dsimp only
  split <;> rfl

theorem accepted_front (p : Part) : p.frameAccepted.front = p.front := by
  unfold Part.frameAccepted Part.restartSilence Part.setSilence
  dsimp only
  split <;> rfl

theorem accepted_plant (p : Part) : p.frameAccepted.plant = p.plant := by
  unfold Part.frameAccepted Part.restartSilence Part.setSilence
  dsimp only
  split <;> rfl

theorem accepted_valves (p : Part) : p.frameAccepted.valves = p.valves := by
  unfold Part.frameAccepted Part.restartSilence Part.setSilence
  dsimp only
  split <;> rfl

/-! ### Checks passed and failed -/

theorem unlessSurveying_of {p : Part} (h : p.startUp.top ≠ .surveying) (k : Answer) : unlessSurveying p k = k := by
  unfold unlessSurveying; split
  · rename_i h'; exact absurd h' h
  · rfl

theorem inOperating_of {p : Part} (h : p.startUp.top = .operating) (k : Answer) : inOperating p k = k := by
  unfold inOperating; rw [h]

theorem unlessFails_ok {p : Part} {ok : Bool} {r : Result} {k : Answer} (h : ok = true) : unlessFails p ok r k = k := by
  unfold unlessFails; rw [if_pos h]

theorem unlessFails_no {p : Part} {ok : Bool} {r : Result} {k : Answer} (h : ok = false) :
    unlessFails p ok r k = refuse p r := by
  unfold unlessFails; rw [h]; rfl

theorem named_some {α : Type} {p : Part} {x : Option α} {a : α} {k : α → Answer} (h : x = some a) : named p x k = k a := by
  rw [h]; rfl

theorem named_none {α : Type} {p : Part} {x : Option α} {k : α → Answer} (h : x = none) :
    named p x k = refuse p .range := by
  rw [h]; rfl

theorem onFilter_of {p : Part} {b : Byte} {k : FilterId → FilterRecord → Answer} {f : FilterId} {rec : FilterRecord}
    (ht : p.startUp.top = .operating) (hb : filterOf b = some f) (hf : p.filter f = some rec) (hx : rec.transfer = none) :
    onFilter p b k = k f rec := by
  unfold onFilter
  rw [inOperating_of ht, named_some hb, hf]
  simp [hx]

/-! ### From the answer to the row -/

theorem handle_of {p q : Part} {c : HostCommand} {tag : Byte} {r : Result} {fields : ReplyFields}
    (h : p.answer c = (q, r, fields)) : p.handle tag c = q.putReply ⟨replyKind c.kind, tag, r, fields⟩ := by
  rw [handle_part, h]

theorem answers_of {s : State} {q : Part} {c : HostCommand} {tag : Byte} {bs : List ReportBody} {r : Result}
    {fields : ReplyFields} (h : s.part.frameAccepted.answer c = (q, r, fields)) (hr : Reports s.part q bs) :
    Answers s { s with part := s.part.frameAccepted.handle tag c } c tag bs r fields := by
  refine ⟨rfl, ?_⟩
  show (s.part.frameAccepted.handle tag c).link = _
  rw [handle_part, h, putReply_link]
  unfold Reports at hr
  dsimp only
  rw [hr]

/-- The row of a command whose answer is known: what it reports, what it may change, what it replies. -/
theorem done_of {s : State} {row : Instr} {tag : Byte} {c : HostCommand} {q : Part} {bs : List ReportBody} {r : Result}
    {fields : ReplyFields} {xs : List Piece} {now : Part → Prop} (hc : CanHandle s) (hrow : row.command = some (tag, c))
    (h : s.part.frameAccepted.answer c = (q, r, fields)) (k : OnlyChanges (xs ++ reporting) s.part.frameAccepted q)
    (hr : q.link = afterReports s.part.startUp.clock s.part.link bs)
    (hn : ∀ q', OnlyChanges reporting q q' → now q') : Done s row xs bs r fields now := by
  have kr : ∀ x, OnlyChanges reporting q (q.putReply x) := fun x => by simp
  refine ⟨tag, c, _, hrow, (exec_command hrow s).trans (submit_handled tag _ hc), answers_of h hr, ?_, ?_⟩
  · dsimp only; rw [handle_of h]
    exact onlyChanges_trans k (onlyChanges_mono (kr _) (by intro x hx; simp only [List.mem_append]; exact Or.inr hx))
  · dsimp only; rw [handle_of h]; exact hn _ (kr _)

/-- The row of a command that only reads. -/
theorem reads_of {s : State} {row : Instr} {tag : Byte} {c : HostCommand} {r : Result} {fields : ReplyFields}
    (hc : CanHandle s) (hrow : row.command = some (tag, c))
    (h : s.part.frameAccepted.answer c = (s.part.frameAccepted, r, fields)) : Reads s row r fields :=
  done_of hc hrow h (onlyChanges_refl _ _) (frameAccepted_link _) fun _ _ => trivial

end Sys2Proof.Laws
end

