-- ==== Sys2Proof/Machine/Wire.lean ====
section
/-! DEFINITION. The bytes of what the part sends: codes, records, replies and reports
(spec/11_message_formats.md; R171, R192, R193). Where no layout table gives a record, its fields stand in the order of
their rule, behind a presence byte where some are optional (log 21). -/

namespace Sys2Proof.Machine

/-! ### Fields (Table 11-2) -/

def b1 (n : Nat) : List Byte := [BitVec.ofNat 8 n]
def b2 (n : Nat) : List Byte := halfBytes (BitVec.ofNat 16 n)

/-- Four bytes, most significant first. -/
def b4 (n : Nat) : List Byte := b2 (n / 65536) ++ b2 n

def yes (b : Bool) : Nat := if b then 1 else 0

def yn (b : Bool) : List Byte := b1 (yes b)

/-- A flagged optional field: 1 and the field, or 0 and the field's width in zeros (R192). -/
def flagged (x : Option (List Byte)) (width : Nat) : List Byte :=
  match x with
  | some bytes => b1 1 ++ bytes
  | none => b1 0 ++ List.replicate width 0

def opt1 (x : Option Nat) : List Byte := flagged (x.map b1) 1
def opt2 (x : Option Nat) : List Byte := flagged (x.map b2) 2
def opt4 (x : Option Nat) : List Byte := flagged (x.map b4) 4

/-- A set as one byte, first member lowest. -/
def setByte : List Bool → Nat
  | [] => 0
  | x :: rest => yes x + 2 * setByte rest

/-! ### Codes (Table 11-5, 11.4) -/

def resultCode : Result → Nat
  | .ok => 0
  | .unknownKind => 1
  | .length => 2
  | .range => 3
  | .state => 4
  | .busy => 5
  | .inUse => 6
  | .notConfigured => 7
  | .late => 8
  | .locked => 9
  | .interlock => 10
  | .inhibited => 11
  | .loading => 12
  | .map => 13
  | .endOfRead => 14
  | .blocked => 15

def topCode : TopState → Nat
  | .configuring => 0
  | .surveying => 1
  | .operating => 2

def modeCode : PlantMode → Nat
  | .auto => 0
  | .directed => 1
  | .paused => 2

def filterStateCode : StateName → Nat
  | none => 0
  | some .online => 1
  | some .standby => 2
  | some (.washing _) => 3
  | some .stranded => 4
  | some .outOfService => 5
  | some (.faulted _) => 6

def faultCauseCode : FaultCause → Nat
  | .valve => 0
  | .survey => 1
  | .aborts => 2

/-- The fault cause of a state, present in FAULTED. -/
def causeOf : StateName → Option Nat
  | some (.faulted c) => some (faultCauseCode c)
  | _ => none

def laneCode : LaneId → Nat
  | .a => 0
  | .b => 1

/-- The lane of a state, present in WASHING. -/
def washLane : StateName → Option Nat
  | some (.washing l) => some (laneCode l)
  | _ => none

def transferCode : Option Transfer → Nat
  | none => 0
  | some ⟨.toService, _⟩ => 1
  | some ⟨.toStandby, _⟩ => 2

def sourceCode : RequestSource → Nat
  | .auto => 0
  | .host => 1

def actionCode : RequestAction → Nat
  | .added => 0
  | .upgraded => 1
  | .removed => 2

def removalCode : RemovalCause → Nat
  | .admitted => 0
  | .cancelled => 1
  | .takenOut => 2
  | .faulted => 3

def withdrawalCode : WithdrawalCause → Nat
  | .expired => 0
  | .declined => 1
  | .blocked => 2
  | .mode => 3
  | .mask => 4
  | .filter => 5
  | .manual => 6
  | .higher => 7

def blockedCode : BlockedReason → Nat
  | .none => 0
  | .empty => 1
  | .paused => 2
  | .noLane => 3
  | .spacing => 4
  | .equipment => 5
  | .measure => 6
  | .loading => 7
  | .loadingSubst => 8
  | .water => 9
  | .waste => 10
  | .proposed => 11

def calcCode : CalcFlag → Nat
  | .sat => 0
  | .zarea => 1
  | .staleUsed => 2
  | .flowSubst => 3

def calcSetCode (x : CalcFlags) : Nat := setByte [x.sat, x.zarea, x.staleUsed, x.flowSubst]

def termCode : DominantTerm → Nat
  | .turbidity => 0
  | .headloss => 1
  | .runtime => 2

def laneStateCode : Option LaneState → Nat
  | none => 0
  | some .acquiring => 1
  | some (.positioning _) => 2
  | some .starting => 3
  | some .running => 4
  | some (.held _) => 5
  | some (.aborting _) => 6
  | some (.returning _ _) => 7

def stepCode : PosStep → Nat
  | .close => 0
  | .openUp => 1

def holdCode : HoldCause → Nat
  | .host => 0
  | .inhibit => 1
  | .water => 2
  | .waste => 3
  | .equipment => 4
  | .valve => 5

def holdSetCode (x : HoldSet) : Nat := setByte [x.host, x.inhibit, x.water, x.waste, x.equipment, x.valve]

def abortCode : AbortCause → Nat
  | .host => 0
  | .holdLimit => 1
  | .channel => 2

def kindCode (k : PhaseKind) : Nat := (phaseKindCode k).toNat

def endCode : PhaseEnd → Nat
  | .time => 0
  | .confirmed => 1

def roleCode : Role → Nat
  | .inf => 0
  | .eff => 1
  | .bww => 2
  | .air => 3
  | .wst => 4
  | .ftw => 5

def unitCode : UnitId → Nat
  | .p1 => 0
  | .p2 => 1
  | .bl => 2

def unitStateCode : UnitState → Nat
  | .available => 0
  | .allocated _ => 1
  | .proving _ _ => 2
  | .running _ => 3
  | .guarded _ => 4
  | .failed _ => 5
  | .locked => 6

def failCode : FailCause → Nat
  | .prove => 0
  | .trip => 1

/-- The fail cause of a unit state, present in FAILED. -/
def failOf : UnitState → Option FailCause
  | .failed c => some c
  | _ => none

def equipmentCode : EquipmentEvent → Nat
  | .proven => 0
  | .proveFailed => 1
  | .tripped => 2
  | .stopped => 3
  | .locked => 4
  | .unlocked => 5
  | .faultReset => 6
  | .feedbackUnexpected => 7

/-- 1 RUNNING, 0 STOPPED (log 21). -/
def feedbackCode : Feedback → Nat
  | .stopped => 0
  | .running => 1

def channelStateCode : ChannelState → Nat
  | .unknown => 0
  | .closed => 1
  | .opened => 2
  | .opening _ _ => 3
  | .closing _ _ => 4
  | .stopped => 5
  | .fault _ => 6

def channelFaultCode : ChannelFault → Nat
  | .travel => 0
  | .switch => 1

/-- The fault cause of a channel state, present in FAULT. -/
def channelFaultOf : ChannelState → Option ChannelFault
  | .fault c => some c
  | _ => none

def ownerCode : Owner → Nat
  | .lane _ => 0
  | .transfer => 1
  | .window => 2
  | .none => 3

def ownerLane : Owner → Option Nat
  | .lane l => some (laneCode l)
  | _ => none

/-- Positions as the lane record codes role targets: 1 OPEN, 2 CLOSED (Table 11-4, log 21). -/
def positionCode : Position → Nat
  | .opened => 1
  | .closed => 2

/-- 1 ACTIVE, 0 INACTIVE (log 21). -/
def readingCode : Reading → Nat
  | .inactive => 0
  | .active => 1

/-- OPEN and CLOSE as the drive actions code them, then off (log 21). -/
def driveCode : Drive → Nat
  | .openDrive => 0
  | .closeDrive => 1
  | .off => 2

def senseCode : SwitchSense → Nat
  | .normal => 0
  | .inverted => 1

def pointSourceCode : PointSource → Nat
  | .none => 0
  | .analog _ _ _ => 1
  | .pushed => 2

def qualityCode : Quality → Nat
  | .none => 0
  | .good => 1
  | .over => 2
  | .held => 3
  | .stale => 4

def itemCode : CommissionItem → Nat
  | .plant => 0
  | .flowSource => 1
  | .tankSource => 2
  | .basinSource => 3
  | .filter => 4
  | .roleUnmapped => 5
  | .channelLocked => 6
  | .recipe => 7

def silenceCode : SilenceAction → Nat
  | .note => 0
  | .auto => 1
  | .pause => 2

def rateCode : Rate → Nat
  | .r19200 => 0
  | .r38400 => 1
  | .r57600 => 2
  | .r115200 => 3

/-- Destinations use the filter-state codes ONLINE and STANDBY (11.4). -/
def destinationCode (d : Destination) : Nat := filterStateCode (some (destinationState d))

def pumpCode : Option PumpId → Nat
  | none => 0
  | some .p1 => 1
  | some .p2 => 2

/-! ### Central records (11.3) -/

/-- Table 11-3, 37 bytes. -/
def FilterView.bytes (v : FilterView) : List Byte :=
  let r := v.record
  let state : StateName := some r.state
  let presence := setByte
    [(causeOf state).isSome, (washLane state).isSome, r.transfer.isSome, r.lastWashEnd.isSome, v.cls.isSome]
  b1 presence ++ b1 (filterNumber v.filter) ++ b2 r.cfg.area ++ b2 r.cfg.h0 ++ b2 r.cfg.ht ++ b2 r.cfg.tt ++
    b2 r.cfg.rmax ++ b1 r.cfg.arming ++ b1 r.cfg.slot.val ++ b1 (destinationCode r.cfg.dest) ++ b2 r.cfg.initRun ++
    b1 0 ++ b1 (filterStateCode state) ++ b1 ((causeOf state).getD 0) ++ b1 ((washLane state).getD 0) ++
    b1 (transferCode r.transfer) ++ b1 ((r.transfer.map (·.step)).getD 0) ++ b2 r.runMin ++ b1 r.runSec ++
    b1 r.armedMin ++ b2 r.washes ++ b1 r.aborts ++ b4 (r.lastWashEnd.getD 0) ++ b2 r.u ++
    b1 (termCode r.dominant + 16 * ((v.cls.map RequestClass.rank).getD 0))

/-- Queue entry with its position, 16 bytes (Table 11-4). -/
def entryBytes (x : Nat × Entry) : List Byte :=
  let e := x.2
  b1 (setByte [e.override.isSome, e.deferUntil.isSome]) ++ b1 x.1 ++ b1 (filterNumber e.filter) ++ b1 e.cls.rank ++
    b1 (sourceCode e.source) ++ b2 e.u ++ b4 e.raisedAt ++ b1 ((e.override.map (·.val)).getD 0) ++
    b4 (e.deferUntil.getD 0)

def LaneState.step : LaneState → Option PosStep
  | .positioning x | .returning _ x => some x
  | _ => none

def LaneState.heldAt : LaneState → Option Nat
  | .held t => some t
  | _ => none

def LaneState.abortCause : LaneState → Option AbortCause
  | .aborting c => some c
  | _ => none

def LaneState.dest : LaneState → Option Destination
  | .returning d _ => some d
  | _ => none

def roleList {α : Type} (x : PerRole α) : List α := [x.inf, x.eff, x.bww, x.air, x.wst, x.ftw]

/-- Lane record from its state byte on, for a lane that is not IDLE. -/
def Wash.bytes (w : Wash) (kind : Option PhaseKind) (left : Option Nat) : List Byte :=
  let x := w.state
  b1 (laneStateCode (some x)) ++ b1 (filterNumber w.filter) ++ b1 w.slot.val ++ b1 w.phase ++ b2 w.elapsed ++
    (roleList w.targets).flatMap (fun t => b1 ((t.map positionCode).getD 0)) ++ b1 ((x.step.map stepCode).getD 0) ++
    b1 (holdSetCode w.holds) ++ b1 (yes (w.holds.inhibit && w.releaseSeen)) ++ b1 (setByte (roleList w.drifted)) ++
    b4 (x.heldAt.getD 0) ++ b1 w.holdCount ++ b1 (pumpCode w.pump) ++ b1 (yes w.blower) ++ b4 w.remWater ++
    b4 w.remWaste ++ b4 w.startedAt ++ b2 w.confirm ++ b1 (yes w.ripenTimeout) ++
    b1 ((x.abortCause.map abortCode).getD 0) ++ b1 ((x.dest.map destinationCode).getD 0) ++
    b1 ((kind.map kindCode).getD 0) ++ b2 (left.getD 0)

/-- Lane record, 45 bytes (Table 11-4). -/
def LaneView.bytes (v : LaneView) : List Byte :=
  match v.wash with
  | none => b1 (laneCode v.lane) ++ List.replicate 44 0
  | some w =>
    let x := w.state
    b1 (laneCode v.lane) ++
      b1 (setByte [true, x.step.isSome, w.holds.inhibit, w.holds.valve, x.heldAt.isSome, x.abortCause.isSome,
        x.dest.isSome]) ++ w.bytes v.kind v.secsLeft

/-! ### Records without a layout table (log 21) -/

/-- An absent field is sent as 0 in its full width (R192). -/
def or0 (x : Option Nat) : Nat := x.getD 0

/-- R35, 10 bytes. Presence: bit 0 value, 1 age, 2 last count. -/
def PointView.bytes (v : PointView) : List Byte :=
  let value := if v.quality = .none then none else v.value
  let age := if v.quality = .none then none else v.age
  b1 (setByte [value.isSome, age.isSome, v.count.isSome]) ++ b1 (pointIndex v.point) ++ b1 (pointSourceCode v.source) ++
    b1 (qualityCode v.quality) ++ b2 (or0 value) ++ b2 (or0 age) ++ b2 (or0 v.count)

def filterRole (m : FilterId × Role) : List Byte := b1 (filterNumber m.1) ++ b1 (roleCode m.2)

/-- Filter and role of a map entry; 0 for each when absent. -/
def filterRoleOr0 (m : Option (FilterId × Role)) : List Byte :=
  match m with
  | some x => filterRole x
  | none => b2 0

/-- Table 8-1 and what R168 adds, 22 bytes. Presence: bit 0 fault cause, 1 open-limit reading, 2 closed-limit reading,
3 filter and role, 4 commanded target, 5 travel expiry, 6 the owner's lane, 7 seconds left. -/
def ChannelView.bytes (v : ChannelView) : List Byte :=
  let c := v.record
  let cause := channelFaultOf c.state
  b1 (setByte [cause.isSome, v.openRead.isSome, v.closedRead.isSome, c.mappedTo.isSome, c.target.isSome,
      c.expiry.isSome, (ownerLane v.owner).isSome, v.expiryLeft.isSome]) ++
    b1 v.channel.val ++ b1 (channelStateCode c.state) ++ b1 (or0 (cause.map channelFaultCode)) ++
    b1 (or0 (v.openRead.map readingCode)) ++ b1 (or0 (v.closedRead.map readingCode)) ++ b1 (senseCode c.sense) ++
    yn c.locked ++ filterRoleOr0 c.mappedTo ++ b1 (or0 (c.target.map positionCode)) ++ b4 (or0 c.expiry) ++
    b1 (driveCode v.drive) ++ b1 (ownerCode v.owner) ++ b1 (or0 (ownerLane v.owner)) ++ b2 (or0 v.expiryLeft) ++
    b2 v.travelTime

/-- R149, 10 bytes. Presence: bit 0 granted lane, 1 fail cause, 2 seconds to the prove expiry, 3 seconds to the guard
end. -/
def UnitView.bytes (v : UnitView) : List Byte :=
  let lane := v.state.lane.map laneCode
  let fail := (failOf v.state).map failCode
  b1 (setByte [lane.isSome, fail.isSome, v.proveLeft.isSome, v.guardLeft.isSome]) ++ b1 (unitStateCode v.state) ++
    yn v.runOutput ++ b1 (or0 lane) ++ b1 (or0 fail) ++ b2 (or0 v.proveLeft) ++ b2 (or0 v.guardLeft) ++
    b1 (feedbackCode v.feedback)

/-- Lane and phase index of a capture. -/
def lanePhase (x : LaneId × Nat) : List Byte := b1 (laneCode x.1) ++ b1 x.2

/-- Table 8-5 as the record GET_CHANNEL_FAULT reads, 18 bytes. Presence: bit 0 commanded target, 1 travel time that ran,
2 filter and role, 3 lane and phase index. -/
def Capture.recordBytes (c : Capture) : List Byte :=
  b1 (setByte [c.target.isSome, c.ran.isSome, c.mappedTo.isSome, c.laneAt.isSome]) ++ b1 c.channel.val ++
    b1 (channelFaultCode c.cause) ++ b4 c.time ++ b1 (channelStateCode c.before) ++
    b1 (or0 (c.target.map positionCode)) ++ b1 (readingCode c.openRead) ++ b1 (readingCode c.closedRead) ++
    b2 (or0 c.ran) ++ b1 (ownerCode c.owner) ++ filterRoleOr0 c.mappedTo ++
    (match c.laneAt with
    | some x => lanePhase x
    | none => b2 0)

/-- Table 8-5 as the fields of VALVE_FAULT, each optional one behind its flag (log 21). -/
def Capture.reportBytes (c : Capture) : List Byte :=
  b1 c.channel.val ++ b1 (channelFaultCode c.cause) ++ b4 c.time ++ b1 (channelStateCode c.before) ++
    opt1 (c.target.map positionCode) ++ b1 (readingCode c.openRead) ++ b1 (readingCode c.closedRead) ++ opt2 c.ran ++
    b1 (ownerCode c.owner) ++ flagged (c.mappedTo.map filterRole) 2 ++ flagged (c.laneAt.map lanePhase) 2

/-! ### Replies (R193) -/

def proposalBytes (p : Option Proposal) : List Byte :=
  flagged (p.map fun x => b1 (filterNumber x.filter) ++ b4 x.expiry) 5

def overloadBytes (o : Option Overload) : List Byte := flagged (o.map fun x => b4 x.start ++ b4 x.deadline) 8

/-- Staging: open, slot, n, records held, 0 for each when absent. -/
def pictureBytes (x : Option (SlotId × Nat × Nat)) : List Byte :=
  match x with
  | some (s, n, k) => b1 1 ++ b1 s.val ++ b1 n ++ b1 k
  | none => b1 0 ++ b1 0 ++ b1 0 ++ b1 0

def laneListBytes (ls : List LaneId) : List Byte := b1 ls.length ++ ls.flatMap fun l => b1 (laneCode l)

/-- Phase record behind its number. -/
def numberedPhase (x : Nat × Phase) : List Byte := b1 x.1 ++ x.2.raw.bytes

def StatusView.bytes (v : StatusView) : List Byte :=
  b1 (topCode v.top) ++ b1 (modeCode v.mode) ++ yn v.stopAsserted ++ yn v.ready ++ yn v.silent ++
    b1 (calcSetCode v.flags) ++ yn v.reportLoss ++ b1 (blockedCode v.blocked) ++ proposalBytes v.proposal ++
    b4 v.reservedWater ++ b4 v.reservedWaste ++ b1 v.reports ++ b4 v.clock

def LoadingView.bytes (v : LoadingView) : List Byte :=
  b2 v.flow ++ yn v.isDesign ++ b2 v.area ++ b1 v.online ++ b2 v.loading ++ b2 v.vmax ++ overloadBytes v.overload ++
    opt1 (v.marker.map filterNumber)

/-- The status of a slot is sent as 0 EMPTY, 1 INSTALLED (log 21). -/
def SignatureView.bytes (v : SignatureView) : List Byte :=
  b1 v.slot.val ++ yn v.installed.isSome ++ opt1 (v.installed.map (·.1)) ++
    flagged (v.installed.map fun x => halfBytes x.2.1) 2 ++ opt2 (v.installed.map (·.2.2)) ++ yn v.named ++ yn v.laneA ++
    yn v.laneB ++ pictureBytes v.staging

/-- The payload after the result code. The count of the phase records of GET_RECIPE stands before them, and an empty
capture record is its flag 0 and its width in zeros (log 21). -/
def ReplyFields.bytes : ReplyFields → List Byte
  | .none => []
  | .ident rev rate => b1 0x41 ++ b2 0x0640 ++ b1 rev ++ b1 (rateCode rate)
  | .status v => v.bytes
  | .linkErrors n o => b1 n ++ yn o
  | .missing item f r => b1 (itemCode item) ++ opt1 (f.map filterNumber) ++ opt1 (r.map roleCode)
  | .loading v => v.bytes
  | .points avail room recs => opt4 avail ++ opt4 room ++ b1 recs.length ++ recs.flatMap PointView.bytes
  | .filters recs => b1 recs.length ++ recs.flatMap FilterView.bytes
  | .queue n mask entries => b1 n ++ b1 mask.toNat ++ entries.flatMap entryBytes
  | .laneOf l => b1 (laneCode l)
  | .reason r => b1 (blockedCode r)
  | .picture x => pictureBytes x
  | .staged s n k => b1 s.val ++ b1 n ++ b1 k
  | .installed s n sig t => b1 s.val ++ b1 n ++ halfBytes sig ++ b2 t
  | .offending i => b1 i
  | .signature v => v.bytes
  | .phases n sig recs => b1 n ++ halfBytes sig ++ b1 recs.length ++ recs.flatMap numberedPhase
  | .recipeEnd n => yn n.isSome ++ opt1 n
  | .laneNow st holds => b1 (laneStateCode st) ++ b1 (holdSetCode holds)
  | .lanes a b => a.bytes ++ b.bytes
  | .unitNow st => b1 (unitStateCode st)
  | .equipment p1 p2 bl duty pw bw =>
    p1.bytes ++ p2.bytes ++ bl.bytes ++ b1 (unitCode (pumpUnit duty)) ++ laneListBytes pw ++ laneListBytes bw
  | .channelNow st => opt1 (st.map channelStateCode)
  | .channelIs st => b1 (channelStateCode st)
  | .lockFlag x => yn x
  | .capture c => flagged (c.map Capture.recordBytes) 18
  | .channels stop ready sel recs =>
    yn stop ++ yn ready ++ opt1 (sel.map (·.val)) ++ b1 recs.length ++ recs.flatMap ChannelView.bytes

/-- A reply's frame. -/
def Reply.frame (r : Reply) : Frame := ⟨r.kind, r.tag, b1 (resultCode r.result) ++ r.fields.bytes⟩

/-! ### Reports (Table 11-7) -/

def ReportBody.kind : ReportBody → Byte
  | .filterState .. => 0x40
  | .request .. => 0x41
  | .proposal .. => 0x42
  | .proposalWithdrawn .. => 0x43
  | .admitted .. => 0x44
  | .phase .. => 0x45
  | .laneHeld .. => 0x46
  | .laneResumed .. => 0x47
  | .washDone .. => 0x48
  | .washAborted .. => 0x4A
  | .valveFault _ => 0x4B
  | .valveDrift .. => 0x4C
  | .equipment .. => 0x4D
  | .measure .. => 0x4E
  | .calcSet .. => 0x4F
  | .silence .. => 0x50
  | .overload .. => 0x51
  | .stopAsserted .. | .stopReleased _ => 0x52
  | .surveyDone .. => 0x53

/-- Origin of a CALC report: the code, then the filter evaluated or removed. -/
def originBytes : CalcOrigin → List Byte
  | .urgency f => b1 0 ++ opt1 (some (filterNumber f))
  | .loading f => b1 1 ++ opt1 (f.map filterNumber)

def lf (l : LaneId) (f : FilterId) : List Byte := b1 (laneCode l) ++ b1 (filterNumber f)

/-- The fields after the common header. -/
def ReportBody.bytes : ReportBody → List Byte
  | .filterState f now before t sub =>
    b1 (filterNumber f) ++ b1 (filterStateCode now) ++ b1 (filterStateCode before) ++ opt1 (causeOf now) ++
      b1 (transferCode t) ++ yn sub
  | .request a f cls prev src u cause =>
    b1 (actionCode a) ++ b1 (filterNumber f) ++ b1 cls.rank ++ opt1 (prev.map RequestClass.rank) ++
      b1 (sourceCode src) ++ b2 u ++ opt1 (cause.map removalCode)
  | .proposal f cls src u slot w x l e =>
    b1 (filterNumber f) ++ b1 cls.rank ++ b1 (sourceCode src) ++ b2 u ++ b1 slot.val ++ b4 w ++ b4 x ++
      b1 (laneCode l) ++ b4 e
  | .proposalWithdrawn f c d => b1 (filterNumber f) ++ b1 (withdrawalCode c) ++ opt4 d
  | .admitted f l cls src slot ov w x rw rx t =>
    b1 (filterNumber f) ++ b1 (laneCode l) ++ b1 cls.rank ++ b1 (sourceCode src) ++ b1 slot.val ++ yn ov ++ b4 w ++
      b4 x ++ b4 rw ++ b4 rx ++ b4 t
  | .overload v vmax q d a t f =>
    b2 v ++ b2 vmax ++ b2 q ++ yn d ++ b2 a ++ b4 t ++ opt1 (f.map filterNumber)
  | .calcSet k all o => b1 (calcCode k) ++ b1 (calcSetCode all) ++ originBytes o
  | .phase l f i k d prev w x =>
    lf l f ++ b1 i ++ b1 (kindCode k) ++ b2 d ++ opt1 (prev.map endCode) ++ b4 w ++ b4 x
  | .laneHeld l f i e c set began n t =>
    lf l f ++ b1 i ++ b2 e ++ b1 (holdCode c) ++ b1 (holdSetCode set) ++ yn began ++ b1 n ++ b4 t
  | .laneResumed l f i e t n => lf l f ++ b1 i ++ b2 e ++ b2 t ++ b1 n
  | .washDone l f d t w n rt => lf l f ++ b1 (destinationCode d) ++ b2 t ++ b4 w ++ b1 n ++ yn rt
  | .washAborted l f c i e n t now =>
    lf l f ++ b1 (abortCode c) ++ b1 i ++ b2 e ++ b1 n ++ b2 t ++ b1 (filterStateCode now)
  | .equipment u e now before l c fb =>
    b1 (unitCode u) ++ b1 (equipmentCode e) ++ b1 (unitStateCode now) ++ b1 (unitStateCode before) ++
      opt1 (l.map laneCode) ++ opt1 (c.map failCode) ++ b1 (feedbackCode fb)
  | .valveFault c => c.reportBytes
  | .valveDrift ch m lost now o =>
    b1 ch.val ++ flagged (m.map filterRole) 2 ++ b1 (positionCode lost) ++ b1 (channelStateCode now) ++
      b1 (ownerCode o) ++ opt1 (ownerLane o)
  | .stopAsserted t n => b1 1 ++ b4 t ++ b1 n
  | .stopReleased t => b1 0 ++ b4 t
  | .measure p now before src v =>
    b1 (pointIndex p) ++ b1 (qualityCode now) ++ b1 (qualityCode before) ++ b1 (pointSourceCode src) ++ opt2 v
  | .silence i a before now t => b2 i ++ b1 (silenceCode a) ++ b1 (modeCode before) ++ b1 (modeCode now) ++ opt4 t
  | .surveyDone on st fl ch stop => b1 on ++ b1 st ++ b1 fl ++ b1 ch ++ yn stop

/-- A report's frame: TAG 0, common header, fields. -/
def Report.frame (r : Report) : Frame := ⟨r.body.kind, 0, b2 r.seq ++ b4 r.clock ++ r.body.bytes⟩

/-! ### The line -/

def OutMsg.frame : OutMsg → Frame
  | .reply r => r.frame
  | .report r => r.frame

/-- The bytes of what the transmitter sends. -/
def OutMsg.bytes (m : OutMsg) : List Byte := m.frame.bytes

/-- What the part has on the line: nothing without supply or in reset (R184). -/
def Part.onLine (p : Part) : Option OutMsg := if p.live then p.link.sending else none

end Sys2Proof.Machine
end

