-- ==== Sys2Proof/Laws/Wire.lean ====
section
/-! SUPPORT. The widths of what the part sends: records of one width each, and the longest replies that carry them within
a frame's 200 bytes of payload (R171, R192, R193). -/

namespace Sys2Proof.Laws
open Machine

@[simp] theorem length_b1 (n : Nat) : (b1 n).length = 1 := rfl
@[simp] theorem length_b2 (n : Nat) : (b2 n).length = 2 := rfl
@[simp] theorem length_b4 (n : Nat) : (b4 n).length = 4 := rfl
@[simp] theorem length_yn (b : Bool) : (yn b).length = 1 := rfl

theorem length_flagged {x : Option (List Byte)} {n : Nat} (h : ∀ bytes, x = some bytes → bytes.length = n) :
    (flagged x n).length = n + 1 := by
  cases x with
  | none => simp [flagged, Nat.add_comm]
  | some bytes => simp [flagged, h bytes rfl, Nat.add_comm]

@[simp] theorem length_opt1 (x : Option Nat) : (opt1 x).length = 2 := by cases x <;> rfl
@[simp] theorem length_opt4 (x : Option Nat) : (opt4 x).length = 5 := by cases x <;> rfl

@[simp] theorem length_filterRoleOr0 (m : Option (FilterId × Role)) : (filterRoleOr0 m).length = 2 := by cases m <;> rfl

theorem length_pointView (v : PointView) : v.bytes.length = 10 := by simp [PointView.bytes]

theorem length_channelView (v : ChannelView) : v.bytes.length = 22 := by simp [ChannelView.bytes]

theorem length_unitView (v : UnitView) : v.bytes.length = 10 := by simp [UnitView.bytes, feedbackCode]

theorem length_capture (c : Capture) : c.recordBytes.length = 18 := by
  unfold Capture.recordBytes
  cases c.laneAt <;> simp [lanePhase]

theorem length_records {α : Type} {f : α → List Byte} {n : Nat} (h : ∀ x, (f x).length = n) (xs : List α) :
    (xs.flatMap f).length = n * xs.length := by
  induction xs with
  | nil => rfl
  | cons x xs ih => rw [List.flatMap_cons, List.length_append, ih, h, List.length_cons, Nat.mul_add, Nat.mul_one, Nat.add_comm]

/-- GET_POINTS of 16 fits a frame. -/
theorem points_fit (avail room : Option Nat) {recs : List PointView} (h : recs.length ≤ 16) :
    (ReplyFields.points avail room recs).bytes.length + 1 ≤ 200 := by
  simp only [ReplyFields.bytes, List.length_append, length_records length_pointView, length_opt4, length_b1]
  omega

/-- GET_CHANNELS of 8 fits a frame. -/
theorem channels_fit (stop ready : Bool) (sel : Option ChannelId) {recs : List ChannelView} (h : recs.length ≤ 8) :
    (ReplyFields.channels stop ready sel recs).bytes.length + 1 ≤ 200 := by
  simp only [ReplyFields.bytes, List.length_append, length_records length_channelView, length_opt1, length_b1, length_yn]
  omega

end Sys2Proof.Laws
end

