-- ==== Sys2Proof/Tests/Slice0.lean ====
section
/-! SUPPORT. Own tests: the checks of WellFormed refuse, single steps on small states, and for every statement with
hypotheses a state and operands that meet them, clause by clause. -/

namespace Sys2Proof.Tests

open Sys2Proof Machine

set_option Elab.async false

/-! ### Small parts -/

/-- OPERATING, STOP released, nothing defined. -/
def quiet : Part :=
  let p := State.reset.part
  { p with startUp := { p.startUp with top := .operating, readyCall := true }
           valves := { p.valves with stop := .released } }

def onSched (g : Scheduler → Scheduler) (p : Part) : Part := { p with sched := g p.sched }
def onPlant (g : PlantRecord → PlantRecord) (p : Part) : Part := { p with plant := g p.plant }
def onLink (g : LinkPort → LinkPort) (p : Part) : Part := { p with link := g p.link }
def onFront (g : FrontEnd → FrontEnd) (p : Part) : Part := { p with front := g p.front }
def atClock (n : Nat) (p : Part) : Part := { p with startUp := { p.startUp with clock := n } }
def inTop (x : TopState) (p : Part) : Part := { p with startUp := { p.startUp with top := x } }
def withStop (x : StopState) (p : Part) : Part := { p with valves := { p.valves with stop := x } }
def withSlot (r : Recipe) (p : Part) : Part := { p with recipes := { p.recipes with slots := p.recipes.slots.set 0 (some r) } }
def withUnit (u : UnitId) (x : UnitState) (p : Part) : Part := p.putUnit u ⟨x, .deEnergised⟩

/-- No row waits. -/
def st (p : Part) : State := ⟨p, []⟩

/-- The one outstanding event. -/
def after (e : Event) (p : Part) : State := ⟨{ p with events := [e] }, []⟩

theorem outstanding_after {e : Event} {p : Part} (h : p.live = true) : Outstanding (after e p) e :=
  ⟨h, List.mem_singleton.mpr rfl⟩

def config : FilterConfig := ⟨400, 500, 2500, 300, 2880, 30, 0, .online, 0⟩
def record (x : FilterState) : FilterRecord := { newRecord config with state := x }
def withRecord (r : FilterRecord) (p : Part) : Part := p.putFilter 0 (some r)
def withFilter (x : FilterState) (p : Part) : Part := withRecord (record x) p

def phase (k : PhaseKind) : Phase :=
  match k with
  | .drain => ⟨.drain, 60, 0, 300, 0, 0⟩
  | .airWater => ⟨.airWater, 60, 100, 0, 0, 0⟩
  | .water => ⟨.water, 60, 400, 0, 0, 0⟩
  | .ripen => ⟨.ripen, 600, 100, 0, 100, 60⟩
  | k => ⟨k, 60, 0, 0, 0, 0⟩

def recipeOf (ks : List PhaseKind) : Recipe := ⟨ks.map phase, 0, 0, 24000, 300, 24000⟩

def wash (x : LaneState) : Wash where
  state := x
  filter := 0
  slot := 0
  phase := 1
  elapsed := 0
  targets := PerRole.all none
  holds := HoldSet.empty
  releaseSeen := false
  drifted := PerRole.all false
  holdCount := 0
  pump := none
  blower := false
  remWater := 0
  remWaste := 0
  startedAt := 0
  confirm := 0
  ripenTimeout := false

/-- Lane A washes filter 1 by a recipe of these phases. -/
def washingBy (ks : List PhaseKind) (w : Wash) : Part :=
  (withSlot (recipeOf ks) (withFilter (.washing .a) quiet)).putLane .a (some w)

def washing (k : PhaseKind) (w : Wash) : Part := washingBy [k] w

/-- The part a lane stands in phase `k` in: filter 1, slot 0, its first phase. -/
theorem washesBy_of {p : Part} {w : Wash} {ks : List PhaseKind} {k : PhaseKind} (hl : p.lane .a = some w)
    (hf : p.filter w.filter = some (record (.washing .a))) (hr : p.recipe w.slot = some (recipeOf (k :: ks)))
    (hp : w.phase = 1) : WashesBy p .a w (record (.washing .a)) (recipeOf (k :: ks)) (phase k) :=
  ⟨hl, hf, hr, by rw [hp]; rfl⟩

/-- A channel at rest in a state, CLOSED with its closed limit held, mapped to a role of filter 1. -/
def channelAt (x : ChannelState) (r : Role) : Channel :=
  { Channel.initial with state := x, openInput := some .deEnergised, closedInput := some .energised, mappedTo := some (0, r) }

def mapRole (f : FilterId) (r : Role) (ch : ChannelId) (p : Part) : Part :=
  { p with valves := { p.valves with map := p.valves.map.set f ((p.valves.map[f]).set r (some ch)) } }

/-- Filter 1's roles on channels 0 to 5, each in the state given for it. -/
def piped (x : Role → ChannelState) (p : Part) : Part :=
  let put := fun (r : Role) (ch : ChannelId) (p : Part) => (mapRole 0 r ch p).putChannel ch (channelAt (x r) r)
  put .inf 0 (put .eff 1 (put .bww 2 (put .air 3 (put .wst 4 (put .ftw 5 p)))))

def closedAll : Part → Part := piped fun _ => .closed

def oneChannel (x : ChannelState) (p : Part) : Part := p.putChannel 0 { Channel.initial with state := x }

/-! ### Witnesses: the step, resets, the second -/

theorem witness_EmptyQueueIdles : ∃ s : State, s.pending = [] := ⟨State.reset, rfl⟩

theorem witness_PartWithoutSupplyOrInResetIsStill :
    (∃ s : State, s.part.supply = false ∧ s.part.live = false) ∧
    (∃ s : State, s.part.resetHeld = true ∧ s.part.live = false) ∧ ∃ c, ¬ IsLineRow c :=
  ⟨⟨st { quiet with supply := false }, rfl, rfl⟩, ⟨st { quiet with resetHeld := true }, rfl, rfl⟩, .minuteTick, id⟩

theorem witness_HardResetsClearEverything : ∃ s : State, s.part.resetHeld = true := ⟨st { quiet with resetHeld := true }, rfl⟩

theorem witness_SoftResetKeepsTheConfiguration : ∃ s : State, s.part.live = true ∧ s.part.link.softReset = .sent :=
  ⟨st (onLink (fun k => { k with softReset := .sent }) quiet), rfl, rfl⟩

theorem witness_TickCountsASecond :
    (∃ (s : State) (f : FilterId) (r : FilterRecord), s.part.live = true ∧ s.part.startUp.clock < 4294967295 ∧
      (s.part.startUp.clock + 1) % 60 = 0 ∧ s.part.filter f = some r ∧ r.state = .online ∧ 59 ≤ r.runSec) ∧
    (∃ (s : State) (l : LaneId) (w : Wash), s.part.live = true ∧ s.part.startUp.clock < 4294967295 ∧
      s.part.lane l = some w ∧ w.state = .running ∧ s.part.events ≠ []) ∧
    ∃ s : State, s.part.live = true ∧ s.part.startUp.clock = 4294967295 :=
  ⟨⟨st (atClock 4294967279 (withRecord { record .online with runSec := 59 } quiet)), 0, _, rfl, by decide, by decide, rfl,
    rfl, by decide⟩,
   ⟨after .minuteTick (atClock 4294967294 (washing .water (wash .running))), .a, _, rfl, by decide, rfl, rfl, by decide⟩,
   st (atClock 4294967295 quiet), rfl, rfl⟩

/-- Each timer in the part reaches its second at the next tick. -/
def timersDue : Part :=
  let p := atClock 599 (washing .water (wash (.held 0)))
  let p := onPlant (fun r => { r with staleLimit := 10, holdLimit := 10 }) p
  let p := onFront (fun x => { x with flow := ⟨.pushed, [], some 5, .good, some 590⟩ }) p
  let p := onSched (fun x => { x with
    overload := some ⟨0, 600⟩, queue := [⟨0, .manual, .host, 0, 0, none, some 600⟩], lastAdmission := some 0
    proposal := some ⟨0, 600⟩ }) p
  let p := (onPlant (fun r => { r with spacing := 10 }) p).putChannel 0 { Channel.initial with state := .opening 600 60 }
  let p := withUnit .p1 (.proving .a 600) (withUnit .bl (.guarded 600) p)
  { p with startUp := { p.startUp with silence := some 600 } }

theorem witness_TickRaisesEveryTimerReached :
    ∃ (s : State) (a : Nat) (o : Overload) (e : Entry) (pr : Proposal) (w : Wash), s.part.live = true ∧
      s.part.startUp.clock < 4294967295 ∧ (s.part.point .flow).quality.usable = true ∧
      (s.part.point .flow).lastAccepted = some a ∧ secondAfter a s.part.plant.staleLimit = s.part.startUp.clock + 1 ∧
      s.part.sched.overload = some o ∧ o.deadline = s.part.startUp.clock + 1 ∧
      e ∈ s.part.sched.queue ∧ e.deferUntil = some (s.part.startUp.clock + 1) ∧
      s.part.sched.lastAdmission = some 0 ∧ secondAfter 0 (60 * s.part.plant.spacing) = s.part.startUp.clock + 1 ∧
      s.part.sched.proposal = some pr ∧ pr.expiry = s.part.startUp.clock + 1 ∧
      s.part.lane .a = some w ∧ w.state = .held 0 ∧ secondAfter 0 (60 * s.part.plant.holdLimit) = s.part.startUp.clock + 1 ∧
      (s.part.channel 0).state = .opening (s.part.startUp.clock + 1) 60 ∧
      (s.part.unit .p1).state = .proving .a (s.part.startUp.clock + 1) ∧
      (s.part.unit .bl).state = .guarded (s.part.startUp.clock + 1) ∧
      s.part.startUp.silence = some (s.part.startUp.clock + 1) :=
  ⟨st timersDue, 590, _, ⟨0, .manual, .host, 0, 0, none, some 600⟩, _, _, rfl, by decide, rfl, rfl, rfl, rfl, rfl,
    List.mem_singleton.mpr rfl, rfl, rfl, rfl, rfl, rfl, rfl, rfl, rfl, rfl, rfl, rfl, rfl⟩

/-- A hold limit that falls at the largest value of the clock. -/
theorem witness_TickRaisesAHoldLimitAtTheLargestSecond :
    ∃ (s : State) (w : Wash) (h : Nat), s.part.live = true ∧ s.part.startUp.clock = 4294967294 ∧ s.part.lane .a = some w ∧
      w.state = .held h ∧ s.part.startUp.clock + 1 < h + 60 * s.part.plant.holdLimit ∧
      secondAfter h (60 * s.part.plant.holdLimit) = s.part.startUp.clock + 1 :=
  ⟨st (atClock 4294967294 (washing .water (wash (.held 4294967000)))), _, 4294967000, rfl, rfl, rfl, rfl, by decide, by decide⟩

theorem witness_FilterMinutesCountAndCallForEvaluations :
    (∃ (s : State) (f : FilterId) (r : FilterRecord), Outstanding s (.runMinute f) ∧ s.part.filter f = some r ∧
      r.state = .online ∧ r.runSec = 60 ∧ r.runMin = 65535) ∧
    (∃ (s : State) (f : FilterId) (r : FilterRecord), Outstanding s (.runMinute f) ∧ s.part.filter f = some r ∧
      r.state = .standby ∧ r.runSec = 125) ∧
    ∃ s : State, Outstanding s .minuteTick :=
  ⟨⟨after (.runMinute 0) (withRecord { record .online with runSec := 60, runMin := 65535 } quiet), 0, _,
    outstanding_after rfl, rfl, rfl, rfl, rfl⟩,
   ⟨after (.runMinute 0) (withRecord { record .standby with runSec := 125 } quiet), 0, _, outstanding_after rfl, rfl, rfl,
    rfl⟩, after .minuteTick quiet, outstanding_after rfl⟩

theorem witness_UrgencyEvaluationFollowsTheFractions :
    ∃ (s : State) (f : FilterId) (r : FilterRecord), Outstanding s (.urgency f) ∧ s.part.filter f = some r ∧
      r.state = .online ∧ r.transfer = none ∧ classOf (headlossPart r.cfg (s.part.point (.hl f)))
        (turbidityPart r (s.part.point (.tb f))) (runtimePart r) = some .routine :=
  ⟨after (.urgency 0) (withRecord { record .online with runMin := 2880 } quiet), 0, _, outstanding_after rfl, rfl, rfl,
    rfl, by decide +kernel⟩

/-- FLOW on analog input 3. -/
def scanned : Part := onFront (fun x => { x with flow := { Point.initial with source := .analog 3 0 1000 } }) quiet

theorem witness_SamplesReachTheirPoints :
    (∃ (s : State) (id : PointId) (i : InputId) (lo hi : Nat), s.part.live = true ∧ s.part.events ≠ [] ∧
      (s.part.point id).source = .analog i lo hi) ∧
    (∃ (s : State) (id : PointId) (c lo hi : Nat) (i : InputId), s.part.live = true ∧
      s.part.events.find? (Event.isSampleOf id) = some (.sample id c) ∧ (s.part.point id).source = .analog i lo hi ∧
      c = 576) ∧
    ∃ (s : State) (id : PointId), Outstanding s (.stale id) ∧ (s.part.point id).quality.usable = true :=
  ⟨⟨after .minuteTick scanned, .flow, 3, _, _, rfl, by decide, rfl⟩,
   ⟨after (.sample .flow 576) scanned, .flow, 576, _, _, 3, rfl, by decide +kernel, rfl, rfl⟩,
   after (.stale .flow) (onFront (fun x => { x with flow := ⟨.pushed, [], some 5, .good, some 0⟩ }) quiet), .flow,
   outstanding_after rfl, rfl⟩

theorem witness_SchedulerEventsTriggerAScan :
    (∃ s : State, s.part.startUp.top = .operating ∧ Outstanding s (.schedulerMeasure .tank)) ∧
    (∃ s : State, s.part.startUp.top = .operating ∧ Outstanding s (.schedulerMeasure .flow)) ∧
    (∃ s : State, s.part.startUp.top = .operating ∧ Outstanding s .spacingExpiry) ∧
    ∃ (s : State) (u : UnitId) (n : UnitNews), s.part.startUp.top = .operating ∧ Outstanding s (.schedulerUnitNews u n) :=
  ⟨⟨after (.schedulerMeasure .tank) quiet, rfl, outstanding_after rfl⟩,
   ⟨after (.schedulerMeasure .flow) quiet, rfl, outstanding_after rfl⟩, ⟨after .spacingExpiry quiet, rfl, outstanding_after rfl⟩,
   after (.schedulerUnitNews .bl .failed) quiet, .bl, .failed, rfl, outstanding_after rfl⟩

/-! ### The course of a transfer -/

def restState : Position → ChannelState
  | .opened => .opened
  | .closed => .closed

def roleChannel : Role → ChannelId
  | .inf => 0
  | .eff => 1
  | .bww => 2
  | .air => 3
  | .wst => 4
  | .ftw => 5

/-- Filter 1's roles stand as given, STOP released. -/
def Piped (p : Part) (x : Role → ChannelState) : Prop := p.valves = (piped x quiet).valves

theorem piped_mapped {p : Part} {x : Role → ChannelState} (h : Piped p x) (r : Role) :
    p.mapped 0 r = some (roleChannel r) := by
  unfold Part.mapped
  rw [h]
  cases r <;> rfl

theorem piped_channel {p : Part} {x : Role → ChannelState} (h : Piped p x) (r : Role) :
    p.channel (roleChannel r) = channelAt (x r) r := by
  unfold Part.channel
  rw [h]
  cases r <;> rfl

theorem piped_stop {p : Part} {x : Role → ChannelState} (h : Piped p x) : p.stopAsserted = false := by
  unfold Part.stopAsserted
  rw [h]
  rfl

theorem piped_back {p : Part} {x : Role → ChannelState} (h : Piped p x) : MapBothWays p 0 := by
  intro r ch hm
  rw [piped_mapped h] at hm
  cases hm
  rw [piped_channel h]
  rfl

theorem piped_rests {p : Part} {x : Role → ChannelState} (h : Piped p x) {r : Role} {pos : Position}
    (hr : x r = restState pos) : RestsAt p 0 r pos := by
  refine ⟨_, piped_mapped h r, ?_⟩
  rw [piped_channel h]
  cases pos
  · exact .inl ⟨rfl, hr⟩
  · exact .inr ⟨rfl, hr⟩

theorem piped_travels {p : Part} {x : Role → ChannelState} (h : Piped p x) {r : Role} {pos : Position}
    (hr : x r = .unknown) : RoleTravels p 0 r pos := by
  refine ⟨_, piped_mapped h r, ?_⟩
  rw [piped_channel h]
  exact ⟨rfl, .inl hr⟩

theorem piped_fault {p : Part} {x : Role → ChannelState} (h : Piped p x) {r : Role} (hr : x r = .fault .travel) :
    RoleInFault p 0 r := by
  refine ⟨_, .travel, piped_mapped h r, ?_⟩
  rw [piped_channel h]
  exact hr

/-- The hypotheses of each clause on a transfer that begins on filter 1 with STOP released. -/
def WaitsIn (p : Part) (k : TransferKind) (n : Nat) : Prop :=
  p.stopAsserted = false ∧ MapBothWays p 0 ∧ 1 ≤ n ∧ n ≤ finalStep k ∧ (∀ x ∈ stepsUpTo k (n - 1), RestsAt p 0 x.1 x.2) ∧
  (∀ x ∈ transferStep k n, RestsAt p 0 x.1 x.2 ∨ RoleTravels p 0 x.1 x.2) ∧
  ∃ x ∈ transferStep k n, RoleTravels p 0 x.1 x.2

def FaultsIn (p : Part) (k : TransferKind) (n : Nat) : Prop :=
  p.stopAsserted = false ∧ MapBothWays p 0 ∧ 1 ≤ n ∧ n ≤ finalStep k ∧ (∀ x ∈ stepsUpTo k (n - 1), RestsAt p 0 x.1 x.2) ∧
  ∃ before r pos later, transferStep k n = before ++ (r, pos) :: later ∧
    (∀ x ∈ before, RestsAt p 0 x.1 x.2 ∨ RoleTravels p 0 x.1 x.2) ∧ RoleInFault p 0 r

def CompletesAtOnce (p : Part) (k : TransferKind) : Prop :=
  p.stopAsserted = false ∧ MapBothWays p 0 ∧ ∀ x ∈ stepsUpTo k (finalStep k), RestsAt p 0 x.1 x.2

theorem waitsIn_of {p : Part} {x : Role → ChannelState} {k : TransferKind} {n : Nat} (h : Piped p x)
    (hn : 1 ≤ n ∧ n ≤ finalStep k) (hd : ∀ y ∈ stepsUpTo k (n - 1), x y.1 = restState y.2)
    (ht : ∀ y ∈ transferStep k n, x y.1 = restState y.2 ∨ x y.1 = .unknown)
    (he : ∃ y ∈ transferStep k n, x y.1 = .unknown) : WaitsIn p k n :=
  ⟨piped_stop h, piped_back h, hn.1, hn.2, fun y hy => piped_rests h (hd y hy),
    fun y hy => (ht y hy).imp (piped_rests h) (piped_travels h), he.imp fun _ hy => ⟨hy.1, piped_travels h hy.2⟩⟩

/-- The step's first role travels and its second is in FAULT, or its one role is. -/
theorem faultsIn_of {p : Part} {x : Role → ChannelState} {k : TransferKind} {n : Nat} (h : Piped p x)
    (hn : 1 ≤ n ∧ n ≤ finalStep k) (hd : ∀ y ∈ stepsUpTo k (n - 1), x y.1 = restState y.2)
    (before : List (Role × Position)) (r : Role) (pos : Position) (later : List (Role × Position))
    (hs : transferStep k n = before ++ (r, pos) :: later) (hb : ∀ y ∈ before, x y.1 = .unknown)
    (hf : x r = .fault .travel) : FaultsIn p k n :=
  ⟨piped_stop h, piped_back h, hn.1, hn.2, fun y hy => piped_rests h (hd y hy), before, r, pos, later, hs,
    fun y hy => .inr (piped_travels h (hb y hy)), piped_fault h hf⟩

theorem completes_of {p : Part} {x : Role → ChannelState} {k : TransferKind} (h : Piped p x)
    (hd : ∀ y ∈ stepsUpTo k (finalStep k), x y.1 = restState y.2) : CompletesAtOnce p k :=
  ⟨piped_stop h, piped_back h, fun y hy => piped_rests h (hd y hy)⟩

/-- ONLINE's positions. -/
def inService : Role → ChannelState
  | .inf | .eff => .opened
  | _ => .closed

/-- The roles of step 1 of TO_SERVICE: BWW and AIR not yet in place. -/
def air (x : ChannelState) : Role → ChannelState
  | .bww => .unknown
  | .air => x
  | _ => .closed

/-! ### Witnesses: timers, valves, units -/

def entryOf (cls : RequestClass) (d : Option Nat) : Entry := ⟨0, cls, .host, 0, 0, none, d⟩
def queued (e : Entry) (p : Part) : Part := onSched (fun x => { x with queue := [e] }) p
def proposed (p : Part) : Part := onSched (fun x => { x with proposal := some ⟨0, 60⟩ }) p

theorem witness_DeferralsAndProposalsExpire :
    (∃ (s : State) (e : Entry) (d : Nat), s.part.startUp.top = .operating ∧ s.part.entry e.filter = some e ∧
      Outstanding s (.deferExpiry e.filter) ∧ e.deferUntil = some d ∧ d = s.part.startUp.clock) ∧
    ∃ (s : State) (e : Entry) (x : Nat), s.part.startUp.top = .operating ∧ s.part.entry e.filter = some e ∧
      Outstanding s .proposalExpiry ∧ s.part.sched.proposal = some ⟨e.filter, x⟩ :=
  ⟨⟨after (.deferExpiry 0) (atClock 60 (queued (entryOf .manual (some 60)) quiet)), entryOf .manual (some 60), 60, rfl, rfl,
    outstanding_after rfl, rfl, rfl⟩,
   after .proposalExpiry (atClock 60 (proposed (queued (entryOf .routine none) quiet))), entryOf .routine none, 60, rfl, rfl,
   outstanding_after rfl, rfl⟩

def overloaded (p : Part) : Part := onSched (fun x => { x with overload := some ⟨0, 60⟩ }) (atClock 60 p)

theorem nothing_substitutes {p : Part} (h : ∀ f, p.filter f = none) (f : FilterId) : ¬ CanSubstitute p f := by
  rintro ⟨r, hr, _⟩
  rw [h f] at hr
  cases hr

/-- OVERLOAD_DEADLINE finds filter 1 to substitute. -/
def Substitutes (s : State) (r : FilterRecord) : Prop :=
  Outstanding s .overloadDeadline ∧ s.part.sched.overload ≠ none ∧ s.part.table.marker = none ∧ s.part.filter 0 = some r ∧
    CanSubstitute s.part 0 ∧ ∀ g, g < 0 → ¬ CanSubstitute s.part g

theorem substitutes_of {p : Part} {r : FilterRecord} (h1 : p.live = true) (h2 : p.sched.overload = some ⟨0, 60⟩)
    (h3 : p.table.marker = none) (h4 : p.filter 0 = some r) (h5 : r.state = .standby) (h6 : r.transfer = none)
    (h7 : p.entry 0 = none) : Substitutes (after .overloadDeadline p) r :=
  ⟨outstanding_after h1, by rw [show (after .overloadDeadline p).part.sched.overload = some ⟨0, 60⟩ from h2]; nofun, h3, h4,
    ⟨r, h4, h5, h6, h7⟩, fun _ h => absurd h (Nat.not_lt_zero _)⟩

theorem witness_OverloadDeadlineReportsAndSubstitutes :
    (∃ (s : State) (o : Overload), Outstanding s .overloadDeadline ∧ s.part.sched.overload = some o ∧
      s.part.table.marker ≠ none) ∧
    (∃ (s : State) (o : Overload), Outstanding s .overloadDeadline ∧ s.part.sched.overload = some o ∧
      s.part.table.marker = none ∧ ∀ f, ¬ CanSubstitute s.part f) ∧
    (∃ s r, Substitutes s r ∧ s.part.stopAsserted = true) ∧ (∃ s r, Substitutes s r ∧ WaitsIn s.part .toService 1) ∧
    (∃ s r, Substitutes s r ∧ FaultsIn s.part .toService 1) ∧ ∃ s r, Substitutes s r ∧ CompletesAtOnce s.part .toService :=
  ⟨⟨after .overloadDeadline (overloaded (quiet.setMarker (some 3))), _, outstanding_after rfl, rfl, by decide⟩,
   ⟨after .overloadDeadline (overloaded quiet), _, outstanding_after rfl, rfl, rfl,
     nothing_substitutes (by decide +kernel)⟩,
   ⟨after .overloadDeadline (overloaded (withStop .asserted (withFilter .standby quiet))), _, substitutes_of rfl rfl rfl rfl
     rfl rfl rfl, rfl⟩,
   ⟨after .overloadDeadline (overloaded (piped (air .closed) (withFilter .standby quiet))), _, substitutes_of rfl rfl rfl rfl
     rfl rfl rfl, waitsIn_of (x := air .closed) rfl (by decide) (by decide) (by decide) (by decide)⟩,
   ⟨after .overloadDeadline (overloaded (piped (air (.fault .travel)) (withFilter .standby quiet))), _, substitutes_of rfl rfl
     rfl rfl rfl rfl rfl, faultsIn_of (x := air (.fault .travel)) rfl (by decide) (by decide) [(.bww, .closed)] .air .closed _ rfl (by decide) rfl⟩,
   after .overloadDeadline (overloaded (piped inService (withFilter .standby quiet))), _, substitutes_of rfl rfl rfl rfl rfl
     rfl rfl, completes_of (x := inService) rfl (by decide)⟩

def limits (x : ChannelState) (o c : Level) : Channel :=
  { Channel.initial with state := x, openInput := some o, closedInput := some c }

/-- Channel 0 in a state, its limits at levels. -/
def limited (x : ChannelState) (o c : Level) : State := st (quiet.putChannel 0 (limits x o c))

/-- The input of a channel, at another level, is taken at this one; its record is then `c`. -/
def Takes (s : State) (ch : ChannelId) (which : Limit) (level : Level) (c : Channel) : Prop :=
  s.part.live = true ∧ (s.part.channel ch).input which ≠ some level ∧ c = withInput (s.part.channel ch) which level

/-- One state and input for each clause on LIMIT_READING_CHANGE. -/
theorem witness_LimitReadingMovesTheChannel :
    (∃ s ch which level c, Takes s ch which level c ∧ BothActive c ∧ ∀ x, c.state ≠ .fault x) ∧
    (∃ s ch which level c, Takes s ch which level c ∧ ¬ BothActive c ∧ c.state = .unknown ∧ StateByReadings c .opened) ∧
    (∃ s ch level c e ran, Takes s ch .openLimit level c ∧ ¬ BothActive c ∧ c.state = .opening e ran ∧
      ReadsActive c.sense c.openInput) ∧
    (∃ s ch level c e ran, Takes s ch .closedLimit level c ∧ ¬ BothActive c ∧ c.state = .closing e ran ∧
      ReadsActive c.sense c.closedInput) ∧
    (∃ s ch which level c, Takes s ch which level c ∧ ¬ BothActive c ∧ c.state = .closed ∧
      ¬ ReadsActive c.sense c.closedInput ∧ StateByReadings c .unknown) ∧
    (∃ s ch which level c, Takes s ch which level c ∧ ¬ BothActive c ∧ c.state = .opened ∧
      ¬ ReadsActive c.sense c.openInput ∧ StateByReadings c .unknown) ∧
    (∃ s ch which level c, Takes s ch which level c ∧ ¬ BothActive c ∧ c.state = .stopped) ∧
    (∃ s ch level c e ran, Takes s ch .closedLimit level c ∧ ¬ BothActive c ∧ c.state = .opening e ran) ∧
    (∃ s ch level c e ran, Takes s ch .closedLimit level c ∧ ¬ BothActive c ∧ c.state = .closing e ran ∧
      ¬ ReadsActive c.sense c.closedInput) ∧
    ∃ s ch which level c, Takes s ch which level c ∧ c.state = .fault .travel := by
  refine ⟨⟨limited .unknown .energised .deEnergised, 0, .closedLimit, .energised, _, ⟨rfl, by decide +kernel, rfl⟩,
      ⟨.inl ⟨rfl, rfl⟩, .inl ⟨rfl, rfl⟩⟩, fun x => ?_⟩,
    ⟨limited .unknown .deEnergised .deEnergised, 0, .openLimit, .energised, _, ⟨rfl, by decide +kernel, rfl⟩, ?_, rfl, ?_⟩,
    ⟨limited (.opening 60 60) .deEnergised .deEnergised, 0, .energised, _, 60, 60, ⟨rfl, by decide +kernel, rfl⟩, ?_, rfl,
      .inl ⟨rfl, rfl⟩⟩,
    ⟨limited (.closing 60 60) .deEnergised .deEnergised, 0, .energised, _, 60, 60, ⟨rfl, by decide +kernel, rfl⟩, ?_, rfl,
      .inl ⟨rfl, rfl⟩⟩,
    ⟨limited .closed .deEnergised .energised, 0, .closedLimit, .deEnergised, _, ⟨rfl, by decide +kernel, rfl⟩, ?_, rfl, ?_,
      ?_⟩,
    ⟨limited .opened .energised .deEnergised, 0, .openLimit, .deEnergised, _, ⟨rfl, by decide +kernel, rfl⟩, ?_, rfl, ?_,
      ?_⟩,
    ⟨limited .stopped .energised .deEnergised, 0, .openLimit, .deEnergised, _, ⟨rfl, by decide +kernel, rfl⟩, ?_, rfl⟩,
    ⟨limited (.opening 60 60) .deEnergised .energised, 0, .deEnergised, _, 60, 60, ⟨rfl, by decide +kernel, rfl⟩, ?_, rfl⟩,
    ⟨limited (.closing 60 60) .deEnergised .energised, 0, .deEnergised, _, 60, 60, ⟨rfl, by decide +kernel, rfl⟩, ?_, rfl,
      ?_⟩,
    ⟨limited (.fault .travel) .energised .deEnergised, 0, .openLimit, .deEnergised, _, ⟨rfl, by decide +kernel, rfl⟩, rfl⟩⟩
  · intro h; cases h
  all_goals
    simp [limited, limits, st, withInput, BothActive, ReadsActive, StateByReadings, Part.channel, Part.putChannel,
      Channel.initial]

theorem witness_TravelExpiryFaultsTheChannel :
    ∃ (s : State) (ch : ChannelId) (e ran : Nat), Outstanding s (.travelExpiry ch) ∧
      (s.part.channel ch).state = .opening e ran :=
  ⟨after (.travelExpiry 0) (oneChannel (.opening 60 60) quiet), 0, 60, 60, outstanding_after rfl, rfl⟩

theorem witness_StopInputActsOnEveryChannel :
    (∃ (s : State) (ch : ChannelId), s.part.live = true ∧ s.part.valves.stop = .released ∧ InTravel (s.part.channel ch)) ∧
    (∃ (s : State) (ch : ChannelId) (f : FilterId) (r : FilterRecord), s.part.live = true ∧
      s.part.valves.stop = .asserted ∧ (s.part.channel ch).state = .stopped ∧ s.part.filter f = some r ∧
      r.state = .standby ∧ r.transfer ≠ none) ∧
    (∃ (s : State) (ch : ChannelId), s.part.live = true ∧ s.part.valves.stop = .asserted ∧
      (s.part.channel ch).state = .stopped ∧ BothActive (s.part.channel ch)) ∧
    ∃ (s : State) (ch : ChannelId), s.part.live = true ∧ s.part.valves.stop = .untaken ∧ InTravel (s.part.channel ch) :=
  ⟨⟨st (oneChannel (.opening 60 60) quiet), 0, rfl, rfl, 60, 60, .inl rfl⟩,
   ⟨st (withStop .asserted (oneChannel .stopped
      (withRecord { record .standby with transfer := some ⟨.toService, 1⟩ } quiet))), 0, 0, _, rfl, rfl, rfl, rfl, rfl,
      by decide⟩,
   ⟨st (withStop .asserted (limited .stopped .energised .energised).part), 0, rfl, rfl, rfl, .inl ⟨rfl, rfl⟩, .inl ⟨rfl, rfl⟩⟩,
   st (withStop .untaken (oneChannel (.closing 60 60) quiet)), 0, rfl, rfl, 60, 60, .inr rfl⟩

theorem witness_FeedbackProvesTripsOrIsReported :
    (∃ (s : State) (u : UnitId) (level : Level) (l : LaneId) (e : Nat), s.part.live = true ∧
      (s.part.unit u).input ≠ level ∧ readingAt (s.part.plant.polarity.get u) level = .running ∧
      (s.part.unit u).state = .proving l e) ∧
    (∃ (s : State) (u : UnitId) (level : Level) (l : LaneId), s.part.live = true ∧ (s.part.unit u).input ≠ level ∧
      readingAt (s.part.plant.polarity.get u) level = .stopped ∧ (s.part.unit u).state = .running l) ∧
    (∃ (s : State) (u : UnitId) (level : Level), s.part.live = true ∧ (s.part.unit u).input ≠ level ∧
      readingAt (s.part.plant.polarity.get u) level = .running ∧ (s.part.unit u).state = .guarded 60) ∧
    (∃ (s : State) (u : UnitId) (level : Level), s.part.live = true ∧ (s.part.unit u).input ≠ level ∧
      readingAt (s.part.plant.polarity.get u) level = .stopped ∧ (s.part.unit u).state = .proving .a 60) ∧
    ∃ (s : State) (u : UnitId) (level : Level) (l : LaneId), s.part.live = true ∧ (s.part.unit u).input ≠ level ∧
      readingAt (s.part.plant.polarity.get u) level = .running ∧ (s.part.unit u).state = .running l :=
  ⟨⟨st (withUnit .p2 (.proving .b 20) quiet), .p2, .energised, .b, 20, rfl, by decide, rfl, rfl⟩,
   ⟨st (quiet.putUnit .bl ⟨.running .a, .energised⟩), .bl, .deEnergised, .a, rfl, by decide, rfl, rfl⟩,
   ⟨st (withUnit .p1 (.guarded 60) quiet), .p1, .energised, rfl, by decide, rfl, rfl⟩,
   ⟨st (quiet.putUnit .bl ⟨.proving .a 60, .energised⟩), .bl, .deEnergised, rfl, by decide, rfl, rfl⟩,
   st (withUnit .p1 (.running .a) quiet), .p1, .energised, .a, rfl, by decide, rfl, rfl⟩

theorem witness_UnitTimesEndAndStopGuardsUnits :
    (∃ (s : State) (u : UnitId) (l : LaneId) (e : Nat), Outstanding s (.proveExpiry u) ∧ (s.part.unit u).state = .proving l e) ∧
    (∃ (s : State) (u : UnitId) (e : Nat), Outstanding s (.guardEnd u) ∧ (s.part.unit u).state = .guarded e ∧
      waitOf s.part u = [.b]) ∧
    (∃ (s : State) (l : LaneId), Outstanding s .arbiterStopAsserted ∧ RunsFor s.part .p1 l ∧ guardOf s.part .p1 = 0 ∧
      waitOf s.part .p1 = [.b]) ∧
    ∃ (s : State) (l : LaneId) (w : Wash), Outstanding s .arbiterStopAsserted ∧ (∀ u, 0 < guardOf s.part u) ∧
      (s.part.unit .bl).state = .running l ∧ s.part.lane l = some w ∧ w.blower = true ∧
      (s.part.unit .p1).state = .proving .b 60 ∧ (s.part.unit .p2).state = .locked :=
  ⟨⟨after (.proveExpiry .p1) (withUnit .p1 (.proving .a 60) quiet), .p1, .a, 60, outstanding_after rfl, rfl⟩,
   ⟨after (.guardEnd .p1) (withUnit .p1 (.guarded 60) { quiet with arb := { quiet.arb with pumpWait := [.b] } }), .p1, 60,
    outstanding_after rfl, rfl, rfl⟩,
   ⟨after .arbiterStopAsserted (onPlant (fun k => { k with pumpGuard := 0 })
      (withUnit .p1 (.running .a) { quiet with arb := { quiet.arb with pumpWait := [.b] } })), .a, outstanding_after rfl,
    .inl rfl, rfl, rfl⟩,
   after .arbiterStopAsserted (withUnit .p2 .locked (withUnit .p1 (.proving .b 60) (withUnit .bl (.running .a)
     (washing .air { wash .running with blower := true })))), .a, _, outstanding_after rfl,
   fun u => by cases u <;> decide, rfl, rfl, rfl, rfl, rfl⟩

/-! ### Witnesses: the admission scan -/

def routine : Entry := entryOf .routine none
def terminal : Entry := entryOf .terminal none

/-- An entry that ranks below the one for filter 1. -/
def lower : Entry := { routine with filter := 5 }

/-- A scan is due, with an entry for filter 1 before one for filter 6, a recipe of one WATER phase, tank and basin measured. -/
def due (m : PlantMode) (x : FilterState) (e : Entry) : Part :=
  onSched (fun k => { k with mode := m, scanDue := true, queue := [e, lower] })
    (onFront (fun k => { k with
      tank := ⟨.pushed, [], some 5000, .good, some 0⟩, basin := ⟨.pushed, [], some 0, .good, some 0⟩
      tankAvail := some 1000, basinRoom := some 1000 })
      (withSlot (recipeOf [.water]) (withFilter x quiet)))

/-- Filter 2 in a state beside filter 1. -/
def beside (x : FilterState) (p : Part) : Part := p.putFilter 1 (some (record x))

def proposing (pr : Option Proposal) (p : Part) : Part := onSched (fun k => { k with proposal := pr }) p

theorem head_of {p : Part} {e : Entry} {rest : List Entry} (hq : p.sched.queue = e :: rest) (hd : e.deferUntil = none)
    (hm : hasClass p.sched.mask e.cls = false) : IsHead p e :=
  ⟨[], rest, hq, ⟨fun _ h => by rw [hd] at h; (cases h), hm⟩, fun _ h => by cases h⟩

theorem witness_ScanEndsBeforeTheTests :
    (∃ s : State, s.part.live = true ∧ s.part.startUp.top = .operating ∧ s.part.sched.scanDue = true ∧
      s.part.sched.mode = .paused) ∧
    (∃ s : State, s.part.live = true ∧ s.part.startUp.top = .operating ∧ s.part.sched.scanDue = true ∧
      s.part.sched.mode ≠ .paused ∧ (∀ e ∈ s.part.sched.queue, ¬ Eligible s.part e) ∧ s.part.plant.early = 0) ∧
    ∃ (s : State) (e : Entry) (pr : Proposal), s.part.live = true ∧ s.part.startUp.top = .operating ∧
      s.part.sched.scanDue = true ∧ s.part.sched.mode ≠ .paused ∧ IsHead s.part e ∧ s.part.sched.proposal = some pr ∧
      e.filter = pr.filter :=
  ⟨⟨st (due .paused .standby routine), rfl, rfl, rfl, rfl⟩,
   ⟨st (onSched (fun k => { k with queue := [entryOf .routine (some 60)] }) (due .auto .standby routine)), rfl, rfl, rfl,
    by decide, fun e h hel => by
      rw [List.mem_singleton.mp h] at hel
      exact absurd (hel.1 60 rfl) (by decide), rfl⟩,
   st (proposed (due .directed .standby routine)), routine, ⟨0, 60⟩, rfl, rfl, rfl, by decide, head_of rfl rfl rfl, rfl, rfl⟩

def bothPumpsLocked (p : Part) : Part := withUnit .p1 .locked (withUnit .p2 .locked p)

/-- A part, an entry for filter 1, its record and recipe, for each clause on the tests of Table 4-2. -/
def TestCases (ctx : Part → Entry → FilterRecord → Recipe → Prop) : Prop :=
  (∃ p e rec r, ctx p e rec r ∧ FailsBeforeLoading p e r .noLane) ∧
  (∃ p e rec r, ctx p e rec r ∧ FailsBeforeLoading p e r .spacing) ∧
  (∃ p e rec r, ctx p e rec r ∧ FailsBeforeLoading p e r .equipment) ∧
  (∃ p e rec r, ctx p e rec r ∧ FailsBeforeLoading p e r .measure) ∧
  (∃ p e rec r, ctx p e rec r ∧ ReadyForLoading p e r ∧ rec.state ≠ .online ∧ FailsAfterLoading p rec r .water) ∧
  (∃ p e rec r, ctx p e rec r ∧ ReadyForLoading p e r ∧ rec.state ≠ .online ∧ FailsAfterLoading p rec r .waste) ∧
  (∃ p e rec r, ctx p e rec r ∧ ReadyForLoading p e r ∧ rec.state = .online ∧
    loadingWithout p rec.cfg.area ≤ p.plant.vmax ∧ FailsAfterLoading p rec r .water) ∧
  (∃ p e rec r, ctx p e rec r ∧ ReadyForLoading p e r ∧ rec.state = .online ∧ p.plant.vmax < loadingWithout p rec.cfg.area ∧
    p.table.marker ≠ none) ∧
  (∃ p e rec r, ctx p e rec r ∧ ReadyForLoading p e r ∧ rec.state = .online ∧ p.plant.vmax < loadingWithout p rec.cfg.area ∧
    p.table.marker = none ∧ ∀ g, ¬ CanSubstitute p g) ∧
  ∃ p e rec r g x, ctx p e rec r ∧ ReadyForLoading p e r ∧ rec.state = .online ∧
    p.plant.vmax < loadingWithout p rec.cfg.area ∧ p.table.marker = none ∧ FirstSubstitute p g x ∧ p.stopAsserted = true

/-- A part for each form of an entry that passes the tests. -/
def PassCases (ctx : Part → Entry → FilterRecord → Recipe → Prop) (more : Part → Entry → Prop) : Prop :=
  (∃ p e rec r, ctx p e rec r ∧ PassesTests p e rec r ∧ LowestIdle p .a ∧ rec.state = .standby ∧ more p e) ∧
  ∃ p e rec r, ctx p e rec r ∧ PassesTests p e rec r ∧ LowestIdle p .a ∧ rec.state = .online ∧ more p e

/-- What each clause asks of a part beside its tests. -/
def Asks (m : PlantMode) (e : Entry) (x : FilterState) (pr : Option Proposal) (p : Part) : Prop :=
  p.live = true ∧ p.linkReady = true ∧ p.startUp.top = .operating ∧ p.sched.scanDue = true ∧ p.sched.mode = m ∧
  p.sched.queue = [e, lower] ∧ p.sched.mask = 0 ∧ p.sched.proposal = pr ∧ p.filter 0 = some (record x) ∧
  p.recipe 0 = some (recipeOf [.water])

/-- The need of filter 1 is 267 of the tank's 1000 and 387 of the basin's. -/
theorem ready_of {p : Part} {e : Entry} (h1 : p.lane .a = none) (h2 : p.busyLanes.length < p.plant.concurrency)
    (h3 : p.sched.lastAdmission = none) (h4 : (p.unit .p1).state = .available) (h5 : p.front.tank.quality.usable = true)
    (h6 : p.front.basin.quality.usable = true) : ReadyForLoading p e (recipeOf [.water]) :=
  ⟨⟨⟨.a, h1⟩, h2⟩, .inr (.inr fun _ h => by rw [h3] at h; cases h),
    ⟨fun _ => .inl ⟨by rw [h4]; nofun, by rw [h4]; nofun⟩, by
      rintro ⟨ph, hm, h⟩
      obtain rfl : ph = phase .water := by simpa [recipeOf] using hm
      rcases h with h | h <;> cases h⟩, h5, h6⟩

theorem water_need {rec : FilterRecord} (h : rec.cfg = config) : waterNeed rec (recipeOf [.water]) = 267 := by
  simp [waterNeed, h, recipeOf, config]

theorem waste_need {rec : FilterRecord} (h : rec.cfg = config) : wasteNeed rec (recipeOf [.water]) = 387 := by
  simp [wasteNeed, h, recipeOf, config]

theorem no_water {p : Part} {x : FilterState} (h : p.front.tankAvail = some 266) (hs : p.sched.shares = ⟨⟨0, 0⟩, ⟨0, 0⟩⟩) :
    FailsAfterLoading p (record x) (recipeOf [.water]) .water := by
  refine .inl ⟨rfl, ?_⟩
  rintro ⟨v, hv, hle⟩
  rw [h] at hv
  cases hv
  rw [hs, water_need rfl] at hle
  exact absurd hle (by decide)

theorem has_water {p : Part} {rec : FilterRecord} (hr : rec.cfg = config) (n : Nat) (h : p.front.tankAvail = some n) (hn : 267 ≤ n)
    (hs : p.sched.shares = ⟨⟨0, 0⟩, ⟨0, 0⟩⟩) : WaterFor p (waterNeed rec (recipeOf [.water])) :=
  ⟨n, h, by rw [hs, water_need hr]; exact hn⟩

theorem no_room {p : Part} {x : FilterState} (h : p.front.basinRoom = some 386) (hs : p.sched.shares = ⟨⟨0, 0⟩, ⟨0, 0⟩⟩) :
    ¬ RoomFor p (wasteNeed (record x) (recipeOf [.water])) := by
  rintro ⟨v, hv, hle⟩
  rw [h] at hv
  cases hv
  rw [hs, waste_need rfl] at hle
  exact absurd hle (by decide)

theorem has_room {p : Part} {rec : FilterRecord} (hr : rec.cfg = config) (n : Nat) (h : p.front.basinRoom = some n) (hn : 387 ≤ n)
    (hs : p.sched.shares = ⟨⟨0, 0⟩, ⟨0, 0⟩⟩) : RoomFor p (wasteNeed rec (recipeOf [.water])) :=
  ⟨n, h, by rw [hs, waste_need hr]; exact hn⟩

/-- No filter is STANDBY without an entry. -/
theorem no_substitute {p : Part} (h : ∀ f, (p.filter f).map (·.state) ≠ some .standby) (g : FilterId) : ¬ CanSubstitute p g := by
  rintro ⟨r, hr, hs, -⟩
  exact h g (by rw [hr]; simp [hs])

/-- The parts of TestCases, whatever proposal is outstanding. -/
theorem testCases (m : PlantMode) (e : Entry) (he : e.filter = 0 ∧ e.cls ≠ .breakthrough ∧ e.cls ≠ .restart)
    (pr : Option Proposal) : TestCases fun p e' rec r =>
      e' = e ∧ r = recipeOf [.water] ∧ ∃ x, rec = record x ∧ Asks m e x pr p := by
  have ready : ∀ x, ReadyForLoading (proposing pr (due m x e)) e (recipeOf [.water]) :=
    fun x => ready_of rfl Nat.zero_lt_one rfl rfl rfl rfl
  refine ⟨⟨(proposing pr (due m .standby e)).putLane .b (some (wash .acquiring)), e, _, _, ⟨rfl, rfl, .standby, rfl, rfl, rfl, rfl, rfl, rfl, rfl, rfl, rfl, rfl, rfl⟩,
      .inl ⟨rfl, fun h => absurd h.2 (Nat.lt_irrefl 1)⟩⟩,
    ⟨onSched (fun k => { k with lastAdmission := some 0 }) (atClock 1799 (proposing pr (due m .standby e))), e, _, _,
      ⟨rfl, rfl, .standby, rfl, rfl, rfl, rfl, rfl, rfl, rfl, rfl, rfl, rfl, rfl⟩, .inr (.inl ⟨rfl, (ready .standby).1, ?_⟩)⟩,
    ⟨bothPumpsLocked (proposing pr (due m .standby e)), e, _, _, ⟨rfl, rfl, .standby, rfl, rfl, rfl, rfl, rfl, rfl, rfl, rfl, rfl, rfl, rfl⟩,
      .inr (.inr (.inl ⟨rfl, (ready .standby).1, (ready .standby).2.1, ?_⟩))⟩,
    ⟨onFront (fun k => { k with basin := Point.initial }) (proposing pr (due m .standby e)), e, _, _,
      ⟨rfl, rfl, .standby, rfl, rfl, rfl, rfl, rfl, rfl, rfl, rfl, rfl, rfl, rfl⟩,
      .inr (.inr (.inr ⟨rfl, (ready .standby).1, (ready .standby).2.1, (ready .standby).2.2.1, fun h => nomatch h.2⟩))⟩,
    ⟨onFront (fun k => { k with tankAvail := some 266 }) (proposing pr (due m .standby e)), e, _, _,
      ⟨rfl, rfl, .standby, rfl, rfl, rfl, rfl, rfl, rfl, rfl, rfl, rfl, rfl, rfl⟩, ready .standby, nofun, no_water rfl rfl⟩,
    ⟨onFront (fun k => { k with tankAvail := some 267, basinRoom := some 386 }) (proposing pr (due m .standby e)), e, _, _,
      ⟨rfl, rfl, .standby, rfl, rfl, rfl, rfl, rfl, rfl, rfl, rfl, rfl, rfl, rfl⟩, ready .standby, nofun,
      .inr ⟨rfl, has_water rfl 267 rfl (Nat.le_refl _) rfl, no_room rfl rfl⟩⟩,
    ⟨beside .online (onFront (fun k => { k with tankAvail := some 266 }) (proposing pr (due m .online e))), e, _, _,
      ⟨rfl, rfl, .online, rfl, rfl, rfl, rfl, rfl, rfl, rfl, rfl, rfl, rfl, rfl⟩, ready .online, rfl, ?_, no_water rfl rfl⟩,
    ⟨(proposing pr (due m .online e)).setMarker (some 3), e, _, _, ⟨rfl, rfl, .online, rfl, rfl, rfl, rfl, rfl, rfl, rfl, rfl, rfl, rfl, rfl⟩, ready .online, rfl, ?_,
      nofun⟩,
    ⟨proposing pr (due m .online e), e, _, _, ⟨rfl, rfl, .online, rfl, rfl, rfl, rfl, rfl, rfl, rfl, rfl, rfl, rfl, rfl⟩, ready .online, rfl, ?_, rfl,
      no_substitute ?_⟩,
    ⟨withStop .asserted (beside .standby (proposing pr (due m .online e))), e, _, _, 1, _, ⟨rfl, rfl, .online, rfl, rfl, rfl, rfl, rfl, rfl, rfl, rfl, rfl, rfl, rfl⟩,
      ready .online, rfl, ?_, rfl, ⟨rfl, ⟨_, rfl, rfl, rfl, ?_⟩, ?_⟩, rfl⟩⟩
  · rintro (h | h | h)
    · exact he.2.1 h
    · exact he.2.2 h
    · exact absurd (show 1800 ≤ 1799 from h 0 rfl) (by decide)
  · rintro ⟨h, _⟩
    rcases h ⟨phase .water, by simp [recipeOf], .inr rfl⟩ with h | h
    · exact h.1 rfl
    · exact h.1 rfl
  · show loadingWithout (beside .online (withFilter .online quiet)) 400 ≤ 100
    decide +kernel
  · show 100 < loadingWithout (withFilter .online quiet) 400
    decide +kernel
  · show 100 < loadingWithout (withFilter .online quiet) 400
    decide +kernel
  · show ∀ f, ((withFilter .online quiet).filter f).map (·.state) ≠ some .standby
    decide +kernel
  · show 100 < loadingWithout (beside .standby (withFilter .online quiet)) 400
    decide +kernel
  · show List.find? (fun x : Entry => x.filter == 1) [e, lower] = none
    simp [he.1, lower, routine, entryOf]
  · rintro g hg ⟨r, hr, hs, -⟩
    obtain rfl : g = 0 := Fin.ext (Nat.lt_one_iff.mp hg)
    cases hr
    cases hs

/-- An entry that passes every test, whatever proposal is outstanding. -/
theorem passCases (m : PlantMode) (e : Entry) (pr : Option Proposal) : PassCases (fun p e' rec r =>
      e' = e ∧ r = recipeOf [.water] ∧ ∃ x, rec = record x ∧ Asks m e x pr p) fun p _ => p.sched.mode = m := by
  have ready : ∀ x, ReadyForLoading (proposing pr (due m x e)) e (recipeOf [.water]) :=
    fun x => ready_of rfl Nat.zero_lt_one rfl rfl rfl rfl
  refine ⟨⟨proposing pr (due m .standby e), e, _, _, ⟨rfl, rfl, .standby, rfl, rfl, rfl, rfl, rfl, rfl, rfl, rfl, rfl, rfl, rfl⟩,
      ⟨ready _, nofun, has_water rfl 1000 rfl (by decide) rfl, has_room rfl 1000 rfl (by decide) rfl⟩, ⟨rfl, nofun⟩, rfl, rfl⟩,
    ⟨beside .online (proposing pr (due m .online e)), e, _, _,
      ⟨rfl, rfl, .online, rfl, rfl, rfl, rfl, rfl, rfl, rfl, rfl, rfl, rfl, rfl⟩,
      ⟨ready _, fun _ => ?_, has_water rfl 1000 rfl (by decide) rfl, has_room rfl 1000 rfl (by decide) rfl⟩, ⟨rfl, nofun⟩, rfl, rfl⟩⟩
  show loadingWithout (beside .online (withFilter .online quiet)) 400 ≤ 100
  decide +kernel

/-- What Asks gives of a scan whose head is the entry for filter 1. -/
theorem reaches_of {m : PlantMode} {e : Entry} {x : FilterState} {pr : Option Proposal} {p : Part} (h : Asks m e x pr p)
    (hm : m ≠ .paused) (he : e = terminal ∨ e = entryOf .manual none) :
    ScanReaches (st p) e (record x) (recipeOf [.water]) ∧ p.entry e.filter = some e := by
  obtain ⟨h1, -, h3, h4, h5, h6, h7, -, h9, h10⟩ := h
  have hd : e.deferUntil = none ∧ e.filter = 0 ∧ e.override = none := by rcases he with rfl | rfl <;> exact ⟨rfl, rfl, rfl⟩
  refine ⟨⟨h1, h3, h4, by rw [show (st p).part.sched.mode = m from h5]; exact hm, head_of h6 hd.1 ?_, ?_, ?_⟩, ?_⟩
  · rw [show (st p).part.sched.mask = 0 from h7]
    show (0 : BitVec 6).getLsbD e.cls.rank = false
    simp
  · rw [hd.2.1]; exact h9
  · rw [hd.2.2]; exact h10
  · show p.sched.queue.find? _ = some e
    rw [h6]
    simp

/-- The proposal for filter 6, whose entry the head outranks. -/
theorem outranks {m : PlantMode} {x : FilterState} {p : Part} (h : Asks m terminal x (some ⟨5, 60⟩) p) :
    RanksAboveProposal p terminal ⟨5, 60⟩ := by
  obtain ⟨-, -, -, -, -, h6, -, h8, -, -⟩ := h
  refine ⟨h8, by decide, lower, ?_, by decide⟩
  show p.sched.queue.find? _ = some lower
  rw [h6]
  decide

theorem TestCases.imp {c d : Part → Entry → FilterRecord → Recipe → Prop} (h : ∀ p e rec r, c p e rec r → d p e rec r) :
    TestCases c → TestCases d := by
  rintro ⟨⟨p1, e1, f1, r1, c1, x1⟩, ⟨p2, e2, f2, r2, c2, x2⟩, ⟨p3, e3, f3, r3, c3, x3⟩, ⟨p4, e4, f4, r4, c4, x4⟩,
    ⟨p5, e5, f5, r5, c5, x5⟩, ⟨p6, e6, f6, r6, c6, x6⟩, ⟨p7, e7, f7, r7, c7, x7⟩, ⟨p8, e8, f8, r8, c8, x8⟩,
    ⟨p9, e9, f9, r9, c9, x9⟩, ⟨p, e, f, r, g, x, c, y⟩⟩
  exact ⟨⟨_, _, _, _, h _ _ _ _ c1, x1⟩, ⟨_, _, _, _, h _ _ _ _ c2, x2⟩, ⟨_, _, _, _, h _ _ _ _ c3, x3⟩,
    ⟨_, _, _, _, h _ _ _ _ c4, x4⟩, ⟨_, _, _, _, h _ _ _ _ c5, x5⟩, ⟨_, _, _, _, h _ _ _ _ c6, x6⟩,
    ⟨_, _, _, _, h _ _ _ _ c7, x7⟩, ⟨_, _, _, _, h _ _ _ _ c8, x8⟩, ⟨_, _, _, _, h _ _ _ _ c9, x9⟩,
    ⟨_, _, _, _, _, _, h _ _ _ _ c, y⟩⟩

theorem PassCases.imp {c d : Part → Entry → FilterRecord → Recipe → Prop} {m : Part → Entry → Prop}
    (h : ∀ p e rec r, c p e rec r → d p e rec r) : PassCases c m → PassCases d m := by
  rintro ⟨⟨p, e, f, r, c1, x⟩, ⟨p', e', f', r', c2, x'⟩⟩
  exact ⟨⟨_, _, _, _, h _ _ _ _ c1, x⟩, ⟨_, _, _, _, h _ _ _ _ c2, x'⟩⟩

/-- A scan with no proposal, and one whose head outranks the proposal. -/
theorem witness_ScanEndsAtTheFirstFailingTest :
    TestCases (fun p e rec r => ScanReaches (st p) e rec r ∧ p.sched.proposal = none) ∧
    TestCases fun p e rec r => ScanReaches (st p) e rec r ∧ RanksAboveProposal p e ⟨5, 60⟩ := by
  have ok : terminal.filter = 0 ∧ terminal.cls ≠ .breakthrough ∧ terminal.cls ≠ .restart := by decide
  refine ⟨(testCases .auto terminal ok none).imp fun p e rec r h => ?_,
    (testCases .auto terminal ok (some ⟨5, 60⟩)).imp fun p e rec r h => ?_⟩
  · obtain ⟨rfl, rfl, x, rfl, h⟩ := h
    exact ⟨(reaches_of h (by decide) (.inl rfl)).1, h.2.2.2.2.2.2.2.1⟩
  · obtain ⟨rfl, rfl, x, rfl, h⟩ := h
    exact ⟨(reaches_of h (by decide) (.inl rfl)).1, outranks h⟩

/-- In AUTO, in DIRECTED for class MANUAL, in DIRECTED for another class; and AUTO with a proposal outranked. -/
theorem witness_ScanAdmitsOrProposes :
    PassCases (fun p e rec r => ScanReaches (st p) e rec r ∧ p.entry e.filter = some e ∧ p.sched.proposal = none)
      (fun p _ => p.sched.mode = .auto) ∧
    PassCases (fun p e rec r => ScanReaches (st p) e rec r ∧ p.entry e.filter = some e ∧ p.sched.proposal = none ∧
      e.cls = .manual) (fun p _ => p.sched.mode = .directed) ∧
    PassCases (fun p e rec r => ScanReaches (st p) e rec r ∧ p.entry e.filter = some e ∧ p.sched.proposal = none ∧
      e.cls ≠ .manual) (fun p _ => p.sched.mode = .directed) ∧
    PassCases (fun p e rec r => ScanReaches (st p) e rec r ∧ p.entry e.filter = some e ∧ RanksAboveProposal p e ⟨5, 60⟩)
      (fun p _ => p.sched.mode = .directed) := by
  refine ⟨(passCases .auto terminal none).imp fun p e rec r h => ?_,
    (passCases .directed (entryOf .manual none) none).imp fun p e rec r h => ?_,
    (passCases .directed terminal none).imp fun p e rec r h => ?_,
    (passCases .directed terminal (some ⟨5, 60⟩)).imp fun p e rec r h => ?_⟩ <;> obtain ⟨rfl, rfl, x, rfl, h⟩ := h
  · exact ⟨(reaches_of h (by decide) (.inl rfl)).1, (reaches_of h (by decide) (.inl rfl)).2, h.2.2.2.2.2.2.2.1⟩
  · exact ⟨(reaches_of h (by decide) (.inr rfl)).1, (reaches_of h (by decide) (.inr rfl)).2, h.2.2.2.2.2.2.2.1, rfl⟩
  · exact ⟨(reaches_of h (by decide) (.inl rfl)).1, (reaches_of h (by decide) (.inl rfl)).2, h.2.2.2.2.2.2.2.1, by decide⟩
  · exact ⟨(reaches_of h (by decide) (.inl rfl)).1, (reaches_of h (by decide) (.inl rfl)).2, outranks h⟩

/-- Filter 1 ONLINE at index 700, the EARLY threshold, and no entry; filter 2 ONLINE too. -/
def earlyDue (m : PlantMode) : Part :=
  onPlant (fun k => { k with early := 700 }) (onSched (fun k => { k with queue := [] })
    (beside .online (withRecord { record .online with u := 700 } (due m .online routine))))

/-- The hypotheses of the EARLY rule's statement. -/
def RaisesEarly (s : State) (f : FilterId) (rec : FilterRecord) (r : Recipe) : Prop :=
  s.part.live = true ∧ s.part.startUp.top = .operating ∧ s.part.sched.scanDue = true ∧ s.part.sched.mode ≠ .paused ∧
    s.part.sched.proposal = none ∧ s.part.plant.early ≠ 0 ∧ hasClass s.part.sched.mask .early = false ∧
    (∀ l, s.part.lane l = none) ∧ (∀ e ∈ s.part.sched.queue, ¬ Eligible s.part e ∧ e.cls ≠ .early) ∧
    s.part.filter f = some rec ∧ rec.state = .online ∧ rec.transfer = none ∧ s.part.entry f = none ∧
    s.part.plant.early ≤ rec.u ∧
    (∀ g x, s.part.filter g = some x → x.state = .online → x.transfer = none → s.part.entry g = none →
      x.u < rec.u ∨ (x.u = rec.u ∧ f ≤ g)) ∧
    s.part.recipe rec.cfg.slot = some r

theorem early_raised (m : PlantMode) (g : Scheduler → Scheduler) (n : Nat) (hm : m ≠ .paused)
    (hg : ∀ k, (g k).scanDue = k.scanDue ∧ (g k).mode = k.mode ∧ (g k).proposal = k.proposal ∧ (g k).mask = k.mask ∧
      (g k).queue = k.queue) :
    RaisesEarly (st (atClock n (onSched g (earlyDue m)))) 0 { record .online with u := 700 } (recipeOf [.water]) := by
  refine ⟨rfl, rfl, (hg _).1, by rw [show (st (atClock n (onSched g (earlyDue m)))).part.sched.mode = m from (hg _).2.1]; exact hm,
    (hg _).2.2.1, by simp [st, atClock, onSched, earlyDue, onPlant], ?_, fun l => by cases l <;> rfl, fun e h => ?_, rfl, rfl, rfl, ?_, Nat.le_refl _,
    fun f x hx _ _ _ => ?_, rfl⟩
  · show hasClass (g _).mask .early = false
    rw [(hg _).2.2.2.1]
    show (0 : BitVec 6).getLsbD RequestClass.early.rank = false
    simp
  · rw [show (st (atClock n (onSched g (earlyDue m)))).part.sched.queue = [] from (hg _).2.2.2.2] at h
    cases h
  · show List.find? _ (g _).queue = none
    rw [(hg _).2.2.2.2]
    rfl
  · have index : ∀ f : FilterId, ∀ x ∈ ((earlyDue .auto).filter f).toList, x.u < 700 ∨ f = 0 := by decide +kernel
    rcases index f x (by rw [show (earlyDue .auto).filter f = some x from hx]; simp) with h | rfl
    · exact .inl h
    · cases hx
      exact .inr ⟨rfl, Nat.le_refl _⟩

/-- The entry raised fails the spacing test; is admitted; is proposed. -/
theorem witness_ScanRaisesAnEarlyEntry :
    (∃ s f rec r, RaisesEarly s f rec r ∧ FailsBeforeLoading s.part ⟨f, .early, .auto, rec.u, s.part.startUp.clock, none, none⟩ r .spacing) ∧
    (∃ s f rec r, RaisesEarly s f rec r ∧ PassesTests s.part ⟨f, .early, .auto, rec.u, s.part.startUp.clock, none, none⟩ rec r ∧
      LowestIdle s.part .a ∧ s.part.sched.mode = .auto) ∧
    ∃ s f rec r, RaisesEarly s f rec r ∧ PassesTests s.part ⟨f, .early, .auto, rec.u, s.part.startUp.clock, none, none⟩ rec r ∧
      LowestIdle s.part .a ∧ s.part.sched.mode = .directed := by
  have passes : ∀ m e, PassesTests (atClock 0 (onSched id (earlyDue m))) e { record .online with u := 700 } (recipeOf [.water]) := by
    intro m e
    refine ⟨ready_of rfl Nat.zero_lt_one rfl rfl rfl rfl, fun _ => ?_, has_water rfl 1000 rfl (by decide) rfl,
      has_room rfl 1000 rfl (by decide) rfl⟩
    show loadingWithout (beside .online (withFilter .online quiet)) 400 ≤ 100
    decide +kernel
  refine ⟨⟨_, _, _, _, early_raised .auto (fun k => { k with lastAdmission := some 0 }) 1799 (by decide)
      fun k => ⟨rfl, rfl, rfl, rfl, rfl⟩, .inr (.inl ⟨rfl, ⟨⟨.a, rfl⟩, Nat.zero_lt_one⟩, ?_⟩)⟩,
    ⟨_, _, _, _, early_raised .auto id 0 (by decide) fun k => ⟨rfl, rfl, rfl, rfl, rfl⟩, passes _ _, ⟨rfl, nofun⟩, rfl⟩,
    _, _, _, _, early_raised .directed id 0 (by decide) fun k => ⟨rfl, rfl, rfl, rfl, rfl⟩, passes _ _, ⟨rfl, nofun⟩, rfl⟩
  rintro (h | h | h)
  · cases h
  · cases h
  · exact absurd (h 0 rfl) (by decide)

/-! ### Witnesses: lanes -/

def running : Wash := wash .running

def metered (v : Nat) (p : Part) : Part :=
  onFront (fun k => { k with tb := k.tb.set 0 ⟨.pushed, [], some v, .good, some 0⟩ }) p

/-- Lane A in a RIPEN phase of this confirm time. -/
def ripening (confirm : Nat) (w : Wash) : Part :=
  (withSlot { recipeOf [] with phases := [{ phase .ripen with confirm := confirm }] } (withFilter (.washing .a) quiet)).putLane
    .a (some w)

/-- The hypotheses of a second of a RUNNING lane. -/
def Seconds (s : State) (l : LaneId) (w : Wash) (rec : FilterRecord) (r : Recipe) (ph : Phase) : Prop :=
  Outstanding s (.laneSecond l) ∧ WashesBy s.part l w rec r ph ∧ w.state = .running ∧ .phaseTimeEnd l ∉ s.part.events ∧
    .ripenConfirmed l ∉ s.part.events

theorem witness_LaneSecondCountsASecond :
    (∃ s l w rec r ph, Seconds s l w rec r ph ∧ ph.kind ≠ .ripen ∧ ph.duration = w.elapsed + 1) ∧
    (∃ s l w rec r ph, Seconds s l w rec r ph ∧ ph.kind = .ripen ∧ TurbidityMet s.part w ph ∧ ph.confirm = 0) ∧
    (∃ s l w rec r ph, Seconds s l w rec r ph ∧ ph.kind = .ripen ∧ TurbidityMet s.part w ph ∧ ph.confirm ≠ 0 ∧
      ph.confirm = w.confirm + 1) ∧
    ∃ s l w rec r ph, Seconds s l w rec r ph ∧ ph.kind = .ripen ∧ ¬ TurbidityMet s.part w ph ∧ ph.confirm ≠ 0 ∧
      ph.duration = w.elapsed + 1 :=
  ⟨⟨after (.laneSecond .a) (washing .water { running with elapsed := 59 }), .a, _, _, _, _,
    ⟨outstanding_after rfl, washesBy_of rfl rfl rfl rfl, rfl, by decide, by decide⟩, by decide, rfl⟩,
   ⟨after (.laneSecond .a) (metered 100 (ripening 0 running)), .a, _, _, _, _,
    ⟨outstanding_after rfl, ⟨rfl, rfl, rfl, rfl⟩, rfl, by decide, by decide⟩, rfl, ⟨100, rfl, by decide⟩, rfl⟩,
   ⟨after (.laneSecond .a) (metered 100 (washing .ripen { running with confirm := 59 })), .a, _, _, _, _,
    ⟨outstanding_after rfl, washesBy_of rfl rfl rfl rfl, rfl, by decide, by decide⟩, rfl, ⟨100, rfl, by decide⟩, by decide,
    rfl⟩,
   after (.laneSecond .a) (metered 101 (washing .ripen { running with elapsed := 599 })), .a, _, _, _, _,
   ⟨outstanding_after rfl, washesBy_of rfl rfl rfl rfl, rfl, by decide, by decide⟩, rfl, fun ⟨v, hv, h⟩ => by
     cases hv
     exact absurd h (by decide), by decide, rfl⟩

/-- The hypotheses of a change of the turbidity point in a RIPEN phase. -/
def Clouds (s : State) (l : LaneId) (w : Wash) (rec : FilterRecord) (r : Recipe) (ph : Phase) : Prop :=
  WashesBy s.part l w rec r ph ∧ Outstanding s (.lanePoint l (.tb w.filter)) ∧ w.state = .running ∧ ph.kind = .ripen

theorem witness_TurbidityChangesCount :
    (∃ s l w rec r ph, Clouds s l w rec r ph ∧ ¬ (.phaseTimeEnd l ∈ s.part.events ∨ .ripenConfirmed l ∈ s.part.events) ∧
      ¬ TurbidityMet s.part w ph) ∧
    (∃ s l w rec r ph, Clouds s l w rec r ph ∧ .phaseTimeEnd l ∈ s.part.events) ∧
    ∃ s l w rec r ph, Clouds s l w rec r ph ∧ ¬ (.phaseTimeEnd l ∈ s.part.events ∨ .ripenConfirmed l ∈ s.part.events) ∧
      TurbidityMet s.part w ph ∧ ph.confirm = 0 :=
  ⟨⟨after (.lanePoint .a (.tb 0)) (metered 101 (ripening 60 running)), .a, _, _, _, _,
    ⟨⟨rfl, rfl, rfl, rfl⟩, outstanding_after rfl, rfl, rfl⟩, by decide, fun ⟨v, hv, h⟩ => by
      cases hv
      exact absurd h (by decide)⟩,
   ⟨⟨{ ripening 60 running with events := [.phaseTimeEnd .a, .lanePoint .a (.tb 0)] }, []⟩, .a, _, _, _, _,
    ⟨⟨rfl, rfl, rfl, rfl⟩, ⟨rfl, by decide⟩, rfl, rfl⟩, by decide⟩,
   after (.lanePoint .a (.tb 0)) (metered 100 (ripening 0 running)), .a, _, _, _, _,
   ⟨⟨rfl, rfl, rfl, rfl⟩, outstanding_after rfl, rfl, rfl⟩, by decide, ⟨100, rfl, by decide⟩, rfl⟩

theorem witness_PhaseEndsEnterTheNextPhaseOrReturn :
    (∃ s l w rec r ph, WashesBy s.part l w rec r ph ∧ w.state = .running ∧ Outstanding s (.phaseTimeEnd l) ∧
      w.phase + 1 = r.phases.length) ∧
    (∃ s l w rec r ph, WashesBy s.part l w rec r ph ∧ w.state = .running ∧ Outstanding s (.phaseTimeEnd l) ∧
      w.phase = r.phases.length) ∧
    ∃ s l w rec r ph, WashesBy s.part l w rec r ph ∧ w.state = .running ∧ Outstanding s (.ripenConfirmed l) :=
  ⟨⟨after (.phaseTimeEnd .a) (washingBy [.water, .rest] running), .a, _, _, _, _, washesBy_of rfl rfl rfl rfl, rfl,
    outstanding_after rfl, rfl⟩,
   ⟨after (.phaseTimeEnd .a) (washing .water running), .a, _, _, _, _, washesBy_of rfl rfl rfl rfl, rfl,
    outstanding_after rfl, rfl⟩,
   after (.ripenConfirmed .a) (washing .ripen running), .a, _, _, _, _, washesBy_of rfl rfl rfl rfl, rfl,
   outstanding_after rfl⟩

/-- TANK at 100 with its minimum 100, BASIN at 9000 with its maximum 9000. -/
def atTheLimits (p : Part) : Part :=
  onPlant (fun k => { k with tankMin := some 100, basinMax := some 9000 })
    (onFront (fun k => { k with tank := ⟨.pushed, [], some 100, .good, some 0⟩
                                basin := ⟨.pushed, [], some 9000, .good, some 0⟩ }) p)

theorem pumps_lost : KindLost (bothPumpsLocked (washing .water { running with pump := some .p1 })) (phase .water) .p1 :=
  ⟨.inr rfl, fun h => h.1 rfl, fun h => h.1 rfl⟩

theorem witness_NoticesEnterHeld :
    (∃ s l w rec r ph, WashesBy s.part l w rec r ph ∧ Outstanding s (.lanePoint l .tank) ∧ CanHold s.part l w .water ∧
      CauseHolds s.part ph .water) ∧
    (∃ s l w rec r ph, WashesBy s.part l w rec r ph ∧ Outstanding s (.lanePoint l .basin) ∧ CanHold s.part l w .waste ∧
      CauseHolds s.part ph .waste) ∧
    (∃ s l w rec r ph u n, WashesBy s.part l w rec r ph ∧ n ≠ .available ∧ Outstanding s (.laneUnitNews l u n) ∧
      CanHold s.part l w .equipment ∧ KindLost s.part ph u) ∧
    (∃ s l w rec r ph u, WashesBy s.part l w rec r ph ∧ Outstanding s (.tripped l u) ∧ CanHold s.part l w .equipment ∧
      w.holdsUnit u = true ∧ KindLost s.part ph u) ∧
    (∃ s l w rec r ph u, WashesBy s.part l w rec r ph ∧ Outstanding s (.proveFailed l u) ∧
      CanHold s.part l w .equipment ∧ w.holdsUnit u = true ∧ KindLost s.part ph u) ∧
    (∃ (s : State) (l : LaneId) (w : Wash) (rec : FilterRecord) (r : Recipe) (ph : Phase), WashesBy s.part l w rec r ph ∧
      s.part.live = true ∧
      s.part.events.find? (Event.isStopOf l) = some (.laneStopAsserted l) ∧ CanHold s.part l w .inhibit) ∧
    ∃ s l w rec r ph role ch pos, WashesBy s.part l w rec r ph ∧ Outstanding s (.roleDrift l role) ∧
      CanHold s.part l w .valve ∧ w.targets.get role = some pos ∧ s.part.mapped w.filter role = some ch ∧
      (s.part.channel ch).state = .unknown :=
  ⟨⟨after (.lanePoint .a .tank) (atTheLimits (washing .water running)), .a, _, _, _, _, washesBy_of rfl rfl rfl rfl,
    outstanding_after rfl, ⟨rfl, rfl, rfl, rfl⟩, .inr rfl, 100, 100, rfl, rfl, Nat.le_refl _⟩,
   ⟨after (.lanePoint .a .basin) (atTheLimits (washing .drain running)), .a, _, _, _, _, washesBy_of rfl rfl rfl rfl,
    outstanding_after rfl, ⟨rfl, rfl, rfl, rfl⟩, .inl rfl, 9000, 9000, rfl, rfl, Nat.le_refl _⟩,
   ⟨after (.laneUnitNews .a .p1 .locked) (bothPumpsLocked (washing .water { running with pump := some .p1 })), .a, _, _, _, _,
    .p1, .locked, washesBy_of rfl rfl rfl rfl, by decide, outstanding_after rfl, ⟨rfl, rfl, rfl, rfl⟩, pumps_lost⟩,
   ⟨after (.tripped .a .p1) (bothPumpsLocked (washing .water { running with pump := some .p1 })), .a, _, _, _, _, .p1,
    washesBy_of rfl rfl rfl rfl, outstanding_after rfl, ⟨rfl, rfl, rfl, rfl⟩, rfl, pumps_lost⟩,
   ⟨after (.proveFailed .a .p1) (bothPumpsLocked (washing .water { running with pump := some .p1 })), .a, _, _, _, _, .p1,
    washesBy_of rfl rfl rfl rfl, outstanding_after rfl, ⟨rfl, rfl, rfl, rfl⟩, rfl, pumps_lost⟩,
   ⟨after (.laneStopAsserted .a) (washing .rest running), .a, _, _, _, _, washesBy_of rfl rfl rfl rfl, rfl,
    by decide +kernel, rfl, rfl, rfl, rfl⟩,
   after (.roleDrift .a .air) (piped (fun _ => .unknown) (washing .rest { running with targets := PerRole.all (some .closed) })),
   .a, _, _, _, _, .air, 3, .closed, washesBy_of rfl rfl rfl rfl, outstanding_after rfl, ⟨rfl, rfl, rfl, rfl⟩, rfl, rfl, rfl⟩

/-- Every field of SET_PLANT at a bound of its range. -/
def plantAtBounds : RawPlant where
  vmax := 300
  qDesign := 30000
  concurrency := 1
  spacing := 240
  lifetime := 600
  overloadDelay := 600
  early := 999
  calcEnables := 15
  staleLimit := 10
  tankArea := 20000
  basinArea := 10
  tankMin := 10000
  basinMax := 10000
  holdLimit := 120
  autoResume := 1
  debounce := 1000
  travelInf := 300
  travelEff := 5
  travelBww := 5
  travelAir := 5
  travelWst := 5
  travelFtw := 300
  pumpProve := 60
  blowerProve := 3
  pumpGuard := 600
  blowerGuard := 900
  polP1 := 0
  polP2 := 0
  polBl := 0
  silenceInterval := 5
  silenceAction := 2

theorem plant_in_range : PlantInRange plantAtBounds := by
  simp [PlantInRange, plantAtBounds]

/-- A phase that ends with its next one a WATER phase: STOP asserted, both levels at their limits, both pumps locked. -/
def allCauses (e : Event) : State :=
  after e (withStop .asserted (bothPumpsLocked (atTheLimits (washingBy [.rest, .water] running))))

theorem all_causes (e : Event) :
    CausesAre (allCauses e).part (phase .water) [.inhibit, .water, .waste, .equipment] [.inhibit, .water, .waste, .equipment] := by
  refine ⟨List.Sublist.refl _, fun c hc => ⟨fun _ => ?_, fun _ => hc⟩⟩
  cases c
  case water => exact ⟨.inr rfl, 100, 100, rfl, rfl, Nat.le_refl _⟩
  case waste => exact ⟨.inr (.inr (.inl rfl)), 9000, 9000, rfl, rfl, Nat.le_refl _⟩
  case equipment => exact .inl ⟨.inr rfl, fun h => h.1 rfl, fun h => h.1 rfl⟩
  case inhibit => rfl
  all_goals simp at hc

theorem witness_PhaseEntryEntersHeld :
    (∃ s l w rec r ph ph' causes, WashesBy s.part l w rec r ph ∧ w.state = .running ∧ w.holds = HoldSet.empty ∧
      w.phase < r.phases.length ∧ r.phases[w.phase]? = some ph' ∧
      CausesAre s.part ph' [.inhibit, .water, .waste, .equipment] causes ∧ causes ≠ [] ∧ Outstanding s (.phaseTimeEnd l)) ∧
    ∃ s l w rec r ph ph' causes, WashesBy s.part l w rec r ph ∧ w.state = .running ∧ w.holds = HoldSet.empty ∧
      w.phase < r.phases.length ∧ r.phases[w.phase]? = some ph' ∧
      CausesAre s.part ph' [.inhibit, .water, .waste, .equipment] causes ∧ causes ≠ [] ∧ Outstanding s (.ripenConfirmed l) :=
  ⟨⟨allCauses (.phaseTimeEnd .a), .a, running, _, recipeOf [.rest, .water], _, _, _, washesBy_of rfl rfl rfl rfl, rfl, rfl,
    by decide, rfl, all_causes _, by decide, outstanding_after rfl⟩,
   allCauses (.ripenConfirmed .a), .a, running, _, recipeOf [.rest, .water], _, _, _, washesBy_of rfl rfl rfl rfl, rfl, rfl,
   by decide, rfl, all_causes _, by decide, outstanding_after rfl⟩

/-- TANK and BASIN at these values. -/
def levels (tank basin : Nat) (p : Part) : Part :=
  onFront (fun k => { k with tank := ⟨.pushed, [], some tank, .good, some 0⟩
                             basin := ⟨.pushed, [], some basin, .good, some 0⟩ }) p

theorem plantMeetsLane_of {p : Part} {raw : RawPlant} (h1 : p.live = true) (h2 : p.linkReady = true)
    (h3 : p.startUp.top = .operating) (hr : PlantInRange raw) (h4 : p.busyLanes.length = 1)
    (h5 : (plantWritten raw).polarity = p.plant.polarity) (h6 : p.lane .b = none) : PlantMeetsLane (st p) raw .a :=
  ⟨⟨h1, h2⟩, h3, hr, by
    rw [show (st p).part.busyLanes.length = 1 from h4]
    exact Nat.not_lt.mpr hr.2.2.1.1, h5, fun m hm => by
    cases m
    · exact absurd rfl hm
    · exact h6⟩

/-- SET_PLANT brings the TANK minimum to 10000, over its level, and BASIN's maximum too. -/
theorem witness_PlantRecordEntersHeld :
    ∃ s raw l w rec r ph causes, PlantMeetsLane s raw l ∧ WashesBy s.part l w rec r ph ∧ w.state.holdable = true ∧
      w.state.isHeld = false ∧ w.holds = HoldSet.empty ∧
      CausesAre { s.part with plant := plantWritten raw } ph [.water, .waste] causes ∧ causes = [.water] := by
  refine ⟨st (levels 100 9999 (washing .water running)), plantAtBounds, .a, running, _, _, _, _,
    plantMeetsLane_of rfl rfl rfl plant_in_range rfl rfl rfl, washesBy_of rfl rfl rfl rfl, rfl, rfl, rfl,
    ⟨.cons_cons _ (.cons _ .slnil), fun c hc => ?_⟩, rfl⟩
  cases c
  case water => exact ⟨fun _ => ⟨.inr rfl, 100, 10000, rfl, rfl, by decide⟩, fun _ => .head _⟩
  case waste =>
    refine ⟨fun h => by simp at h, ?_⟩
    rintro ⟨-, v, high, hv, hh, h⟩
    cases hv
    cases hh
    exact absurd h (by decide)
  all_goals simp at hc

theorem witness_AbortsBegin :
    (∃ s l w h, s.part.lane l = some w ∧ RoleAway s.part w.filter ∧ Outstanding s (.holdLimit l) ∧ w.state = .held h) ∧
    (∃ s l w role, s.part.lane l = some w ∧ RoleAway s.part w.filter ∧ Outstanding s (.roleFault l role) ∧
      ∀ c, w.state ≠ .aborting c) ∧
    (∃ s l w role c, s.part.lane l = some w ∧ RoleAway s.part w.filter ∧ Outstanding s (.roleFault l role) ∧
      w.state = .aborting c) ∧
    (∃ s l w target, s.part.lane l = some w ∧ RoleAway s.part w.filter ∧ CanHandle s ∧ s.part.startUp.top = .operating ∧
      w.state.holdable = true ∧ laneOfByte target = some l) ∧
    ∃ s l w target rec, s.part.lane l = some w ∧ RoleAway s.part w.filter ∧ CanHandle s ∧ s.part.startUp.top = .operating ∧
      w.state.holdable = true ∧ filterOf target = some w.filter ∧ s.part.filter w.filter = some rec ∧
      rec.state = .washing l :=
  let away : Wash → Part := fun w => piped (fun _ => .opened) (washing .rest w)
  ⟨⟨after (.holdLimit .a) (away (wash (.held 0))), .a, _, 0, rfl, ⟨.wst, 4, rfl, .inr rfl⟩, outstanding_after rfl, rfl⟩,
   ⟨after (.roleFault .a .inf) (away running), .a, _, .inf, rfl, ⟨.wst, 4, rfl, .inr rfl⟩, outstanding_after rfl, nofun⟩,
   ⟨after (.roleFault .a .inf) (away (wash (.aborting .host))), .a, _, .inf, .host, rfl, ⟨.wst, 4, rfl, .inr rfl⟩,
    outstanding_after rfl, rfl⟩,
   ⟨st (away running), .a, _, 0, rfl, ⟨.wst, 4, rfl, .inr rfl⟩, ⟨rfl, rfl⟩, rfl, rfl, rfl⟩,
   st (away running), .a, _, 1, _, rfl, ⟨.wst, 4, rfl, .inr rfl⟩, ⟨rfl, rfl⟩, rfl, rfl, rfl, rfl, rfl⟩

/-- An abort of lane A can end: every role CLOSED, but for the ones given. -/
def canEnd (x : Role → ChannelState) (w : Wash) : Part := piped x (washing .rest w)

theorem canEnd_of {p : Part} {x : Role → ChannelState} {w : Wash} {rec : FilterRecord} (h : Piped p x)
    (h1 : p.startUp.top = .operating) (h2 : p.lane .a = some w) (h3 : p.filter w.filter = some rec)
    (h4 : rec.state = .washing .a) (h5 : p.entry w.filter = none) (h6 : p.table.marker = none) (hw : w.filter = 0)
    (hx : ∀ r, x r = .closed ∨ x r = .fault .travel) : AbortCanEnd p .a w rec :=
  ⟨h1, h2, h3, h4, h5, by rw [h6]; nofun, fun r => by
    rw [hw]
    exact (hx r).imp (piped_rests h) (piped_fault h)⟩

/-- INF is in FAULT. -/
def infFault : Role → ChannelState
  | .inf => .fault .travel
  | _ => .closed

theorem witness_AbortsEndAtOnce :
    (∃ s l w rec h, AbortCanEnd s.part l w rec ∧ Outstanding s (.holdLimit l) ∧ w.state = .held h) ∧
    (∃ s l w rec role, AbortCanEnd s.part l w rec ∧ Outstanding s (.roleFault l role) ∧ w.state = .running) ∧
    (∃ s l w rec role, AbortCanEnd s.part l w rec ∧ Outstanding s (.roleFault l role) ∧ w.state = .aborting .host) ∧
    (∃ s l w rec target, AbortCanEnd s.part l w rec ∧ CanHandle s ∧ w.state.holdable = true ∧ laneOfByte target = some l ∧
      rec.aborts = 0) ∧
    ∃ s l w rec target, AbortCanEnd s.part l w rec ∧ CanHandle s ∧ w.state.holdable = true ∧
      filterOf target = some w.filter ∧ rec.aborts = 1 :=
  have closed : ∀ r : Role, (fun _ => ChannelState.closed) r = .closed ∨ (fun _ => ChannelState.closed) r = .fault .travel :=
    fun _ => .inl rfl
  have fault : ∀ r : Role, infFault r = .closed ∨ infFault r = .fault .travel := fun r => by
    cases r
    case inf => exact .inr rfl
    all_goals exact .inl rfl
  ⟨⟨after (.holdLimit .a) (canEnd (fun _ => .closed) (wash (.held 0))), .a, _, _, 0,
    canEnd_of (x := fun _ => .closed) rfl rfl rfl rfl rfl rfl rfl rfl closed, outstanding_after rfl, rfl⟩,
   ⟨after (.roleFault .a .inf) (canEnd infFault running), .a, _, _, .inf,
    canEnd_of (x := infFault) rfl rfl rfl rfl rfl rfl rfl rfl fault, outstanding_after rfl, rfl⟩,
   ⟨after (.roleFault .a .inf) (canEnd infFault (wash (.aborting .host))), .a, _, _, .inf,
    canEnd_of (x := infFault) rfl rfl rfl rfl rfl rfl rfl rfl fault, outstanding_after rfl, rfl⟩,
   ⟨st (canEnd (fun _ => .closed) running), .a, _, _, 0,
    canEnd_of (x := fun _ => .closed) rfl rfl rfl rfl rfl rfl rfl rfl closed, ⟨rfl, rfl⟩, rfl, rfl, rfl⟩,
   st (withRecord { record (.washing .a) with aborts := 1 } (canEnd (fun _ => .closed) running)), .a, _, _, 1,
   canEnd_of (x := fun _ => .closed) rfl rfl rfl rfl rfl rfl rfl rfl closed, ⟨rfl, rfl⟩, rfl, rfl, rfl⟩

/-- The last role of an abort to close is INF's. -/
def lastRole (x : ChannelState) (aborts : Nat) (cause : AbortCause) : State :=
  let p := piped (fun r => if r = .inf then x else .closed) (washing .rest (wash (.aborting cause)))
  after (.roleArrival .a .inf) (withRecord { record (.washing .a) with aborts := aborts } p)

/-- The hypotheses of a wash that ends with an arrival. -/
def EndsByArrival (s : State) (w : Wash) (rec : FilterRecord) (x : LaneState) : Prop :=
  Outstanding s (.roleArrival .a .inf) ∧ s.part.startUp.top = .operating ∧ s.part.lane .a = some w ∧ w.state = x ∧
  w.drifted.get .inf = false ∧ s.part.filter w.filter = some rec ∧ rec.state = .washing .a ∧
  s.part.entry w.filter = none ∧ s.part.table.marker ≠ some w.filter

theorem lastRole_ends (x : ChannelState) (aborts : Nat) (cause : AbortCause) :
    EndsByArrival (lastRole x aborts cause) (wash (.aborting cause)) { record (.washing .a) with aborts := aborts }
      (.aborting cause) :=
  ⟨outstanding_after rfl, rfl, rfl, rfl, rfl, rfl, rfl, rfl, nofun⟩

theorem no_fault_at_rest (aborts : Nat) (cause : AbortCause) (r : Role) : ¬ RoleInFault (lastRole .closed aborts cause).part 0 r := by
  rintro ⟨ch, c, hm, hc⟩
  cases r <;> cases hm <;> cases hc

theorem witness_ArrivalEndsAnAbort :
    (∃ s w rec cause, EndsByArrival s w rec (.aborting cause) ∧
      (∀ r, RestsAt s.part w.filter r .closed ∨ RoleInFault s.part w.filter r) ∧ cause ≠ .channel ∧
      ∃ r, RoleInFault s.part w.filter r) ∧
    (∃ s w rec cause, EndsByArrival s w rec (.aborting cause) ∧
      (∀ r, RestsAt s.part w.filter r .closed ∨ RoleInFault s.part w.filter r) ∧ cause ≠ .channel ∧
      (∀ r, ¬ RoleInFault s.part w.filter r) ∧ rec.aborts = 0) ∧
    ∃ s w rec cause, EndsByArrival s w rec (.aborting cause) ∧
      (∀ r, RestsAt s.part w.filter r .closed ∨ RoleInFault s.part w.filter r) ∧ cause ≠ .channel ∧
      (∀ r, ¬ RoleInFault s.part w.filter r) ∧ rec.aborts = 1 :=
  ⟨⟨lastRole (.fault .travel) 0 .host, _, _, .host, lastRole_ends .., fun r => by
      cases r
      case inf => exact .inr ⟨0, .travel, rfl, rfl⟩
      all_goals exact .inl ⟨_, rfl, .inr ⟨rfl, rfl⟩⟩,
    by decide, .inf, 0, .travel, rfl, rfl⟩,
   ⟨lastRole .closed 0 .host, _, _, .host, lastRole_ends .., fun r => by
      cases r <;> exact .inl ⟨_, rfl, .inr ⟨rfl, rfl⟩⟩, by decide, no_fault_at_rest 0 .host, rfl⟩,
   lastRole .closed 1 .holdLimit, _, _, .holdLimit, lastRole_ends .., fun r => by
      cases r <;> exact .inl ⟨_, rfl, .inr ⟨rfl, rfl⟩⟩, by decide, no_fault_at_rest 1 .holdLimit, rfl⟩

/-- Lane A returns filter 1 to a destination, every role in place. -/
def returned (d : Destination) : State :=
  after (.roleArrival .a .inf)
    (closedAll (washing .rest { wash (.returning d .openUp) with targets := PerRole.all (some .closed) }))

theorem witness_ArrivalEndsAReturn :
    (∃ s w rec r, EndsByArrival s w rec (.returning .online .openUp) ∧ s.part.recipe w.slot = some r ∧
      ∀ x, ∃ pos, w.targets.get x = some pos ∧ RestsAt s.part w.filter x pos) ∧
    ∃ s w rec r, EndsByArrival s w rec (.returning .standby .openUp) ∧ s.part.recipe w.slot = some r ∧
      ∀ x, ∃ pos, w.targets.get x = some pos ∧ RestsAt s.part w.filter x pos :=
  ⟨⟨returned .online, _, _, _, ⟨outstanding_after rfl, rfl, rfl, rfl, rfl, rfl, rfl, rfl, nofun⟩, rfl, fun x => by
      cases x <;> exact ⟨.closed, rfl, _, rfl, .inr ⟨rfl, rfl⟩⟩⟩,
   returned .standby, _, _, _, ⟨outstanding_after rfl, rfl, rfl, rfl, rfl, rfl, rfl, rfl, nofun⟩, rfl, fun x => by
      cases x <;> exact ⟨.closed, rfl, _, rfl, .inr ⟨rfl, rfl⟩⟩⟩

theorem witness_LaneMovesThroughItsPhase :
    (∃ s l w rec r ph u, WashesBy s.part l w rec r ph ∧ Outstanding s (.grant l u) ∧ (s.part.unit u).state.lane = some l ∧
      w.state = .acquiring ∧ ¬ HasKinds (w.takeUnit u) ph) ∧
    (∃ s l w rec r ph u, WashesBy s.part l w rec r ph ∧ Outstanding s (.grant l u) ∧ (s.part.unit u).state.lane = some l ∧
      w.state = .acquiring ∧ HasKinds (w.takeUnit u) ph) ∧
    (∃ s l w rec r ph role, WashesBy s.part l w rec r ph ∧ Outstanding s (.roleArrival l role) ∧
      w.drifted.get role = false ∧ w.state = .positioning .close ∧ s.part.stopAsserted = false ∧
      ∀ x ∈ closedRoles ph.kind, RestsAt s.part w.filter x .closed) ∧
    (∃ s l w rec r ph role, WashesBy s.part l w rec r ph ∧ Outstanding s (.roleArrival l role) ∧
      w.drifted.get role = false ∧ w.state = .positioning .openUp ∧
      ∀ x ∈ openRoles ph.kind, RestsAt s.part w.filter x .opened) ∧
    (∃ s l w rec r ph u, WashesBy s.part l w rec r ph ∧ Outstanding s (.proven l u) ∧ w.state = .starting ∧
      HasKinds w ph ∧ ∀ v, w.holdsUnit v = true → (s.part.unit v).state = .running l) ∧
    ∃ s l w rec r ph u v, WashesBy s.part l w rec r ph ∧ Outstanding s (.proven l u) ∧ w.state = .starting ∧
      w.holdsUnit v = true ∧ (s.part.unit v).state ≠ .running l :=
  ⟨⟨after (.grant .a .p1) (withUnit .p1 (.allocated .a) (washing .airWater (wash .acquiring))), .a, _, _, _, _, .p1,
    washesBy_of rfl rfl rfl rfl, outstanding_after rfl, rfl, rfl, fun h => absurd (h.2 (.inr rfl)) (by decide)⟩,
   ⟨after (.grant .a .p1) (withUnit .p1 (.allocated .a) (washing .water (wash .acquiring))), .a, _, _, _, _, .p1,
    washesBy_of rfl rfl rfl rfl, outstanding_after rfl, rfl, rfl, fun _ => nofun, fun h => by rcases h with h | h <;> cases h⟩,
   ⟨after (.roleArrival .a .inf) (closedAll (washing .water (wash (.positioning .close)))), .a, _, _, _, _, .inf,
    washesBy_of rfl rfl rfl rfl, outstanding_after rfl, rfl, rfl, rfl, fun x _ => by
      cases x <;> exact ⟨_, rfl, .inr ⟨rfl, rfl⟩⟩⟩,
   ⟨after (.roleArrival .a .inf) (piped (fun _ => .opened) (washing .water (wash (.positioning .openUp)))), .a, _, _, _, _,
    .inf, washesBy_of rfl rfl rfl rfl, outstanding_after rfl, rfl, rfl, fun x _ => by
      cases x <;> exact ⟨_, rfl, .inl ⟨rfl, rfl⟩⟩⟩,
   ⟨after (.proven .a .p1) (withUnit .p1 (.running .a) (washing .water { wash .starting with pump := some .p1 })), .a, _, _,
    _, _, .p1, washesBy_of rfl rfl rfl rfl, outstanding_after rfl, rfl, ⟨fun _ => nofun, fun h => by rcases h with h | h <;> cases h⟩,
    fun v h => by cases v <;> first | rfl | exact absurd h (by decide)⟩,
   after (.proven .a .bl) (washing .airWater { wash .starting with pump := some .p1, blower := true }), .a, _, _, _, _, .bl,
   .p1, washesBy_of rfl rfl rfl rfl, outstanding_after rfl, rfl, rfl, nofun⟩

theorem no_cause_holds (p : Part) (ks : PhaseKind) (h1 : p.stopAsserted = false) (h2 : p.front.tank.usableValue = none)
    (h3 : p.front.basin.usableValue = none) (h4 : UsableUnit p .p2) (h5 : UsableUnit p .bl) (c : HoldCause) :
    ¬ CauseHolds p (phase ks) c := by
  cases c
  case water =>
    rintro ⟨-, v, _, hv, -⟩
    rw [h2] at hv
    cases hv
  case waste =>
    rintro ⟨-, v, _, hv, -⟩
    rw [h3] at hv
    cases hv
  case equipment =>
    rintro (h | h)
    · exact h.2.2 h4
    · exact h.2 h5
  case inhibit =>
    intro h
    rw [show p.stopAsserted = true from h] at h1
    cases h1
  all_goals exact id

theorem witness_LostUnitsAreAskedForAgain :
    (∃ s l w u, s.part.lane l = some w ∧ w.holdsUnit u = true ∧ w.state.holdable = true ∧ w.state.isHeld = false ∧
      Outstanding s (.proveFailed l u) ∧ s.part.kindUsable (unitKind u) = true) ∧
    ∃ s l w u rec r ph, s.part.lane l = some w ∧ w.holdsUnit u = true ∧ w.state.holdable = true ∧ w.state.isHeld = false ∧
      WashesBy s.part l w rec r ph ∧ Outstanding s (.tripped l u) ∧ w.holds = HoldSet.empty ∧
      (∀ c, ¬ CauseHolds s.part ph c) ∧ u = .p1 ∧ ph.kind = .water :=
  let p := withUnit .p1 (.failed .trip) (washing .water { running with pump := some .p1 })
  ⟨⟨after (.proveFailed .a .p1) p, .a, _, .p1, rfl, rfl, rfl, rfl, outstanding_after rfl, rfl⟩,
   after (.tripped .a .p1) p, .a, _, .p1, _, _, _, rfl, rfl, rfl, rfl, washesBy_of rfl rfl rfl rfl, outstanding_after rfl,
   rfl, no_cause_holds _ _ rfl rfl rfl ⟨nofun, nofun⟩ ⟨nofun, nofun⟩, rfl, rfl⟩

/-- HELD with one cause. -/
def heldBy (c : HoldCause) : Wash := { wash (.held 0) with holds := HoldSet.empty.set c true }

/-- The hypotheses on a lane that a notice may resume. -/
def HeldFor (s : State) (l : LaneId) (w : Wash) (c : HoldCause) : Prop :=
  s.part.lane l = some w ∧ w.state = .held 0 ∧ w.holds = HoldSet.empty.set c true

theorem witness_NoticesResumeTheLane :
    (∃ s l w, HeldFor s l w .water ∧ Outstanding s (.lanePoint l .tank) ∧ LevelClears s.part .water) ∧
    (∃ s l w, HeldFor s l w .waste ∧ Outstanding s (.lanePoint l .basin) ∧ LevelClears s.part .waste) ∧
    (∃ s l w role pos, HeldFor s l w .valve ∧ Outstanding s (.roleArrival l role) ∧
      (∀ x, w.drifted.get x = true ↔ x = role) ∧ w.targets.get role = some pos ∧ RestsAt s.part w.filter role pos) ∧
    (∃ s l w u, HeldFor s l w .equipment ∧ Outstanding s (.laneUnitNews l u .available) ∧
      ∀ k, s.part.kindUsable k = true) ∧
    (∃ s l w, HeldFor s l w .inhibit ∧ s.part.live = true ∧
      s.part.events.find? (Event.isStopOf l) = some (.laneStopReleased l) ∧ s.part.plant.autoResume = true) ∧
    ∃ s l w, HeldFor s l w .inhibit ∧ s.part.live = true ∧
      s.part.events.find? (Event.isStopOf l) = some (.laneStopReleased l) ∧ s.part.plant.autoResume = false ∧
      w.drifted = PerRole.all false :=
  ⟨⟨after (.lanePoint .a .tank) (levels 300 9000 (atTheLimits (washing .water (heldBy .water)))), .a, _, ⟨rfl, rfl, rfl⟩,
    outstanding_after rfl, 300, 100, rfl, rfl, Nat.le_refl _⟩,
   ⟨after (.lanePoint .a .basin) (levels 300 8800 (atTheLimits (washing .water (heldBy .waste)))), .a, _, ⟨rfl, rfl, rfl⟩,
    outstanding_after rfl, 8800, 9000, rfl, rfl, Nat.le_refl _⟩,
   ⟨after (.roleArrival .a .air) (closedAll (washing .rest { heldBy .valve with
      targets := PerRole.all (some .closed), drifted := (PerRole.all false).set .air true })), .a, _, .air, .closed,
    ⟨rfl, rfl, rfl⟩, outstanding_after rfl, fun x => by cases x <;> decide, rfl, piped_rests (x := fun _ => .closed) rfl rfl⟩,
   ⟨after (.laneUnitNews .a .p1 .available) (washing .water (heldBy .equipment)), .a, _, .p1, ⟨rfl, rfl, rfl⟩,
    outstanding_after rfl, fun k => by cases k <;> rfl⟩,
   ⟨after (.laneStopReleased .a) (onPlant (fun k => { k with autoResume := true }) (washing .water (heldBy .inhibit))), .a, _,
    ⟨rfl, rfl, rfl⟩, rfl, by decide +kernel, rfl⟩,
   after (.laneStopReleased .a) (washing .water (heldBy .inhibit)), .a, _, ⟨rfl, rfl, rfl⟩, rfl, by decide +kernel, rfl, rfl⟩

/-- The record brings WATER, WASTE or a seen release's INHIBIT to clear. -/
theorem witness_PlantRecordResumesTheLane :
    (∃ s raw l w rec r ph, PlantMeetsLane s raw l ∧ WashesBy s.part l w rec r ph ∧ HeldFor s l w .water ∧
      LevelClears { s.part with plant := plantWritten raw } .water ∧
      ¬ CauseHolds { s.part with plant := plantWritten raw } ph .waste) ∧
    (∃ s raw l w rec r ph, PlantMeetsLane s raw l ∧ WashesBy s.part l w rec r ph ∧ HeldFor s l w .waste ∧
      LevelClears { s.part with plant := plantWritten raw } .waste ∧
      ¬ CauseHolds { s.part with plant := plantWritten raw } ph .water) ∧
    ∃ s raw l w rec r ph, PlantMeetsLane s raw l ∧ WashesBy s.part l w rec r ph ∧ HeldFor s l w .inhibit ∧
      w.releaseSeen = true ∧ raw.autoResume = 1 ∧ s.part.stopAsserted = false ∧
      ¬ CauseHolds { s.part with plant := plantWritten raw } ph .water ∧
      ¬ CauseHolds { s.part with plant := plantWritten raw } ph .waste := by
  let raw : RawPlant := { plantAtBounds with tankMin := 100 }
  have hr : PlantInRange raw := by simp [raw, PlantInRange, plantAtBounds]
  have waste : ∀ (p : Part) (b : Nat), p.front.basin.usableValue = some b → b < 10000 →
      ¬ CauseHolds { p with plant := plantWritten raw } (phase .water) .waste := by
    rintro p b hb hlt ⟨-, v, high, hv, hh, h⟩
    rw [show p.front.basin.usableValue = some v from hv] at hb
    cases hb
    cases hh
    exact absurd hlt (Nat.not_lt.mpr h)
  have water : ∀ (p : Part) (b : Nat), p.front.tank.usableValue = some b → 100 < b →
      ¬ CauseHolds { p with plant := plantWritten raw } (phase .water) .water := by
    rintro p b hb hlt ⟨-, v, low, hv, hh, h⟩
    rw [show p.front.tank.usableValue = some v from hv] at hb
    cases hb
    cases hh
    exact absurd hlt (Nat.not_lt.mpr h)
  exact ⟨⟨st (levels 300 9999 (washing .water (heldBy .water))), raw, .a, _, _, _, _,
      plantMeetsLane_of rfl rfl rfl hr rfl rfl rfl, washesBy_of rfl rfl rfl rfl, ⟨rfl, rfl, rfl⟩,
      ⟨300, 100, rfl, rfl, Nat.le_refl _⟩, waste _ 9999 rfl (by decide)⟩,
    ⟨st (levels 101 9800 (washing .water (heldBy .waste))), raw, .a, _, _, _, _,
      plantMeetsLane_of rfl rfl rfl hr rfl rfl rfl, washesBy_of rfl rfl rfl rfl, ⟨rfl, rfl, rfl⟩,
      ⟨9800, 10000, rfl, rfl, Nat.le_refl _⟩, water _ 101 rfl (by decide)⟩,
    st (levels 101 9999 (washing .water { heldBy .inhibit with releaseSeen := true })), raw, .a, _, _, _, _,
      plantMeetsLane_of rfl rfl rfl hr rfl rfl rfl, washesBy_of rfl rfl rfl rfl, ⟨rfl, rfl, rfl⟩, rfl, rfl, rfl,
      water _ 101 rfl (by decide), waste _ 9999 rfl (by decide)⟩

theorem witness_HostHoldsAndResumesLanes :
    (∃ s b l w, CanHandle s ∧ s.part.startUp.top = .operating ∧ laneOfByte b = some l ∧ s.part.lane l = some w ∧
      CanHold s.part l w .host) ∧
    (∃ s b l w h, CanHandle s ∧ s.part.startUp.top = .operating ∧ laneOfByte b = some l ∧ s.part.lane l = some w ∧
      w.state = .held h ∧ w.holds.host = false) ∧
    (∃ s b l w h, CanHandle s ∧ s.part.startUp.top = .operating ∧ laneOfByte b = some l ∧ s.part.lane l = some w ∧
      w.state = .held h ∧ afterResume s.part w = HoldSet.empty) ∧
    ∃ s b l w h, CanHandle s ∧ s.part.startUp.top = .operating ∧ laneOfByte b = some l ∧ s.part.lane l = some w ∧
      w.state = .held h ∧ afterResume s.part w ≠ HoldSet.empty :=
  ⟨⟨st (washing .water running), 0, .a, _, ⟨rfl, rfl⟩, rfl, rfl, rfl, rfl, rfl, rfl, rfl⟩,
   ⟨st (washing .water (heldBy .water)), 0, .a, _, 0, ⟨rfl, rfl⟩, rfl, rfl, rfl, rfl, rfl⟩,
   ⟨st (washing .water (heldBy .host)), 0, .a, _, 0, ⟨rfl, rfl⟩, rfl, rfl, rfl, rfl, rfl⟩,
   st (washing .water (heldBy .water)), 0, .a, _, 0, ⟨rfl, rfl⟩, rfl, rfl, rfl, rfl, by decide +kernel⟩

theorem witness_LaneCommandsCheckTheLane :
    (∃ (s : State) (b : Byte), CanHandle s ∧ s.part.startUp.top = .operating ∧ b.toNat = 2 ∧ laneOfByte b = none) ∧
    (∃ (s : State) (b : Byte), CanHandle s ∧ s.part.startUp.top = .operating ∧ b.toNat = 17 ∧ filterOf b = none) ∧
    (∃ (s : State) (b : Byte) (l : LaneId), CanHandle s ∧ s.part.startUp.top = .operating ∧ laneOfByte b = some l ∧
      s.part.lane l = none) ∧
    (∃ (s : State) (b : Byte) (l : LaneId) (w : Wash), CanHandle s ∧ s.part.startUp.top = .operating ∧
      laneOfByte b = some l ∧ s.part.lane l = some w ∧ w.state.holdable = false) ∧
    (∃ (s : State) (b : Byte) (l : LaneId) (w : Wash), CanHandle s ∧ s.part.startUp.top = .operating ∧
      laneOfByte b = some l ∧ s.part.lane l = some w ∧ w.state.holdable = true ∧ w.holds.host = true) ∧
    ∃ (s : State) (b : Byte) (f : FilterId), CanHandle s ∧ s.part.startUp.top = .operating ∧ filterOf b = some f ∧
      s.part.filter f = some (record .online) :=
  ⟨⟨st quiet, 2, ⟨rfl, rfl⟩, rfl, rfl, rfl⟩, ⟨st quiet, 17, ⟨rfl, rfl⟩, rfl, rfl, rfl⟩,
   ⟨st quiet, 1, .b, ⟨rfl, rfl⟩, rfl, rfl, rfl⟩,
   ⟨st (washing .water (wash (.aborting .host))), 0, .a, _, ⟨rfl, rfl⟩, rfl, rfl, rfl, rfl⟩,
   ⟨st (washing .water (heldBy .host)), 0, .a, _, ⟨rfl, rfl⟩, rfl, rfl, rfl, rfl, rfl⟩,
   st (withFilter .online quiet), 1, 0, ⟨rfl, rfl⟩, rfl, rfl, rfl⟩

/-! ### Witnesses: transfers, start-up, the link -/

/-- Filter 1 in a transfer, its roles as given. -/
def moving (k : TransferKind) (step : Nat) (x : Role → ChannelState) : Part :=
  piped x (withRecord { record (stateFrom k) with transfer := some ⟨k, step⟩ } quiet)

theorem witness_ChannelFaultsFaultTheFilter :
    (∃ (s : State) (f : FilterId) (role : Role) (rec : FilterRecord), s.part.startUp.top = .operating ∧
      Outstanding s (.transferFault f role) ∧ s.part.filter f = some rec ∧ rec.state = .standby ∧ rec.transfer ≠ none) ∧
    (∃ (s : State) (f : FilterId) (role : Role) (rec : FilterRecord), s.part.startUp.top = .operating ∧
      Outstanding s (.filterFault f role) ∧ s.part.filter f = some rec ∧ rec.state = .online ∧ rec.transfer = none) ∧
    (∃ (s : State) (f : FilterId) (role : Role) (rec : FilterRecord) (l : LaneId), s.part.startUp.top = .operating ∧
      Outstanding s (.filterFault f role) ∧ s.part.filter f = some rec ∧ rec.state = .washing l) ∧
    ∃ (s : State) (f : FilterId) (role : Role), s.part.startUp.top = .operating ∧ Outstanding s (.filterFault f role) ∧
      s.part.filter f = none :=
  ⟨⟨after (.transferFault 0 .inf) (moving .toService 3 fun _ => .closed), 0, .inf, _, rfl, outstanding_after rfl, rfl, rfl,
    nofun⟩,
   ⟨after (.filterFault 0 .inf) (withFilter .online quiet), 0, .inf, _, rfl, outstanding_after rfl, rfl, rfl, rfl⟩,
   ⟨after (.filterFault 0 .inf) (washing .rest running), 0, .inf, _, .a, rfl, outstanding_after rfl, rfl, rfl⟩,
   after (.filterFault 0 .inf) quiet, 0, .inf, rfl, outstanding_after rfl, rfl⟩

theorem witness_SurveyEndSetsTheFilterStates :
    ∃ s : State, s.part.live = true ∧ s.part.startUp.top = .surveying ∧ (s.part.channel 0).mappedTo ≠ none ∧
      (s.part.channel 6).mappedTo = none ∧ s.part.filter 0 ≠ none ∧ s.part.filter 1 = none :=
  ⟨st (inTop .surveying (closedAll (withFilter .outOfService quiet))), rfl, rfl, by decide +kernel, rfl, by decide +kernel, rfl⟩

def silenced (m : PlantMode) (a : SilenceAction) : State :=
  after .silenceExpiry (onPlant (fun k => { k with silenceAction := a }) (onSched (fun k => { k with mode := m }) quiet))

theorem witness_SilenceExpiryActsOnTheMode :
    (∃ s : State, Outstanding s .silenceExpiry ∧ s.part.startUp.top = .operating ∧
      modeAfterSilence s.part.plant.silenceAction s.part.sched.mode = s.part.sched.mode) ∧
    ∃ s : State, Outstanding s .silenceExpiry ∧ s.part.startUp.top = .operating ∧
      modeAfterSilence s.part.plant.silenceAction s.part.sched.mode ≠ s.part.sched.mode :=
  ⟨⟨silenced .auto .auto, outstanding_after rfl, rfl, rfl⟩, silenced .directed .auto, outstanding_after rfl, rfl, by decide⟩

theorem commanded_by_step_2 {k : TransferKind} {x : Role × Position} (h : CommandedSoFar ⟨k, 2⟩ x) :
    x ∈ transferStep k 1 ∨ x ∈ transferStep k 2 := by
  obtain ⟨i, h1, h2, h3⟩ := h
  have hi : i = 1 ∨ i = 2 := by simp only at h2; omega
  rcases hi with rfl | rfl
  · exact .inl h3
  · exact .inr h3

/-- Filter 1 all closed: in place for TO_STANDBY, whose last step is 2. -/
theorem standby_in_place (x : Role × Position) (h : CommandedSoFar ⟨.toStandby, 2⟩ x) :
    RestsAt (moving .toStandby 2 fun _ => .closed) 0 x.1 x.2 := by
  rcases commanded_by_step_2 h with h | h <;> simp only [transferStep, List.mem_cons, List.not_mem_nil, or_false] at h
  · rcases h with rfl | rfl | rfl | rfl | rfl <;> exact ⟨_, rfl, .inr ⟨rfl, rfl⟩⟩
  · rw [h]
    exact ⟨_, rfl, .inr ⟨rfl, rfl⟩⟩

/-- EFF open and the rest closed: in place for steps 1 and 2 of TO_SERVICE, with INF still to open. -/
def beforeStep3 : Part := moving .toService 2 fun r => if r = .eff then .opened else .closed

theorem service_in_place (x : Role × Position) (h : CommandedSoFar ⟨.toService, 2⟩ x) : RestsAt beforeStep3 0 x.1 x.2 := by
  rcases commanded_by_step_2 h with h | h <;> simp only [transferStep, List.mem_cons, List.not_mem_nil, or_false] at h
  · rcases h with rfl | rfl | rfl | rfl <;> exact ⟨_, rfl, .inr ⟨rfl, rfl⟩⟩
  · rw [h]
    exact ⟨_, rfl, .inl ⟨rfl, rfl⟩⟩

/-- Step 1 of TO_SERVICE, AIR drifted to UNKNOWN. -/
def airDrifted : Part := moving .toService 1 fun r => if r = .air then .unknown else .closed

theorem air_commanded : CommandedSoFar ⟨.toService, 1⟩ (.air, .closed) :=
  ⟨1, Nat.le_refl 1, Nat.le_refl 1, by simp [transferStep]⟩

theorem air_away : ¬ ∀ x, CommandedSoFar ⟨.toService, 1⟩ x → RestsAt airDrifted 0 x.1 x.2 := by
  intro h
  obtain ⟨ch, hm, hr⟩ := h (.air, .closed) air_commanded
  cases hm
  rcases hr with ⟨h, -⟩ | ⟨-, h⟩ <;> cases h

theorem rest_or_travel (x : Role × Position) (h : CommandedSoFar ⟨.toService, 1⟩ x) :
    RestsAt airDrifted 0 x.1 x.2 ∨ RoleTravels airDrifted 0 x.1 x.2 := by
  obtain ⟨i, h1, h2, h3⟩ := h
  obtain rfl : i = 1 := by simp only at h2; omega
  simp only [transferStep, List.mem_cons, List.not_mem_nil, or_false] at h3
  rcases h3 with rfl | rfl | rfl | rfl
  case inr.inl => exact .inr ⟨_, rfl, rfl, .inl rfl⟩
  all_goals exact .inl ⟨_, rfl, .inr ⟨rfl, rfl⟩⟩

theorem witness_TransfersRunTheirSteps :
    (∃ s f rec t role, Transferring s.part f rec t ∧ Outstanding s (.transferArrival f role) ∧
      ¬ ∀ x, CommandedSoFar t x → RestsAt s.part f x.1 x.2) ∧
    (∃ s f rec t role, Transferring s.part f rec t ∧ Outstanding s (.transferArrival f role) ∧
      t.step < finalStep t.kind ∧ s.part.stopAsserted = true) ∧
    (∃ s f rec t role, Transferring s.part f rec t ∧ Outstanding s (.transferArrival f role) ∧
      (∀ x, CommandedSoFar t x → RestsAt s.part f x.1 x.2) ∧ t.step = finalStep t.kind) ∧
    (∃ s f rec t role r pos, Transferring s.part f rec t ∧ Outstanding s (.transferArrival f role) ∧
      (∀ x, CommandedSoFar t x → RestsAt s.part f x.1 x.2) ∧ s.part.stopAsserted = false ∧
      transferStep t.kind (t.step + 1) = [(r, pos)] ∧ RoleTravels s.part f r pos) ∧
    (∃ s f rec t role pos, Transferring s.part f rec t ∧ (¬ ∀ x, CommandedSoFar t x → RestsAt s.part f x.1 x.2) ∧
      Outstanding s (.transferDrift f role) ∧ s.part.stopAsserted = false ∧ CommandedSoFar t (role, pos) ∧
      RoleTravels s.part f role pos) ∧
    ∃ s f rec t, Transferring s.part f rec t ∧ (¬ ∀ x, CommandedSoFar t x → RestsAt s.part f x.1 x.2) ∧
      Outstanding s (.transferStopReleased f) ∧ s.part.stopAsserted = false ∧
      ∀ x, CommandedSoFar t x → RestsAt s.part f x.1 x.2 ∨ RoleTravels s.part f x.1 x.2 :=
  ⟨⟨after (.transferArrival 0 .inf) airDrifted, 0, _, _, .inf, ⟨rfl, rfl, rfl, rfl, by decide, by decide⟩,
    outstanding_after rfl, air_away⟩,
   ⟨after (.transferArrival 0 .inf) (withStop .asserted airDrifted), 0, _, _, .inf, ⟨rfl, rfl, rfl, rfl, by decide, by decide⟩,
    outstanding_after rfl, by decide, rfl⟩,
   ⟨after (.transferArrival 0 .inf) (moving .toStandby 2 fun _ => .closed), 0, _, _, .inf,
    ⟨rfl, rfl, rfl, rfl, by decide, by decide⟩, outstanding_after rfl, standby_in_place, rfl⟩,
   ⟨after (.transferArrival 0 .eff) beforeStep3, 0, _, _, .eff, .inf, .opened, ⟨rfl, rfl, rfl, rfl, by decide, by decide⟩,
    outstanding_after rfl, service_in_place, rfl, rfl, ⟨0, rfl, rfl, .inr (.inl ⟨rfl, rfl⟩)⟩⟩,
   ⟨after (.transferDrift 0 .air) airDrifted, 0, _, _, .air, .closed, ⟨rfl, rfl, rfl, rfl, by decide, by decide⟩, air_away,
    outstanding_after rfl, rfl, air_commanded, 3, rfl, rfl, .inl rfl⟩,
   after (.transferStopReleased 0) airDrifted, 0, _, _, ⟨rfl, rfl, rfl, rfl, by decide, by decide⟩, air_away,
   outstanding_after rfl, rfl, rest_or_travel⟩

def assembling (got : List Byte) : State := st (onLink (fun k => { k with rx := .assembling got }) quiet)

/-- GET_IDENT with tag 1 on the line. -/
def identFrame : Frame := ⟨0x01, 0x01, []⟩

/-- A frame of a command's kind and the wrong length. -/
def longPing : Frame := ⟨0x03, 0x01, [0]⟩

theorem witness_CharactersMakeFrames :
    (∃ (s : State) (c : Byte), s.part.live = true ∧ s.part.link.rx = .hunting ∧ c ≠ 0xC3) ∧
    (∃ (s : State) (got : List Byte), s.part.live = true ∧ s.part.link.rx = .assembling got ∧ got.length < 3) ∧
    (∃ (s : State) (got : List Byte) (c : Byte), s.part.live = true ∧ s.part.link.rx = .assembling got ∧ got.length = 3 ∧
      ¬ BadHeader (got ++ [c])) ∧
    (∃ (s : State) (got : List Byte) (c : Byte), s.part.live = true ∧ s.part.link.rx = .assembling got ∧
      BadHeader (got ++ [c]) ∧ sof ∉ got ++ [c]) ∧
    (∃ (s : State) (got front back : List Byte) (c : Byte), s.part.live = true ∧ s.part.link.rx = .assembling got ∧
      BadHeader (got ++ [c]) ∧ got ++ [c] = front ++ sof :: back ∧ sof ∉ front) ∧
    (∃ (s : State) (got : List Byte) (kind tag len : Byte) (rest : List Byte), s.part.live = true ∧
      s.part.link.rx = .assembling got ∧ got = kind :: tag :: len :: rest ∧ 1 ≤ rest.length ∧
      got.length + 1 < len.toNat + 6) ∧
    (∃ (s : State) (got : List Byte) (c kind tag len : Byte) (rest : List Byte), s.part.live = true ∧
      s.part.link.rx = .assembling got ∧ got = kind :: tag :: len :: rest ∧ 1 ≤ rest.length ∧
      got.length + 1 = len.toNat + 6 ∧ crcGood (got ++ [c]) = false) ∧
    (∃ (s : State) (got : List Byte) (c : Byte) (f : Frame) (row : Instr), s.part.live = true ∧
      s.part.link.rx = .assembling got ∧ WholeFrame (got ++ [c]) f ∧ row.frame = some f) ∧
    ∃ (s : State) (got : List Byte) (c : Byte) (f : Frame) (r : Result), s.part.live = true ∧
      s.part.link.rx = .assembling got ∧ WholeFrame (got ++ [c]) f ∧ f.command = .error r ∧ CanHandle s := by
  refine ⟨⟨st quiet, 0xC2, rfl, rfl, by decide⟩, ⟨assembling [0x01, 0x11], _, rfl, rfl, by decide⟩,
    ⟨assembling [0x05, 0x11, 0x00], _, 0xEB, rfl, rfl, rfl, ?_⟩,
    ⟨assembling [0x05, 0x11, 0x00], _, 0xEA, rfl, rfl, ⟨_, _, _, _, rfl, .inl (by decide)⟩, by decide⟩,
    ⟨assembling [0x05, 0xC3, 0x00], _, [0x05], [0x00, 0xEB], 0xEB, rfl, rfl, ⟨_, _, _, _, rfl, .inl (by decide)⟩, rfl,
      by decide⟩,
    ⟨assembling [0x05, 0x11, 0x00, 0xEB], _, 0x05, 0x11, 0x00, [0xEB], rfl, rfl, rfl, by decide, by decide⟩,
    ⟨assembling [0x05, 0x11, 0x00, 0xEB, 0x00], _, 0x00, 0x05, 0x11, 0x00, [0xEB, 0x00], rfl, rfl, rfl, by decide, by decide,
      by decide +kernel⟩,
    ⟨assembling (identFrame.bytes.tail.take 5), _, identFrame.bytes.getD 6 0, identFrame, .getIdent 1, rfl, rfl,
      ⟨by decide, by decide +kernel⟩, rfl⟩,
    ⟨assembling (longPing.bytes.tail.take 6), _, longPing.bytes.getD 7 0, longPing, .length, rfl, rfl,
      ⟨by decide, by decide +kernel⟩, rfl, rfl, rfl⟩⟩
  rintro ⟨kind, tag, len, check, h, h'⟩
  cases h
  rcases h' with h | h
  · exact h (by decide)
  · exact absurd h (by decide)

def sending (m : OutMsg) (x : SoftReset) (r : Option Reply) (q : List Frame) : State :=
  st (onLink (fun k => { k with sending := some m, softReset := x, reply := r, queue := q }) quiet)

def pong : Reply := ⟨0x83, 0x01, .ok, .none⟩

theorem witness_TransmitterSendsRepliesFirst :
    (∃ s : State, s.part.live = true ∧ s.part.link.sending = none) ∧
    (∃ (s : State) (m : OutMsg), s.part.live = true ∧ s.part.link.sending = some m ∧ s.part.link.softReset = .waiting ∧
      ∃ tag, m = .reply ⟨0x85, tag, .ok, .none⟩) ∧
    (∃ (s : State) (m : OutMsg) (r : Reply), s.part.live = true ∧ s.part.link.sending = some m ∧
      s.part.link.softReset = .none ∧ s.part.link.queue = [] ∧ s.part.link.reply = some r) ∧
    (∃ (s : State) (m : OutMsg), s.part.live = true ∧ s.part.link.sending = some m ∧ s.part.link.softReset = .waiting ∧
      ∀ tag fields, m ≠ .reply ⟨0x85, tag, .ok, fields⟩) ∧
    (∃ (s : State) (m : OutMsg) (r : Reply) (f : Frame) (rest : List Frame) (res : Result), s.part.live = true ∧
      s.part.link.sending = some m ∧ s.part.link.softReset = .none ∧ s.part.link.reply = some r ∧
      s.part.link.queue = f :: rest ∧ f.command = .error res) ∧
    ∃ (s : State) (m : OutMsg) (r : Reply) (f : Frame) (rest : List Frame) (c : HostCommand), s.part.live = true ∧
      s.part.link.sending = some m ∧ s.part.link.softReset = .none ∧ s.part.link.reply = some r ∧
      s.part.link.queue = f :: rest ∧ f.command = .ok c :=
  ⟨⟨st quiet, rfl, rfl⟩, ⟨sending (.reply ⟨0x85, 9, .ok, .none⟩) .waiting none [], _, rfl, rfl, rfl, 9, rfl⟩,
   ⟨sending (.reply pong) .none (some pong) [], _, pong, rfl, rfl, rfl, rfl, rfl⟩,
   ⟨sending (.reply pong) .waiting none [], _, rfl, rfl, rfl, fun _ _ h => by cases h⟩,
   ⟨sending (.reply pong) .none (some pong) [longPing], _, pong, longPing, [], .length, rfl, rfl, rfl, rfl, rfl, rfl⟩,
   sending (.reply pong) .none (some pong) [identFrame], _, pong, identFrame, [], .getIdent, rfl, rfl, rfl, rfl, rfl, rfl⟩

theorem quiet_handles : CanHandle (st quiet) := ⟨rfl, rfl⟩

theorem witness_ReadingCommandsReadAndChangeNothing :
    (∃ s : State, CanHandle s) ∧
    (∃ (s : State) (a n : Byte), CanHandle s ∧ s.part.startUp.top ≠ .surveying ∧ 1 ≤ a.toNat ∧ 1 ≤ n.toNat ∧
      n.toNat ≤ 16 ∧ a.toNat + n.toNat = 36) ∧
    (∃ (s : State) (k : Byte), CanHandle s ∧ s.part.startUp.top ≠ .surveying ∧ k.toNat = 16 ∧
      s.part.sched.queue.length < k.toNat) ∧
    (∃ (s : State) (k : Byte), CanHandle s ∧ s.part.startUp.top ≠ .surveying ∧ 1 ≤ k.toNat ∧ k.toNat ≤ 16 ∧
      k.toNat = s.part.sched.queue.length) ∧
    (∃ (s : State) (b k : Byte) (slot : SlotId) (r : Recipe), CanHandle s ∧ s.part.startUp.top ≠ .surveying ∧
      slotOf b = some slot ∧ s.part.recipe slot = some r ∧ 1 ≤ k.toNat ∧ k.toNat = r.phases.length) ∧
    (∃ (s : State) (b k : Byte) (slot : SlotId) (r : Recipe), CanHandle s ∧ s.part.startUp.top ≠ .surveying ∧
      slotOf b = some slot ∧ s.part.recipe slot = some r ∧ k.toNat ≤ 16 ∧ k.toNat = r.phases.length + 1) ∧
    (∃ (s : State) (b : Byte) (slot : SlotId), CanHandle s ∧ s.part.startUp.top ≠ .surveying ∧ slotOf b = some slot ∧
      s.part.recipe slot = none) ∧
    ∃ (s : State) (a n : Byte), CanHandle s ∧ s.part.startUp.top ≠ .surveying ∧ 1 ≤ n.toNat ∧ n.toNat = 8 ∧
      a.toNat + n.toNat = 112 :=
  ⟨⟨_, quiet_handles⟩, ⟨_, 20, 16, quiet_handles, nofun, by decide, by decide, by decide, rfl⟩,
   ⟨_, 16, quiet_handles, nofun, rfl, by decide⟩,
   ⟨st (queued routine quiet), 1, ⟨rfl, rfl⟩, nofun, by decide, by decide, rfl⟩,
   ⟨st (withSlot (recipeOf [.water, .rest]) quiet), 0, 2, 0, _, ⟨rfl, rfl⟩, nofun, rfl, rfl, by decide, rfl⟩,
   ⟨st (withSlot (recipeOf [.water, .rest]) quiet), 0, 3, 0, _, ⟨rfl, rfl⟩, nofun, rfl, rfl, by decide, rfl⟩,
   ⟨_, 7, 7, quiet_handles, nofun, by decide, rfl⟩, _, 104, 8, quiet_handles, nofun, by decide, by decide, rfl⟩

theorem witness_ReadingCommandsCheckTheirRanges :
    (∃ (s : State) (a n : Byte), CanHandle s ∧ s.part.startUp.top ≠ .surveying ∧ a.toNat + n.toNat = 37 ∧ n.toNat = 16) ∧
    (∃ (s : State) (a : Byte), CanHandle s ∧ s.part.startUp.top ≠ .surveying ∧ a.toNat = 17) ∧
    (∃ (s : State) (a : Byte), CanHandle s ∧ s.part.startUp.top ≠ .surveying ∧ a.toNat = 8) ∧
    ∃ (s : State) (a n : Byte), CanHandle s ∧ s.part.startUp.top ≠ .surveying ∧ a.toNat + n.toNat = 113 ∧ n.toNat = 8 :=
  ⟨⟨_, 21, 16, quiet_handles, nofun, rfl, rfl⟩, ⟨_, 17, quiet_handles, nofun, rfl⟩, ⟨_, 8, quiet_handles, nofun, rfl⟩,
   _, 105, 8, quiet_handles, nofun, rfl, rfl⟩

theorem witness_ReadingCommandsThatMoveTheLink :
    (∃ (s : State) (b : Byte) (f : FilterId), CanHandle s ∧ s.part.startUp.top ≠ .surveying ∧ filterOf b = some f ∧
      filtersFrom s.part (f.val + 1) = []) ∧
    (∃ (s : State) (n : Nat) (front : List FilterView) (v : FilterView), CanHandle s ∧ s.part.startUp.top ≠ .surveying ∧
      s.part.link.cursor = some n ∧ filtersFrom s.part n = front ++ [v]) ∧
    ∃ s : State, CanHandle s ∧ s.part.startUp.top ≠ .surveying ∧ s.part.link.cursor = none :=
  ⟨⟨_, 16, 15, quiet_handles, nofun, by decide, by decide +kernel⟩,
   ⟨st (onLink (fun k => { k with cursor := some 1 }) (withFilter .online quiet)), 1, [], _, ⟨rfl, rfl⟩, nofun, rfl, rfl⟩,
   _, quiet_handles, nofun, rfl⟩

theorem witness_FramesArriveAtTheLink :
    (∃ (s : State) (row : Instr) (f : Frame), s.part.live = true ∧ row.frame = some f ∧ s.part.link.queue.length = 2) ∧
    (∃ (s : State) (row : Instr) (f : Frame), s.part.live = true ∧ row.frame = some f ∧ s.part.link.queue.length = 1 ∧
      s.part.link.reply ≠ none) ∧
    (∃ (s : State) (row : Instr) (f : Frame) (c : HostCommand), s.part.live = true ∧ row.frame = some f ∧ CanHandle s ∧
      f.command = .ok c) ∧
    ∃ (s : State) (row : Instr) (f : Frame), s.part.live = true ∧ row.frame = some f ∧ CanHandle s ∧
      commandKinds.contains f.kind = false :=
  ⟨⟨sending (.reply pong) .none (some pong) [identFrame, identFrame], .getIdent 1, identFrame, rfl, rfl, rfl⟩,
   ⟨sending (.reply pong) .none (some pong) [identFrame], .getIdent 1, identFrame, rfl, rfl, rfl, nofun⟩,
   ⟨_, .getIdent 1, identFrame, .getIdent, rfl, rfl, quiet_handles, rfl⟩,
   _, .unknownKindCommand 1 0x3F [], ⟨0x3F, 1, []⟩, rfl, rfl, quiet_handles, by decide +kernel⟩

theorem witness_TopStatesRefuseCommands :
    (∃ (s : State) (row : Instr) (tag : Byte) (c : HostCommand), CanHandle s ∧ s.part.startUp.top = .surveying ∧
      row.command = some (tag, c) ∧ ¬ AnyTopState c) ∧
    ∃ (s : State) (row : Instr) (tag : Byte) (c : HostCommand), CanHandle s ∧ s.part.startUp.top = .configuring ∧
      row.command = some (tag, c) ∧ NeedsOperating c :=
  ⟨⟨st (inTop .surveying quiet), .commission 0, 0, _, ⟨rfl, rfl⟩, rfl, rfl, id⟩,
   st (inTop .configuring quiet), .setMode 0 0, 0, _, ⟨rfl, rfl⟩, rfl, rfl, trivial⟩

/-! ### Witnesses: start-up commands, plant, points, filters -/

/-- CONFIGURING, the plant record received and the three sources set, filter 1 with its six roles and its recipe. -/
def configured : Part :=
  let pushed : Point := { Point.initial with source := .pushed }
  { inTop .configuring (onFront (fun k => { k with flow := pushed, tank := pushed, basin := pushed })
      (closedAll (withSlot (recipeOf [.water]) (withFilter .outOfService quiet)))) with plantReceived := true }

theorem configured_complete : PlantComplete configured := ⟨rfl, nofun, nofun, nofun, 0, _, rfl⟩

theorem lacks_none {p : Part} (h : ∀ f, p.filter f = none) (f : FilterId) : ¬ FilterLacks p f := by
  rintro ⟨r, hr, -⟩
  rw [h f] at hr
  cases hr

/-- Only filter 1 is defined. -/
theorem only_filter_1 {p : Part} {r : FilterRecord} (hp : p.table = (withRecord r quiet).table) {f : FilterId} (hf : f ≠ 0) :
    p.filter f = none := by
  have h : ∀ g, g ≠ 0 → (withRecord r quiet).filter g = none := by
    intro g hg
    show ((quiet.table.filters.set 0 (some r))[g.val]) = none
    rw [Vector.getElem_set_ne (by omega) (by omega) (by intro h; exact hg (Fin.ext h.symm))]
    show (Vector.replicate 16 none)[g.val] = none
    rw [Vector.getElem_replicate]
  show p.table.filters[f] = none
  rw [hp]
  exact h f hf

theorem witness_CommissionStartsTheSurvey :
    (∃ s : State, CanHandle s ∧ s.part.startUp.top = .operating) ∧
    (∃ s : State, CanHandle s ∧ s.part.startUp.top = .configuring ∧ s.part.plantReceived = false) ∧
    (∃ s : State, CanHandle s ∧ s.part.startUp.top = .configuring ∧ s.part.plantReceived = true ∧
      s.part.front.flow.source = .none) ∧
    (∃ s : State, CanHandle s ∧ s.part.startUp.top = .configuring ∧ s.part.plantReceived = true ∧
      s.part.front.flow.source ≠ .none ∧ s.part.front.tank.source = .none) ∧
    (∃ s : State, CanHandle s ∧ s.part.startUp.top = .configuring ∧ s.part.plantReceived = true ∧
      s.part.front.flow.source ≠ .none ∧ s.part.front.tank.source ≠ .none ∧ s.part.front.basin.source = .none) ∧
    (∃ s : State, CanHandle s ∧ s.part.startUp.top = .configuring ∧ s.part.plantReceived = true ∧
      s.part.front.flow.source ≠ .none ∧ s.part.front.tank.source ≠ .none ∧ s.part.front.basin.source ≠ .none ∧
      ∀ f, s.part.filter f = none) ∧
    (∃ (s : State) (f : FilterId) (rec : FilterRecord), CanHandle s ∧ s.part.startUp.top = .configuring ∧
      PlantComplete s.part ∧ s.part.filter f = some rec ∧ FilterLacks s.part f ∧ (∀ g, g < f → ¬ FilterLacks s.part g) ∧
      FirstRole (fun r => s.part.mapped f r = none) .inf) ∧
    (∃ (s : State) (f : FilterId) (rec : FilterRecord), CanHandle s ∧ s.part.startUp.top = .configuring ∧
      PlantComplete s.part ∧ s.part.filter f = some rec ∧ FilterLacks s.part f ∧ (∀ g, g < f → ¬ FilterLacks s.part g) ∧
      (∀ r, ¬ s.part.mapped f r = none) ∧
      FirstRole (fun r => ∃ ch, s.part.mapped f r = some ch ∧ (s.part.channel ch).locked = true) .inf) ∧
    (∃ (s : State) (f : FilterId) (rec : FilterRecord), CanHandle s ∧ s.part.startUp.top = .configuring ∧
      PlantComplete s.part ∧ s.part.filter f = some rec ∧ FilterLacks s.part f ∧ (∀ g, g < f → ¬ FilterLacks s.part g) ∧
      (∀ r, ¬ s.part.mapped f r = none) ∧ ∀ r, ¬ ∃ ch, s.part.mapped f r = some ch ∧ (s.part.channel ch).locked = true) ∧
    ∃ s : State, CanHandle s ∧ s.part.startUp.top = .configuring ∧ PlantComplete s.part ∧ ∀ f, ¬ FilterLacks s.part f := by
  have low : ∀ (p : Part) (g : FilterId), g < 0 → ¬ FilterLacks p g := fun _ g h => absurd h (Nat.not_lt_zero _)
  have first : ∀ r : Role, ¬ allRoles.idxOf r < allRoles.idxOf Role.inf := by intro r; cases r <;> decide
  refine ⟨⟨_, quiet_handles, rfl⟩, ⟨st (inTop .configuring quiet), ⟨rfl, rfl⟩, rfl, rfl⟩,
    ⟨st { inTop .configuring quiet with plantReceived := true }, ⟨rfl, rfl⟩, rfl, rfl, rfl⟩,
    ⟨st (onFront (fun k => { k with tank := Point.initial }) configured), ⟨rfl, rfl⟩, rfl, rfl, nofun, rfl⟩,
    ⟨st (onFront (fun k => { k with basin := Point.initial }) configured), ⟨rfl, rfl⟩, rfl, rfl, nofun, nofun, rfl⟩,
    ⟨st (configured.putFilter 0 none), ⟨rfl, rfl⟩, rfl, rfl, nofun, nofun, nofun, by decide +kernel⟩,
    ⟨st { configured with valves := { configured.valves with map := ValveField.initial.map } }, 0, _, ⟨rfl, rfl⟩, rfl,
      ⟨rfl, nofun, nofun, nofun, 0, _, rfl⟩, rfl, ⟨_, rfl, .inl ⟨.inf, rfl⟩⟩, low _, rfl, fun r h => absurd h (first r)⟩,
    ⟨st (configured.putChannel 0 { channelAt .closed .inf with locked := true }), 0, _, ⟨rfl, rfl⟩, rfl,
      ⟨rfl, nofun, nofun, nofun, 0, _, rfl⟩, rfl, ⟨_, rfl, .inr (.inl ⟨.inf, 0, rfl, rfl⟩)⟩, low _,
      fun r h => by (cases r <;> cases h), ⟨0, rfl, rfl⟩, fun r h => absurd h (first r)⟩,
    ⟨st { configured with recipes := ⟨Vector.replicate 8 none, none⟩ }, 0, _, ⟨rfl, rfl⟩, rfl,
      ⟨rfl, nofun, nofun, nofun, 0, _, rfl⟩, rfl, ⟨_, rfl, .inr (.inr rfl)⟩, low _, fun r h => by (cases r <;> cases h), ?_⟩,
    ⟨st configured, ⟨rfl, rfl⟩, rfl, configured_complete, fun f h => ?_⟩⟩
  · rintro r ⟨ch, hm, hl⟩
    cases r <;> cases hm <;> cases hl
  · obtain ⟨rec, hr, h⟩ := h
    by_cases hf : f = 0
    · subst hf
      cases hr
      rcases h with ⟨r, h⟩ | ⟨r, ch, hm, hl⟩ | h
      · cases r <;> cases h
      · cases r <;> cases hm <;> cases hl
      · cases h
    · rw [show (st configured).part.filter f = none from only_filter_1 (r := record .outOfService) rfl hf] at hr
      cases hr

theorem witness_topStates :
    (∃ s : State, CanHandle s ∧ s.part.startUp.top = .surveying) ∧
    ∃ s : State, CanHandle s ∧ s.part.startUp.top = .configuring :=
  ⟨⟨st (inTop .surveying quiet), ⟨rfl, rfl⟩, rfl⟩, st (inTop .configuring quiet), ⟨rfl, rfl⟩, rfl⟩

theorem witness_ModeMaskAndFlagCommands :
    (∃ s : State, CanHandle s ∧ s.part.startUp.top ≠ .surveying) ∧
    (∃ (s : State) (b : Byte), CanHandle s ∧ s.part.startUp.top = .operating ∧ modeOf b = none) ∧
    (∃ (s : State) (b : Byte) (m : PlantMode), CanHandle s ∧ s.part.startUp.top = .operating ∧ modeOf b = some m ∧
      m = s.part.sched.mode) ∧
    (∃ (s : State) (b : Byte) (m : PlantMode), CanHandle s ∧ s.part.startUp.top = .operating ∧ modeOf b = some m ∧
      m ≠ s.part.sched.mode) ∧
    (∃ (s : State) (b : Byte), CanHandle s ∧ s.part.startUp.top = .operating ∧ b.toNat = 64) ∧
    (∃ (s : State) (b : Byte), CanHandle s ∧ s.part.startUp.top = .operating ∧ b.toNat < 64 ∧
      b.setWidth 6 = s.part.sched.mask) ∧
    ∃ (s : State) (b : Byte), CanHandle s ∧ s.part.startUp.top = .operating ∧ b.toNat = 63 ∧
      b.setWidth 6 ≠ s.part.sched.mask :=
  ⟨⟨_, quiet_handles, nofun⟩, ⟨_, 3, quiet_handles, rfl, rfl⟩, ⟨_, 2, .paused, quiet_handles, rfl, rfl, rfl⟩,
   ⟨_, 0, .auto, quiet_handles, rfl, rfl, by decide⟩, ⟨_, 64, quiet_handles, rfl, rfl⟩, ⟨_, 0, quiet_handles, rfl, by decide, rfl⟩,
   _, 63, quiet_handles, rfl, rfl, by decide⟩

theorem vmax_out_of_range : ¬ PlantInRange { plantAtBounds with vmax := 301 } := by
  simp [PlantInRange, plantAtBounds]

theorem witness_SetPlantReplacesTheRecord :
    (∃ (s : State) (r : RawPlant), CanHandle s ∧ s.part.startUp.top ≠ .surveying ∧ ¬ PlantInRange r) ∧
    (∃ (s : State) (r : RawPlant), CanHandle s ∧ s.part.startUp.top ≠ .surveying ∧ PlantInRange r ∧
      s.part.startUp.top = .operating ∧ r.concurrency.toNat < s.part.busyLanes.length) ∧
    ∃ (s : State) (r : RawPlant), CanHandle s ∧ s.part.startUp.top ≠ .surveying ∧ PlantInRange r ∧
      s.part.startUp.top = .operating ∧ ¬ r.concurrency.toNat < s.part.busyLanes.length ∧ (∀ l, s.part.lane l = none) ∧
      (plantWritten r).polarity = s.part.plant.polarity := by
  refine ⟨⟨_, _, quiet_handles, nofun, vmax_out_of_range⟩,
    ⟨st ((washing .water running).putLane .b (some running)), plantAtBounds, ⟨rfl, rfl⟩, nofun, plant_in_range, rfl,
      by decide +kernel⟩,
    _, plantAtBounds, quiet_handles, nofun, plant_in_range, rfl, by decide +kernel, fun l => by cases l <;> rfl, by decide +kernel⟩

/-- SET_POINT is accepted. -/
def TakesSource (s : State) (id : PointId) (source input : Byte) (lo hi : Half) (src : PointSource) : Prop :=
  CanHandle s ∧ s.part.startUp.top ≠ .surveying ∧ SourceNamed id source input lo hi src ∧
    (∀ i lo hi, src = .analog i lo hi → ∀ other, other ≠ id → ¬ HasInput s.part other i) ∧
    ¬ (s.part.startUp.top = .operating ∧ src = .none ∧ (id = .flow ∨ id = .tank ∨ id = .basin))

theorem takes_pushed {p : Part} {id : PointId} (h1 : p.live = true) (h2 : p.linkReady = true)
    (h3 : p.startUp.top ≠ .surveying) : TakesSource (st p) id 2 0 0 0 .pushed :=
  ⟨⟨h1, h2⟩, h3, .inr (.inl ⟨rfl, rfl, rfl, rfl, rfl⟩), nofun, fun h => nomatch h.2.1⟩

theorem witness_SetPointStartsThePointAfresh :
    (∃ (s : State) (point : Byte), CanHandle s ∧ s.part.startUp.top ≠ .surveying ∧ point.toNat = 36) ∧
    (∃ (s : State) (point source input : Byte) (lo hi : Half) (id : PointId), CanHandle s ∧
      s.part.startUp.top ≠ .surveying ∧ pointIndex id = point.toNat ∧ ∀ src, ¬ SourceNamed id source input lo hi src) ∧
    (∃ (s : State) (source input : Byte) (lo hi : Half) (id other : PointId) (src : PointSource) (i : InputId) (a b : Nat),
      CanHandle s ∧ s.part.startUp.top ≠ .surveying ∧ SourceNamed id source input lo hi src ∧ src = .analog i a b ∧
      HasInput s.part other i ∧ ¬ HasInput s.part id i) ∧
    (∃ (s : State) (source input : Byte) (lo hi : Half) (id : PointId) (src : PointSource), CanHandle s ∧
      SourceNamed id source input lo hi src ∧ s.part.startUp.top = .operating ∧ src = .none ∧ id = .flow) ∧
    (∃ s id source input lo hi src, TakesSource s id source input lo hi src ∧ id = .flow) ∧
    (∃ s id source input lo hi src, TakesSource s id source input lo hi src ∧ id = .tank ∧
      (s.part.point id).quality ≠ .none) ∧
    ∃ s id source input lo hi src, TakesSource s id source input lo hi src ∧ id = .basin ∧
      (s.part.point id).quality = .none ∧ (s.part.point id).value = none := by
  refine ⟨⟨_, 36, quiet_handles, nofun, rfl⟩, ⟨_, 35, 3, 0, 0, 0, .basin, quiet_handles, nofun, rfl, ?_⟩,
    ⟨st scanned, 1, 3, 0, 10000, .tank, .flow, _, 3, 0, 10000, ⟨rfl, rfl⟩, nofun,
      .inr (.inr ⟨rfl, 3, rfl, by decide, by decide, rfl⟩), rfl, ⟨_, _, rfl⟩, fun ⟨_, _, h⟩ => by cases h⟩,
    ⟨_, 0, 0, 0, 0, .flow, .none, quiet_handles, .inl ⟨rfl, rfl, rfl, rfl, rfl⟩, rfl, rfl, rfl⟩,
    ⟨st quiet, .flow, 2, 0, 0, 0, .pushed, takes_pushed rfl rfl nofun, rfl⟩,
    ⟨st (levels 100 100 quiet), .tank, 2, 0, 0, 0, .pushed, takes_pushed rfl rfl nofun, rfl, nofun⟩,
    st quiet, .basin, 2, 0, 0, 0, .pushed, takes_pushed rfl rfl nofun, rfl, rfl, rfl⟩
  rintro src (⟨h, -⟩ | ⟨h, -⟩ | ⟨h, -⟩) <;> cases h

def pushedPoints : Part :=
  let x : Point := { Point.initial with source := .pushed }
  onFront (fun k => { k with tank := x, basin := x }) quiet

theorem witness_PutMeasurePushesEveryPair :
    (∃ (s : State) (pairs : List (Byte × Half)), CanHandle s ∧ s.part.startUp.top ≠ .surveying ∧ pairs.length = 17) ∧
    (∃ (s : State) (pairs : List (Byte × Half)), CanHandle s ∧ s.part.startUp.top ≠ .surveying ∧ 1 ≤ pairs.length ∧
      pairs.length ≤ 16 ∧ ∀ ids, ¬ PairsName pairs ids) ∧
    (∃ (s : State) (pairs : List (Byte × Half)) (ids : List PointId), CanHandle s ∧ s.part.startUp.top ≠ .surveying ∧
      1 ≤ pairs.length ∧ pairs.length ≤ 16 ∧ PairsName pairs ids ∧ ∃ id ∈ ids, (s.part.point id).source ≠ .pushed) ∧
    ∃ (s : State) (pairs : List (Byte × Half)) (ids : List PointId), CanHandle s ∧ s.part.startUp.top ≠ .surveying ∧
      1 ≤ pairs.length ∧ pairs.length ≤ 16 ∧ PairsName pairs ids ∧ ∀ id ∈ ids, (s.part.point id).source = .pushed := by
  refine ⟨⟨_, List.replicate 17 (34, 0), quiet_handles, nofun, rfl⟩,
    ⟨_, [(36, 0)], quiet_handles, nofun, by decide, by decide, ?_⟩,
    ⟨_, [(33, 100)], [.flow], quiet_handles, nofun, by decide, by decide, ⟨rfl, by decide⟩, .flow, by simp, nofun⟩,
    st pushedPoints, [(34, 65535), (35, 100)], [.tank, .basin], ⟨rfl, rfl⟩, nofun, by decide, by decide, ⟨rfl, by decide⟩, ?_⟩
  · rintro ids ⟨h, -⟩
    cases ids with
    | nil => cases h
    | cons id rest =>
      have : pointIndex id = 36 := (List.cons.inj h).1
      cases id <;> simp only [pointIndex] at this <;> omega
  · intro id h
    simp only [List.mem_cons, List.not_mem_nil, or_false] at h
    rcases h with rfl | rfl <;> rfl

def filterFields : RawFilter := ⟨3000, 4900, 5000, 2000, 10080, 240, 0, 2, 0⟩

theorem witness_SetFilterDefinesAndUndefines :
    (∃ (s : State) (b : Byte), CanHandle s ∧ s.part.startUp.top ≠ .surveying ∧ filterOf b = none) ∧
    (∃ (s : State) (b : Byte) (f : FilterId) (rec : FilterRecord), CanHandle s ∧ filterOf b = some f ∧
      s.part.startUp.top = .operating ∧ s.part.filter f = some rec ∧ rec.state ≠ .outOfService) ∧
    (∃ (s : State) (b : Byte) (f : FilterId) (c : RawFilter), CanHandle s ∧ s.part.startUp.top ≠ .surveying ∧
      filterOf b = some f ∧ s.part.filter f = none ∧ ∀ slot d, ¬ FilterFields s.part c slot d) ∧
    (∃ (s : State) (b : Byte) (f : FilterId) (c : RawFilter) (slot : SlotId) (d : Destination), CanHandle s ∧
      s.part.startUp.top ≠ .surveying ∧ filterOf b = some f ∧ s.part.filter f = none ∧ FilterFields s.part c slot d) ∧
    ∃ (s : State) (b : Byte) (f : FilterId) (c : RawFilter) (slot : SlotId) (d : Destination) (rec : FilterRecord),
      CanHandle s ∧ s.part.startUp.top ≠ .surveying ∧ filterOf b = some f ∧ s.part.filter f = some rec ∧
      rec.state = .outOfService ∧ rec.runSec = 60 ∧ FilterFields s.part c slot d :=
  have fits : ∀ p : Part, p.recipe 0 = some (recipeOf [.water]) → FilterFields p filterFields 0 .standby := fun p h =>
    ⟨by decide, by decide, by decide, by decide, by decide, by decide, ⟨rfl, by rw [h]; nofun⟩, .inr ⟨rfl, rfl⟩⟩
  ⟨⟨_, 17, quiet_handles, nofun, rfl⟩, ⟨st (withFilter .online quiet), 1, 0, _, ⟨rfl, rfl⟩, rfl, rfl, rfl, by decide⟩,
   ⟨_, 16, 15, { filterFields with area := 3001 }, quiet_handles, nofun, by decide, rfl, fun _ _ h => absurd h.1.2 (by decide)⟩,
   ⟨st (withSlot (recipeOf [.water]) quiet), 16, 15, filterFields, 0, .standby, ⟨rfl, rfl⟩, nofun, by decide, rfl, fits _ rfl⟩,
   st (withSlot (recipeOf [.water]) (withRecord { record .outOfService with runSec := 60 } quiet)), 1, 0, filterFields, 0,
   .standby, _, ⟨rfl, rfl⟩, nofun, rfl, rfl, rfl, rfl, fits _ rfl⟩

/-- OPERATING and the host's command on filter 1, which has this record. -/
def OnFilter1 (s : State) (rec : FilterRecord) : Prop :=
  CanHandle s ∧ s.part.startUp.top = .operating ∧ filterOf 1 = some 0 ∧ s.part.filter 0 = some rec

theorem witness_FilterCommandsMoveTheFilter :
    (∃ (s : State) (row : Instr) (tag b : Byte) (c : HostCommand), CanHandle s ∧ s.part.startUp.top = .operating ∧
      row.command = some (tag, c) ∧ OnOneFilter c b ∧ filterOf b = none) ∧
    (∃ (s : State) (row : Instr) (tag b : Byte) (c : HostCommand) (rec : FilterRecord), OnFilter1 s rec ∧ b = 1 ∧
      row.command = some (tag, c) ∧ OnOneFilter c b ∧ rec.transfer ≠ none) ∧
    (∃ s rec, OnFilter1 s rec ∧ rec.transfer = none ∧ ∃ l, rec.state = .washing l) ∧
    (∃ s rec, OnFilter1 s rec ∧ rec.transfer = none ∧ rec.state = .stranded) ∧
    (∃ s rec, OnFilter1 s rec ∧ rec.transfer = none ∧ rec.state = .online) ∧
    (∃ s rec, OnFilter1 s rec ∧ rec.transfer = none ∧ ∃ c, rec.state = .faulted c) ∧
    (∃ s rec, OnFilter1 s rec ∧ rec.transfer = none ∧ rec.state = .outOfService ∧ ¬ ∀ r, RoleUsable s.part 0 r) ∧
    (∃ s rec, OnFilter1 s rec ∧ rec.transfer = none ∧ rec.state = .outOfService ∧ (∀ r, RoleUsable s.part 0 r) ∧
      ¬ ∀ r, RestsAt s.part 0 r .closed) ∧
    ∃ s rec, OnFilter1 s rec ∧ rec.transfer = none ∧ rec.state = .outOfService ∧ (∀ r, RoleUsable s.part 0 r) ∧
      ∀ r, RestsAt s.part 0 r .closed := by
  refine ⟨⟨_, .takeOut 0 0, 0, 0, _, quiet_handles, rfl, rfl, rfl, rfl⟩,
    ⟨st (withRecord { record .standby with transfer := some ⟨.toService, 1⟩ } quiet), .defer 0 1 60, 0, 1, _, _,
      ⟨⟨rfl, rfl⟩, rfl, rfl, rfl⟩, rfl, rfl, rfl, nofun⟩,
    ⟨st (withFilter (.washing .a) quiet), _, ⟨⟨rfl, rfl⟩, rfl, rfl, rfl⟩, rfl, .a, rfl⟩,
    ⟨st (withFilter .stranded quiet), _, ⟨⟨rfl, rfl⟩, rfl, rfl, rfl⟩, rfl, rfl⟩,
    ⟨st (withFilter .online quiet), _, ⟨⟨rfl, rfl⟩, rfl, rfl, rfl⟩, rfl, rfl⟩,
    ⟨st (withFilter (.faulted .survey) quiet), _, ⟨⟨rfl, rfl⟩, rfl, rfl, rfl⟩, rfl, .survey, rfl⟩,
    ⟨st (withFilter .outOfService quiet), _, ⟨⟨rfl, rfl⟩, rfl, rfl, rfl⟩, rfl, rfl, ?_⟩,
    ⟨st (piped inService (withFilter .outOfService quiet)), _, ⟨⟨rfl, rfl⟩, rfl, rfl, rfl⟩, rfl, rfl, ?_, ?_⟩,
    ⟨st (closedAll (withFilter .outOfService quiet)), _, ⟨⟨rfl, rfl⟩, rfl, rfl, rfl⟩, rfl, rfl, ?_, ?_⟩⟩
  · intro h
    obtain ⟨ch, hm, -⟩ := h .inf
    cases hm
  · intro r
    cases r <;> exact ⟨_, rfl, rfl⟩
  · intro h
    obtain ⟨ch, hm, hr⟩ := h .inf
    cases hm
    rcases hr with ⟨h, -⟩ | ⟨-, h⟩ <;> cases h
  · intro r
    cases r <;> exact ⟨_, rfl, rfl⟩
  · intro r
    cases r <;> exact ⟨_, rfl, .inr ⟨rfl, rfl⟩⟩

/-- Filter 1 in a state, its roles as given, mapped both ways. -/
def ready (x : FilterState) (at' : Role → ChannelState) : State := st (piped at' (withFilter x quiet))

/-- TO_SERVICE of filter 1 is accepted. -/
def ToService (s : State) (rec : FilterRecord) : Prop :=
  OnFilter1 s rec ∧ rec.transfer = none ∧ rec.state = .standby ∧ s.part.entry 0 = none

/-- TO_STANDBY of filter 1 is accepted: filter 2 carries the load. -/
def ToStandby (s : State) (rec : FilterRecord) : Prop :=
  OnFilter1 s rec ∧ rec.transfer = none ∧ rec.state = .online ∧ s.part.entry 0 = none ∧
    loadingWithout s.part rec.cfg.area ≤ s.part.plant.vmax

theorem toService_of (x : Role → ChannelState) : ToService (ready .standby x) (record .standby) :=
  ⟨⟨⟨rfl, rfl⟩, rfl, rfl, rfl⟩, rfl, rfl, rfl⟩

theorem toStandby_of (x : Role → ChannelState) : ToStandby (st (beside .online (ready .online x).part)) (record .online) := by
  refine ⟨⟨⟨rfl, rfl⟩, rfl, rfl, rfl⟩, rfl, rfl, rfl, ?_⟩
  show loadingWithout (beside .online (withFilter .online quiet)) 400 ≤ 100
  decide +kernel

/-- INF has a state, the other roles CLOSED. -/
def infAt (x : ChannelState) : Role → ChannelState
  | .inf => x
  | _ => .closed

/-- EFF has a state, INF is CLOSED like the rest. -/
def effAt (x : ChannelState) : Role → ChannelState
  | .eff => x
  | _ => .closed

/-- EFF is OPEN, INF has a state, the rest are CLOSED. -/
def lastStep (x : ChannelState) : Role → ChannelState
  | .eff => .opened
  | .inf => x
  | _ => .closed

theorem witness_TransfersStart :
    (∃ s rec, OnFilter1 s rec ∧ rec.transfer = none ∧ rec.state ≠ .online ∧ rec.state ≠ .standby) ∧
    (∃ s rec, OnFilter1 s rec ∧ rec.transfer = none ∧ rec.state = .online ∧ s.part.entry 0 = none ∧
      s.part.plant.vmax < loadingWithout s.part rec.cfg.area) ∧
    (∃ s rec, ToService s rec ∧ s.part.stopAsserted = true) ∧ (∃ s rec, ToService s rec ∧ WaitsIn s.part .toService 1) ∧
    (∃ s rec, ToService s rec ∧ WaitsIn s.part .toService 3) ∧ (∃ s rec, ToService s rec ∧ FaultsIn s.part .toService 1) ∧
    (∃ s rec, ToService s rec ∧ FaultsIn s.part .toService 3) ∧
    (∃ s rec, ToService s rec ∧ CompletesAtOnce s.part .toService) ∧ (∃ s rec, ToStandby s rec ∧ WaitsIn s.part .toStandby 1) ∧
    (∃ s rec, ToStandby s rec ∧ WaitsIn s.part .toStandby 2) ∧ (∃ s rec, ToStandby s rec ∧ FaultsIn s.part .toStandby 1) ∧
    ∃ s rec, ToStandby s rec ∧ CompletesAtOnce s.part .toStandby := by
  refine ⟨⟨st (withFilter .stranded quiet), _, ⟨⟨rfl, rfl⟩, rfl, rfl, rfl⟩, rfl, by decide, by decide⟩,
    ⟨st (withFilter .online quiet), _, ⟨⟨rfl, rfl⟩, rfl, rfl, rfl⟩, rfl, rfl, rfl, by decide +kernel⟩,
    ⟨st (withStop .asserted (withFilter .standby quiet)), _, ⟨⟨⟨rfl, rfl⟩, rfl, rfl, rfl⟩, rfl, rfl, rfl⟩, rfl⟩,
    ⟨_, _, toService_of (air .closed), waitsIn_of (x := air .closed) rfl (by decide) (by decide) (by decide) (by decide)⟩,
    ⟨_, _, toService_of (lastStep .unknown),
      waitsIn_of (x := lastStep .unknown) rfl (by decide) (by decide) (by decide) (by decide)⟩,
    ⟨_, _, toService_of (air (.fault .travel)),
      faultsIn_of (x := air (.fault .travel)) rfl (by decide) (by decide) [(.bww, .closed)] .air .closed _ rfl (by decide) rfl⟩,
    ⟨_, _, toService_of (lastStep (.fault .travel)),
      faultsIn_of (x := lastStep (.fault .travel)) rfl (by decide) (by decide) [] .inf .opened _ rfl (by decide) rfl⟩,
    ⟨_, _, toService_of inService, completes_of (x := inService) rfl (by decide)⟩,
    ⟨_, _, toStandby_of (infAt .unknown),
      waitsIn_of (x := infAt .unknown) rfl (by decide) (by decide) (by decide) (by decide)⟩,
    ⟨_, _, toStandby_of (effAt .unknown),
      waitsIn_of (x := effAt .unknown) rfl (by decide) (by decide) (by decide) (by decide)⟩,
    ⟨_, _, toStandby_of (infAt (.fault .travel)),
      faultsIn_of (x := infAt (.fault .travel)) rfl (by decide) (by decide) [] .inf .closed _ rfl (by decide) rfl⟩,
    ⟨_, _, toStandby_of (fun _ => .closed), completes_of (x := fun _ => .closed) rfl (by decide)⟩⟩

/-! ### Witnesses: queue, proposals, recipes, units and valves by command -/

/-- Filter 1 in a state with an entry. -/
def asked (x : FilterState) (e : Entry) : State := st (queued e (withSlot (recipeOf [.water]) (withFilter x quiet)))

theorem no_slot_8 (p : Part) (x : Option SlotId) : ¬ OverrideNamed p 8 x := by
  rintro (⟨h, -⟩ | ⟨slot, h, -⟩)
  · cases h
  · have := slot.isLt
    have : (8 : Byte).toNat = 8 := rfl
    omega

theorem witness_EntriesFollowTheHost :
    (∃ s rec o, OnFilter1 s rec ∧ rec.transfer = none ∧ ∀ x, ¬ OverrideNamed s.part o x) ∧
    (∃ s rec o x, OnFilter1 s rec ∧ rec.transfer = none ∧ OverrideNamed s.part o x ∧ s.part.entry 0 = none ∧
      rec.state = .standby) ∧
    (∃ s rec o x, OnFilter1 s rec ∧ rec.transfer = none ∧ OverrideNamed s.part o x ∧ s.part.entry 0 = none ∧
      rec.state ≠ .online ∧ rec.state ≠ .standby) ∧
    (∃ s rec o x e, OnFilter1 s rec ∧ rec.transfer = none ∧ OverrideNamed s.part o x ∧ s.part.entry 0 = some e ∧
      ¬ (rec.state = .online ∧ (e.cls = .terminal ∨ e.cls = .routine ∨ e.cls = .early))) ∧
    (∃ s rec o x e, OnFilter1 s rec ∧ rec.transfer = none ∧ OverrideNamed s.part o x ∧ s.part.entry 0 = some e ∧
      rec.state = .online ∧ e.cls = .routine ∧ ProposalFor s.part 0) ∧
    (∃ s rec o x e, OnFilter1 s rec ∧ rec.transfer = none ∧ OverrideNamed s.part o x ∧ s.part.entry 0 = some e ∧
      rec.state = .online ∧ e.cls = .routine ∧ ¬ ProposalFor s.part 0) ∧
    (∃ s rec e, OnFilter1 s rec ∧ rec.transfer = none ∧ s.part.entry 0 = some e ∧ e.cls ≠ .manual ∧ e.cls ≠ .early) ∧
    (∃ s rec e, OnFilter1 s rec ∧ rec.transfer = none ∧ s.part.entry 0 = some e ∧ e.cls = .manual) ∧
    (∃ (s : State) (rec : FilterRecord) (m : Half), OnFilter1 s rec ∧ rec.transfer = none ∧ m.toNat = 1441) ∧
    (∃ (s : State) (rec : FilterRecord) (m : Half), OnFilter1 s rec ∧ rec.transfer = none ∧ m.toNat = 1440 ∧ s.part.entry 0 = none) ∧
    ∃ (s : State) (rec : FilterRecord) (m : Half) (e : Entry), OnFilter1 s rec ∧ rec.transfer = none ∧ m.toNat = 1440 ∧
      s.part.entry 0 = some e := by
  have none_named : ∀ p, OverrideNamed p 255 none := fun p => .inl ⟨rfl, rfl⟩
  exact ⟨⟨st (withFilter .online quiet), _, 8, ⟨⟨rfl, rfl⟩, rfl, rfl, rfl⟩, rfl, no_slot_8 _⟩,
    ⟨st (withSlot (recipeOf [.water]) (withFilter .standby quiet)), _, 0, some 0, ⟨⟨rfl, rfl⟩, rfl, rfl, rfl⟩, rfl,
      .inr ⟨0, rfl, nofun, rfl⟩, rfl, rfl⟩,
    ⟨st (withFilter .stranded quiet), _, 255, none, ⟨⟨rfl, rfl⟩, rfl, rfl, rfl⟩, rfl, none_named _, rfl, by decide, by decide⟩,
    ⟨asked .standby routine, _, 255, none, routine, ⟨⟨rfl, rfl⟩, rfl, rfl, rfl⟩, rfl, none_named _, rfl,
      fun h => nomatch h.1⟩,
    ⟨st (proposed (asked .online routine).part), _, 255, none, routine, ⟨⟨rfl, rfl⟩, rfl, rfl, rfl⟩, rfl, none_named _, rfl,
      rfl, rfl, _, rfl, rfl⟩,
    ⟨asked .online routine, _, 255, none, routine, ⟨⟨rfl, rfl⟩, rfl, rfl, rfl⟩, rfl, none_named _, rfl, rfl, rfl,
      fun ⟨_, h, _⟩ => by cases h⟩,
    ⟨asked .online routine, _, routine, ⟨⟨rfl, rfl⟩, rfl, rfl, rfl⟩, rfl, rfl, by decide, by decide⟩,
    ⟨asked .online (entryOf .manual none), _, entryOf .manual none, ⟨⟨rfl, rfl⟩, rfl, rfl, rfl⟩, rfl, rfl, rfl⟩,
    ⟨asked .online routine, _, 1441, ⟨⟨rfl, rfl⟩, rfl, rfl, rfl⟩, rfl, rfl⟩,
    ⟨st (withFilter .online quiet), _, 1440, ⟨⟨rfl, rfl⟩, rfl, rfl, rfl⟩, rfl, rfl, rfl⟩,
    ⟨asked .online routine, _, 1440, routine, ⟨⟨rfl, rfl⟩, rfl, rfl, rfl⟩, rfl, rfl, rfl⟩⟩

/-- The hypotheses of an ACCEPT of filter 1's proposal. -/
def Accepting (s : State) (e : Entry) (rec : FilterRecord) (r : Recipe) : Prop :=
  OnFilter1 s rec ∧ ProposalFor s.part 0 ∧ s.part.entry 0 = some e ∧ s.part.recipe (e.override.getD rec.cfg.slot) = some r

theorem accepting_of {p : Part} {e : Entry} {rec : FilterRecord} {r : Recipe} (h1 : p.live = true) (h2 : p.linkReady = true)
    (h3 : p.startUp.top = .operating) (h4 : p.filter 0 = some rec) (h5 : p.sched.proposal = some ⟨0, 60⟩)
    (h6 : p.entry 0 = some e) (h7 : p.recipe (e.override.getD rec.cfg.slot) = some r) : Accepting (st p) e rec r :=
  ⟨⟨⟨h1, h2⟩, h3, rfl, h4⟩, ⟨_, h5, rfl⟩, h6, h7⟩

theorem witness_HostAnswersProposals :
    (∃ (s : State) (b : Byte), CanHandle s ∧ s.part.startUp.top = .operating ∧ filterOf b = none) ∧
    (∃ (s : State) (b : Byte) (f : FilterId), CanHandle s ∧ s.part.startUp.top = .operating ∧ filterOf b = some f ∧
      ¬ ProposalFor s.part f) ∧
    TestCases (fun p e rec r => Accepting (st p) e rec r) ∧
    PassCases (fun p e rec r => Accepting (st p) e rec r) fun p _ => p.sched.mode = .directed := by
  have accepts : ∀ {p : Part} {x : FilterState}, Asks .directed terminal x (some ⟨0, 60⟩) p →
      Accepting (st p) terminal (record x) (recipeOf [.water]) := by
    rintro p x ⟨h1, h2, h3, -, -, h6, -, h8, h9, h10⟩
    refine accepting_of h1 h2 h3 h9 h8 ?_ h10
    show p.sched.queue.find? _ = some terminal
    rw [h6]
    decide
  refine ⟨⟨_, 0, quiet_handles, rfl, rfl⟩, ⟨_, 1, 0, quiet_handles, rfl, rfl, fun ⟨_, h, _⟩ => by cases h⟩,
    (testCases .directed terminal (by decide) (some ⟨0, 60⟩)).imp fun p e rec r h => ?_,
    (passCases .directed terminal (some ⟨0, 60⟩)).imp fun p e rec r h => ?_⟩ <;>
  · obtain ⟨rfl, rfl, x, rfl, h⟩ := h
    exact accepts h

def drainRecord : RawPhase := ⟨0, 60, 0, 300, 0, 0⟩
def airRecord : RawPhase := ⟨1, 60, 0, 0, 0, 0⟩
def waterRecord : RawPhase := ⟨3, 10, 50, 0, 0, 0⟩

theorem water_passes (rs : List RawPhase) (i : Nat) (h : rs[i]? = some waterRecord) : RecordPasses rs i :=
  ⟨waterRecord, .water, h, .inr (.inr (.inr (.inl ⟨rfl, rfl⟩))), by decide, ⟨by decide, rfl, rfl, rfl⟩, nofun, fun h => by
    rcases h with h | h <;> cases h⟩

theorem drain_passes (rs : List RawPhase) (i : Nat) (h : rs[i]? = some drainRecord) : RecordPasses rs i :=
  ⟨drainRecord, .drain, h, .inl ⟨rfl, rfl⟩, by decide, ⟨rfl, by decide, rfl, rfl⟩, nofun, fun h => by
    rcases h with h | h <;> cases h⟩

def staged (n : Nat) (rs : List RawPhase) (p : Part) : Part :=
  { p with recipes := { p.recipes with staging := some ⟨0, n, rs⟩ } }

/-- CanHandle outside SURVEYING with an open staging buffer that a RECIPE_PHASES of these records completes. -/
def Completes (s : State) (rs held : List RawPhase) : Prop :=
  CanHandle s ∧ s.part.startUp.top ≠ .surveying ∧ 1 ≤ rs.length ∧ rs.length ≤ 8 ∧ ∃ st, s.part.recipes.staging = some st ∧
    held = st.records ++ rs ∧ held.length = st.count

theorem witness_RecipesAreInstalledAndErased :
    (∃ (b n : Byte), ¬ (b.toNat ≤ 7 ∧ 1 ≤ n.toNat ∧ n.toNat ≤ 16)) ∧
    (∃ (s : State) (b n : Byte) (slot : SlotId), CanHandle s ∧ s.part.startUp.top ≠ .surveying ∧ b.toNat = slot.val ∧
      1 ≤ n.toNat ∧ n.toNat = 16) ∧
    (∃ rs : List RawPhase, rs.length = 9) ∧
    (∃ (s : State) (rs : List RawPhase) (x : Staging), CanHandle s ∧ s.part.startUp.top ≠ .surveying ∧ rs.length = 8 ∧
      s.part.recipes.staging = some x ∧ x.count < (x.records ++ rs).length) ∧
    (∃ (s : State) (rs : List RawPhase) (x : Staging), CanHandle s ∧ s.part.startUp.top ≠ .surveying ∧ rs.length = 1 ∧
      s.part.recipes.staging = some x ∧ (x.records ++ rs).length < x.count) ∧
    (∃ s rs held, Completes s rs held ∧ Offending held 1) ∧
    (∃ s rs held, Completes s rs held ∧ Offending held 0) ∧
    (∃ s rs held, Completes s rs held ∧ RecipeValid held ∧ LaneRuns s.part 0) ∧
    (∃ s rs held, Completes s rs held ∧ RecipeValid held ∧ ¬ LaneRuns s.part 0) ∧
    (∃ (s : State) (slot : SlotId), CanHandle s ∧ ∃ f rec, s.part.filter f = some rec ∧ rec.cfg.slot = slot) ∧
    ∃ (s : State) (slot : SlotId), CanHandle s ∧ s.part.startUp.top ≠ .surveying ∧
      (¬ ∃ f rec, s.part.filter f = some rec ∧ rec.cfg.slot = slot) ∧ ¬ LaneRuns s.part slot ∧ s.part.recipe slot ≠ none := by
  have idle : ∀ p : Part, p.lanes = ⟨none, none⟩ → ∀ slot, ¬ LaneRuns p slot := by
    rintro p hp slot ⟨l, w, hw, -⟩
    rw [show p.lane l = none by cases l <;> simp [Part.lane, PerLane.get, hp]] at hw
    cases hw
  have valid : RecipeValid [drainRecord, waterRecord] := by
    refine ⟨fun i h => ?_, waterRecord, by simp, rfl⟩
    match i, h with
    | 0, _ => exact drain_passes _ 0 rfl
    | 1, _ => exact water_passes _ 1 rfl
  refine ⟨⟨8, 1, by decide⟩, ⟨_, 7, 16, 7, quiet_handles, nofun, rfl, by decide, rfl⟩, ⟨List.replicate 9 waterRecord, rfl⟩,
    ⟨st (staged 8 [waterRecord] quiet), List.replicate 8 waterRecord, _, ⟨rfl, rfl⟩, nofun, rfl, rfl, by decide⟩,
    ⟨st (staged 2 [] quiet), [waterRecord], _, ⟨rfl, rfl⟩, nofun, rfl, rfl, by decide⟩,
    ⟨st (staged 1 [] quiet), [airRecord], _, ⟨⟨rfl, rfl⟩, nofun, by decide, by decide, _, rfl, rfl, rfl⟩, ?_⟩,
    ⟨st (staged 1 [] quiet), [drainRecord], _, ⟨⟨rfl, rfl⟩, nofun, by decide, by decide, _, rfl, rfl, rfl⟩, ?_⟩,
    ⟨st (staged 2 [drainRecord] (washing .rest running)), [waterRecord], _,
      ⟨⟨rfl, rfl⟩, nofun, by decide, by decide, _, rfl, rfl, rfl⟩, valid, .a, running, rfl, rfl⟩,
    ⟨st (staged 2 [drainRecord] quiet), [waterRecord], _,
      ⟨⟨rfl, rfl⟩, nofun, by decide, by decide, _, rfl, rfl, rfl⟩, valid, idle _ rfl 0⟩,
    ⟨st (withFilter .online quiet), 0, ⟨rfl, rfl⟩, 0, _, rfl, rfl⟩,
    ⟨st (withSlot (recipeOf [.water]) quiet), 0, ⟨rfl, rfl⟩, nofun, ?_, idle _ rfl 0, nofun⟩⟩
  · refine .inl ⟨0, rfl, by decide, ?_, nofun⟩
    rintro ⟨r, k, hr, hk, -, -, -, h⟩
    cases hr
    have hk' : k = .air := by
      rcases hk with ⟨h, -⟩ | ⟨-, h⟩ | ⟨h, -⟩ | ⟨h, -⟩ | ⟨h, -⟩ | ⟨h, -⟩
      · cases h
      · exact h
      all_goals cases h
    obtain ⟨j, x, hj, -⟩ := h (.inl hk')
    exact absurd hj (Nat.not_lt_zero j)
  · refine .inr ⟨rfl, fun i h => ?_, fun r h => ?_⟩
    · match i, h with
      | 0, _ => exact drain_passes _ 0 rfl
    · have : r = drainRecord := by simpa [staged] using h
      rw [this]
      decide
  · rintro ⟨f, rec, hf, -⟩
    have none_defined : ∀ f, (withSlot (recipeOf [.water]) quiet).filter f = none := by decide +kernel
    rw [show (st (withSlot (recipeOf [.water]) quiet)).part.filter f = none from none_defined f] at hf
    cases hf

theorem witness_UnitsAreLockedUnlockedAndReset :
    (∃ (s : State) (b : Byte), CanHandle s ∧ s.part.startUp.top ≠ .surveying ∧ b.toNat = 3) ∧
    (∃ (s : State) (b : Byte) (u : UnitId), CanHandle s ∧ unitOf b = some u ∧ InHand (s.part.unit u).state) ∧
    (∃ (s : State) (b : Byte) (u : UnitId), CanHandle s ∧ unitOf b = some u ∧ (s.part.unit u).state = .locked ∧
      waitOf s.part u = [.b]) ∧
    (∃ (s : State) (b : Byte) (u : UnitId), CanHandle s ∧ unitOf b = some u ∧ ¬ InHand (s.part.unit u).state ∧
      (s.part.unit u).state ≠ .locked) ∧
    ∃ (s : State) (b : Byte) (u : UnitId) (c : FailCause), CanHandle s ∧ unitOf b = some u ∧
      (s.part.unit u).state = .failed c :=
  ⟨⟨_, 3, quiet_handles, nofun, rfl⟩, ⟨st (withUnit .bl (.proving .a 60) quiet), 2, .bl, ⟨rfl, rfl⟩, rfl, .a, .inr (.inr ⟨60, rfl⟩)⟩,
   ⟨st (withUnit .p1 .locked { quiet with arb := { quiet.arb with pumpWait := [.b] } }), 0, .p1, ⟨rfl, rfl⟩, rfl, rfl, rfl⟩,
   ⟨_, 1, .p2, quiet_handles, rfl, fun ⟨_, h⟩ => (by rcases h with h | h | ⟨_, h⟩ <;> cases h), by decide⟩,
   st (withUnit .p2 (.failed .prove) quiet), 1, .p2, .prove, ⟨rfl, rfl⟩, rfl, rfl⟩

/-- MAP_VALVE of filter 1's INF role finds its operands good. -/
def Mapping (s : State) (cb : Byte) (x : Option ChannelId) : Prop :=
  CanHandle s ∧ s.part.startUp.top ≠ .surveying ∧ filterOf 1 = some 0 ∧ roleOf 0 = some .inf ∧ ChannelNamed cb x ∧
    ∀ ch, s.part.mapped 0 .inf = some ch → (s.part.channel ch).mappedTo = some (0, .inf)

theorem window_open {p : Part} (h : p.filter 0 = none ∨ ∃ r, p.filter 0 = some r ∧ r.state = .outOfService) :
    ¬ (p.startUp.top = .operating ∧ WindowClosed p 0) := by
  rintro ⟨-, rec, hr, hs, -⟩
  rcases h with h | ⟨r, h, hx⟩
  · rw [h] at hr
    cases hr
  · rw [h] at hr
    cases hr
    exact hs hx

theorem mapping_0 {p : Part} (h1 : p.live = true) (h2 : p.linkReady = true) (h3 : p.startUp.top ≠ .surveying)
    (h4 : p.mapped 0 .inf = none) : Mapping (st p) 0 (some 0) :=
  ⟨⟨h1, h2⟩, h3, rfl, rfl, .inr ⟨0, rfl, rfl⟩, fun ch h => by
    rw [show (st p).part.mapped 0 .inf = none from h4] at h
    cases h⟩

/-- BWW of filter 1 on channel 5, OPEN. -/
def bwwOpen : Part :=
  (mapRole 0 .bww 5 quiet).putChannel 5 { Channel.initial with state := .opened, mappedTo := some (0, .bww) }

theorem bww_crosses (p : Part) (hm : p.mapped 0 .bww = some 5) (hc : (p.channel 5).state = .opened) : PartnerOpen p 0 .inf :=
  ⟨.bww, 5, .inl ⟨rfl, rfl⟩, hm, .inl (by rw [hc]; nofun)⟩

theorem witness_MapValveWritesTheMap :
    (∃ s cb x, Mapping s cb x ∧ s.part.startUp.top = .operating ∧ WindowClosed s.part 0) ∧
    (∃ s cb x ch m, Mapping s cb x ∧ ¬ (s.part.startUp.top = .operating ∧ WindowClosed s.part 0) ∧ x = some ch ∧
      (s.part.channel ch).mappedTo = some m ∧ m ≠ (0, .inf)) ∧
    (∃ s cb x ch, Mapping s cb x ∧ ¬ (s.part.startUp.top = .operating ∧ WindowClosed s.part 0) ∧ x = some ch ∧
      (s.part.channel ch).mappedTo = none ∧ InTravel (s.part.channel ch)) ∧
    (∃ s cb x ch, Mapping s cb x ∧ ¬ (s.part.startUp.top = .operating ∧ WindowClosed s.part 0) ∧ x = some ch ∧
      (s.part.channel ch).mappedTo = none ∧ ¬ InTravel (s.part.channel ch) ∧ (s.part.channel ch).target = some .opened ∧
      PartnerOpen s.part 0 .inf) ∧
    (∃ s cb x, Mapping s cb x ∧ ¬ (s.part.startUp.top = .operating ∧ WindowClosed s.part 0) ∧ x = none ∧
      s.part.mapped 0 .inf ≠ none) ∧
    (∃ s cb x ch, Mapping s cb x ∧ ¬ (s.part.startUp.top = .operating ∧ WindowClosed s.part 0) ∧ x = some ch ∧
      (s.part.channel ch).state = .unknown ∧ ¬ BothActive { s.part.channel ch with sense := .normal }) ∧
    (∃ s cb x ch, Mapping s cb x ∧ ¬ (s.part.startUp.top = .operating ∧ WindowClosed s.part 0) ∧ x = some ch ∧
      (s.part.channel ch).state = .unknown ∧ BothActive { s.part.channel ch with sense := .inverted }) ∧
    ∃ s cb x ch, Mapping s cb x ∧ ¬ (s.part.startUp.top = .operating ∧ WindowClosed s.part 0) ∧ x = some ch ∧
      (s.part.channel ch).state = .fault .travel := by
  refine ⟨⟨st (withFilter .online quiet), 0, some 0, mapping_0 rfl rfl nofun rfl, rfl, _, rfl, nofun, nofun⟩,
    ⟨st (quiet.putChannel 0 (channelAt .closed .eff)), 0, some 0, 0, _, mapping_0 rfl rfl nofun rfl, window_open (.inl rfl), rfl,
      rfl, by decide⟩,
    ⟨st (oneChannel (.opening 60 60) quiet), 0, some 0, 0, mapping_0 rfl rfl nofun rfl, window_open (.inl rfl), rfl, rfl, 60, 60,
      .inl rfl⟩,
    ⟨st (bwwOpen.putChannel 0 { Channel.initial with target := some .opened }), 0, some 0, 0, mapping_0 rfl rfl nofun rfl,
      window_open (.inl rfl), rfl, rfl, ?_, rfl, bww_crosses _ rfl rfl⟩,
    ⟨st (closedAll (withFilter .outOfService quiet)), 255, none,
      ⟨⟨rfl, rfl⟩, nofun, rfl, rfl, .inl ⟨rfl, rfl⟩, fun ch h => by cases h; rfl⟩, window_open (.inr ⟨_, rfl, rfl⟩), rfl, nofun⟩,
    ⟨st quiet, 0, some 0, 0, mapping_0 rfl rfl nofun rfl, window_open (.inl rfl), rfl, rfl, ?_⟩,
    ⟨limited .unknown .deEnergised .deEnergised, 0, some 0, 0, mapping_0 rfl rfl nofun rfl, window_open (.inl rfl), rfl, rfl,
      .inr ⟨rfl, rfl⟩, .inr ⟨rfl, rfl⟩⟩,
    ⟨st (oneChannel (.fault .travel) quiet), 0, some 0, 0, mapping_0 rfl rfl nofun rfl, window_open (.inl rfl), rfl, rfl⟩⟩
  · rintro ⟨e, n, h | h⟩ <;> cases h
  · rintro ⟨⟨-, h⟩ | ⟨h, -⟩, -⟩ <;> cases h

theorem not_kept {p : Part} {ch : ChannelId} (h : (p.channel ch).mappedTo = none) : ¬ KeptFromWindow p ch := by
  rintro ⟨f, r, h', -⟩
  rw [h] at h'
  cases h'

/-- The filter's channels are held from CLEAR_CHANNEL: a wash, or a transfer. -/
def HeldFromClear (p : Part) (c : Channel) : Prop :=
  ∃ f r rec, c.mappedTo = some (f, r) ∧ p.filter f = some rec ∧ ((∃ l, rec.state = .washing l) ∨
    ((rec.state = .online ∨ rec.state = .standby ∨ rec.state = .stranded) ∧ rec.transfer ≠ none))

theorem not_held {p : Part} {c : Channel} (h : c.mappedTo = none) : ¬ HeldFromClear p c := by
  rintro ⟨f, r, rec, h', -⟩
  rw [h] at h'
  cases h'

theorem witness_ChannelsAreLockedSelectedAndCleared :
    (∃ (s : State) (b : Byte), CanHandle s ∧ s.part.startUp.top ≠ .surveying ∧ b.toNat = 112) ∧
    (∃ (s : State) (ch : ChannelId), CanHandle s ∧ s.part.startUp.top ≠ .surveying ∧ KeptFromWindow s.part ch) ∧
    (∃ (s : State) (ch : ChannelId), CanHandle s ∧ s.part.startUp.top ≠ .surveying ∧ ¬ KeptFromWindow s.part ch ∧
      InTravel (s.part.channel ch)) ∧
    (∃ (s : State) (ch : ChannelId), CanHandle s ∧ s.part.startUp.top ≠ .surveying ∧ ¬ KeptFromWindow s.part ch ∧
      ¬ InTravel (s.part.channel ch) ∧ ∀ x, (s.part.channel ch).state ≠ .fault x) ∧
    (∃ (s : State) (ch : ChannelId) (x : ChannelFault), CanHandle s ∧ s.part.startUp.top ≠ .surveying ∧
      (s.part.channel ch).state = .fault x ∧ HeldFromClear s.part (s.part.channel ch)) ∧
    (∃ (s : State) (ch : ChannelId) (x : ChannelFault), CanHandle s ∧ s.part.startUp.top ≠ .surveying ∧
      (s.part.channel ch).state = .fault x ∧ ¬ HeldFromClear s.part (s.part.channel ch) ∧ ¬ BothActive (s.part.channel ch)) ∧
    ∃ (s : State) (ch : ChannelId) (x : ChannelFault), CanHandle s ∧ s.part.startUp.top ≠ .surveying ∧
      (s.part.channel ch).state = .fault x ∧ ¬ HeldFromClear s.part (s.part.channel ch) ∧ BothActive (s.part.channel ch) := by
  refine ⟨⟨_, 112, quiet_handles, nofun, rfl⟩,
    ⟨st (closedAll (withFilter .online quiet)), 0, ⟨rfl, rfl⟩, nofun, 0, .inf, rfl, _, rfl, nofun, nofun⟩,
    ⟨st (oneChannel (.closing 60 60) quiet), 0, ⟨rfl, rfl⟩, nofun, not_kept rfl, 60, 60, .inr rfl⟩,
    ⟨st quiet, 111, ⟨rfl, rfl⟩, nofun, not_kept rfl, ?_, nofun⟩,
    ⟨st (piped (fun _ => .fault .travel) (washing .rest running)), 0, .travel, ⟨rfl, rfl⟩, nofun, rfl, 0, .inf, _, rfl, rfl,
      .inl ⟨.a, rfl⟩⟩,
    ⟨st (oneChannel (.fault .switch) quiet), 0, .switch, ⟨rfl, rfl⟩, nofun, rfl, not_held rfl, ?_⟩,
    ⟨limited (.fault .switch) .energised .energised, 0, .switch, ⟨rfl, rfl⟩, nofun, rfl, not_held rfl, .inl ⟨rfl, rfl⟩,
      .inl ⟨rfl, rfl⟩⟩⟩
  · rintro ⟨e, n, h | h⟩ <;> cases h
  · rintro ⟨⟨-, h⟩ | ⟨h, -⟩, -⟩ <;> cases h

def selected (p : Part) : Part := p.setSelection (some 0)

/-- DIRECT_DRIVE can be handled, with channel 0 selected. -/
def Driving (s : State) : Prop :=
  CanHandle s ∧ s.part.startUp.top ≠ .surveying ∧ s.part.valves.selection = some 0

theorem witness_DirectDriveMovesTheSelectedChannel :
    (∃ s : State, CanHandle s ∧ s.part.startUp.top ≠ .surveying ∧ s.part.valves.selection = none) ∧
    (∃ s, Driving s ∧ s.part.stopAsserted = true) ∧
    (∃ s, Driving s ∧ s.part.stopAsserted = false ∧ (s.part.channel 0).locked = true) ∧
    (∃ s, Driving s ∧ s.part.stopAsserted = false ∧ (s.part.channel 0).locked = false ∧
      (s.part.channel 0).state = .fault .travel) ∧
    (∃ s, Driving s ∧ s.part.stopAsserted = false ∧ (s.part.channel 0).locked = false ∧
      (s.part.channel 0).state = .closed ∧ ∃ f r, (s.part.channel 0).mappedTo = some (f, r) ∧ PartnerOpen s.part f r) ∧
    (∃ s, Driving s ∧ s.part.stopAsserted = false ∧ (s.part.channel 0).locked = false ∧
      (s.part.channel 0).state = .closed ∧ ¬ ∃ f r, (s.part.channel 0).mappedTo = some (f, r) ∧ PartnerOpen s.part f r) ∧
    (∃ s, Driving s ∧ s.part.stopAsserted = false ∧ (s.part.channel 0).locked = false ∧ InTravel (s.part.channel 0) ∧
      BothActive (s.part.channel 0)) ∧
    ∃ s, Driving s ∧ s.part.stopAsserted = false ∧ (s.part.channel 0).locked = false ∧ InTravel (s.part.channel 0) ∧
      ¬ BothActive (s.part.channel 0) := by
  refine ⟨⟨_, quiet_handles, nofun, rfl⟩, ⟨st (withStop .asserted (selected quiet)), ⟨⟨rfl, rfl⟩, nofun, rfl⟩, rfl⟩,
    ⟨st (selected (quiet.putChannel 0 { Channel.initial with locked := true })), ⟨⟨rfl, rfl⟩, nofun, rfl⟩, rfl, rfl⟩,
    ⟨st (selected (oneChannel (.fault .travel) quiet)), ⟨⟨rfl, rfl⟩, nofun, rfl⟩, rfl, rfl, rfl⟩,
    ⟨st (selected (bwwOpen.putChannel 0 (channelAt .closed .inf))), ⟨⟨rfl, rfl⟩, nofun, rfl⟩, rfl, rfl, rfl, 0, .inf, rfl,
      bww_crosses _ rfl rfl⟩,
    ⟨st (selected (oneChannel .closed quiet)), ⟨⟨rfl, rfl⟩, nofun, rfl⟩, rfl, rfl, rfl, fun ⟨_, _, h, _⟩ => by cases h⟩,
    ⟨st (selected (limited (.opening 60 60) .energised .energised).part), ⟨⟨rfl, rfl⟩, nofun, rfl⟩, rfl, rfl, ⟨60, 60, .inl rfl⟩,
      .inl ⟨rfl, rfl⟩, .inl ⟨rfl, rfl⟩⟩,
    ⟨st (selected (oneChannel (.opening 60 60) quiet)), ⟨⟨rfl, rfl⟩, nofun, rfl⟩, rfl, rfl, ⟨60, 60, .inl rfl⟩, ?_⟩⟩
  rintro ⟨⟨-, h⟩ | ⟨h, -⟩, -⟩ <;> cases h

theorem witness_FramesCarryTheirCommands :
    (∃ f : Frame, commandKinds.contains f.kind = false) ∧
    ∃ (f : Frame) (r : Result), commandKinds.contains f.kind = true ∧ f.command = .error r :=
  ⟨⟨⟨0, 0, []⟩, by decide +kernel⟩, longPing, .length, by decide +kernel, rfl⟩

/-- A step from a part on which the three invariants hold. -/
theorem witness_StepsKeepTheInvariants : ∃ s t : State, step s = .next t ∧ s.pending ≠ [] ∧ t.pending = [] ∧
    LinkInBounds s.part ∧ StopHoldsTheDrives s.part ∧ QueueInOrder s.part :=
  ⟨⟨queued routine quiet, [.minuteTick]⟩, _, rfl, nofun, rfl,
    ⟨nofun, by decide, by decide, by decide, by decide, fun h => absurd rfl h, fun _ _ => ⟨rfl, rfl⟩⟩, nofun,
    List.pairwise_singleton _ _, by decide⟩

/-! ### Ill-formed commands are refused -/

theorem test_wf_refuses_67_pairs : (Instr.putMeasure 0 (List.replicate 67 (1, 0))).wf = false := by decide +kernel
theorem test_wf_takes_66_pairs : (Instr.putMeasure 0 (List.replicate 66 (1, 0))).wf = true := by decide +kernel
theorem test_wf_refuses_19_records : (Instr.recipePhases 0 (List.replicate 19 waterRecord)).wf = false := by decide +kernel
theorem test_wf_takes_18_records : (Instr.recipePhases 0 (List.replicate 18 waterRecord)).wf = true := by decide +kernel
theorem test_wf_refuses_known_kind : (Instr.unknownKindCommand 0 0x3E []).wf = false := by decide +kernel
theorem test_wf_takes_unknown_kind : (Instr.unknownKindCommand 0 0x3F []).wf = true := by decide +kernel
theorem test_wf_refuses_long_payload : (Instr.unknownKindCommand 0 0x3F (List.replicate 201 0)).wf = false := by decide +kernel
theorem test_wf_refuses_scheduler_headloss : (Instr.schedulerMeasureChange (.hl 0)).wf = false := by decide
theorem test_wf_refuses_scheduler_turbidity : (Instr.schedulerMeasureChange (.tb 0)).wf = false := by decide
theorem test_wf_refuses_lane_flow : (Instr.lanePointChange .a .flow).wf = false := by decide
theorem test_wf_refuses_lane_headloss : (Instr.lanePointChange .a (.hl 0)).wf = false := by decide

/-! ### Single rows, on the spec's worked cases -/

/-- What one row leaves of a part. -/
def partAfter (c : Instr) (s : State) : Part :=
  match exec c s with
  | .next t => t.part
  | _ => s.part

/-- The reply on its way or waiting. -/
def replyOf (p : Part) : Option Reply :=
  match p.link.reply, p.link.sending with
  | some r, _ => some r
  | none, some (.reply r) => some r
  | _, _ => none

theorem test_header_check : headerCheck 0x05 0x11 0x00 = 0xEB := by decide

/-- The usual check value of a CRC with R171's parameters: over the characters 1 to 9. -/
theorem test_crc : crc16 [0x31, 0x32, 0x33, 0x34, 0x35, 0x36, 0x37, 0x38, 0x39] = 0x29B1 := by decide +kernel

/-- 2.8.1. -/
theorem test_pointSample_conversion :
    ((partAfter (.pointSample .flow) (after (.sample .flow 2219)
      (onFront (fun k => { k with flow := { Point.initial with source := .analog 12 0 3000 } }) quiet))).point .flow).value =
      some 1850 := by decide +kernel

/-- 2.8.2, the scan at 1000.25. -/
theorem test_pointSample_average :
    let before := onPlant (fun k => { k with tankArea := some 6000, tankMin := some 600 })
      (onFront (fun k => { k with tank := ⟨.analog 33 0 8000, [4200], some 4200, .good, some 1000⟩ }) quiet)
    let p := partAfter (.pointSample .tank) (after (.sample .tank 1985) { before with plantReceived := true })
    (p.point .tank).value = some 4202 ∧ p.front.tankAvail = some 21612 := by decide +kernel

/-- 3.8.1 and 3.8.2: filter 7 with HL7 at 1862 and TB7 at `t`. -/
def filter7 (t : Nat) : State :=
  let cfg : FilterConfig := { config with h0 := 350, ht := 2400, tt := 300, rmax := 4320 }
  after (.urgency 6) (onFront (fun k => { k with
    hl := k.hl.set 6 ⟨.pushed, [], some 1862, .good, some 0⟩, tb := k.tb.set 6 ⟨.pushed, [], some t, .good, some 0⟩ })
    (quiet.putFilter 6 (some { newRecord cfg with state := .online, runMin := 2940 })))

theorem test_urgency_headloss :
    ((partAfter (.urgencyEvaluation 6) (filter7 118)).filter 6).map (fun r => (r.u, r.dominant)) = some (737, .headloss) := by
  decide +kernel

theorem test_urgency_breakthrough :
    ((partAfter (.urgencyEvaluation 6) (filter7 300)).entry 6).map (fun e => (e.cls, e.source, e.u)) =
      some (.breakthrough, .auto, 1000) := by decide +kernel

/-- 5.8. -/
def piecesRecords : List RawPhase := [⟨0, 240, 0, 300, 0, 0⟩, ⟨1, 90, 0, 0, 0, 0⟩, ⟨3, 600, 500, 0, 0, 0⟩]
def lastRecords : List RawPhase := [⟨4, 30, 0, 0, 0, 0⟩, ⟨5, 600, 60, 0, 150, 90⟩]

/-- 5.8, step 10. -/
theorem test_recipePhases_installs :
    ((partAfter (.recipePhases 0 lastRecords) (st (staged 5 piecesRecords quiet))).recipe 0).map
      (fun r => (r.phases.length, r.totalTime, r.sumWater, r.sumDrain, r.sumWaste)) =
      some (5, 1560, 300000, 300, 336000) := by decide +kernel

/-- 5.8, step 7. -/
theorem test_recipePhases_offending :
    (replyOf (partAfter (.recipePhases 0 lastRecords)
      (st (staged 5 [airRecord, drainRecord, waterRecord] quiet)))).map (fun r => (r.result, r.fields)) =
      some (.range, .offending 1) := by decide +kernel

/-- 9.7, step 6. -/
theorem test_setMode_overrun :
    let s := sending (.reply pong) .none (some pong) [identFrame, identFrame]
    let p := partAfter (.setMode 21 0) s
    p.link.errors = 1 ∧ p.sched.mode = .paused ∧ p.link.queue = [identFrame, identFrame] := by decide +kernel

/-- 9.7, step 4: the report ends, reply 17 begins, PING 18 is taken. -/
theorem test_transmitFrameEnd_takes_the_next :
    let r17 : Reply := ⟨0x82, 17, .ok, .none⟩
    let p := partAfter .transmitFrameEnd (sending (.report ⟨812, 0, .stopReleased 0⟩) .none (some r17) [⟨0x03, 18, []⟩])
    p.link.sending = some (.reply r17) ∧ p.link.reply = some ⟨0x83, 18, .ok, .none⟩ ∧ p.link.queue = [] := by decide +kernel

/-- 1.3.1, at 40135: EFF arrives, step 3 opens INF. -/
theorem test_transferRoleArrival :
    let p := partAfter (.transferRoleArrival 0 .eff) (after (.transferArrival 0 .eff) (atClock 40135 beforeStep3))
    ((p.filter 0).bind (·.transfer)) = some ⟨.toService, 3⟩ ∧ (p.channel 0).state = .opening 40195 60 := by decide +kernel

/-- 8.11, at 70060. -/
theorem test_travelExpiry :
    ((partAfter (.travelExpiry 0) (after (.travelExpiry 0) (oneChannel (.opening 70060 60) (atClock 70060 quiet)))).channel 0).state =
      .fault .travel := by decide +kernel

/-- 8.11, at 75090 and 75140: the partner open, then closed. -/
theorem test_directDrive_interlock :
    (replyOf (partAfter (.directDriveOpen 0) (st (selected (bwwOpen.putChannel 0 (channelAt .closed .inf)))))).map (·.result) =
      some .interlock := by decide +kernel

theorem test_directDrive_opens :
    let p := atClock 75140 (selected (closedAll (withFilter .outOfService quiet)))
    ((partAfter (.directDriveOpen 0) (st p)).channel 0).state = .opening 75200 60 := by decide +kernel

theorem test_powerOnReset_reads_the_straps :
    (partAfter (.powerOnReset .energised .energised) (st (atClock 99 quiet))).link.rate = .r115200 := by decide +kernel

theorem test_minuteTick_calls_sixteen : (partAfter .minuteTick (after .minuteTick quiet)).events.length = 16 := by decide +kernel

theorem test_feedbackChange_proves :
    ((partAfter (.feedbackChange .p1 .energised) (st (withUnit .p1 (.proving .a 60) quiet))).unit .p1).state = .running .a := by
  decide +kernel

theorem test_stopAsserted_stops_travel :
    ((partAfter .stopAsserted (st (oneChannel (.opening 60 60) quiet))).channel 0).state = .stopped := by decide +kernel

theorem test_hold_enters_held :
    ((partAfter (.hold 0 0) (st (washing .rest running))).lane .a).map (·.state) = some (.held 0) := by decide +kernel

theorem test_admissionScan_admits :
    ((partAfter .admissionScan (st (due .auto .standby routine))).filter 0).map (·.state) = some (.washing .a) := by decide +kernel

/-- The sixtieth second stands until RUN_MINUTE takes it, whatever the filter's state is by then. -/
theorem test_galleryClockTick_sixtieth_second :
    let p := partAfter .galleryClockTick (st (withRecord { record .online with runSec := 59 } quiet))
    (p.filter 0).map (·.runSec) = some 60 ∧ p.events = [.runMinute 0] := by decide +kernel

theorem test_runMinute_counts_a_standby_filter :
    ((partAfter (.runMinute 0) (after (.runMinute 0) (withRecord { record .standby with runSec := 60 } quiet))).filter 0).map
      (fun r => (r.runMin, r.runSec)) = some (1, 0) := by decide +kernel

theorem test_stopReleased_faults_both_active :
    ((partAfter .stopReleased (st (withStop .asserted (limited .stopped .energised .energised).part))).channel 0).state =
      .fault .switch := by decide +kernel

/-- BWW is commanded, AIR's channel is in FAULT, and WST is commanded no more. -/
theorem test_toService_ends_at_a_fault :
    let p := partAfter (.toService 0 1) (ready .standby (air (.fault .travel)))
    (p.filter 0).map (·.state) = some (.faulted .valve) ∧ (p.channel 2).target = some .closed ∧
      (p.channel 4).target = none := by decide +kernel

end Sys2Proof.Tests
end

section
/-! SUPPORT. The loading computation in the words of the statements: what it reports, the flags it sets, the overload timer
it leaves, and what a change of the service area brings with it. -/

namespace Sys2Proof.Laws

open Sys2Proof.Machine

/-! ### Reports made in turn -/

/-- Reports made for those members of a list that a test on the plant record picks. -/
theorem foldl_report_link {α : Type} (c : PlantRecord → α → Bool) (b : α → ReportBody) (xs : List α) (p : Part) :
    (xs.foldl (fun p k => if c p.plant k then p.report (b k) else p) p).link =
      afterReports p.clock p.link ((xs.filter (c p.plant)).map b) := by
  induction xs generalizing p with
  | nil => rfl
  | cons k xs ih =>
    rw [List.foldl_cons, ih]
    cases h : c p.plant k
    · simp [h]
    · simp only [h, if_true, List.filter_cons_of_pos, List.map_cons]
      rfl

/-! ### Flags (R86, R88) -/

theorem calcFlags_get_union (x y : CalcFlags) (k : CalcFlag) : (x.union y).get k = (x.get k || y.get k) := by
  cases k <;> rfl

theorem setFlags_flags (p : Part) (met : CalcFlags) (o : CalcOrigin) : (p.setFlags met o).sched.flags = flagsWith p met := by
  have k : OnlyChanges reporting { p with sched := { p.sched with flags := p.sched.flags.union met } } (p.setFlags met o) := by
    unfold Part.setFlags
    refine (foldl_keeps _ _ fun q x => ?_).2 (onlyChanges_refl _ _)
    dsimp only
    split <;> simp
  exact k .flags (by simp)

theorem setFlags_link (p : Part) (met : CalcFlags) (o : CalcOrigin) :
    (p.setFlags met o).link = afterReports p.clock p.link (calcReports p met o) := by
  have k := foldl_report_link
    (fun plant k => (p.sched.flags.union met).get k && !p.sched.flags.get k && plant.calcEnables.get k)
    (fun k => .calcSet k (flagsWith p met) o) allCalcFlags
    { p with sched := { p.sched with flags := p.sched.flags.union met } }
  refine Eq.trans k ?_
  have same : ∀ k : CalcFlag,
      ((p.sched.flags.union met).get k && !p.sched.flags.get k && p.plant.calcEnables.get k) =
        (met.get k && !p.sched.flags.get k && p.plant.calcEnables.get k) := fun k => by
    rw [calcFlags_get_union]; cases p.sched.flags.get k <;> simp
  unfold calcReports
  simp only [same]
  rfl

/-! ### Loading (R71, R79) -/

theorem serviceArea_eq (p : Part) : p.serviceArea =
    ((List.finRange 16).filterMap fun f => (p.filter f).bind fun r => if r.state = .online then some r.cfg.area else none).sum := by
  unfold Part.serviceArea Part.onlineFilters allFilters
  congr 1
  induction List.finRange 16 with
  | nil => rfl
  | cons f fs ih =>
    cases h : p.filter f with
    | none => simpa [h] using ih
    | some r => by_cases hs : r.state = .online <;> simpa [h, hs] using ih

theorem loadingOver_fst (q area : Nat) (isDesign : Bool) :
    (loadingOver q isDesign area).1 = if area = 0 then 9999 else min 9999 ((360 * q + area - 1) / area) := by
  unfold loadingOver ceilDiv
  by_cases h : area = 0
  · simp [h]
  · rw [if_neg h, if_neg h, ← Nat.add_sub_assoc (Nat.one_le_iff_ne_zero.2 h)]
    dsimp only
    split
    · rw [Nat.min_eq_left (by omega)]
    · rw [Nat.min_eq_right (by omega)]

theorem loadingOver_snd (p : Part) (area : Nat) :
    (loadingOver p.flowUsed.1 p.flowUsed.2 area).2 = loadingFlags p area := by
  have e : p.flowUsed.2 = p.front.flow.usableValue.isNone := by
    unfold Part.flowUsed; cases p.front.flow.usableValue <;> rfl
  unfold loadingOver ceilDiv loadingFlags
  by_cases h : area = 0
  · simp [h, e]
  · rw [if_neg h, ← Nat.add_sub_assoc (Nat.one_le_iff_ne_zero.2 h)]
    dsimp only
    split <;> simp_all [Nat.pos_iff_ne_zero]

theorem loadingNow_eq (p : Part) : p.loadingNow.1 = currentLoading p := by
  unfold Part.loadingNow currentLoading Part.flowUsed
  rw [loadingOver_fst, ← serviceArea_eq]
  cases p.front.flow.usableValue <;> rfl

theorem loadingTest_fst (p : Part) (f : FilterId) (a : Nat) :
    (p.loadingTest f a).1 = p.setFlags (loadingFlags p (p.serviceArea - a)) (.loading (some f)) := by
  rw [← loadingOver_snd]; rfl

theorem loadingTest_snd (p : Part) (f : FilterId) (a : Nat) :
    (p.loadingTest f a).2 = decide (loadingWithout p a ≤ p.plant.vmax) := by
  have e : (p.loadingLess a).1 = loadingWithout p a := by
    unfold Part.loadingLess loadingWithout
    rw [loadingOver_fst]
    by_cases h : p.serviceArea ≤ a
    · simp [h]
    · have pos : p.serviceArea - a ≠ 0 := by omega
      rw [if_neg h, if_neg pos, Nat.add_sub_assoc (Nat.one_le_iff_ne_zero.2 pos), Nat.min_comm]
  rw [← e]; rfl

theorem overloadAfter_overload (p : Part) (v : Nat) : (p.overloadAfter v).sched.overload = overloadAt p v := by
  unfold Part.overloadAfter overloadAt
  by_cases h : p.plant.vmax < v
  · rw [if_pos h, if_neg (by omega)]
    cases ho : p.sched.overload
    · rfl
    · exact ho
  · rw [if_neg h, if_pos (by omega)]
    rfl

@[simp] theorem overloadAfter_link (p : Part) (v : Nat) : (p.overloadAfter v).link = p.link := by
  unfold Part.overloadAfter
  repeat' split
  all_goals rfl

theorem computeLoading_idle {p : Part} (h : p.operating = false) : p.computeLoading = p := by
  unfold Part.computeLoading; simp [h]

theorem computeLoading_of {p : Part} (h : p.operating = true) :
    p.computeLoading = (p.setFlags p.loadingNow.2 (.loading none)).overloadAfter p.loadingNow.1 := by
  unfold Part.computeLoading; rw [if_pos h]

/-- The loading computation makes CALC reports at most. -/
theorem computeLoading_tells (p : Part) : Tells p p.computeLoading := by
  cases h : p.operating
  · rw [computeLoading_idle h]; exact tells_refl p
  · rw [computeLoading_of h]
    refine ⟨?_, _, (overloadAfter_link _ _).trans (setFlags_link _ _ _)⟩
    have k : OnlyChanges ([Piece.flags, .overload, .events] ++ reporting) p
        ((p.setFlags p.loadingNow.2 (.loading none)).overloadAfter p.loadingNow.1) := by simp
    exact k .clock (by simp)

/-- The current loading hangs on the filters, the flow point and the plant record alone. -/
theorem currentLoading_kept {xs : List Piece} {p q : Part} (h : OnlyChanges xs p q) (hf : Piece.filters ∉ xs)
    (hm : Piece.points ∉ xs) (hp : Piece.plant ∉ xs) : currentLoading q = currentLoading p := by
  have a : q.filter = p.filter := funext (filter_kept h hf)
  obtain ⟨-, -, b, -, -⟩ := h .points hm
  have c : q.plant = p.plant := h .plant hp
  unfold currentLoading
  rw [a, b, c]

theorem overloadAt_kept {xs : List Piece} {p q : Part} (h : OnlyChanges xs p q) (ho : Piece.overload ∉ xs)
    (hp : Piece.plant ∉ xs) (hc : Piece.clock ∉ xs) (v : Nat) : overloadAt q v = overloadAt p v := by
  have a : q.sched.overload = p.sched.overload := h .overload ho
  have b : q.plant = p.plant := h .plant hp
  have c : q.startUp.clock = p.startUp.clock := h .clock hc
  unfold overloadAt
  rw [a, b, c]

theorem computeLoading_overload {p : Part} (h : p.operating = true) :
    p.computeLoading.sched.overload = overloadAt p (currentLoading p) := by
  rw [computeLoading_of h, overloadAfter_overload, loadingNow_eq]
  exact overloadAt_kept (p := p) (xs := [Piece.flags] ++ reporting) (by simp) (by simp) (by simp) (by simp) _

/-! ### A filter changes its record -/

/-- A filter that takes OUT_OF_SERVICE or FAULTED keeps the selection of the window (R162). -/
theorem moveFilter_windows {r : FilterRecord} (h : r.state.isWindows = true) (p : Part) (f : FilterId) :
    OnlyChanges ([Piece.filters, .events] ++ reporting) p (p.moveFilter f r) := by
  unfold Part.moveFilter
  simp [h]

theorem areaChanged_of {p : Part} {f : FilterId} {was : Bool} (h : p.isOnline f ≠ was) :
    p.areaChanged f was =
      if p.isOnline f then p.computeLoading.trigger.raise (.urgency f) else p.computeLoading.trigger := by
  have k : p.computeLoading.trigger.isOnline f = p.isOnline f := by
    unfold Part.isOnline
    rw [filter_kept (p := p) (xs := [Piece.flags, .overload, .scanDue, .events] ++ reporting) (by simp) (by simp)]
  unfold Part.areaChanged
  rw [if_neg h]
  dsimp only
  rw [k]

theorem isOnline_moveFilter (p : Part) (f : FilterId) (r : FilterRecord) :
    (p.moveFilter f r).isOnline f = (r.state == .online) := by
  rw [isOnline_of (moveFilter_filter p f r), indexed_state]

section Change
variable {p : Part} {f : FilterId} {r : FilterRecord} (h : p.filter f = some r) (g : FilterRecord → FilterRecord)
include h

/-- A change of a record with the frame its new state has, beside what the service area brings. -/
theorem changeFilter_windows (hw : (g r).state.isWindows = true) :
    OnlyChanges ([Piece.filters, .flags, .overload, .scanDue, .events] ++ reporting) p (p.changeFilter f g) := by
  rw [changeFilter_of h]
  have k := moveFilter_windows hw p f
  refine onlyChanges_trans (onlyChanges_mono k (by simp)) (by simp)

/-- FILTER_STATE comes first; nothing follows it where the filter neither joins nor leaves the service area. -/
theorem changeFilter_link : ∃ cs, (p.changeFilter f g).link = afterReports p.clock p.link
      (.filterState f (some (g r).state) (some r.state) (g r).transfer (p.table.marker == some f) :: cs) ∧
    (((g r).state = .online ↔ r.state = .online) → cs = []) := by
  have m : (p.moveFilter f (g r)).link = afterReports p.clock p.link
      [.filterState f (some (g r).state) (some r.state) (g r).transfer (p.table.marker == some f)] := by
    rw [moveFilter_link, h]; rfl
  by_cases ho : (g r).state = .online ↔ r.state = .online
  · exact ⟨[], by rw [changeFilter_quiet h g ho, m], fun _ => rfl⟩
  · have hne : (p.moveFilter f (g r)).isOnline f ≠ (r.state == .online) := by
      rw [isOnline_moveFilter, ne_eq, Bool.eq_iff_iff, beq_iff_eq, beq_iff_eq]; exact ho
    obtain ⟨-, cs, hc⟩ := computeLoading_tells (p.moveFilter f (g r))
    have hclock : (p.moveFilter f (g r)).clock = p.clock :=
      ((moveFilter_keeps f (g r) (List.Subset.refl _)).2 (onlyChanges_refl _ _)) .clock (by simp)
    refine ⟨cs, ?_, fun k => absurd k ho⟩
    rw [changeFilter_of h, areaChanged_of hne]
    have e : (p.moveFilter f (g r)).computeLoading.trigger.link = afterReports p.clock p.link
        ([.filterState f (some (g r).state) (some r.state) (g r).transfer (p.table.marker == some f)] ++ cs) := by
      rw [trigger_link, hc, hclock, m, afterReports_append]
    split <;> exact e

/-- A filter that joins or leaves the service area has the loading computed and a scan triggered; one that joins it is
evaluated (R42, R64, R71). -/
theorem changeFilter_area (ho : ¬ ((g r).state = .online ↔ r.state = .online)) (hop : p.operating = true) :
    (p.changeFilter f g).sched.scanDue = true ∧
    (p.changeFilter f g).sched.overload = overloadAt p (currentLoading (p.changeFilter f g)) ∧
    ((g r).state = .online → .urgency f ∈ (p.changeFilter f g).events) := by
  have hne : (p.moveFilter f (g r)).isOnline f ≠ (r.state == .online) := by
    rw [isOnline_moveFilter, ne_eq, Bool.eq_iff_iff, beq_iff_eq, beq_iff_eq]; exact ho
  have km : OnlyChanges ([Piece.filters, .selection, .events] ++ reporting) p (p.moveFilter f (g r)) := by simp
  have hm : (p.moveFilter f (g r)).operating = true := (operating_kept km (by simp)).trans hop
  have kc : OnlyChanges ([Piece.flags, .overload, .scanDue, .events] ++ reporting) (p.moveFilter f (g r))
      (p.changeFilter f g) := by
    rw [changeFilter_of h]; simp
  have hdue : (p.moveFilter f (g r)).computeLoading.trigger.sched.scanDue = true :=
    trigger_due _ ((operating_kept (p := p.moveFilter f (g r)) (xs := [Piece.flags, .overload, .events] ++ reporting)
      (by simp) (by simp)).trans hm)
  have hover : (p.moveFilter f (g r)).computeLoading.trigger.sched.overload =
      overloadAt p (currentLoading (p.changeFilter f g)) := by
    have kt : OnlyChanges [.scanDue] (p.moveFilter f (g r)).computeLoading
        (p.moveFilter f (g r)).computeLoading.trigger := by simp
    rw [currentLoading_kept kc (by simp) (by simp) (by simp),
      ← overloadAt_kept km (by simp) (by simp) (by simp), ← computeLoading_overload hm]
    exact kt .overload (by simp)
  rw [changeFilter_of h, areaChanged_of hne, isOnline_moveFilter] at *
  refine ⟨?_, ?_, ?_⟩
  · split
    · exact hdue
    · exact hdue
  · split
    · rw [if_pos ‹_›] at hover; exact hover
    · rw [if_neg ‹_›] at hover; exact hover
  · intro hon
    rw [if_pos (by simp [hon])]
    simp [Part.raise]

end Change

end Sys2Proof.Laws
end

section
/-! SUPPORT. The roles of a filter: where their channels rest, what a command does to them, and a list of commands issued
one after the other. -/

namespace Sys2Proof.Laws

open Sys2Proof.Machine

/-! ### Positions -/

theorem inPosition_iff (p : Part) (f : FilterId) (r : Role) (pos : Position) :
    p.inPosition f r pos = true ↔ RestsAt p f r pos := by
  unfold Part.inPosition Part.roleState RestsAt
  cases hm : p.mapped f r with
  | none => simp
  | some ch => cases hs : (p.channel ch).state <;> cases pos <;> simp [hs]

theorem roleFaulted_iff (p : Part) (f : FilterId) (r : Role) : p.roleFaulted f r = true ↔ RoleInFault p f r := by
  unfold Part.roleFaulted Part.roleState RoleInFault
  cases hm : p.mapped f r with
  | none => simp
  | some ch => cases hs : (p.channel ch).state <;> simp [hs]

theorem not_travels_of_rests {p : Part} {f : FilterId} {r : Role} {pos : Position} (h : RestsAt p f r pos) :
    ¬ RoleTravels p f r pos := by
  obtain ⟨ch, hm, hs⟩ := h
  rintro ⟨d, hd, -, ht⟩
  rw [hm, Option.some.injEq] at hd
  subst hd
  rcases hs with ⟨rfl, hs⟩ | ⟨rfl, hs⟩ <;> simp [TravelsTo, hs] at ht

/-! ### What a role's command reads -/

/-- The role's channel is the same one, with the same record. -/
def SameRole (p q : Part) (f : FilterId) (r : Role) : Prop :=
  q.mapped f r = p.mapped f r ∧ ∀ ch, p.mapped f r = some ch → q.channel ch = p.channel ch

theorem mapped_kept {xs : List Piece} {p q : Part} (h : OnlyChanges xs p q) (hx : Piece.map ∉ xs) (f : FilterId) (r : Role) :
    q.mapped f r = p.mapped f r := by
  unfold Part.mapped
  rw [show q.valves.map = p.valves.map from h .map hx]

theorem sameRole_kept {xs : List Piece} {p q : Part} (h : OnlyChanges xs p q) (hm : Piece.map ∉ xs)
    (hc : Piece.channels ∉ xs) (f : FilterId) (r : Role) : SameRole p q f r :=
  ⟨mapped_kept h hm f r, fun ch _ => channel_kept h hc ch⟩

theorem restsAt_same {p q : Part} {f : FilterId} {r : Role} (h : SameRole p q f r) (pos : Position) :
    RestsAt q f r pos ↔ RestsAt p f r pos := by
  obtain ⟨hm, hc⟩ := h
  unfold RestsAt
  rw [hm]
  exact exists_congr fun ch => and_congr_right fun k => by rw [hc ch k]

theorem roleTravels_same {p q : Part} {f : FilterId} {r : Role} (h : SameRole p q f r) (pos : Position) :
    RoleTravels q f r pos ↔ RoleTravels p f r pos := by
  obtain ⟨hm, hc⟩ := h
  unfold RoleTravels
  rw [hm]
  exact exists_congr fun ch => and_congr_right fun k => by rw [hc ch k]

theorem roleInFault_same {p q : Part} {f : FilterId} {r : Role} (h : SameRole p q f r) :
    RoleInFault q f r ↔ RoleInFault p f r := by
  obtain ⟨hm, hc⟩ := h
  unfold RoleInFault
  rw [hm]
  exact exists_congr fun ch => exists_congr fun _ => and_congr_right fun k => by rw [hc ch k]

/-! ### One command (R153) -/

/-- The role's command moves no channel, or sets it off. -/
def Obeys (p : Part) (f : FilterId) (x : Role × Position) : Prop := RestsAt p f x.1 x.2 ∨ RoleTravels p f x.1 x.2

theorem obeys_same {p q : Part} {f : FilterId} {x : Role × Position} (h : SameRole p q f x.1) : Obeys q f x ↔ Obeys p f x :=
  or_congr (restsAt_same h x.2) (roleTravels_same h x.2)

theorem commandRole_rests {p : Part} {f : FilterId} {r : Role} {pos : Position} {ch : ChannelId}
    (hm : p.mapped f r = some ch) (h : RestsAt p f r pos) :
    p.commandRole f r pos = (p.putChannel ch { p.channel ch with target := some pos }, .complete) := by
  obtain ⟨d, hd, hs⟩ := h
  rw [hm, Option.some.injEq] at hd
  subst hd
  unfold Part.commandRole Part.command Part.completeAt
  rcases hs with ⟨rfl, hs⟩ | ⟨rfl, hs⟩ <;> simp only [hm, hs]

theorem commandRole_travels {p : Part} {f : FilterId} {r : Role} {pos : Position} {ch : ChannelId}
    (hm : p.mapped f r = some ch) (h : TravelsTo (p.channel ch).state pos) :
    p.commandRole f r pos = (p.startTravel ch pos, .travels) := by
  unfold Part.commandRole Part.command
  rcases h with hs | ⟨hs, rfl⟩ | ⟨hs, rfl⟩ <;> simp [hm, hs]

theorem commandRole_fault {p : Part} {f : FilterId} {r : Role} (h : RoleInFault p f r) (pos : Position) :
    p.commandRole f r pos = (p, .fails) := by
  obtain ⟨ch, c, hm, hs⟩ := h
  unfold Part.commandRole Part.command
  simp only [hm, hs]

theorem startTravel_channel (p : Part) (ch : ChannelId) (pos : Position) :
    (p.startTravel ch pos).channel ch = inTravelTo (p.channel ch) p.startUp.clock (p.travelTime ch) pos := by
  refine Eq.trans (channel_putChannel p ch _) ?_
  cases pos <;> rfl

theorem startTravel_channel_ne (p : Part) {ch d : ChannelId} (h : d ≠ ch) (pos : Position) :
    (p.startTravel ch pos).channel d = p.channel d := channel_putChannel_ne p h _

theorem travelTime_of {p : Part} {ch : ChannelId} {f : FilterId} {r : Role} (h : (p.channel ch).mappedTo = some (f, r)) :
    p.travelTime ch = p.plant.travel.get r := by
  unfold Part.travelTime; rw [h]

/-- A command that is obeyed does not fail, and does what R153 says to the role's channel alone. -/
theorem commandRole_obeyed {p : Part} {f : FilterId} {x : Role × Position} (h : Obeys p f x) :
    (p.commandRole f x.1 x.2).2 ≠ .fails ∧ OnlyCommanded p (p.commandRole f x.1 x.2).1 f [x] := by
  unfold OnlyCommanded RoleCommanded
  rcases h with h | h
  · have h' := h
    obtain ⟨ch, hm, -⟩ := h'
    rw [commandRole_rests hm h]
    simp only [List.forall_mem_singleton]
    refine ⟨by simp, fun d hd => ?_, fun d hd => channel_putChannel_ne p (fun e => hd (by rw [e]; exact hm)) _⟩
    rw [hm, Option.some.injEq] at hd
    subst hd
    exact ⟨fun _ => channel_putChannel p ch _, fun t => absurd t (not_travels_of_rests h)⟩
  · have h' := h
    obtain ⟨ch, hm, hb, ht⟩ := h'
    rw [commandRole_travels hm ht]
    simp only [List.forall_mem_singleton]
    refine ⟨by simp, fun d hd => ?_, fun d hd => startTravel_channel_ne p (fun e => hd (by rw [e]; exact hm)) _⟩
    rw [hm, Option.some.injEq] at hd
    subst hd
    exact ⟨fun k => absurd h (not_travels_of_rests k), fun _ => by rw [startTravel_channel, travelTime_of hb]⟩

/-! ### Commands one after the other -/

/-- Two roles of the filter have no channel in common. -/
def Apart (p : Part) (f : FilterId) (x y : Role × Position) : Prop :=
  ∀ ch, p.mapped f x.1 = some ch → p.mapped f y.1 ≠ some ch

theorem apart_symm {p : Part} {f : FilterId} {x y : Role × Position} (h : Apart p f x y) : Apart p f y x :=
  fun ch hy hx => h ch hx hy

/-- Different roles, each mapped both ways, have no channel in common (R159). -/
theorem apart_of_back {p : Part} {f : FilterId} {x y : Role × Position} (h : x.1 ≠ y.1)
    (hx : ∀ ch, p.mapped f x.1 = some ch → (p.channel ch).mappedTo = some (f, x.1))
    (hy : ∀ ch, p.mapped f y.1 = some ch → (p.channel ch).mappedTo = some (f, y.1)) : Apart p f x y := by
  intro ch kx ky
  have e := (hx ch kx).symm.trans (hy ch ky)
  simp only [Option.some.injEq, Prod.mk.injEq, true_and] at e
  exact h e

/-- What a command's effect hangs on beside the channel commanded. -/
def SameRules (p q : Part) : Prop := q.mapped = p.mapped ∧ q.startUp.clock = p.startUp.clock ∧ q.plant = p.plant

theorem sameRules_kept {xs : List Piece} {p q : Part} (h : OnlyChanges xs p q) (hm : Piece.map ∉ xs)
    (hc : Piece.clock ∉ xs) (hp : Piece.plant ∉ xs) : SameRules p q :=
  ⟨funext fun f => funext fun r => mapped_kept h hm f r, h .clock hc, h .plant hp⟩

theorem apart_same {p q : Part} (h : SameRules p q) (f : FilterId) : Apart q f = Apart p f := by
  unfold Apart; rw [h.1]

theorem commandRole_sameRules (p : Part) (f : FilterId) (r : Role) (pos : Position) :
    SameRules p (p.commandRole f r pos).1 :=
  sameRules_kept (xs := [Piece.channels, .events]) (by simp) (by simp) (by simp) (by simp)

theorem issue_sameRules (p : Part) (f : FilterId) (xs : List (Role × Position)) : SameRules p (p.issue f xs).1 :=
  sameRules_kept (xs := [Piece.channels, .events]) (by simp) (by simp) (by simp) (by simp)

theorem onlyCommanded_nil (p : Part) (f : FilterId) : OnlyCommanded p p f [] := ⟨by simp, fun _ _ => rfl⟩

/-- A role apart from those commanded keeps its channel. -/
theorem sameRole_of_apart {p q : Part} {f : FilterId} {xs : List (Role × Position)} {y : Role × Position}
    (h : OnlyCommanded p q f xs) (hm : q.mapped = p.mapped) (ha : ∀ x ∈ xs, Apart p f x y) : SameRole p q f y.1 :=
  ⟨by rw [hm], fun ch hy => h.2 ch fun x hx => apart_symm (ha x hx) ch hy⟩

/-- Commands to roles apart from the first ones find their channels as they were. -/
theorem onlyCommanded_append {p q r : Part} {f : FilterId} {xs ys : List (Role × Position)}
    (h : OnlyCommanded p q f xs) (k : OnlyCommanded q r f ys) (hr : SameRules p q)
    (ha : ∀ x ∈ xs, ∀ y ∈ ys, Apart p f x y) : OnlyCommanded p r f (xs ++ ys) := by
  obtain ⟨hm, hclock, hplant⟩ := hr
  obtain ⟨hx, hother⟩ := h
  obtain ⟨ky, kother⟩ := k
  refine ⟨fun x mem => ?_, fun ch hch => ?_⟩
  · rcases List.mem_append.1 mem with mem | mem
    · intro ch hc
      rw [kother ch fun y hy => by rw [hm]; exact ha x mem y hy ch hc]
      exact hx x mem ch hc
    · intro ch hc
      have same := sameRole_of_apart ⟨hx, hother⟩ hm fun z hz => ha z hz x mem
      have := ky x mem ch (by rw [hm]; exact hc)
      rw [restsAt_same same, roleTravels_same same, same.2 ch hc, hclock, hplant] at this
      exact this
  · rw [kother ch fun y hy => by rw [hm]; exact hch y (List.mem_append_right _ hy)]
    exact hother ch fun x hx => hch x (List.mem_append_left _ hx)

theorem issue_cons {p : Part} {f : FilterId} {x : Role × Position} {rest : List (Role × Position)}
    (h : (p.commandRole f x.1 x.2).2 ≠ .fails) : p.issue f (x :: rest) = (p.commandRole f x.1 x.2).1.issue f rest := by
  obtain ⟨r, pos⟩ := x
  conv => lhs; unfold Part.issue
  exact if_neg h

/-- Commands that are all obeyed are all issued. -/
theorem issue_obeyed {f : FilterId} (xs : List (Role × Position)) : ∀ {p : Part}, (∀ x ∈ xs, Obeys p f x) →
    xs.Pairwise (Apart p f) → (p.issue f xs).2 = false ∧ OnlyCommanded p (p.issue f xs).1 f xs := by
  induction xs with
  | nil => exact fun _ _ => ⟨rfl, onlyCommanded_nil _ f⟩
  | cons x rest ih =>
    intro p h ha
    obtain ⟨hx, hrest⟩ := List.forall_mem_cons.1 h
    obtain ⟨hax, harest⟩ := List.pairwise_cons.1 ha
    obtain ⟨taken, done⟩ := commandRole_obeyed hx
    have rules := commandRole_sameRules p f x.1 x.2
    have same : ∀ y ∈ rest, SameRole p (p.commandRole f x.1 x.2).1 f y.1 := fun y hy =>
      sameRole_of_apart done rules.1 fun z hz => by rw [List.mem_singleton.1 hz]; exact hax y hy
    obtain ⟨ok, rest'⟩ := ih (fun y hy => (obeys_same (same y hy)).2 (hrest y hy)) (by rw [apart_same rules]; exact harest)
    rw [issue_cons taken]
    exact ⟨ok, onlyCommanded_append done rest' rules fun z hz => by rw [List.mem_singleton.1 hz]; exact hax⟩

/-- R13: the first command to a channel in FAULT ends the list, none issued after it. -/
theorem issue_fails {f : FilterId} {r : Role} {pos : Position} {later : List (Role × Position)}
    (before : List (Role × Position)) : ∀ {p : Part}, (∀ x ∈ before, Obeys p f x) → before.Pairwise (Apart p f) →
    (∀ x ∈ before, Apart p f x (r, pos)) → RoleInFault p f r →
    p.issue f (before ++ (r, pos) :: later) = ((p.issue f before).1, true) := by
  induction before with
  | nil =>
    intro p _ _ _ hf
    rw [List.nil_append]
    conv => lhs; unfold Part.issue
    rw [commandRole_fault hf]
    rfl
  | cons x rest ih =>
    intro p h ha hr hf
    obtain ⟨hx, hrest⟩ := List.forall_mem_cons.1 h
    obtain ⟨hax, harest⟩ := List.pairwise_cons.1 ha
    obtain ⟨hrx, hrrest⟩ := List.forall_mem_cons.1 hr
    obtain ⟨taken, done⟩ := commandRole_obeyed hx
    have rules := commandRole_sameRules p f x.1 x.2
    have same : ∀ y, Apart p f x y → SameRole p (p.commandRole f x.1 x.2).1 f y.1 := fun y hy =>
      sameRole_of_apart done rules.1 fun z hz => by rw [List.mem_singleton.1 hz]; exact hy
    rw [List.cons_append, issue_cons taken, issue_cons taken]
    exact ih (fun y hy => (obeys_same (same y (hax y hy))).2 (hrest y hy)) (by rw [apart_same rules]; exact harest)
      (fun y hy => by rw [apart_same rules]; exact hrrest y hy) ((roleInFault_same (same (r, pos) hrx)).2 hf)

/-- A role commanded where it rests is where it was. -/
theorem restsAt_commanded {p q : Part} {f : FilterId} {xs : List (Role × Position)} {x : Role × Position}
    (h : OnlyCommanded p q f xs) (hm : q.mapped = p.mapped) (hx : x ∈ xs) (hr : RestsAt p f x.1 x.2) :
    RestsAt q f x.1 x.2 := by
  have hr' := hr
  obtain ⟨ch, hc, hs⟩ := hr'
  refine ⟨ch, by rw [hm]; exact hc, ?_⟩
  rw [(h.1 x hx ch hc).1 hr]
  exact hs

/-- A role set off is not where it was sent. -/
theorem not_restsAt_commanded {p q : Part} {f : FilterId} {xs : List (Role × Position)} {x : Role × Position}
    (h : OnlyCommanded p q f xs) (hm : q.mapped = p.mapped) (hx : x ∈ xs) (ht : RoleTravels p f x.1 x.2) :
    ¬ RestsAt q f x.1 x.2 := by
  rintro ⟨d, hd, hs⟩
  have ht' := ht
  obtain ⟨ch, hc, -, -⟩ := ht'
  rw [hm, hc, Option.some.injEq] at hd
  subst hd
  rw [(h.1 x hx ch hc).2 ht] at hs
  rcases hs with ⟨hp, hs⟩ | ⟨hp, hs⟩ <;> simp [inTravelTo, hp] at hs

/-! ### Entries and proposals that go -/

theorem withdrawFor_of {p : Part} {pr : Proposal} (h : p.sched.proposal = some pr) (c : WithdrawalCause) :
    p.withdrawFor pr.filter c = p.withdraw c none := by
  unfold Part.withdrawFor; rw [h]; exact if_pos rfl

theorem withdrawFor_idle {p : Part} {f : FilterId} (h : ∀ pr, p.sched.proposal = some pr → pr.filter ≠ f)
    (c : WithdrawalCause) : p.withdrawFor f c = p := by
  unfold Part.withdrawFor
  split
  · exact if_neg (h _ ‹_›)
  · rfl

theorem dropEntry_gone (p : Part) (f : FilterId) (c : RemovalCause) :
    (p.dropEntry f c).entry f = none ∧ ∀ g, g ≠ f → (p.dropEntry f c).entry g = p.entry g := by
  cases h : p.entry f with
  | none => rw [dropEntry_none h]; exact ⟨h, fun _ _ => rfl⟩
  | some e => exact ⟨(dropEntry_of h c).1, (dropEntry_of h c).2.1⟩

/-- The report of an entry that leaves the queue. -/
def entryRemoval (p : Part) (f : FilterId) (cause : RemovalCause) : List ReportBody :=
  match p.entry f with
  | some e => [.request .removed f e.cls none e.source e.u (some cause)]
  | none => []

/-- The report of a proposal that goes with its filter's entry. -/
def proposalRemoval (p : Part) (f : FilterId) : List ReportBody :=
  match p.sched.proposal with
  | some pr => if pr.filter = f then [.proposalWithdrawn f .filter none] else []
  | none => []

theorem removalReports_eq (p : Part) (f : FilterId) (c : RemovalCause) :
    removalReports p f c = entryRemoval p f c ++ proposalRemoval p f := rfl

theorem dropEntry_link (p : Part) (f : FilterId) (c : RemovalCause) :
    (p.dropEntry f c).link = afterReports p.clock p.link (entryRemoval p f c) := by
  unfold entryRemoval
  cases h : p.entry f with
  | none => rw [dropEntry_none h]; rfl
  | some e => obtain ⟨-, -, hl, -⟩ := dropEntry_of h c; exact hl

/-- R55, Table 4-3: the entry and a proposal for its filter are gone, every other entry as it was. -/
theorem expelEntry_gone (p : Part) (f : FilterId) (c : RemovalCause) : EntryGone p (p.expelEntry f c) f := by
  have kd : OnlyChanges ([Piece.queue, .scanDue, .events] ++ reporting) p (p.dropEntry f c) := by simp
  have kw : OnlyChanges ([Piece.proposal, .scanDue, .events] ++ reporting) (p.dropEntry f c) (p.expelEntry f c) := by
    unfold Part.expelEntry; simp
  have hp : (p.dropEntry f c).sched.proposal = p.sched.proposal := kd .proposal (by simp)
  obtain ⟨gone, others⟩ := dropEntry_gone p f c
  refine ⟨(entry_kept kw (by simp) f).trans gone, fun g hg => (entry_kept kw (by simp) g).trans (others g hg), ?_⟩
  unfold Part.expelEntry
  by_cases h : ∃ pr, p.sched.proposal = some pr ∧ pr.filter = f
  · obtain ⟨pr, hpr, rfl⟩ := h
    rw [withdrawFor_of (hp.trans hpr), (withdraw_of (hp.trans hpr) _ _).1]
    simp [hpr]
  · rw [withdrawFor_idle fun pr hpr e => h ⟨pr, hp.symm.trans hpr, e⟩, hp, if_neg]
    rw [Option.any_eq_true]
    rintro ⟨pr, hpr, e⟩
    exact h ⟨pr, hpr, by simpa using e⟩

theorem expelEntry_link (p : Part) (f : FilterId) (c : RemovalCause) :
    (p.expelEntry f c).link = afterReports p.clock p.link (removalReports p f c) := by
  have kd : OnlyChanges ([Piece.queue, .scanDue, .events] ++ reporting) p (p.dropEntry f c) := by simp
  have hp : (p.dropEntry f c).sched.proposal = p.sched.proposal := kd .proposal (by simp)
  have hc : (p.dropEntry f c).clock = p.clock := kd .clock (by simp)
  rw [removalReports_eq, afterReports_append, ← dropEntry_link]
  unfold Part.expelEntry proposalRemoval
  cases hpr : p.sched.proposal with
  | none =>
    rw [withdrawFor_idle fun pr h => by rw [hp, hpr] at h; cases h]
    rfl
  | some pr =>
    dsimp only
    split
    · rename_i e
      subst e
      rw [withdrawFor_of (hp.trans hpr), (withdraw_of (hp.trans hpr) _ _).2.1, hc]
    · rename_i e
      rw [withdrawFor_idle fun pr' h => by rw [hp, hpr, Option.some.injEq] at h; rw [← h]; exact e]
      rfl

end Sys2Proof.Laws
end

section
/-! SUPPORT. Run time (R15, R42), the reset values, and channel faults taken by a filter's state (R3, R13). -/

namespace Sys2Proof.Laws

open Sys2Proof.Machine

/-! ### Whole minutes -/

theorem modFilter_of {p : Part} {f : FilterId} {r : FilterRecord} (h : p.filter f = some r) (g : FilterRecord → FilterRecord) :
    p.modFilter f g = p.putFilter f (some (g r)) := by
  unfold Part.modFilter; rw [h]

/-- RUN_MINUTE counts every whole minute of its filter and touches no other. -/
theorem runMinute_counts : RunMinuteCounts := by
  intro s f r ho hr
  have ht : (taking s.part (.runMinute f)).filter f = some r := hr
  refine ⟨_, (exec_runMinute f s).trans (takeEvent_outstanding _ ho), rfl, by simp, ?_⟩
  dsimp only
  unfold Part.runMinute
  rw [modFilter_of ht]
  exact ⟨filter_putFilter _ f _, fun g hg => filter_putFilter_ne _ hg _, rfl⟩

theorem minuteTick_calls : MinuteTickCallsForEveryEvaluation := by
  intro s ho
  exact ⟨_, (exec_minuteTick s).trans (takeEvent_outstanding _ ho), rfl, by simp, rfl⟩

/-! ### Reset values -/

theorem plantDefaults_reset : PlantDefaults PlantRecord.defaults := by
  refine ⟨rfl, rfl, rfl, rfl, rfl, rfl, rfl, fun k => ?_, rfl, rfl, rfl, rfl, rfl, rfl, rfl, rfl, fun x => ?_, rfl, rfl, rfl,
    rfl, fun u => ?_, rfl, rfl⟩
  · cases k <;> rfl
  · cases x <;> rfl
  · cases u <;> rfl

section Initial
variable (rate : Rate) (inputs : PerUnit Level)

theorem point_initial (id : PointId) : (Part.initial rate inputs).point id = Point.initial := by
  cases id <;> simp [Part.point, Part.initial, FrontEnd.initial]

theorem channel_initial (ch : ChannelId) : (Part.initial rate inputs).channel ch = Channel.initial := by
  simp [Part.channel, Part.initial, ValveField.initial]

theorem filter_initial (f : FilterId) : (Part.initial rate inputs).filter f = none := by
  simp [Part.filter, Part.initial]

theorem recipe_initial (slot : SlotId) : (Part.initial rate inputs).recipe slot = none := by
  simp [Part.recipe, Part.initial]

theorem mapped_initial (f : FilterId) (r : Role) : (Part.initial rate inputs).mapped f r = none := by
  cases r <;> simp [Part.mapped, Part.initial, ValveField.initial, PerRole.get]

/-- A part after a power-on reset, whatever its straps and feedback inputs, has no run state. -/
theorem runStateCleared_initial : RunStateCleared (Part.initial rate inputs) := by
  unfold RunStateCleared
  simp only [point_initial, channel_initial]
  refine ⟨rfl, rfl, rfl, rfl, rfl, rfl, rfl, rfl, rfl, rfl, rfl, rfl, fun l => ?_, rfl, rfl, fun k => ?_, rfl, rfl, fun l => ?_,
    fun u => ?_, rfl, rfl, rfl, rfl, rfl, rfl, rfl, rfl, rfl, rfl, rfl, rfl, rfl, rfl, rfl, rfl, fun i => ?_, rfl, rfl,
    fun _ => ⟨rfl, rfl, rfl, rfl⟩, fun _ => ⟨rfl, rfl, rfl, rfl⟩⟩
  · cases l <;> rfl
  · cases k <;> rfl
  · cases l <;> rfl
  · cases u <;> rfl
  · simp [Part.initial, FrontEnd.initial]

theorem configurationCleared_initial : ConfigurationCleared (Part.initial rate inputs) := by
  unfold ConfigurationCleared
  simp only [point_initial, channel_initial, filter_initial, recipe_initial, mapped_initial]
  exact ⟨rfl, plantDefaults_reset, fun _ => trivial, fun _ => rfl, fun _ => trivial, fun _ _ => trivial, fun _ => ⟨rfl, rfl, rfl⟩⟩

end Initial

/-! ### Channel faults -/

theorem filterOwner_of {p : Part} {f : FilterId} {r : FilterRecord} (h : p.filter f = some r) : p.filterOwner f = r.owner := by
  unfold Part.filterOwner; rw [h]

/-- The owner of an ONLINE, STANDBY or STRANDED filter's channels: its transfer, if one runs. -/
theorem owner_of_rotation {r : FilterRecord} (h : r.state = .online ∨ r.state = .standby ∨ r.state = .stranded) :
    r.owner = if r.transfer.isSome then .transfer else .none := by
  unfold FilterRecord.owner
  rcases h with h | h | h <;> rw [h]

/-- The marker cleared with a scan triggered, if it named the filter. -/
def clearMarker (p : Part) (f : FilterId) : Part :=
  if p.table.marker == some f then (p.setMarker none).trigger else p

@[simp] theorem clearMarker_keeps {xs : List Piece} {p₀ p : Part} (f : FilterId) (h : [Piece.marker, .scanDue] ⊆ xs) :
    OnlyChanges xs p₀ (clearMarker p f) ↔ OnlyChanges xs p₀ p := by
  simp at h
  unfold clearMarker
  split <;> simp [h]

@[simp] theorem clearMarker_link (p : Part) (f : FilterId) : (clearMarker p f).link = p.link := by
  unfold clearMarker
  split
  · rw [trigger_link]; rfl
  · rfl

/-- The marker after a transfer's end: none if it named the filter. -/
theorem clearMarker_marker (p : Part) (f : FilterId) : (clearMarker p f).table.marker = markerWithout p f := by
  unfold clearMarker markerWithout
  by_cases h : p.table.marker = some f
  · rw [if_pos (by simp [h]), if_pos h]
    have k : OnlyChanges [.scanDue] (p.setMarker none) (p.setMarker none).trigger := by simp
    exact k .marker (by simp)
  · rw [if_neg (by simp [h]), if_neg h]

theorem marker_changeFilter (p : Part) (f : FilterId) (g : FilterRecord → FilterRecord) :
    (p.changeFilter f g).table.marker = p.table.marker :=
  ((changeFilter_keeps f g (List.Subset.refl _)).2 (onlyChanges_refl _ _)) .marker (by simp)

theorem transferFails_eq (p : Part) (f : FilterId) : p.transferFails f =
    clearMarker (p.changeFilter f fun r => { r with state := .faulted .valve, transfer := none }) f := by
  unfold clearMarker
  rw [marker_changeFilter]
  rfl

theorem transferCompletes_eq (p : Part) (f : FilterId) (k : TransferKind) : p.transferCompletes f k =
    clearMarker (p.changeFilter f fun r => { r with state := stateTo k, transfer := none }) f := by
  unfold clearMarker
  rw [marker_changeFilter]
  cases k <;> rfl

section Fails
variable {p : Part} {f : FilterId} {rec : FilterRecord} (h : p.filter f = some rec)
include h

/-- R13: a transfer that fails leaves its filter FAULTED VALVE; FILTER_STATE is reported, and what the loading computation
reports where the filter leaves the service area. -/
theorem transferFails_of :
    OnlyChanges ([Piece.filters, .marker, .flags, .overload, .scanDue, .events] ++ reporting) p (p.transferFails f) ∧
    OtherFiltersKept p (p.transferFails f) f ∧ (p.transferFails f).table.marker = markerWithout p f ∧
    (p.transferFails f).filter f = some (offIndex { rec with state := .faulted .valve, transfer := none }) ∧
    ∃ cs, (p.transferFails f).link = afterReports p.clock p.link
        (.filterState f (some (.faulted .valve)) (some rec.state) none (p.table.marker == some f) :: cs) ∧
      (rec.state ≠ .online → cs = []) := by
  rw [transferFails_eq]
  obtain ⟨cs, hl, hcs⟩ := changeFilter_link h fun r => { r with state := .faulted .valve, transfer := none }
  have kw := changeFilter_windows h (fun r => { r with state := .faulted .valve, transfer := none }) rfl
  have kc : ∀ q : Part, OnlyChanges [.marker, .scanDue] q (clearMarker q f) := fun q => by simp
  refine ⟨onlyChanges_trans (onlyChanges_mono kw (by simp)) (onlyChanges_mono (kc _) (by simp)), fun g hg => ?_, ?_, ?_, cs, ?_,
    fun ho => hcs (by simp [ho])⟩
  · rw [filter_kept (kc _) (by simp), changeFilter_filter_ne _ hg]
  · rw [clearMarker_marker]
    unfold markerWithout
    rw [marker_changeFilter]
  · rw [filter_kept (kc _) (by simp), changeFilter_filter h]
    rfl
  · rw [clearMarker_link, hl]

/-- A filter outside the service area fails its transfer without a loading computed. -/
theorem transferFails_quiet (ho : rec.state ≠ .online) :
    OnlyChanges ([Piece.filters, .marker, .scanDue, .events] ++ reporting) p (p.transferFails f) := by
  rw [transferFails_eq, changeFilter_quiet h _ (iff_of_false (by simp) ho)]
  have km := moveFilter_windows (r := { rec with state := .faulted .valve, transfer := none }) rfl p f
  exact onlyChanges_trans (onlyChanges_mono km (by simp)) (by simp)

/-- The entry goes, and the filter takes a state of the window: what TAKE_OUT and a fault without an owner have in common. -/
theorem expel_change_of (c : RemovalCause) (g : FilterRecord → FilterRecord) (hw : (g rec).state.isWindows = true) :
    let q := (p.expelEntry f c).changeFilter f g
    OnlyChanges ([Piece.filters, .queue, .proposal, .flags, .overload, .scanDue, .events] ++ reporting) p q ∧
    (rec.state ≠ .online → OnlyChanges ([Piece.filters, .queue, .proposal, .scanDue, .events] ++ reporting) p q) ∧
    q.filter f = some (g rec).indexed ∧ OtherFiltersKept p q f ∧ EntryGone p q f ∧
    (∃ cs, q.link = afterReports p.clock p.link (removalReports p f c ++
        .filterState f (some (g rec).state) (some rec.state) (g rec).transfer (p.table.marker == some f) :: cs) ∧
      (rec.state ≠ .online → cs = [])) := by
  have ke : OnlyChanges ([Piece.queue, .proposal, .scanDue, .events] ++ reporting) p (p.expelEntry f c) := by simp
  have hf : (p.expelEntry f c).filter f = some rec := (filter_kept ke (by simp) f).trans h
  have kw := changeFilter_windows hf g hw
  obtain ⟨cs, hl, hcs⟩ := changeFilter_link hf g
  obtain ⟨gone, others, proposal⟩ := expelEntry_gone p f c
  have hoff : (g rec).state ≠ .online := fun e => by rw [e] at hw; cases hw
  refine ⟨onlyChanges_trans (onlyChanges_mono ke (by simp)) (onlyChanges_mono kw (by simp)), fun ho => ?_,
    changeFilter_filter hf g, fun k hk => (changeFilter_filter_ne _ hk g).trans (filter_kept ke (by simp) k),
    ⟨(entry_kept kw (by simp) f).trans gone, fun k hk => (entry_kept kw (by simp) k).trans (others k hk),
      (kw .proposal (by simp)).trans proposal⟩, cs, ?_, fun ho => hcs (by simp [ho, hoff])⟩
  · rw [changeFilter_quiet hf g (iff_of_false hoff ho)]
    exact onlyChanges_trans (onlyChanges_mono ke (by simp)) (onlyChanges_mono (moveFilter_windows hw _ f) (by simp))
  rw [show (p.expelEntry f c).clock = p.clock from ke .clock (by simp),
    show (p.expelEntry f c).table.marker = p.table.marker from ke .marker (by simp), expelEntry_link] at hl
  exact hl.trans (afterReports_append _ _ _ _).symm

end Fails

theorem mem_raiseOnce (p : Part) (e : Event) : e ∈ (p.raiseOnce e).events := by
  unfold Part.raiseOnce
  split
  · simpa using ‹p.events.contains e = true›
  · simp [Part.raise]

/-- TRANSFER_CHANNEL_FAULT and FILTER_CHANNEL_FAULT are one meaning over two events. -/
theorem exec_faultRow {s : State} {f : FilterId} {role : Role} {row : Instr}
    (h : (Outstanding s (.transferFault f role) ∧ row = .transferChannelFault f role) ∨
      (Outstanding s (.filterFault f role) ∧ row = .filterChannelFault f role)) :
    ∃ e, Outstanding s e ∧ exec row s = .next { s with part := (taking s.part e).tableFault f role } := by
  rcases h with ⟨ho, rfl⟩ | ⟨ho, rfl⟩
  · exact ⟨_, ho, (exec_transferChannelFault f role s).trans (takeEvent_outstanding _ ho)⟩
  · exact ⟨_, ho, (exec_filterChannelFault f role s).trans (takeEvent_outstanding _ ho)⟩

end Sys2Proof.Laws

namespace Sys2Proof

open Machine Laws

/-- Settles O10: RUN_MINUTE and MINUTE_TICK, each from the meaning of its row. -/
theorem filterMinutesCountAndCallForEvaluations : Obligations.FilterMinutesCountAndCallForEvaluations :=
  ⟨runMinute_counts, minuteTick_calls⟩

/-- Settles O2: the reset values hold of a power-on reset with any straps and feedback levels, so of `State.reset`. -/
theorem resetStateHoldsTheResetValues : Obligations.ResetStateHoldsTheResetValues :=
  ⟨runStateCleared_initial _ _, configurationCleared_initial _ _, rfl, rfl, rfl⟩

/-- Settles O31, by the owner of the filter's channels when the fault is taken: its transfer, none, a lane, the window. -/
theorem channelFaultsFaultTheFilter : Obligations.ChannelFaultsFaultTheFilter := by
  intro s f role row _ hrow
  obtain ⟨e, -, hexec⟩ := exec_faultRow hrow
  have kt : OnlyChanges [.events] s.part (taking s.part e) := by simp
  refine ⟨fun rec hf hs => ⟨fun ht => ?transfer, fun ht => ?unowned⟩, fun rec l hf hs => ?lane, fun hw => ?window⟩
  case transfer =>
    have hf' : (taking s.part e).filter f = some rec := hf
    have own : (taking s.part e).filterOwner f = .transfer := by
      rw [filterOwner_of hf', owner_of_rotation hs, if_pos (Option.isSome_iff_ne_none.2 ht)]
    obtain ⟨k, others, marker, now, cs, hl, hcs⟩ := transferFails_of hf'
    refine ⟨_, cs, hexec, rfl, ?_⟩
    unfold Part.tableFault
    rw [own]
    exact ⟨onlyChanges_trans (onlyChanges_mono kt (by simp)) k, others, marker, now, hl, hcs⟩
  case unowned =>
    have hf' : (taking s.part e).filter f = some rec := hf
    have own : (taking s.part e).filterOwner f = .none := by
      rw [filterOwner_of hf', owner_of_rotation hs]
      simp [ht]
    obtain ⟨k, -, now, others, gone, cs, hl, hcs⟩ :=
      expel_change_of hf' .faulted (fun r => { r with state := .faulted .valve }) rfl
    refine ⟨_, cs, hexec, rfl, ?_⟩
    unfold Part.tableFault
    rw [own]
    rw [ht] at hl
    exact ⟨onlyChanges_trans (onlyChanges_mono kt (by simp)) k, others, gone, now, hl, hcs⟩
  case lane =>
    have own : (taking s.part e).filterOwner f = .lane l := by
      rw [filterOwner_of (show (taking s.part e).filter f = some rec from hf)]
      unfold FilterRecord.owner; rw [hs]
    refine ⟨_, hexec, rfl, ?_⟩
    unfold Part.tableFault
    rw [own]
    exact ⟨by simp, mem_raiseOnce _ _⟩
  case window =>
    have own : (taking s.part e).filterOwner f = .window := by
      unfold Part.filterOwner FilterRecord.owner
      rcases hw with hf | ⟨rec, hf, hs | ⟨c, hs⟩⟩
      · rw [show (taking s.part e).filter f = none from hf]
      · rw [show (taking s.part e).filter f = some rec from hf]; simp only [hs]
      · rw [show (taking s.part e).filter f = some rec from hf]; simp only [hs]
    refine ⟨_, hexec, rfl, ?_⟩
    unfold Part.tableFault
    rw [own]
    exact kt

end Sys2Proof
end

section
/-! SUPPORT. The commands on the filter table: their common checks, what each does where it is accepted, and the reading
commands that move the link port. -/

namespace Sys2Proof.Laws

open Sys2Proof.Machine

/-! ### Results carried past the reply -/

theorem otherFiltersKept_reply {p q q' : Part} {f : FilterId} (h : OtherFiltersKept p.frameAccepted q f)
    (k : OnlyChanges reporting q q') : OtherFiltersKept p q' f := fun g hg =>
  (filter_kept k (by simp) g).trans ((h g hg).trans (accepted_filter p g))

theorem entryGone_reply {p q q' : Part} {f : FilterId} (h : EntryGone p.frameAccepted q f) (k : OnlyChanges reporting q q') :
    EntryGone p q' f := by
  obtain ⟨gone, others, proposal⟩ := h
  refine ⟨(entry_kept k (by simp) f).trans gone,
    fun g hg => (entry_kept k (by simp) g).trans ((others g hg).trans (accepted_entry p g)), ?_⟩
  rw [accepted_sched] at proposal
  exact (k .proposal (by simp)).trans proposal

theorem removalReports_accepted (p : Part) (f : FilterId) (c : RemovalCause) :
    removalReports p.frameAccepted f c = removalReports p f c := by
  unfold removalReports
  rw [accepted_entry, accepted_sched]

theorem accepted_marker (p : Part) : p.frameAccepted.table.marker = p.table.marker := accepted_only p .marker (by simp)

theorem accepted_operating {p : Part} (h : p.startUp.top = .operating) : p.frameAccepted.operating = true :=
  operating_of ((frameAccepted_top p).trans h)

theorem done_reports {s : State} {row : Instr} {tag : Byte} {c : HostCommand} {q : Part} {bs : List ReportBody} {r : Result}
    {fields : ReplyFields} {xs : List Piece} {now : Part → Prop} (hc : CanHandle s) (hrow : row.command = some (tag, c))
    (h : s.part.frameAccepted.answer c = (q, r, fields)) (k : OnlyChanges (xs ++ reporting) s.part.frameAccepted q)
    (hr : Reports s.part.frameAccepted q bs) (hn : ∀ q', OnlyChanges reporting q q' → now q') :
    Done s row xs bs r fields now :=
  done_of hc hrow h k (by
    unfold Reports at hr
    rw [frameAccepted_clock, frameAccepted_link] at hr
    exact hr) hn

/-! ### Configuration (R1, R2) -/

theorem within_eq_some {lo hi n m : Nat} : within lo hi n = some m ↔ (lo ≤ n ∧ n ≤ hi) ∧ n = m := by
  unfold within
  split <;> simp_all

theorem slotOf_eq_some {b : Byte} {slot : SlotId} : slotOf b = some slot ↔ b.toNat = slot.val := by
  unfold slotOf
  split
  · rw [Option.some.injEq, Fin.ext_iff]
  · have := slot.isLt
    simp only [reduceCtorEq, false_iff]
    omega

theorem destinationOf_eq_some {b : Byte} {d : Destination} :
    destinationOf b = some d ↔ (b = 1 ∧ d = .online) ∨ (b = 2 ∧ d = .standby) := by
  unfold destinationOf
  split
  · subst_vars; simp [eq_comm]
  · split
    · subst_vars; simp [eq_comm]
    · simp_all

/-- The fields of SET_FILTER make a configuration exactly where each is in the range of Table 1-6. -/
theorem filterConfigOf_eq_some {p : Part} {c : RawFilter} {cfg : FilterConfig} :
    filterConfigOf (fun slot => (p.recipe slot).isSome) c = some cfg ↔
      ∃ slot d, FilterFields p c slot d ∧ cfg = configWritten c slot d := by
  unfold filterConfigOf FilterFields configWritten
  simp only [Option.bind_eq_bind, Option.bind_eq_some_iff, within_eq_some, slotOf_eq_some, destinationOf_eq_some,
    Option.ite_none_right_eq_some, Option.some.injEq, Option.isSome_iff_ne_none]
  constructor
  · rintro ⟨_, ⟨ha, rfl⟩, _, ⟨hh, rfl⟩, _, ⟨ht, rfl⟩, _, ⟨htt, rfl⟩, _, ⟨hr, rfl⟩, _, ⟨harm, rfl⟩, slot, hs, d, hd, hi, rfl⟩
    exact ⟨slot, d, ⟨ha, hh.2, ht, htt, hr, harm.2, ⟨hs, hi⟩, hd⟩, rfl⟩
  · rintro ⟨slot, d, ⟨ha, hh, ht, htt, hr, harm, ⟨hs, hi⟩, hd⟩, rfl⟩
    exact ⟨_, ⟨ha, rfl⟩, _, ⟨⟨Nat.zero_le _, hh⟩, rfl⟩, _, ⟨ht, rfl⟩, _, ⟨htt, rfl⟩, _, ⟨hr, rfl⟩, _,
      ⟨⟨Nat.zero_le _, harm⟩, rfl⟩, slot, hs, d, hd, hi, rfl⟩

theorem filterFields_accepted {p : Part} {c : RawFilter} {slot : SlotId} {d : Destination} :
    FilterFields p.frameAccepted c slot d ↔ FilterFields p c slot d := by
  unfold FilterFields; rw [accepted_recipe]

theorem configurable_accepted (p : Part) (f : FilterId) : p.frameAccepted.configurable f = p.configurable f := by
  unfold Part.configurable Part.operating
  rw [frameAccepted_top, accepted_filter]

/-- R1: only a filter in service shuts its configuration, and only in OPERATING. -/
theorem configurable_iff {p : Part} {f : FilterId} : p.configurable f = true ↔
    ¬ (p.startUp.top = .operating ∧ ∃ rec, p.filter f = some rec ∧ rec.state ≠ .outOfService) := by
  unfold Part.configurable Part.operating
  cases p.filter f <;> by_cases h : p.startUp.top = .operating <;> simp [h]

section SetFilter
variable {s : State} {b : Byte} {f : FilterId} (hs : s.part.startUp.top ≠ .surveying) (hb : filterOf b = some f)
include hs

theorem answer_setFilter_range (hb : filterOf b = none) (form : Byte) (c : RawFilter) :
    s.part.frameAccepted.answer (.setFilter b form c) = refuse s.part.frameAccepted .range :=
  (unlessSurveying_of (by rw [frameAccepted_top]; exact hs) _).trans (named_none hb)

include hb

theorem answer_define (c : RawFilter) :
    s.part.frameAccepted.answer (.setFilter b 0 c) = answerDefine s.part.frameAccepted f c :=
  (unlessSurveying_of (by rw [frameAccepted_top]; exact hs) _).trans (named_some hb)

theorem answer_undefine (c : RawFilter) :
    s.part.frameAccepted.answer (.setFilter b 1 c) = answerUndefine s.part.frameAccepted f :=
  (unlessSurveying_of (by rw [frameAccepted_top]; exact hs) _).trans (named_some hb)

end SetFilter

theorem answerDefine_closed {p : Part} {f : FilterId} (h : p.configurable f = false) (c : RawFilter) :
    answerDefine p f c = refuse p .state := unlessFails_no h

theorem answerDefine_bad {p : Part} {f : FilterId} {c : RawFilter} (h : p.configurable f = true)
    (hc : ∀ slot d, ¬ FilterFields p c slot d) : answerDefine p f c = refuse p .range := by
  refine (unlessFails_ok h).trans (named_none ?_)
  rw [Option.eq_none_iff_forall_ne_some]
  intro cfg hcfg
  obtain ⟨slot, d, k, -⟩ := filterConfigOf_eq_some.1 hcfg
  exact hc slot d k

theorem answerDefine_good {p : Part} {f : FilterId} {c : RawFilter} {slot : SlotId} {d : Destination}
    (h : p.configurable f = true) (hc : FilterFields p c slot d) :
    answerDefine p f c = okay (p.defineFilter f (configWritten c slot d)) :=
  (unlessFails_ok h).trans (named_some (filterConfigOf_eq_some.2 ⟨slot, d, hc, rfl⟩))

theorem defineFilter_new {p : Part} {f : FilterId} (h : p.filter f = none) (cfg : FilterConfig) :
    (p.defineFilter f cfg).filter f = some (newRecord cfg) ∧ OtherFiltersKept p (p.defineFilter f cfg) f ∧
    Reports p (p.defineFilter f cfg) [.filterState f (some .outOfService) none none (p.table.marker == some f)] := by
  have e : p.defineFilter f cfg = (p.putFilter f (some (newRecord cfg))).reportFilter f none := by
    unfold Part.defineFilter; rw [h]; rfl
  have k : OnlyChanges reporting (p.putFilter f (some (newRecord cfg))) (p.defineFilter f cfg) := by rw [e]; simp
  refine ⟨(filter_kept k (by simp) f).trans (filter_putFilter p f _),
    fun g hg => (filter_kept k (by simp) g).trans (filter_putFilter_ne p hg _), ?_⟩
  unfold Reports
  rw [e]
  unfold Part.reportFilter
  dsimp only
  rw [afterReports_one, filter_putFilter]
  rfl

theorem defineFilter_again {p : Part} {f : FilterId} {rec : FilterRecord} (h : p.filter f = some rec) (cfg : FilterConfig) :
    p.defineFilter f cfg = p.putFilter f (some { rec with
      cfg := cfg, runMin := cfg.initRun, runSec := rec.runSec % 60
      armedMin := min (rec.armedMin + rec.runSec / 60) 240 }) := by
  unfold Part.defineFilter; rw [h]; rfl

/-- R162: the selection of a channel mapped to the filter is released. -/
theorem releaseWindow_selection {p : Part} {f : FilterId} {ch : ChannelId} {r : Role} (h : p.valves.selection = some ch)
    (hm : (p.channel ch).mappedTo = some (f, r)) : (p.releaseWindow f).valves.selection = none := by
  unfold Part.releaseWindow
  simp only [h, hm, if_true]
  rfl

/-- The part after SET_FILTER undefines a filter that stood OUT_OF_SERVICE. -/
def undefined (p : Part) (f : FilterId) : Part :=
  ((p.putFilter f none).reportFilter f (some .outOfService)).releaseWindow f

theorem answerUndefine_of {p : Part} {f : FilterId} {rec : FilterRecord} (h : p.filter f = some rec) :
    answerUndefine p f = if rec.state = .outOfService then okay (undefined p f) else refuse p .state := by
  unfold answerUndefine
  rw [h]
  dsimp only
  split
  · rename_i e; rw [e]; rfl
  · rfl

theorem undefined_of (p : Part) (f : FilterId) :
    OnlyChanges ([Piece.filters, .selection] ++ reporting) p (undefined p f) ∧
    (undefined p f).filter f = none ∧ OtherFiltersKept p (undefined p f) f ∧
    Reports p (undefined p f) [.filterState f none (some .outOfService) none (p.table.marker == some f)] ∧
    ((∃ ch r, p.valves.selection = some ch ∧ (p.channel ch).mappedTo = some (f, r)) →
      (undefined p f).valves.selection = none) := by
  have k : OnlyChanges ([Piece.selection] ++ reporting) (p.putFilter f none) (undefined p f) := by
    unfold undefined; simp
  refine ⟨by unfold undefined; simp, (filter_kept k (by simp) f).trans (filter_putFilter p f none),
    fun g hg => (filter_kept k (by simp) g).trans (filter_putFilter_ne p hg none), ?_, ?_⟩
  · unfold Reports undefined
    rw [releaseWindow_link]
    unfold Part.reportFilter
    dsimp only
    rw [afterReports_one, filter_putFilter]
    rfl
  · rintro ⟨ch, r, hsel, hm⟩
    exact releaseWindow_selection (p := (p.putFilter f none).reportFilter f (some .outOfService)) hsel hm

/-! ### Commands on one filter (R5 to R8, R52) -/

theorem onFilter_range {p : Part} {b : Byte} {k : FilterId → FilterRecord → Answer} (ht : p.startUp.top = .operating)
    (hb : filterOf b = none) : onFilter p b k = refuse p .range := by
  unfold onFilter
  rw [inOperating_of ht, named_none hb]

theorem onFilter_undefined {p : Part} {b : Byte} {k : FilterId → FilterRecord → Answer} {f : FilterId}
    (ht : p.startUp.top = .operating) (hb : filterOf b = some f) (hf : p.filter f = none) :
    onFilter p b k = refuse p .state := by
  unfold onFilter
  rw [inOperating_of ht, named_some hb, hf]

theorem onFilter_busy {p : Part} {b : Byte} {k : FilterId → FilterRecord → Answer} {f : FilterId} {rec : FilterRecord}
    (ht : p.startUp.top = .operating) (hb : filterOf b = some f) (hf : p.filter f = some rec) (hx : rec.transfer ≠ none) :
    onFilter p b k = refuse p .busy := by
  unfold onFilter
  rw [inOperating_of ht, named_some hb, hf]
  simp [Option.isSome_iff_ne_none, hx]

/-- Every command that names one filter is answered behind the shared checks. -/
theorem answer_onOneFilter {c : HostCommand} {b : Byte} (h : OnOneFilter c b) (p : Part) :
    ∃ k, p.answer c = onFilter p b k := by
  cases c <;> try exact absurd h id
  all_goals cases h; exact ⟨_, rfl⟩

theorem filterCommands_checkFirst : FilterCommandsCheckTheFilterFirst := by
  intro s row tag b c hc ht hrow hon
  obtain ⟨k, hk⟩ := answer_onOneFilter hon s.part.frameAccepted
  have ht' : s.part.frameAccepted.startUp.top = .operating := (frameAccepted_top _).trans ht
  refine ⟨fun hb => reads_of hc hrow (hk.trans (onFilter_range ht' hb)), fun f hb => ⟨fun hf => ?_, fun rec hf hx => ?_⟩⟩
  · exact reads_of hc hrow (hk.trans (onFilter_undefined ht' hb ((accepted_filter _ f).trans hf)))
  · exact reads_of hc hrow (hk.trans (onFilter_busy ht' hb ((accepted_filter _ f).trans hf) hx))

theorem conditionOf_none {x : Byte} (h : ¬ x.toNat ≤ 1) : conditionOf x = none := by
  have h0 : x ≠ 0 := fun e => by subst e; simp at h
  have h1 : x ≠ 1 := fun e => by subst e; simp at h
  unfold conditionOf
  rw [if_neg h0, if_neg h1]

theorem conditionOf_some {x : Byte} (h : x.toNat ≤ 1) : ∃ dirty, conditionOf x = some dirty := by
  have : x = 0 ∨ x = 1 := by bv_omega
  rcases this with rfl | rfl <;> exact ⟨_, rfl⟩

theorem fullyMapped_iff {p : Part} {f : FilterId} : p.fullyMapped f = true ↔ ∀ r, RoleUsable p f r := by
  have one : ∀ r, (p.mapped f r).any (fun ch => !(p.channel ch).locked) = true ↔ RoleUsable p f r := fun r => by
    unfold RoleUsable
    cases p.mapped f r <;> simp
  unfold Part.fullyMapped
  rw [List.all_eq_true]
  exact ⟨fun h r => (one r).1 (h r (mem_allRoles r)), fun h r _ => (one r).2 (h r)⟩

theorem allClosed_iff {p : Part} {f : FilterId} :
    (allRoles.all fun r => p.inPosition f r .closed) = true ↔ ∀ r, RestsAt p f r .closed := by
  rw [List.all_eq_true]
  exact ⟨fun h r => (inPosition_iff p f r _).1 (h r (mem_allRoles r)), fun h r _ => (inPosition_iff p f r _).2 (h r)⟩

theorem roleUsable_accepted (p : Part) (f : FilterId) (r : Role) :
    RoleUsable p.frameAccepted f r ↔ RoleUsable p f r := by
  unfold RoleUsable
  simp only [accepted_mapped, accepted_channel]

theorem sameRole_accepted (p : Part) (f : FilterId) (r : Role) : SameRole p p.frameAccepted f r :=
  sameRole_kept (accepted_only p) (by simp) (by simp) f r

theorem takesOut_iff (x : FilterState) : takesOut x = false ↔ x = .outOfService ∨ ∃ l, x = .washing l := by
  cases x <;> simp [takesOut]

theorem isFaulted_iff (x : FilterState) : x.isFaulted = true ↔ ∃ c, x = .faulted c := by
  cases x <;> simp [FilterState.isFaulted]

/-- A change of state outside the service area, reported and nothing more: what PUT_IN and CLEAR_FAULT make of the record. -/
theorem changed_quietly {s : State} {f : FilterId} {rec : FilterRecord} (hf : s.part.filter f = some rec)
    (hx : rec.transfer = none) (g : FilterRecord → FilterRecord) (ho : (g rec).state ≠ .online) (hr : rec.state ≠ .online)
    (hg : (g rec).transfer = rec.transfer) :
    let q := s.part.frameAccepted.changeFilter f g
    OnlyChanges ([Piece.filters, .selection, .events] ++ reporting) s.part.frameAccepted q ∧
    ((g rec).state.isWindows = true → OnlyChanges ([Piece.filters, .events] ++ reporting) s.part.frameAccepted q) ∧
    q.filter f = some (g rec).indexed ∧ OtherFiltersKept s.part.frameAccepted q f ∧
    Reports s.part.frameAccepted q [stateReport s.part f rec.state (g rec).state none] := by
  have hf' : s.part.frameAccepted.filter f = some rec := (accepted_filter _ f).trans hf
  have e := changeFilter_quiet hf' g (iff_of_false ho hr)
  refine ⟨by rw [e]; simp, fun hw => by rw [e]; exact moveFilter_windows hw _ f, changeFilter_filter hf' g,
    fun k hk => changeFilter_filter_ne _ hk g, ?_⟩
  unfold Reports stateReport
  rw [e, moveFilter_link, hf', accepted_marker, hg, hx]
  rfl

/-- R6: the part after TAKE_OUT, its entry gone and its filter OUT_OF_SERVICE. -/
theorem takenOut_of {s : State} {f : FilterId} {rec : FilterRecord} (hf : s.part.filter f = some rec)
    (hx : rec.transfer = none) :
    let q := (s.part.frameAccepted.expelEntry f .takenOut).changeFilter f fun r => { r with state := .outOfService }
    OnlyChanges ([Piece.filters, .queue, .proposal, .flags, .overload, .scanDue, .events] ++ reporting)
      s.part.frameAccepted q ∧
    (rec.state ≠ .online →
      OnlyChanges ([Piece.filters, .queue, .proposal, .scanDue, .events] ++ reporting) s.part.frameAccepted q) ∧
    q.filter f = some (offIndex { rec with state := .outOfService }) ∧ OtherFiltersKept s.part.frameAccepted q f ∧
    EntryGone s.part.frameAccepted q f ∧
    ∃ cs, Reports s.part.frameAccepted q
        (removalReports s.part f .takenOut ++ [stateReport s.part f rec.state .outOfService none] ++ cs) ∧
      (rec.state ≠ .online → cs = []) := by
  obtain ⟨k, kq, now, others, gone, cs, hl, hcs⟩ := expel_change_of ((accepted_filter _ f).trans hf) .takenOut
    (fun r => { r with state := .outOfService }) rfl
  refine ⟨k, kq, now, others, gone, cs, ?_, hcs⟩
  rw [removalReports_accepted, accepted_marker, hx] at hl
  rw [List.append_assoc]
  exact hl

section OneFilter
variable {s : State} {b : Byte} {f : FilterId} {rec : FilterRecord} (hc : CanHandle s)
  (ht : s.part.startUp.top = .operating) (hb : filterOf b = some f) (hf : s.part.filter f = some rec)
  (hx : rec.transfer = none)
include ht hb hf hx

/-- The shared checks passed, the command's own part answers. -/
theorem answer_passed {c : HostCommand} {k : FilterId → FilterRecord → Answer}
    (h : s.part.frameAccepted.answer c = onFilter s.part.frameAccepted b k) :
    s.part.frameAccepted.answer c = k f rec :=
  h.trans (onFilter_of ((frameAccepted_top _).trans ht) hb ((accepted_filter _ f).trans hf) hx)

include hc

theorem takeOut_refused (tag : Byte) (h : rec.state = .outOfService ∨ ∃ l, rec.state = .washing l) :
    Refused s (.takeOut tag b) .state :=
  reads_of hc rfl ((answer_passed ht hb hf hx rfl).trans (unlessFails_no ((takesOut_iff _).2 h)))

theorem takeOut_quiet (tag : Byte) (h : takesOut rec.state = true) (ho : rec.state ≠ .online) :
    Done s (.takeOut tag b) [.filters, .queue, .proposal, .scanDue, .events]
      (removalReports s.part f .takenOut ++ [stateReport s.part f rec.state .outOfService none]) .ok .none fun q =>
        q.filter f = some (offIndex { rec with state := .outOfService }) ∧ OtherFiltersKept s.part q f ∧
        EntryGone s.part q f := by
  obtain ⟨-, k, now, others, gone, cs, told, hcs⟩ := takenOut_of hf hx
  have ans := (answer_passed ht hb hf hx (c := .takeOut b) rfl).trans (unlessFails_ok h)
  rw [hcs ho, List.append_nil] at told
  exact done_reports hc rfl ans (k ho) told fun q' kr =>
    ⟨(filter_kept kr (by simp) f).trans now, otherFiltersKept_reply others kr, entryGone_reply gone kr⟩

/-- R6, R71: an ONLINE filter taken out leaves the service area. -/
theorem takeOut_online (tag : Byte) (ho : rec.state = .online) :
    ∃ cs, Done s (.takeOut tag b) [.filters, .queue, .proposal, .scanDue, .events, .flags, .overload]
      (removalReports s.part f .takenOut ++ [stateReport s.part f rec.state .outOfService none] ++ cs) .ok .none fun q =>
        q.filter f = some (offIndex { rec with state := .outOfService }) ∧ OtherFiltersKept s.part q f ∧
        EntryGone s.part q f ∧ q.sched.scanDue = true ∧ q.sched.overload = overloadAt s.part (currentLoading q) := by
  obtain ⟨k, -, now, others, gone, cs, told, -⟩ := takenOut_of hf hx
  have ans := (answer_passed ht hb hf hx (c := .takeOut b) rfl).trans (unlessFails_ok (by rw [ho]; rfl))
  have ke : OnlyChanges ([Piece.queue, .proposal, .scanDue, .events] ++ reporting) s.part.frameAccepted
      (s.part.frameAccepted.expelEntry f .takenOut) := by simp
  obtain ⟨due, overload, -⟩ := changeFilter_area ((filter_kept ke (by simp) f).trans ((accepted_filter _ f).trans hf))
    (fun r => { r with state := .outOfService }) (by simp [ho]) ((operating_kept ke (by simp)).trans (accepted_operating ht))
  refine ⟨cs, done_reports hc rfl ans (onlyChanges_mono k (by simp)) told fun q' kr =>
    ⟨(filter_kept kr (by simp) f).trans now, otherFiltersKept_reply others kr, entryGone_reply gone kr,
      (kr .scanDue (by simp)).trans due, (kr .overload (by simp)).trans ?_⟩⟩
  rw [overload, currentLoading_kept kr (by simp) (by simp) (by simp), overloadAt_kept ke (by simp) (by simp) (by simp),
    overloadAt_kept (accepted_only s.part) (by simp) (by simp) (by simp)]

theorem putIn_refused (tag : Byte) {x : Byte} {r : Result}
    (h : (named s.part.frameAccepted (conditionOf x) fun dirty =>
      unlessFails s.part.frameAccepted (rec.state == .outOfService) .state <|
      unlessFails s.part.frameAccepted (s.part.frameAccepted.fullyMapped f) .map <|
      unlessFails s.part.frameAccepted (allRoles.all fun r => s.part.frameAccepted.inPosition f r .closed) .state <|
      okay (s.part.frameAccepted.putIn f dirty)) = refuse s.part.frameAccepted r) : Refused s (.putIn tag b x) r :=
  reads_of hc rfl ((answer_passed ht hb hf hx (c := .putIn b x) rfl).trans h)

theorem clearFault_refused (tag : Byte) (h : ∀ c, rec.state ≠ .faulted c) : Refused s (.clearFault tag b) .state := by
  refine reads_of hc rfl ((answer_passed ht hb hf hx rfl).trans (unlessFails_no ?_))
  rw [Bool.eq_false_iff, ne_eq, isFaulted_iff]
  rintro ⟨c, e⟩
  exact h c e

theorem clearFault_done (tag : Byte) {c : FaultCause} (h : rec.state = .faulted c) :
    Done s (.clearFault tag b) [.filters, .events] [stateReport s.part f rec.state .outOfService none] .ok .none fun q =>
      q.filter f = some { offIndex { rec with state := .outOfService } with aborts := 0 } ∧ OtherFiltersKept s.part q f := by
  obtain ⟨-, k, now, others, told⟩ := changed_quietly hf hx
    (fun r => { r with state := .outOfService, aborts := 0 }) (by simp) (by simp [h]) rfl
  have ans := (answer_passed ht hb hf hx (c := .clearFault b) rfl).trans (unlessFails_ok ((isFaulted_iff _).2 ⟨c, h⟩))
  exact done_reports hc rfl ans (k rfl) told fun q' kr =>
    ⟨(filter_kept kr (by simp) f).trans now, otherFiltersKept_reply others kr⟩

section PutIn
variable (hs : rec.state = .outOfService) (hm : ∀ r, RoleUsable s.part f r) (hcl : ∀ r, RestsAt s.part f r .closed)
include hs hm hcl

omit hc in
theorem answer_putIn {x : Byte} {dirty : Bool} (hd : conditionOf x = some dirty) :
    s.part.frameAccepted.answer (.putIn b x) = okay (s.part.frameAccepted.putIn f dirty) := by
  have h1 : (rec.state == .outOfService) = true := by simp [hs]
  have h2 := fullyMapped_iff.2 fun r => (roleUsable_accepted s.part f r).2 (hm r)
  have h3 := allClosed_iff.2 fun r => (restsAt_same (sameRole_accepted s.part f r) _).2 (hcl r)
  exact (answer_passed ht hb hf hx rfl).trans <| (named_some hd).trans <|
    (unlessFails_ok h1).trans <| (unlessFails_ok h2).trans (unlessFails_ok h3)

/-- R7, CLEAN: the run time begins afresh. -/
theorem putIn_clean (tag : Byte) :
    Done s (.putIn tag b 0) [.filters, .selection, .events] [stateReport s.part f .outOfService .standby none] .ok .none fun q =>
      q.filter f = some (offIndex { rec with state := .standby, runMin := 0, runSec := 0, armedMin := 0, aborts := 0 }) ∧
      OtherFiltersKept s.part q f := by
  obtain ⟨k, -, now, others, told⟩ := changed_quietly hf hx
    (fun r => { r with state := .standby, runMin := 0, runSec := 0, armedMin := 0, aborts := 0 }) (by simp) (by simp [hs]) rfl
  rw [hs] at told
  exact done_reports hc rfl (answer_putIn ht hb hf hx hs hm hcl (x := 0) (dirty := false) rfl) k told fun q' kr =>
    ⟨(filter_kept kr (by simp) f).trans now, otherFiltersKept_reply others kr⟩

/-- R7, DIRTY: a MANUAL entry by the host joins the queue. -/
theorem putIn_dirty (tag : Byte) :
    Done s (.putIn tag b 1) [.filters, .selection, .queue, .scanDue, .events]
      [stateReport s.part f .outOfService .standby none, .request .added f .manual none .host 0 none] .ok .none fun q =>
        q.filter f = some (offIndex { rec with state := .standby }) ∧ OtherFiltersKept s.part q f ∧
        q.entry f = some ⟨f, .manual, .host, 0, s.part.startUp.clock, none, none⟩ ∧
        (∀ g, g ≠ f → q.entry g = s.part.entry g) ∧ q.sched.scanDue = true := by
  obtain ⟨k, -, now, others, told⟩ := changed_quietly hf hx (fun r => { r with state := .standby })
    (by simp) (by simp [hs]) rfl
  rw [hs] at told
  have ans := answer_putIn ht hb hf hx hs hm hcl (x := 1) (dirty := true) rfl
  generalize hq : s.part.frameAccepted.changeFilter f (fun r => { r with state := .standby }) = q at *
  have e : s.part.frameAccepted.putIn f true = q.addEntry f .manual .host 0 none := by rw [← hq]; rfl
  have ka : OnlyChanges ([Piece.queue, .scanDue] ++ reporting) q (q.addEntry f .manual .host 0 none) := by simp
  have hclock : q.clock = s.part.clock := (k .clock (by simp)).trans (frameAccepted_clock _)
  have hop : q.operating = true := (operating_kept k (by simp)).trans (accepted_operating ht)
  rw [e] at ans
  refine done_reports hc rfl ans (onlyChanges_trans (onlyChanges_mono k (by simp)) (onlyChanges_mono ka (by simp))) ?_
    fun q' kr => ⟨?_, ?_, ?_, fun g hg => ?_, ?_⟩
  · unfold Reports at told ⊢
    rw [addEntry_link, told, hclock, frameAccepted_clock]
    exact (afterReports_append _ _ [_] [_]).symm
  · exact (filter_kept kr (by simp) f).trans ((filter_kept ka (by simp) f).trans now)
  · exact otherFiltersKept_reply (fun g hg => (filter_kept ka (by simp) g).trans (others g hg)) kr
  · rw [entry_kept kr (by simp), addEntry_entry, hclock]
    rfl
  · rw [entry_kept kr (by simp), addEntry_entry_ne _ _ _ _ _ _ hg, entry_kept k (by simp), accepted_entry]
  · refine (kr .scanDue (by simp)).trans ?_
    unfold Part.addEntry
    exact trigger_due _ ((operating_kept (p := q) (xs := [Piece.queue] ++ reporting) (by simp) (by simp)).trans hop)

end PutIn
end OneFilter

theorem filters_leaveAndJoin : FiltersLeaveAndJoinTheRotation := by
  intro s tag b x f rec hc ht hb hf hx
  refine ⟨takeOut_refused hc ht hb hf hx tag, fun h => ?takeOutQuiet, takeOut_online hc ht hb hf hx tag,
    fun h => ?putInRange, fun h hs => ?putInState, fun h hs hm => ?putInMap, fun h hs hm hcl => ?putInRoles,
    fun hs hm hcl => ⟨?_, ?_⟩, clearFault_refused hc ht hb hf hx tag, fun c h => clearFault_done hc ht hb hf hx tag h⟩
  case takeOutQuiet =>
    refine takeOut_quiet hc ht hb hf hx tag ?_ ?_ <;> rcases h with h | h | ⟨c, h⟩ <;> simp [h, takesOut]
  case putInRange => exact putIn_refused hc ht hb hf hx tag (named_none (conditionOf_none h))
  case putInState =>
    obtain ⟨dirty, hd⟩ := conditionOf_some h
    exact putIn_refused hc ht hb hf hx tag ((named_some hd).trans (unlessFails_no (by simpa using hs)))
  case putInMap =>
    obtain ⟨dirty, hd⟩ := conditionOf_some h
    refine putIn_refused hc ht hb hf hx tag ((named_some hd).trans ((unlessFails_ok (by simpa using hs)).trans
      (unlessFails_no ?_)))
    rw [Bool.eq_false_iff, ne_eq, fullyMapped_iff]
    simpa only [roleUsable_accepted] using hm
  case putInRoles =>
    obtain ⟨dirty, hd⟩ := conditionOf_some h
    have h2 := fullyMapped_iff.2 fun r => (roleUsable_accepted s.part f r).2 (hm r)
    refine putIn_refused hc ht hb hf hx tag ((named_some hd).trans ((unlessFails_ok (by simpa using hs)).trans
      ((unlessFails_ok h2).trans (unlessFails_no ?_))))
    rw [Bool.eq_false_iff, ne_eq, allClosed_iff]
    exact fun k => hcl fun r => (restsAt_same (sameRole_accepted s.part f r) _).1 (k r)
  · rintro rfl; exact putIn_clean hc ht hb hf hx hs hm hcl tag
  · rintro rfl; exact putIn_dirty hc ht hb hf hx hs hm hcl tag

end Sys2Proof.Laws
end

section
/-! SUPPORT. Reading commands that move the link port (R19, R174, R181, R185). -/

namespace Sys2Proof.Laws

open Sys2Proof.Machine

@[simp] theorem beginSend_cursor (k : LinkPort) : k.beginSend.cursor = k.cursor := by
  unfold LinkPort.beginSend
  repeat' split
  all_goals rfl

/-- The row of a command that leaves the link port at `k` before its reply, and changes `xs` at most. -/
theorem repliesOn_of {s : State} {row : Instr} {tag : Byte} {c : HostCommand} {q : Part} {r : Result} {fields : ReplyFields}
    {xs : List Piece} (hc : CanHandle s) (hrow : row.command = some (tag, c))
    (h : s.part.frameAccepted.answer c = (q, r, fields)) (k : OnlyChanges xs s.part.frameAccepted q) :
    ∃ t, exec row s = .next t ∧ t.pending = s.pending ∧ OnlyChanges (xs ++ replying) s.part.frameAccepted t.part ∧
      t.part.link.cursor = q.link.cursor ∧ RepliesOn q.link t.part ⟨replyKind c.kind, tag, r, fields⟩ := by
  refine ⟨_, (exec_command hrow s).trans (submit_handled tag _ hc), rfl, ?_, ?_, ?_⟩ <;> dsimp only <;> rw [handle_of h]
  · exact onlyChanges_trans (onlyChanges_mono k (by simp)) (onlyChanges_mono (putReply_replying _ _) (by simp))
  · rw [putReply_link, beginSend_cursor]
  · exact putReply_link _ _

theorem statusView_accepted (p : Part) : p.frameAccepted.statusView = p.statusView := by
  unfold Part.frameAccepted Part.restartSilence Part.setSilence
  dsimp only
  split <;> rfl

/-- GET_STATUS reads the flag and clears it after (R181). -/
theorem getStatus_done {s : State} (tag : Byte) (hc : CanHandle s) :
    ∃ t, exec (.getStatus tag) s = .next t ∧ t.pending = s.pending ∧
      OnlyChanges ([Piece.reportLoss] ++ replying) s.part.frameAccepted t.part ∧
      RepliesOn { s.part.link with reportLoss := false } t.part ⟨replyKind 0x02, tag, .ok, .status s.part.statusView⟩ := by
  obtain ⟨t, he, hp, k, -, hr⟩ := repliesOn_of (row := .getStatus tag) (xs := [Piece.reportLoss]) hc rfl rfl (by simp)
  rw [statusView_accepted] at hr
  simp only [frameAccepted_link] at hr
  exact ⟨t, he, hp, k, hr⟩

/-- GET_LINK_ERRORS reads count and flag and clears them after (R174). -/
theorem getLinkErrors_done {s : State} (tag : Byte) (hc : CanHandle s) :
    ∃ t, exec (.getLinkErrors tag) s = .next t ∧ t.pending = s.pending ∧
      OnlyChanges ([Piece.errors, .overflow] ++ replying) s.part.frameAccepted t.part ∧
      RepliesOn { s.part.link with errors := 0, overflow := false } t.part
        ⟨replyKind 0x04, tag, .ok, .linkErrors s.part.link.errors s.part.link.overflow⟩ := by
  obtain ⟨t, he, hp, k, -, hr⟩ :=
    repliesOn_of (row := .getLinkErrors tag) (xs := [Piece.errors, .overflow]) hc rfl rfl (by simp)
  simp only [frameAccepted_link] at hr
  exact ⟨t, he, hp, k, hr⟩

theorem accepted_notSurveying {p : Part} (h : p.startUp.top ≠ .surveying) : p.frameAccepted.startUp.top ≠ .surveying := by
  rw [frameAccepted_top]; exact h

/-- SOFT_RESET is accepted and waits for its reply to be sent (R185). -/
theorem softReset_done {s : State} (tag : Byte) (hc : CanHandle s) (ht : s.part.startUp.top ≠ .surveying) :
    ∃ t, exec (.softReset tag) s = .next t ∧ t.pending = s.pending ∧
      OnlyChanges ([Piece.softReset] ++ replying) s.part.frameAccepted t.part ∧
      RepliesOn { s.part.link with softReset := .waiting } t.part ⟨replyKind 0x05, tag, .ok, .none⟩ := by
  obtain ⟨t, he, hp, k, -, hr⟩ := repliesOn_of (row := .softReset tag) (xs := [Piece.softReset]) hc rfl
    (unlessSurveying_of (accepted_notSurveying ht) _) (by simp)
  simp only [frameAccepted_link] at hr
  exact ⟨t, he, hp, k, hr⟩

/-! ### Chunks (R19) -/

theorem chunk_accepted (p : Part) (start : Nat) : p.frameAccepted.chunk start = filtersFrom p start := by
  have e : p.frameAccepted.viewFilter = fun f => (p.filter f).map fun r => ⟨f, r, (p.entry f).map (·.cls)⟩ := by
    funext f
    unfold Part.viewFilter
    rw [accepted_filter, accepted_entry]
  unfold Part.chunk
  rw [e]
  rfl

theorem setCursor_only (p : Part) (c : Option Nat) : OnlyChanges [.cursor] p (p.setCursor c) := by simp

theorem setCursor_accepted_link (p : Part) (c : Option Nat) :
    (p.frameAccepted.setCursor c).link = { p.link with cursor := c } := by
  unfold Part.setCursor; rw [frameAccepted_link]

theorem answerChunk_empty {p : Part} {start : Nat} (h : p.chunk start = []) :
    answerChunk p start = (p.setCursor none, .endOfRead, .none) := by
  unfold answerChunk; rw [h]; rfl

theorem answerChunk_some {p : Part} {start : Nat} {front : List FilterView} {v : FilterView}
    (h : p.chunk start = front ++ [v]) :
    answerChunk p start = (p.setCursor (some (filterNumber v.filter + 1)), .ok, .filters (front ++ [v])) := by
  unfold answerChunk; rw [h]; simp

/-- A command that answers a chunk: at the end of the table the cursor is absent, else it follows the last record. -/
theorem chunked_of {s : State} {row : Instr} {tag : Byte} {c : HostCommand} {start : Nat} (hc : CanHandle s)
    (hrow : row.command = some (tag, c)) (h : s.part.frameAccepted.answer c = answerChunk s.part.frameAccepted start) :
    Chunked s row tag c start := by
  unfold Chunked
  rcases List.eq_nil_or_concat (filtersFrom s.part start) with he | ⟨front, v, he⟩
  · obtain ⟨t, hx, hp, k, hcur, hr⟩ := repliesOn_of hc hrow
      (h.trans (answerChunk_empty ((chunk_accepted _ _).trans he))) (setCursor_only _ _)
    rw [setCursor_accepted_link] at hcur hr
    refine ⟨t, hx, hp, k, fun _ => ⟨hcur, hr⟩, fun front v hv => ?_⟩
    rw [he] at hv
    exact absurd hv (by simp)
  · rw [List.concat_eq_append] at he
    obtain ⟨t, hx, hp, k, hcur, hr⟩ := repliesOn_of hc hrow
      (h.trans (answerChunk_some ((chunk_accepted _ _).trans he))) (setCursor_only _ _)
    rw [setCursor_accepted_link] at hcur hr
    refine ⟨t, hx, hp, k, fun hn => absurd (he.symm.trans hn) (by simp), fun front' v' hv => ?_⟩
    obtain ⟨rfl, e⟩ := List.append_inj' (he.symm.trans hv) rfl
    cases e
    exact ⟨hcur, hr⟩

theorem filtersFirst_chunked {s : State} (tag : Byte) {b : Byte} {f : FilterId} (hc : CanHandle s)
    (ht : s.part.startUp.top ≠ .surveying) (hb : filterOf b = some f) :
    Chunked s (.filtersFirst tag b) tag (.filtersFirst b) (f.val + 1) :=
  chunked_of hc rfl ((unlessSurveying_of (accepted_notSurveying ht) _).trans (named_some hb))

theorem filtersNext_chunked {s : State} (tag : Byte) {n : Nat} (hc : CanHandle s) (ht : s.part.startUp.top ≠ .surveying)
    (hn : s.part.link.cursor = some n) : Chunked s (.filtersNext tag) tag .filtersNext n := by
  refine chunked_of hc rfl ((unlessSurveying_of (accepted_notSurveying ht) _).trans ?_)
  simp only [frameAccepted_link, hn]

theorem filtersNext_refused {s : State} (tag : Byte) (hc : CanHandle s) (ht : s.part.startUp.top ≠ .surveying)
    (hn : s.part.link.cursor = none) : Refused s (.filtersNext tag) .state := by
  refine reads_of hc rfl ((unlessSurveying_of (accepted_notSurveying ht) _).trans ?_)
  simp only [frameAccepted_link, hn]
  rfl

end Sys2Proof.Laws

namespace Sys2Proof

open Machine Laws

/-- Settles O38: each command from its answer, the link port as it stands before the reply. -/
theorem readingCommandsThatMoveTheLink : Obligations.ReadingCommandsThatMoveTheLink := by
  intro s tag hc
  exact ⟨getStatus_done tag hc, getLinkErrors_done tag hc, fun ht => ⟨softReset_done tag hc ht,
    fun b f hb => filtersFirst_chunked tag hc ht hb, fun n hn => filtersNext_chunked tag hc ht hn,
    filtersNext_refused tag hc ht⟩⟩

/-- Settles O46: the checks of R1 and R2 in their order, then the record written or taken away. -/
theorem setFilterDefinesAndUndefines : Obligations.SetFilterDefinesAndUndefines := by
  intro s tag b c hc hs
  dsimp only
  refine ⟨fun hb => ⟨reads_of hc rfl (answer_setFilter_range hs hb 0 c), reads_of hc rfl (answer_setFilter_range hs hb 1 _)⟩,
    fun f hb => ⟨fun closed => ?closed, fun opened bad => ?bad, fun opened slot d good => ⟨fun hf => ?new, fun rec hf => ?again⟩,
      fun hf => ?absent, fun rec hf => ⟨fun hr => ?inService, fun hr => ?undefine⟩⟩⟩
  case closed =>
    have h : s.part.frameAccepted.configurable f = false := by
      rw [configurable_accepted, Bool.eq_false_iff, ne_eq, configurable_iff]
      exact not_not_intro closed
    exact reads_of hc rfl ((answer_define hs hb c).trans (answerDefine_closed h c))
  case bad =>
    have h := (configurable_accepted s.part f).trans (configurable_iff.2 opened)
    exact reads_of hc rfl ((answer_define hs hb c).trans
      (answerDefine_bad h fun slot d k => bad slot d (filterFields_accepted.1 k)))
  case new =>
    have h := (configurable_accepted s.part f).trans (configurable_iff.2 opened)
    obtain ⟨now, others, told⟩ := defineFilter_new ((accepted_filter _ f).trans hf) (configWritten c slot d)
    rw [accepted_marker] at told
    exact done_reports hc rfl ((answer_define hs hb c).trans (answerDefine_good h (filterFields_accepted.2 good))) (by simp)
      told fun q' kr => ⟨(filter_kept kr (by simp) f).trans now, otherFiltersKept_reply others kr⟩
  case again =>
    have h := (configurable_accepted s.part f).trans (configurable_iff.2 opened)
    have ans := (answer_define hs hb c).trans (answerDefine_good h (filterFields_accepted.2 good))
    rw [defineFilter_again ((accepted_filter _ f).trans hf)] at ans
    exact done_reports hc rfl ans (by simp) rfl fun q' kr =>
      ⟨(filter_kept kr (by simp) f).trans (filter_putFilter _ f _),
        otherFiltersKept_reply (fun g hg => filter_putFilter_ne _ hg _) kr⟩
  case absent =>
    refine reads_of hc rfl ((answer_undefine hs hb _).trans ?_)
    unfold answerUndefine
    rw [accepted_filter, hf]
    rfl
  case inService =>
    refine reads_of hc rfl ((answer_undefine hs hb _).trans ((answerUndefine_of ((accepted_filter _ f).trans hf)).trans ?_))
    exact if_neg hr
  case undefine =>
    obtain ⟨k, now, others, told, released⟩ := undefined_of s.part.frameAccepted f
    rw [accepted_marker] at told
    refine done_reports hc rfl ((answer_undefine hs hb _).trans
      ((answerUndefine_of ((accepted_filter _ f).trans hf)).trans (if_pos hr))) k told fun q' kr =>
      ⟨(filter_kept kr (by simp) f).trans now, otherFiltersKept_reply others kr, fun hsel => ?_⟩
    refine (kr .selection (by simp)).trans (released ?_)
    obtain ⟨ch, r, hch, hm⟩ := hsel
    exact ⟨ch, r, by rw [accepted_valves]; exact hch, by rw [accepted_channel]; exact hm⟩

/-- Settles O48: the shared checks, then TAKE_OUT, PUT_IN and CLEAR_FAULT each by its own. -/
theorem filterCommandsMoveTheFilter : Obligations.FilterCommandsMoveTheFilter :=
  ⟨filterCommands_checkFirst, filters_leaveAndJoin⟩

end Sys2Proof
end

section
/-! SUPPORT. A transfer under way (R11, R12, Table 1-10): the roles of its steps, when it waits, passes a step, completes or
fails, and the commands given again. -/

namespace Sys2Proof.Laws

open Sys2Proof.Machine

/-! ### Steps (Table 1-10) -/

theorem stepsUpTo_succ (k : TransferKind) (n : Nat) : stepsUpTo k (n + 1) = stepsUpTo k n ++ transferStep k (n + 1) := by
  unfold stepsUpTo
  rw [List.range_succ, List.flatMap_append]
  simp

theorem finalStep_le_three (k : TransferKind) : finalStep k ≤ 3 := by cases k <;> decide

theorem commandedBy_eq {t : Transfer} (h : t.step ≤ finalStep t.kind) : commandedBy t = stepsUpTo t.kind t.step := by
  obtain ⟨k, n⟩ := t
  cases k <;> simp only [finalStep] at h <;> interval_cases n <;> rfl

theorem stepRoles_eq {t : Transfer} (h1 : 1 ≤ t.step) (h : t.step ≤ finalStep t.kind) :
    stepRoles t = transferStep t.kind t.step := by
  obtain ⟨k, n⟩ := t
  dsimp only at h1
  cases k <;> simp only [finalStep] at h <;> interval_cases n <;> rfl

theorem lastStep_iff (t : Transfer) : lastStep t = true ↔ finalStep t.kind ≤ t.step := by
  obtain ⟨k, n⟩ := t
  cases k <;> simp [lastStep, transferSteps, finalStep]

theorem commandedSoFar_iff (t : Transfer) (x : Role × Position) :
    CommandedSoFar t x ↔ x ∈ stepsUpTo t.kind t.step := by
  unfold CommandedSoFar stepsUpTo
  rw [List.mem_flatMap]
  constructor
  · rintro ⟨i, h1, hi, hx⟩
    exact ⟨i - 1, List.mem_range.2 (by omega), by rwa [Nat.sub_add_cancel h1]⟩
  · rintro ⟨i, hi, hx⟩
    rw [List.mem_range] at hi
    exact ⟨i + 1, by omega, by omega, hx⟩

/-- No transfer commands a role twice. -/
theorem steps_roles_differ (k : TransferKind) :
    (stepsUpTo k (finalStep k)).Pairwise fun x y => x.1 ≠ y.1 := by
  cases k <;> decide

theorem stepsUpTo_sublist {k : TransferKind} {n : Nat} (h : n ≤ finalStep k) :
    (stepsUpTo k n).Sublist (stepsUpTo k (finalStep k)) := by
  cases k <;> simp only [finalStep] at h <;> interval_cases n <;> decide

theorem steps_roles_differ_to {k : TransferKind} {n : Nat} (h : n ≤ finalStep k) :
    (stepsUpTo k n).Pairwise fun x y => x.1 ≠ y.1 := (steps_roles_differ k).sublist (stepsUpTo_sublist h)

theorem step_role_unique {k : TransferKind} {n : Nat} (h : n ≤ finalStep k) {x y : Role × Position}
    (hx : x ∈ stepsUpTo k n) (hy : y ∈ stepsUpTo k n) (e : x.1 = y.1) : x = y :=
  List.inj_on_of_nodup_map (List.pairwise_map.2 (steps_roles_differ_to h)) hx hy e

/-! ### The branches of `advanceTransfer` -/

/-- The commands of the step a transfer stands in, and what follows them. -/
def issueStep (p : Part) (f : FilterId) (t : Transfer) (fuel : Nat) : Part :=
  if (p.issue f (stepRoles t)).2 then (p.issue f (stepRoles t)).1.transferFails f
  else (p.issue f (stepRoles t)).1.advanceTransfer f fuel

/-- Every role commanded so far is in position. -/
def InPlace (p : Part) (f : FilterId) (t : Transfer) : Prop := ∀ x ∈ stepsUpTo t.kind t.step, RestsAt p f x.1 x.2

section Branches
variable {p : Part} {f : FilterId} {rec : FilterRecord} {t : Transfer} (h : p.filter f = some rec)
  (ht : rec.transfer = some t) (hstep : t.step ≤ finalStep t.kind)
include h ht hstep

omit h ht in
theorem inPlace_iff : ((commandedBy t).all fun x => p.inPosition f x.1 x.2) = true ↔ InPlace p f t := by
  rw [commandedBy_eq hstep, List.all_eq_true]
  exact forall_congr' fun x => imp_congr_right fun _ => inPosition_iff p f x.1 x.2

/-- R12: out of position, or before a further step under STOP, the transfer waits (log 16). -/
theorem advanceTransfer_waits (hw : ¬ InPlace p f t ∨ (t.step < finalStep t.kind ∧ p.stopAsserted = true)) (fuel : Nat) :
    p.advanceTransfer f fuel = p := by
  cases fuel with
  | zero => rfl
  | succ fuel =>
    unfold Part.advanceTransfer
    rw [h, Option.bind_some, ht]
    dsimp only
    by_cases hp : InPlace p f t
    · obtain ⟨hlt, hstop⟩ := hw.resolve_left (not_not_intro hp)
      rw [if_pos ((inPlace_iff hstep).2 hp), if_neg (by rw [lastStep_iff]; omega), if_pos hstop]
    · rw [if_neg (by rw [inPlace_iff hstep]; exact hp)]

theorem advanceTransfer_completes (hp : InPlace p f t) (hl : t.step = finalStep t.kind) (fuel : Nat) :
    p.advanceTransfer f (fuel + 1) = p.transferCompletes f t.kind := by
  unfold Part.advanceTransfer
  rw [h, Option.bind_some, ht]
  dsimp only
  rw [if_pos ((inPlace_iff hstep).2 hp), if_pos ((lastStep_iff t).2 (by omega))]

theorem advanceTransfer_passes (hp : InPlace p f t) (hl : t.step < finalStep t.kind) (hs : p.stopAsserted = false)
    (fuel : Nat) : p.advanceTransfer f (fuel + 1) =
      issueStep (p.putFilter f (some { rec with transfer := some ⟨t.kind, t.step + 1⟩ })) f ⟨t.kind, t.step + 1⟩ fuel := by
  conv => lhs; unfold Part.advanceTransfer
  rw [h, Option.bind_some, ht]
  dsimp only
  rw [if_pos ((inPlace_iff hstep).2 hp), if_neg (by rw [lastStep_iff]; omega), if_neg (by simp [hs]), modFilter_of h]
  rfl

/-! ### Commands given again (R12) -/

theorem pressTransfer_waits (hp : ¬ InPlace p f t) {roles : List (Role × Position)}
    (hr : p.stopAsserted = true ∨ roles = []) : p.pressTransfer f roles = p := by
  unfold Part.pressTransfer
  by_cases hs : p.stopAsserted = true
  · rw [if_pos hs]
    exact advanceTransfer_waits h ht hstep (.inl hp) 3
  · rw [if_neg hs, hr.resolve_left hs]
    exact advanceTransfer_waits h ht hstep (.inl hp) 3

/-- Roles of the steps so far that are at rest or can be set off: those out of position are set off, and the transfer
waits for them. -/
theorem pressTransfer_commands (hs : p.stopAsserted = false) {roles : List (Role × Position)}
    (hsub : roles.Sublist (stepsUpTo t.kind t.step)) (ho : ∀ x ∈ roles, Obeys p f x)
    (haway : ∃ x ∈ roles, ¬ RestsAt p f x.1 x.2) :
    OnlyChanges [.channels, .events] p (p.pressTransfer f roles) ∧
    OnlyCommanded p (p.pressTransfer f roles) f (roles.filter fun x => !p.inPosition f x.1 x.2) := by
  have travels : ∀ x ∈ roles.filter (fun x => !p.inPosition f x.1 x.2), RoleTravels p f x.1 x.2 := fun x hx => by
    obtain ⟨hmem, hpos⟩ := List.mem_filter.1 hx
    refine (ho x hmem).resolve_left fun hr => ?_
    simp [(inPosition_iff p f x.1 x.2).2 hr] at hpos
  have back : ∀ x ∈ roles.filter (fun x => !p.inPosition f x.1 x.2), ∀ ch, p.mapped f x.1 = some ch →
      (p.channel ch).mappedTo = some (f, x.1) := fun x hx ch hm => by
    obtain ⟨d, hd, hb, -⟩ := travels x hx
    rw [hm, Option.some.injEq] at hd
    rw [hd]; exact hb
  have differ : (roles.filter fun x => !p.inPosition f x.1 x.2).Pairwise fun x y => x.1 ≠ y.1 :=
    (steps_roles_differ_to hstep).sublist (List.filter_sublist.trans hsub)
  have apart : (roles.filter fun x => !p.inPosition f x.1 x.2).Pairwise (Apart p f) :=
    differ.imp_of_mem fun hx hy hne => apart_of_back hne (back _ hx) (back _ hy)
  obtain ⟨ok, done⟩ := issue_obeyed _ (fun x hx => .inr (travels x hx)) apart
  have k : OnlyChanges [.channels, .events] p (p.issue f (roles.filter fun x => !p.inPosition f x.1 x.2)).1 := by simp
  have waits : ¬ InPlace (p.issue f (roles.filter fun x => !p.inPosition f x.1 x.2)).1 f t := fun hp => by
    obtain ⟨x, hx, hr⟩ := haway
    have hmem : x ∈ roles.filter fun x => !p.inPosition f x.1 x.2 :=
      List.mem_filter.2 ⟨hx, by rw [Bool.not_eq_true', Bool.eq_false_iff, ne_eq, inPosition_iff]; exact hr⟩
    exact not_restsAt_commanded done (issue_sameRules p f _).1 hmem (travels x hmem) (hp x (hsub.subset hx))
  have e : p.pressTransfer f roles = (p.issue f (roles.filter fun x => !p.inPosition f x.1 x.2)).1 := by
    unfold Part.pressTransfer
    rw [if_neg (by simp [hs])]
    refine (if_neg (by simp [ok])).trans ?_
    exact advanceTransfer_waits ((filter_kept k (by simp) f).trans h) ht hstep (.inl waits) 3
  rw [e]
  exact ⟨k, done⟩

theorem transferDrifts_eq (r : Role) : p.transferDrifts f r =
    p.pressTransfer f ((stepsUpTo t.kind t.step).filter fun x => x.1 == r) := by
  unfold Part.transferDrifts
  rw [h, Option.bind_some, ht, ← commandedBy_eq hstep]

theorem transferReleased_eq : p.transferReleased f = p.pressTransfer f (stepsUpTo t.kind t.step) := by
  unfold Part.transferReleased
  rw [h, Option.bind_some, ht, ← commandedBy_eq hstep]

end Branches

/-! ### Completion (R11) -/

theorem clearMarker_due {p : Part} (f : FilterId) (h : p.sched.scanDue = true) : (clearMarker p f).sched.scanDue = true := by
  unfold clearMarker Part.trigger
  split
  · split
    · rfl
    · exact h
  · exact h

/-- R11: a transfer that completes leaves its filter in the state it leads to; FILTER_STATE is reported, the loading
computed and a scan triggered, and a filter come ONLINE is evaluated. -/
theorem transferCompletes_of {p : Part} {f : FilterId} {rec : FilterRecord} {k : TransferKind} (h : p.filter f = some rec)
    (hs : rec.state = stateFrom k) (hop : p.operating = true) :
    let q := p.transferCompletes f k
    OnlyChanges ([Piece.filters, .marker, .selection, .flags, .overload, .scanDue, .events] ++ reporting) p q ∧
    OtherFiltersKept p q f ∧ q.table.marker = markerWithout p f ∧
    q.filter f = some (if k = .toService then { rec with state := .online, transfer := none }
      else offIndex { rec with state := .standby, transfer := none }) ∧
    q.sched.overload = overloadAt p (currentLoading q) ∧ q.sched.scanDue = true ∧
    (k = .toService → .urgency f ∈ q.events) ∧
    ∃ cs, q.link = afterReports p.clock p.link
      (.filterState f (some (stateTo k)) (some (stateFrom k)) none (p.table.marker == some f) :: cs) := by
  dsimp only
  rw [transferCompletes_eq]
  obtain ⟨cs, hl, -⟩ := changeFilter_link h fun r => { r with state := stateTo k, transfer := none }
  obtain ⟨due, overload, urgent⟩ := changeFilter_area h (fun r => { r with state := stateTo k, transfer := none })
    (by rw [hs]; cases k <;> simp [stateTo, stateFrom]) hop
  have kf : OnlyChanges ([Piece.filters, .selection, .flags, .overload, .scanDue, .events] ++ reporting) p
      (p.changeFilter f fun r => { r with state := stateTo k, transfer := none }) := by simp
  have kc : ∀ q : Part, OnlyChanges [.marker, .scanDue] q (clearMarker q f) := fun q => by simp
  refine ⟨onlyChanges_trans (onlyChanges_mono kf (by simp)) (onlyChanges_mono (kc _) (by simp)), fun g hg => ?_, ?_, ?_, ?_,
    clearMarker_due f due, fun hk => ?_, cs, ?_⟩
  · rw [filter_kept (kc _) (by simp), changeFilter_filter_ne _ hg]
  · rw [clearMarker_marker]
    unfold markerWithout
    rw [marker_changeFilter]
  · rw [filter_kept (kc _) (by simp), changeFilter_filter h]
    cases k <;> rfl
  · rw [currentLoading_kept (kc _) (by simp) (by simp) (by simp), ← overload]
    exact kc _ .overload (by simp)
  · rw [show (clearMarker _ f).events = _ from kc _ .events (by simp)]
    exact urgent (by rw [hk]; rfl)
  · rw [clearMarker_link, hl, hs]

/-! ### Rows of a transfer under way -/

theorem roleSetOff_of {p q : Part} {f : FilterId} {x : Role × Position} {xs : List (Role × Position)}
    (h : OnlyCommanded p q f xs) (hx : ∀ y, y ∈ xs ↔ y = x) (ht : RoleTravels p f x.1 x.2) : RoleSetOff p q f x.1 x.2 := by
  intro ch hm
  refine ⟨(h.1 x ((hx x).2 rfl) ch hm).2 ht, fun d hd => h.2 d fun y hy => ?_⟩
  rw [(hx y).1 hy, hm]
  exact fun e => hd (Option.some.inj e).symm

theorem transferring_filter {p : Part} {f : FilterId} {rec : FilterRecord} {t : Transfer} (h : Transferring p f rec t)
    (e : Event) : (taking p e).filter f = some rec := by
  obtain ⟨-, hf, -⟩ := h
  exact hf

/-- The first commands of a step set its one role off, and the transfer waits for it. -/
theorem issueStep_travels {p : Part} {f : FilterId} {rec : FilterRecord} {t : Transfer} {x : Role × Position}
    (h : p.filter f = some rec) (ht : rec.transfer = some t) (h1 : 1 ≤ t.step) (hstep : t.step ≤ finalStep t.kind)
    (hx : transferStep t.kind t.step = [x]) (htr : RoleTravels p f x.1 x.2) (fuel : Nat) :
    OnlyChanges [.channels, .events] p (issueStep p f t fuel) ∧ RoleSetOff p (issueStep p f t fuel) f x.1 x.2 := by
  have k : OnlyChanges [.channels, .events] p (p.issue f [x]).1 := by simp
  obtain ⟨ok, done⟩ := issue_obeyed [x] (fun y hy => by rw [List.mem_singleton.1 hy]; exact .inr htr)
    (List.pairwise_singleton _ _)
  have mem : x ∈ stepsUpTo t.kind t.step := (commandedSoFar_iff t x).1 ⟨t.step, h1, le_refl _, by rw [hx]; simp⟩
  have waits : ¬ InPlace (p.issue f [x]).1 f t := fun hp =>
    not_restsAt_commanded done (issue_sameRules p f _).1 (by simp) htr (hp x mem)
  have e : issueStep p f t fuel = (p.issue f [x]).1 := by
    unfold issueStep
    rw [stepRoles_eq h1 hstep, hx, if_neg (by simp [ok])]
    exact advanceTransfer_waits ((filter_kept k (by simp) f).trans h) ht hstep (.inl waits) fuel
  rw [e]
  exact ⟨k, roleSetOff_of done (by simp) htr⟩

theorem transferArrival_passesOrCompletes : TransferArrivalPassesTheStepOrCompletes := by
  intro s f rec t role hT ho
  have hf := transferring_filter hT (.transferArrival f role)
  obtain ⟨hop, -, ht, hs, h1, hstep⟩ := hT
  have hexec := (exec_transferRoleArrival f role s).trans (takeEvent_outstanding _ ho)
  have kt : OnlyChanges [.events] s.part (taking s.part (.transferArrival f role)) := by simp
  have place : (∀ x, CommandedSoFar t x → RestsAt s.part f x.1 x.2) ↔
      InPlace (taking s.part (.transferArrival f role)) f t :=
    forall_congr' fun x => imp_congr_left (commandedSoFar_iff t x)
  dsimp only
  rw [place]
  refine ⟨fun hw => ⟨_, hexec, rfl, ?_⟩, fun hp hl => ?completes, fun hp hrun r pos hstep' htr => ?passes⟩
  · dsimp only
    rw [advanceTransfer_waits hf ht hstep hw]
    exact kt
  case completes =>
    obtain ⟨k, others, marker, now, overload, due, urgent, cs, hl'⟩ :=
      transferCompletes_of (k := t.kind) hf hs (operating_of hop)
    rw [advanceTransfer_completes hf ht hstep hp hl] at hexec
    exact ⟨_, cs, hexec, rfl, onlyChanges_trans (onlyChanges_mono kt (by simp)) (onlyChanges_mono k (by simp)), others, marker,
      now, overload, due, urgent, hl'⟩
  case passes =>
    have hlt : t.step < finalStep t.kind := by
      rcases Nat.lt_or_ge t.step (finalStep t.kind) with h | h
      · exact h
      · rw [show t.step = finalStep t.kind by omega] at hstep'
        cases hk : t.kind <;> rw [hk] at hstep' <;> cases hstep'
    rw [advanceTransfer_passes hf ht hstep hp hlt hrun] at hexec
    generalize hq : (taking s.part (.transferArrival f role)).putFilter f
      (some { rec with transfer := some ⟨t.kind, t.step + 1⟩ }) = q at *
    have hqf : q.filter f = some { rec with transfer := some ⟨t.kind, t.step + 1⟩ } := by rw [← hq]; exact filter_putFilter _ f _
    have kq : OnlyChanges [.filters, .events] s.part q := by rw [← hq]; simp
    have same := sameRole_kept kq (by simp) (by simp) f r
    obtain ⟨k, off⟩ := issueStep_travels (x := (r, pos)) hqf rfl (by simp) hlt hstep' ((roleTravels_same same pos).2 htr) 2
    have rules := sameRules_kept kq (by simp) (by simp) (by simp)
    refine ⟨_, hexec, rfl, onlyChanges_trans (onlyChanges_mono kq (by simp)) (onlyChanges_mono k (by simp)), fun g hg => ?_,
      (filter_kept k (by simp) f).trans hqf, fun ch hm => ?_⟩
    · refine (filter_kept k (by simp) g).trans ?_
      rw [← hq]
      exact filter_putFilter_ne _ hg _
    · obtain ⟨hch, hother⟩ := off ch (same.1.trans hm)
      rw [same.2 ch hm, rules.2.1, rules.2.2] at hch
      exact ⟨hch, fun d hd => (hother d hd).trans (channel_kept kq (by simp) d)⟩

theorem transfer_commandsAgain : TransferCommandsAgain := by
  intro s f rec t hT hnot
  have hf := transferring_filter hT
  obtain ⟨-, -, ht, -, -, hstep⟩ := hT
  have place : ∀ e, ¬ InPlace (taking s.part e) f t := fun e hp =>
    hnot fun x hx => hp x ((commandedSoFar_iff t x).1 hx)
  refine ⟨fun role ho => ⟨fun hw => ?driftWaits, fun hrun pos hcom htr => ?drift⟩,
    fun ho => ⟨fun hstop => ?releaseWaits, fun hrun hall => ?release⟩⟩
  case driftWaits =>
    refine ⟨_, (exec_transferRoleDrift f role s).trans (takeEvent_outstanding _ ho), rfl, ?_⟩
    dsimp only
    rw [transferDrifts_eq (hf _) ht hstep, pressTransfer_waits (hf _) ht hstep (place _) (hw.imp_right fun hno => ?_)]
    · simp
    · rw [List.filter_eq_nil_iff]
      rintro ⟨r, pos⟩ hx he
      rw [beq_iff_eq] at he
      exact hno pos ((commandedSoFar_iff t _).2 (by rw [← he]; exact hx))
  case drift =>
    have mem := (commandedSoFar_iff t _).1 hcom
    have only : ∀ y, y ∈ (stepsUpTo t.kind t.step).filter (fun x => x.1 == role) ↔ y = (role, pos) := fun y => by
      rw [List.mem_filter, beq_iff_eq]
      exact ⟨fun hy => step_role_unique hstep hy.1 mem hy.2, fun e => by rw [e]; exact ⟨mem, rfl⟩⟩
    have away : ¬ RestsAt (taking s.part (.transferDrift f role)) f role pos := fun hr => not_travels_of_rests hr htr
    obtain ⟨k, done⟩ := pressTransfer_commands (hf (.transferDrift f role)) ht hstep hrun List.filter_sublist
      (fun y hy => by rw [(only y).1 hy]; exact .inr htr) ⟨_, (only _).2 rfl, away⟩
    refine ⟨_, (exec_transferRoleDrift f role s).trans (takeEvent_outstanding _ ho), rfl, ?_⟩
    dsimp only
    rw [transferDrifts_eq (hf _) ht hstep]
    refine ⟨onlyChanges_trans (by simp) k, roleSetOff_of (x := (role, pos)) done (fun y => ?_) htr⟩
    rw [List.mem_filter, only y]
    refine ⟨And.left, fun e => ⟨e, ?_⟩⟩
    rw [e, Bool.not_eq_true', Bool.eq_false_iff, ne_eq, inPosition_iff]
    exact away
  case releaseWaits =>
    refine ⟨_, (exec_transferStopReleased f s).trans (takeEvent_outstanding _ ho), rfl, ?_⟩
    dsimp only
    rw [transferReleased_eq (hf _) ht hstep, pressTransfer_waits (hf _) ht hstep (place _) (.inl hstop)]
    simp
  case release =>
    have away : ∃ x ∈ stepsUpTo t.kind t.step, ¬ RestsAt (taking s.part (.transferStopReleased f)) f x.1 x.2 := by
      by_contra hno
      exact place (.transferStopReleased f) fun x hx => by_contra fun hr => hno ⟨x, hx, hr⟩
    obtain ⟨k, done⟩ := pressTransfer_commands (hf (.transferStopReleased f)) ht hstep hrun (List.Sublist.refl _)
      (fun x hx => hall x ((commandedSoFar_iff t x).2 hx)) away
    refine ⟨_, (exec_transferStopReleased f s).trans (takeEvent_outstanding _ ho), rfl, ?_⟩
    dsimp only
    rw [transferReleased_eq (hf _) ht hstep]
    have picked : ∀ x, x ∈ (stepsUpTo t.kind t.step).filter
          (fun x => !(taking s.part (.transferStopReleased f)).inPosition f x.1 x.2) ↔
        CommandedSoFar t x ∧ ¬ RestsAt s.part f x.1 x.2 := fun x => by
      rw [List.mem_filter, ← commandedSoFar_iff, Bool.not_eq_true', Bool.eq_false_iff, ne_eq, inPosition_iff]
      exact Iff.rfl
    refine ⟨onlyChanges_trans (by simp) k, fun x ch hx hr hm => ?_, fun ch hch => done.2 ch fun x hx hm => ?_⟩
    · exact (done.1 x ((picked x).2 ⟨hx, hr⟩) ch hm).2 ((hall x hx).resolve_left hr)
    · obtain ⟨hx, hr⟩ := (picked x).1 hx
      exact (hch x hx).elim hr fun hne => hne hm

end Sys2Proof.Laws

namespace Sys2Proof

open Machine Laws

/-- Settles O34: the branches of a transfer's advance, and the commands given again at a drift and at the release of STOP. -/
theorem transfersRunTheirSteps : Obligations.TransfersRunTheirSteps :=
  ⟨transferArrival_passesOrCompletes, transfer_commandsAgain⟩

end Sys2Proof
end

section
/-! SUPPORT. A transfer from its start (R9 to R13): the steps whose roles all rest in position are passed, and it waits, fails
or completes in the first that has another. -/

namespace Sys2Proof.Laws

open Sys2Proof.Machine

/-! ### The part before the commands of a step -/

/-- The filter's record while the transfer stands in a step. -/
def recordAt (rec : FilterRecord) (k : TransferKind) (n : Nat) : FilterRecord :=
  if k = .toService then offIndex { rec with transfer := some ⟨k, n⟩ } else { rec with transfer := some ⟨k, n⟩ }

theorem recordAt_transfer (rec : FilterRecord) (k : TransferKind) (n : Nat) :
    (recordAt rec k n).transfer = some ⟨k, n⟩ := by
  unfold recordAt; split <;> rfl

theorem recordAt_state (rec : FilterRecord) (k : TransferKind) (n : Nat) : (recordAt rec k n).state = rec.state := by
  unfold recordAt; split <;> rfl

theorem recordAt_next (rec : FilterRecord) (k : TransferKind) (n m : Nat) :
    { recordAt rec k n with transfer := some ⟨k, m⟩ } = recordAt rec k m := by
  unfold recordAt; split <;> rfl

/-- FILTER_STATE of a transfer of kind `k`, with the state and the step it then has. -/
def transferReport (p : Part) (f : FilterId) (k : TransferKind) (x : FilterState) (t : Option Transfer) : ReportBody :=
  .filterState f (some x) (some (stateFrom k)) t (p.table.marker == some f)

/-- `q` is the part of a transfer that has begun in `p`, has been reported at step 1, stands in step `n` and has given these
commands. -/
structure Standing (p q : Part) (f : FilterId) (rec : FilterRecord) (k : TransferKind) (n : Nat)
    (commands : List (Role × Position)) : Prop where
  frame : OnlyChanges ([Piece.filters, .selection, .channels, .events] ++ reporting) p q
  told : q.link = afterReports p.clock p.link [transferReport p f k (stateFrom k) (some ⟨k, 1⟩)]
  now : q.filter f = some (recordAt rec k n)
  others : OtherFiltersKept p q f
  commanded : OnlyCommanded p q f commands

section Start
variable {p : Part} {f : FilterId} {rec : FilterRecord} {k : TransferKind} (h : p.filter f = some rec)
  (hs : rec.state = stateFrom k)

include h hs in
theorem begun_of : Standing p (p.changeFilter f fun r => { r with transfer := some ⟨k, 1⟩ }) f rec k 1 [] ∧
    OnlyChanges ([Piece.filters, .selection, .events] ++ reporting) p
      (p.changeFilter f fun r => { r with transfer := some ⟨k, 1⟩ }) := by
  have e := changeFilter_quiet h (fun r => { r with transfer := some ⟨k, 1⟩ }) Iff.rfl
  have km : OnlyChanges ([Piece.filters, .selection, .events] ++ reporting) p
      (p.changeFilter f fun r => { r with transfer := some ⟨k, 1⟩ }) := by rw [e]; simp
  refine ⟨⟨onlyChanges_mono km (by simp), ?_, ?_, fun g hg => changeFilter_filter_ne _ hg _, by simp,
    fun ch _ => channel_kept km (by simp) ch⟩, km⟩
  · rw [e, moveFilter_link, h]
    unfold transferReport
    rw [← hs]
    rfl
  · rw [changeFilter_filter h]
    unfold recordAt FilterRecord.indexed
    rw [hs]
    cases k <;> rfl

theorem startTransfer_stopped (hstop : p.stopAsserted = true) :
    p.startTransfer f k = (p.changeFilter f fun r => { r with transfer := some ⟨k, 1⟩ }).advanceTransfer f 3 := by
  have e : (p.changeFilter f fun r => { r with transfer := some ⟨k, 1⟩ }).stopAsserted = true :=
    (stopAsserted_kept ((changeFilter_keeps f _ (List.Subset.refl _)).2 (onlyChanges_refl _ p)) (by simp)).trans hstop
  unfold Part.startTransfer
  exact if_pos e

theorem startTransfer_runs (hrun : p.stopAsserted = false) :
    p.startTransfer f k = issueStep (p.changeFilter f fun r => { r with transfer := some ⟨k, 1⟩ }) f ⟨k, 1⟩ 3 := by
  have e : (p.changeFilter f fun r => { r with transfer := some ⟨k, 1⟩ }).stopAsserted = false :=
    (stopAsserted_kept ((changeFilter_keeps f _ (List.Subset.refl _)).2 (onlyChanges_refl _ p)) (by simp)).trans hrun
  unfold Part.startTransfer
  exact if_neg (by simp [e])

/-! ### Commands of a step -/

theorem apart_steps (hb : MapBothWays p f) {xs : List (Role × Position)}
    (hx : xs.Sublist (stepsUpTo k (finalStep k))) : xs.Pairwise (Apart p f) :=
  ((steps_roles_differ k).sublist hx).imp fun hne => apart_of_back hne (hb _) (hb _)

section Step
variable {q : Part} {n : Nat} {cs xs : List (Role × Position)} (hq : Standing p q f rec k n cs) (hb : MapBothWays p f)
  (hsub : (cs ++ xs).Sublist (stepsUpTo k (finalStep k)))
include hq

theorem standing_rules : SameRules p q := sameRules_kept hq.frame (by simp) (by simp) (by simp)

include hb hsub

/-- The channels of roles still to be commanded are as they were at the start. -/
theorem standing_sameRole : ∀ x ∈ xs, SameRole p q f x.1 := fun x hx =>
  sameRole_of_apart hq.commanded (standing_rules hq).1 fun y hy =>
    (List.pairwise_append.1 (apart_steps hb hsub)).2.2 y hy x hx

theorem standing_apart : xs.Pairwise (Apart q f) := by
  rw [apart_same (standing_rules hq)]
  exact (List.pairwise_append.1 (apart_steps hb hsub)).2.1

theorem standing_obeys (ho : ∀ x ∈ xs, Obeys p f x) : ∀ x ∈ xs, Obeys q f x := fun x hx =>
  (obeys_same (standing_sameRole hq hb hsub x hx)).2 (ho x hx)

/-- Commands that are obeyed join those given. -/
theorem standing_issue (ho : ∀ x ∈ xs, Obeys p f x) :
    (q.issue f xs).2 = false ∧ Standing p (q.issue f xs).1 f rec k n (cs ++ xs) := by
  obtain ⟨ok, done⟩ := issue_obeyed xs (standing_obeys hq hb hsub ho) (standing_apart hq hb hsub)
  have ki : OnlyChanges [.channels, .events] q (q.issue f xs).1 := by simp
  exact ⟨ok, onlyChanges_trans hq.frame (onlyChanges_mono ki (by simp)), (link_kept ki (by simp)).trans hq.told,
    (filter_kept ki (by simp) f).trans hq.now, fun g hg => (filter_kept ki (by simp) g).trans (hq.others g hg),
    onlyCommanded_append hq.commanded done (standing_rules hq) (List.pairwise_append.1 (apart_steps hb hsub)).2.2⟩

end Step

section Run
variable (hrun : p.stopAsserted = false) (hb : MapBothWays p f)
include hb

/-- Every role of a step obeys: the step's commands are given, and the transfer is looked at again. -/
theorem issueStep_given {q : Part} {n : Nat} (hq : Standing p q f rec k (n + 1) (stepsUpTo k n)) (hn : n < finalStep k)
    (ho : ∀ x ∈ transferStep k (n + 1), Obeys p f x) (fuel : Nat) :
    ∃ r, issueStep q f ⟨k, n + 1⟩ fuel = r.advanceTransfer f fuel ∧
      Standing p r f rec k (n + 1) (stepsUpTo k (n + 1)) := by
  have hsub := stepsUpTo_sublist (k := k) (n := n + 1) hn
  rw [stepsUpTo_succ] at hsub ⊢
  obtain ⟨ok, given⟩ := standing_issue hq hb hsub ho
  refine ⟨_, ?_, given⟩
  unfold issueStep
  rw [stepRoles_eq (t := ⟨k, n + 1⟩) (by simp) hn, if_neg (by simp [ok])]

include hrun

/-- A step whose roles all rest in position is passed (R11). -/
theorem issueStep_passed {q : Part} {n : Nat} (hq : Standing p q f rec k (n + 1) (stepsUpTo k n)) (hn : n + 1 < finalStep k)
    (hr : ∀ x ∈ stepsUpTo k (n + 1), RestsAt p f x.1 x.2) (fuel : Nat) :
    ∃ r, issueStep q f ⟨k, n + 1⟩ (fuel + 1) = issueStep r f ⟨k, n + 2⟩ fuel ∧
      Standing p r f rec k (n + 2) (stepsUpTo k (n + 1)) := by
  have hstep : ∀ x ∈ transferStep k (n + 1), Obeys p f x := fun x hx =>
    .inl (hr x (by rw [stepsUpTo_succ]; exact List.mem_append_right _ hx))
  obtain ⟨r, e, given⟩ := issueStep_given hb hq (by omega) hstep (fuel + 1)
  have place : InPlace r f ⟨k, n + 1⟩ := fun x hx =>
    restsAt_commanded given.commanded (standing_rules given).1 hx (hr x hx)
  have hstop : r.stopAsserted = false := (stopAsserted_kept given.frame (by simp)).trans hrun
  rw [advanceTransfer_passes given.now (recordAt_transfer _ _ _) (Nat.le_of_lt hn) place hn hstop, recordAt_next] at e
  have kp : OnlyChanges [.filters] r (r.putFilter f (some (recordAt rec k (n + 2)))) := by simp
  exact ⟨_, e, onlyChanges_trans given.frame (onlyChanges_mono kp (by simp)), given.told, filter_putFilter _ f _,
    fun g hg => (filter_putFilter_ne _ hg _).trans (given.others g hg), given.commanded⟩

include h hs

/-- The transfer comes to the first step that has a role out of position. -/
theorem startTransfer_reaches {n : Nat} (hn : n < finalStep k) (hr : ∀ x ∈ stepsUpTo k n, RestsAt p f x.1 x.2) :
    ∃ q, p.startTransfer f k = issueStep q f ⟨k, n + 1⟩ (3 - n) ∧ Standing p q f rec k (n + 1) (stepsUpTo k n) := by
  induction n with
  | zero => exact ⟨_, startTransfer_runs hrun, (begun_of h hs).1⟩
  | succ n ih =>
    obtain ⟨q, e, hq⟩ := ih (by omega) fun x hx => hr x (by rw [stepsUpTo_succ]; exact List.mem_append_left _ hx)
    obtain ⟨r, e', hr'⟩ := issueStep_passed hrun hb hq hn hr (3 - (n + 1))
    have fuel : 3 - n = 3 - (n + 1) + 1 := by have := finalStep_le_three k; omega
    exact ⟨r, by rw [e, fuel, e'], hr'⟩

/-- The first step with a role that travels is where the transfer waits (R11). -/
theorem startTransfer_waits {n : Nat} (hn : n < finalStep k) (hr : ∀ x ∈ stepsUpTo k n, RestsAt p f x.1 x.2)
    (ho : ∀ x ∈ transferStep k (n + 1), Obeys p f x) (ht : ∃ x ∈ transferStep k (n + 1), RoleTravels p f x.1 x.2) :
    Standing p (p.startTransfer f k) f rec k (n + 1) (stepsUpTo k (n + 1)) := by
  obtain ⟨q, e, hq⟩ := startTransfer_reaches h hs hrun hb hn hr
  obtain ⟨r, e', given⟩ := issueStep_given hb hq hn ho (3 - n)
  obtain ⟨x, hx, hx'⟩ := ht
  have mem : x ∈ stepsUpTo k (n + 1) := by rw [stepsUpTo_succ]; exact List.mem_append_right _ hx
  have waits : ¬ InPlace r f ⟨k, n + 1⟩ := fun hp =>
    not_restsAt_commanded given.commanded (standing_rules given).1 mem hx' (hp x mem)
  rw [e, e', advanceTransfer_waits given.now (recordAt_transfer _ _ _) hn (.inl waits)]
  exact given

/-- A command to a channel in FAULT ends the transfer, none given after it (R13). -/
theorem startTransfer_fails {n : Nat} (hn : n < finalStep k) (hr : ∀ x ∈ stepsUpTo k n, RestsAt p f x.1 x.2)
    {before later : List (Role × Position)} {r : Role} {pos : Position}
    (hx : transferStep k (n + 1) = before ++ (r, pos) :: later) (ho : ∀ x ∈ before, Obeys p f x)
    (hf : RoleInFault p f r) :
    ∃ q, p.startTransfer f k = q.transferFails f ∧ Standing p q f rec k (n + 1) (stepsUpTo k n ++ before) := by
  obtain ⟨q, e, hq⟩ := startTransfer_reaches h hs hrun hb hn hr
  have hsub : (stepsUpTo k n ++ (before ++ (r, pos) :: later)).Sublist (stepsUpTo k (finalStep k)) := by
    rw [← hx, ← stepsUpTo_succ]; exact stepsUpTo_sublist hn
  have hsub' : (stepsUpTo k n ++ before).Sublist (stepsUpTo k (finalStep k)) :=
    (List.Sublist.append_left (List.sublist_append_left _ _) _).trans hsub
  have apart := List.pairwise_append.1 (standing_apart hq hb hsub)
  have faulted : RoleInFault q f r :=
    (roleInFault_same (standing_sameRole hq hb hsub (r, pos) (by simp))).2 hf
  refine ⟨(q.issue f before).1, ?_, (standing_issue hq hb hsub' ho).2⟩
  rw [e]
  unfold issueStep
  rw [stepRoles_eq (t := ⟨k, n + 1⟩) (by simp) hn, hx, issue_fails before (standing_obeys hq hb hsub' ho) apart.1
    (fun x hm => apart.2.2 x hm _ (by simp)) faulted]
  rfl

/-- With every role of every step in position the transfer completes at once (R11). -/
theorem startTransfer_completes (hr : ∀ x ∈ stepsUpTo k (finalStep k), RestsAt p f x.1 x.2) :
    ∃ q, p.startTransfer f k = q.transferCompletes f k ∧ Standing p q f rec k (finalStep k) (stepsUpTo k (finalStep k)) := by
  obtain ⟨n, hn⟩ : ∃ n, finalStep k = n + 1 := by cases k <;> exact ⟨_, rfl⟩
  rw [hn] at hr ⊢
  obtain ⟨q, e, hq⟩ := startTransfer_reaches h hs hrun hb (n := n) (by omega)
    fun x hx => hr x (by rw [stepsUpTo_succ]; exact List.mem_append_left _ hx)
  obtain ⟨r, e', given⟩ := issueStep_given hb hq (by omega)
    (fun x hx => .inl (hr x (by rw [stepsUpTo_succ]; exact List.mem_append_right _ hx))) (3 - n)
  have place : InPlace r f ⟨k, n + 1⟩ := fun x hx =>
    restsAt_commanded given.commanded (standing_rules given).1 hx (hr x hx)
  have fuel : 3 - n = 2 - n + 1 := by have := finalStep_le_three k; omega
  rw [fuel, advanceTransfer_completes given.now (recordAt_transfer _ _ _) (by dsimp only; omega) place hn.symm] at e'
  exact ⟨r, by rw [e, fuel, e'], given⟩

end Run
end Start

end Sys2Proof.Laws
end

section
/-! SUPPORT. TO_STANDBY and TO_SERVICE in the words of the statements: the course of the transfer they start. -/

namespace Sys2Proof.Laws

open Sys2Proof.Machine

/-! ### The words `TransferBegins` -/

/-- From `p` to `q` these pieces change beside the reports, these reports are made, and `now` holds also once the reply has
been given; a course that computes no loading sets no flag. -/
def RunsTo (p q : Part) (xs : List Piece) (bs : List ReportBody) (now : Part → Prop) : Prop :=
  OnlyChanges (xs ++ reporting) p q ∧ Reports p q bs ∧ (∀ q', OnlyChanges reporting q q' → now q') ∧
  (.overload ∉ xs → q.sched.flags = p.sched.flags)

theorem transferBegins_mono {p : Part} {f : FilterId} {rec : FilterRecord} {k : TransferKind} {m : Option FilterId}
    {ends ends' : List Piece → List ReportBody → (Part → Prop) → Prop}
    (hi : ∀ xs bs now, ends xs bs now → ends' xs bs now) (h : TransferBegins p f rec k m ends) :
    TransferBegins p f rec k m ends' := by
  obtain ⟨stopped, runs⟩ := h
  refine ⟨fun hs => hi _ _ _ (stopped hs), fun hs hb => ?_⟩
  obtain ⟨steps, completes⟩ := runs hs hb
  refine ⟨fun n h1 hn hr => ?_, fun hr => ?_⟩
  · obtain ⟨waits, fails⟩ := steps n h1 hn hr
    refine ⟨fun ho ht => hi _ _ _ (waits ho ht), fun before r pos later hx ho hf => ?_⟩
    obtain ⟨cs, hcs, he⟩ := fails before r pos later hx ho hf
    exact ⟨cs, hcs, hi _ _ _ he⟩
  · obtain ⟨cs, he⟩ := completes hr
    exact ⟨cs, hi _ _ _ he⟩

/-- What the course of a transfer hangs on. -/
structure SameCourse (p q : Part) : Prop where
  stop : q.stopAsserted = p.stopAsserted
  mapped : q.mapped = p.mapped
  channel : q.channel = p.channel
  filter : q.filter = p.filter
  clock : q.startUp.clock = p.startUp.clock
  plant : q.plant = p.plant

theorem sameCourse_kept {xs : List Piece} {p q : Part} (h : OnlyChanges xs p q)
    (hx : ∀ x ∈ [Piece.stop, .map, .channels, .filters, .clock, .plant], x ∉ xs) : SameCourse p q where
  stop := stopAsserted_kept h (hx _ (by simp))
  mapped := funext fun f => funext fun r => mapped_kept h (hx _ (by simp)) f r
  channel := funext (channel_kept h (hx _ (by simp)))
  filter := funext (filter_kept h (hx _ (by simp)))
  clock := h .clock (hx _ (by simp))
  plant := h .plant (hx _ (by simp))

theorem transferBegins_same {p q : Part} (h : SameCourse p q) (f : FilterId) (rec : FilterRecord) (k : TransferKind)
    (m : Option FilterId) (ends : List Piece → List ReportBody → (Part → Prop) → Prop) :
    TransferBegins q f rec k m ends = TransferBegins p f rec k m ends := by
  obtain ⟨stop, mapped, channel, filter, clock, plant⟩ := h
  unfold TransferBegins OnlyCommanded RoleCommanded MapBothWays RoleTravels RoleInFault RestsAt OtherFiltersKept
  simp only [stop, mapped, channel, filter, clock, plant]

/-! ### The course of `startTransfer` -/

section Course
variable {p : Part} {f : FilterId} {rec : FilterRecord} {k : TransferKind} (h : p.filter f = some rec)
  (hs : rec.state = stateFrom k)

/-- What a standing transfer shows stays shown while reports and a reply go out. -/
theorem standing_reply {q q' : Part} {n : Nat} {cs : List (Role × Position)} (hq : Standing p q f rec k n cs)
    (kr : OnlyChanges reporting q q') :
    (q'.filter f = some (recordAt rec k n) ∧ OtherFiltersKept p q' f ∧ q'.table.marker = p.table.marker) ∧
      OnlyCommanded p q' f cs := by
  have km : q'.table.marker = q.table.marker := kr .marker (by simp)
  refine ⟨⟨(filter_kept kr (by simp) f).trans hq.now, fun g hg => (filter_kept kr (by simp) g).trans (hq.others g hg),
    km.trans (hq.frame .marker (by simp))⟩, fun x hx ch hm => ?_, fun ch hch => ?_⟩
  · rw [channel_kept kr (by simp)]
    exact hq.commanded.1 x hx ch hm
  · rw [channel_kept kr (by simp)]
    exact hq.commanded.2 ch hch

/-- What holds of a transfer's end, beside its own pieces, hangs on the part it stood in. -/
theorem ended_of {q r q' : Part} {n : Nat} {cs : List (Role × Position)} {final : FilterRecord} {marker : Option FilterId}
    (hq : Standing p q f rec k n cs)
    (kr : OnlyChanges ([Piece.filters, .marker, .selection, .flags, .overload, .scanDue, .events] ++ reporting) q r)
    (now : r.filter f = some final) (others : OtherFiltersKept q r f) (hm : r.table.marker = marker)
    (kq : OnlyChanges reporting r q') :
    (q'.filter f = some final ∧ OtherFiltersKept p q' f ∧ q'.table.marker = marker) ∧ OnlyCommanded p q' f cs := by
  have km : q'.table.marker = r.table.marker := kq .marker (by simp)
  have kc : ∀ ch, q'.channel ch = q.channel ch := fun ch =>
    (channel_kept kq (by simp) ch).trans (channel_kept kr (by simp) ch)
  refine ⟨⟨(filter_kept kq (by simp) f).trans now,
    fun g hg => (filter_kept kq (by simp) g).trans ((others g hg).trans (hq.others g hg)), km.trans hm⟩,
    fun x hx ch hmap => ?_, fun ch hch => ?_⟩
  · rw [kc]; exact hq.commanded.1 x hx ch hmap
  · rw [kc]; exact hq.commanded.2 ch hch

theorem standing_clock {q : Part} {n : Nat} {cs : List (Role × Position)} (hq : Standing p q f rec k n cs) :
    q.clock = p.clock := hq.frame .clock (by simp)

theorem standing_marker {q : Part} {n : Nat} {cs : List (Role × Position)} (hq : Standing p q f rec k n cs) :
    q.table.marker = p.table.marker := hq.frame .marker (by simp)

/-- The report of a transfer's end follows that of its beginning. -/
theorem standing_reports {q r : Part} {n : Nat} {cs : List (Role × Position)} (hq : Standing p q f rec k n cs)
    {x : FilterState} {bs : List ReportBody}
    (hl : r.link = afterReports q.clock q.link (transferReport q f k x none :: bs)) :
    Reports p r ([transferReport p f k (stateFrom k) (some ⟨k, 1⟩), transferReport p f k x none] ++ bs) := by
  have e : transferReport q f k x none = transferReport p f k x none := by
    unfold transferReport; rw [standing_marker hq]
  rw [standing_clock hq, hq.told, e] at hl
  exact hl.trans (afterReports_append _ _ [_] _).symm

include h hs

/-- STOP asserted: the transfer begins and gives no command (R12). -/
theorem course_stopped (hstop : p.stopAsserted = true) :
    RunsTo p (p.startTransfer f k) [.filters, .selection, .events] [transferReport p f k (stateFrom k) (some ⟨k, 1⟩)]
      fun q => q.filter f = some (recordAt rec k 1) ∧ OtherFiltersKept p q f ∧ q.table.marker = p.table.marker := by
  obtain ⟨hq, kq⟩ := begun_of h hs
  have hlt : 1 < finalStep k := by cases k <;> decide
  have e : p.startTransfer f k = p.changeFilter f fun r => { r with transfer := some ⟨k, 1⟩ } := by
    rw [startTransfer_stopped hstop]
    exact advanceTransfer_waits hq.now (recordAt_transfer _ _ _) (Nat.le_of_lt hlt)
      (.inr ⟨hlt, (stopAsserted_kept kq (by simp)).trans hstop⟩) 3
  rw [e]
  exact ⟨kq, hq.told, fun q' kr => (standing_reply hq kr).1, fun _ => kq .flags (by simp)⟩

section Run
variable (hrun : p.stopAsserted = false) (hb : MapBothWays p f)
include hrun hb

theorem course_waits {n : Nat} (hn : n < finalStep k) (hr : ∀ x ∈ stepsUpTo k n, RestsAt p f x.1 x.2)
    (ho : ∀ x ∈ transferStep k (n + 1), Obeys p f x) (ht : ∃ x ∈ transferStep k (n + 1), RoleTravels p f x.1 x.2) :
    RunsTo p (p.startTransfer f k) [.filters, .selection, .channels, .events]
      [transferReport p f k (stateFrom k) (some ⟨k, 1⟩)] fun q =>
        (q.filter f = some (recordAt rec k (n + 1)) ∧ OtherFiltersKept p q f ∧ q.table.marker = p.table.marker) ∧
        OnlyCommanded p q f (stepsUpTo k (n + 1)) := by
  have hq := startTransfer_waits h hs hrun hb hn hr ho ht
  exact ⟨hq.frame, hq.told, fun q' kr => standing_reply hq kr, fun _ => hq.frame .flags (by simp)⟩

theorem course_fails {n : Nat} (hn : n < finalStep k) (hr : ∀ x ∈ stepsUpTo k n, RestsAt p f x.1 x.2)
    {before later : List (Role × Position)} {r : Role} {pos : Position}
    (hx : transferStep k (n + 1) = before ++ (r, pos) :: later) (ho : ∀ x ∈ before, Obeys p f x) (hf : RoleInFault p f r) :
    ∃ cs, (k = .toService → cs = []) ∧
      RunsTo p (p.startTransfer f k) ([Piece.filters, .selection, .channels, .events, .marker, .scanDue] ++
          if k = .toService then [] else [.flags, .overload])
        ([transferReport p f k (stateFrom k) (some ⟨k, 1⟩), transferReport p f k (.faulted .valve) none] ++ cs) fun q =>
          (q.filter f = some (offIndex { rec with state := .faulted .valve, transfer := none }) ∧ OtherFiltersKept p q f ∧
            q.table.marker = markerWithout p f) ∧
          OnlyCommanded p q f (stepsUpTo k n ++ before) := by
  obtain ⟨q, e, hq⟩ := startTransfer_fails h hs hrun hb hn hr hx ho hf
  obtain ⟨kf, others, marker, now, cs, hl, hcs⟩ := transferFails_of hq.now
  rw [recordAt_state, hs] at hl hcs
  have hm : (q.transferFails f).table.marker = markerWithout p f := by
    rw [marker]; unfold markerWithout; rw [standing_marker hq]
  have hnow : (q.transferFails f).filter f = some (offIndex { rec with state := .faulted .valve, transfer := none }) := by
    rw [now]; unfold recordAt; split <;> rfl
  have told := standing_reports (x := .faulted .valve) hq hl
  rw [e]
  cases k with
  | toService =>
    have quiet := transferFails_quiet hq.now (by rw [recordAt_state, hs]; simp [stateFrom])
    exact ⟨cs, fun _ => hcs (by simp [stateFrom]),
      onlyChanges_trans (onlyChanges_mono hq.frame (by simp)) (onlyChanges_mono quiet (by simp)), told,
      fun q' kq => ended_of hq (onlyChanges_mono kf (by simp)) hnow others hm kq,
      fun _ => (quiet .flags (by simp)).trans (hq.frame .flags (by simp))⟩
  | toStandby =>
    exact ⟨cs, fun hk => absurd hk (by simp),
      onlyChanges_trans (onlyChanges_mono hq.frame (by simp)) (onlyChanges_mono kf (by simp)), told,
      fun q' kq => ended_of hq (onlyChanges_mono kf (by simp)) hnow others hm kq, fun hno => absurd (by simp) hno⟩

theorem course_completes (hop : p.operating = true) (hr : ∀ x ∈ stepsUpTo k (finalStep k), RestsAt p f x.1 x.2) :
    ∃ cs, RunsTo p (p.startTransfer f k) [.filters, .selection, .channels, .events, .marker, .scanDue, .flags, .overload]
      ([transferReport p f k (stateFrom k) (some ⟨k, 1⟩), transferReport p f k (stateTo k) none] ++ cs) fun q =>
        (q.filter f = some (offIndex { rec with state := stateTo k, transfer := none }) ∧ OtherFiltersKept p q f ∧
          q.table.marker = markerWithout p f) ∧
        OnlyCommanded p q f (stepsUpTo k (finalStep k)) ∧ (k = .toService → .urgency f ∈ q.events) := by
  obtain ⟨q, e, hq⟩ := startTransfer_completes h hs hrun hb hr
  obtain ⟨kc, others, marker, now, -, -, urgent, cs, hl⟩ := transferCompletes_of hq.now ((recordAt_state _ _ _).trans hs)
    ((operating_kept hq.frame (by simp)).trans hop)
  have hm : (q.transferCompletes f k).table.marker = markerWithout p f := by
    rw [marker]; unfold markerWithout; rw [standing_marker hq]
  have hnow : (q.transferCompletes f k).filter f = some (offIndex { rec with state := stateTo k, transfer := none }) := by
    rw [now]; unfold recordAt; cases k <;> rfl
  rw [e]
  refine ⟨cs, onlyChanges_trans (onlyChanges_mono hq.frame (by simp)) (onlyChanges_mono kc (by simp)),
    standing_reports (x := stateTo k) hq hl, fun q' kq => ?_, fun hno => absurd (by simp) hno⟩
  obtain ⟨shown, commanded⟩ := ended_of hq (onlyChanges_mono kc (by simp)) hnow others hm kq
  exact ⟨shown, commanded, fun hk => by rw [show q'.events = _ from kq .events (by simp)]; exact urgent hk⟩

end Run

/-- The course of a transfer from its start (R9 to R14, Table 1-10), whatever row starts it. -/
theorem startTransfer_begins (hop : p.operating = true) :
    TransferBegins p f rec k p.table.marker (RunsTo p (p.startTransfer f k)) := by
  refine ⟨course_stopped h hs, fun hrun hb => ⟨fun n h1 hn hr => ?_, course_completes h hs hrun hb hop⟩⟩
  obtain ⟨n, rfl⟩ : ∃ m, n = m + 1 := ⟨n - 1, by omega⟩
  exact ⟨course_waits h hs hrun hb hn hr, fun before r pos later hx ho hf => course_fails h hs hrun hb hn hr hx ho hf⟩

end Course

/-! ### The commands (R9, R10) -/

theorem serviceArea_kept {xs : List Piece} {p q : Part} (h : OnlyChanges xs p q) (hx : Piece.filters ∉ xs) :
    q.serviceArea = p.serviceArea := by
  have e : q.filter = p.filter := funext (filter_kept h hx)
  unfold Part.serviceArea Part.onlineFilters
  rw [e]

theorem accepted_serviceArea (p : Part) : p.frameAccepted.serviceArea = p.serviceArea :=
  serviceArea_kept (accepted_only p) (by simp)

theorem loadingFlags_accepted (p : Part) (area : Nat) : loadingFlags p.frameAccepted area = loadingFlags p area := by
  unfold loadingFlags Part.flowUsed
  rw [accepted_front, accepted_plant]

theorem loadingWithout_accepted (p : Part) (a : Nat) : loadingWithout p.frameAccepted a = loadingWithout p a := by
  unfold loadingWithout Part.flowUsed
  rw [accepted_front, accepted_plant, accepted_serviceArea]

theorem calcReports_accepted (p : Part) (met : CalcFlags) (o : CalcOrigin) :
    calcReports p.frameAccepted met o = calcReports p met o := by
  unfold calcReports flagsWith
  rw [accepted_sched, accepted_plant]

/-- The part once the loading test of TO_STANDBY has set its flags. -/
def tested (s : State) (f : FilterId) (rec : FilterRecord) : Part :=
  s.part.frameAccepted.setFlags (loadingFlags s.part (s.part.serviceArea - rec.cfg.area)) (.loading (some f))

theorem tested_of (s : State) (f : FilterId) (rec : FilterRecord) :
    let met := loadingFlags s.part (s.part.serviceArea - rec.cfg.area)
    OnlyChanges ([Piece.flags] ++ reporting) s.part.frameAccepted (tested s f rec) ∧
    (tested s f rec).sched.flags = flagsWith s.part met ∧
    Reports s.part.frameAccepted (tested s f rec) (calcReports s.part met (.loading (some f))) := by
  refine ⟨by unfold tested; simp, ?_, ?_⟩
  · unfold tested
    rw [setFlags_flags]
    unfold flagsWith
    rw [accepted_sched]
  · unfold tested Reports
    rw [setFlags_link, calcReports_accepted]

theorem loadingTest_accepted (s : State) (f : FilterId) (rec : FilterRecord) :
    s.part.frameAccepted.loadingTest f rec.cfg.area =
      (tested s f rec, decide (loadingWithout s.part rec.cfg.area ≤ s.part.plant.vmax)) := by
  refine Prod.ext ?_ ?_
  · rw [loadingTest_fst, accepted_serviceArea, loadingFlags_accepted]; rfl
  · rw [loadingTest_snd, loadingWithout_accepted, accepted_plant]

section Commands
variable {s : State} {b : Byte} {f : FilterId} {rec : FilterRecord} (hc : CanHandle s)
  (ht : s.part.startUp.top = .operating) (hb : filterOf b = some f) (hf : s.part.filter f = some rec)
  (hx : rec.transfer = none)
include hc ht hb hf hx

theorem toService_refused (tag : Byte) (h : rec.state ≠ .standby ∨ s.part.entry f ≠ none) :
    Refused s (.toService tag b) .state := by
  refine reads_of hc rfl ((answer_passed ht hb hf hx rfl).trans ?_)
  by_cases hs : rec.state = .standby
  · exact (unlessFails_ok (by simp [hs])).trans
      (unlessFails_no (by
        simpa [accepted_entry, Option.isSome_iff_ne_none] using h.resolve_left (not_not_intro hs)))
  · exact unlessFails_no (by simpa using hs)

theorem toStandby_refused (tag : Byte) (h : rec.state ≠ .online ∨ s.part.entry f ≠ none) :
    Refused s (.toStandby tag b) .state := by
  refine reads_of hc rfl ((answer_passed ht hb hf hx rfl).trans ?_)
  by_cases hs : rec.state = .online
  · exact (unlessFails_ok (by simp [hs])).trans
      (unlessFails_no (by
        simpa [accepted_entry, Option.isSome_iff_ne_none] using h.resolve_left (not_not_intro hs)))
  · exact unlessFails_no (by simpa using hs)

theorem toService_starts (tag : Byte) (hs : rec.state = .standby) (he : s.part.entry f = none) :
    TransferBegins s.part f rec .toService s.part.table.marker fun xs bs now =>
      Done s (.toService tag b) xs bs .ok .none now := by
  have ans : s.part.frameAccepted.answer (.toService b) = okay (s.part.frameAccepted.startTransfer f .toService) :=
    (answer_passed ht hb hf hx rfl).trans <| (unlessFails_ok (by simp [hs])).trans
      (unlessFails_ok (by simp [accepted_entry, he]))
  have course := startTransfer_begins (k := .toService) ((accepted_filter _ f).trans hf) hs (accepted_operating ht)
  rw [transferBegins_same (sameCourse_kept (accepted_only s.part) (by simp)), accepted_marker] at course
  exact transferBegins_mono (fun xs bs now ⟨k, told, after, _⟩ => done_reports hc rfl ans k told after) course

omit hc in
/-- The answer of TO_STANDBY on an ONLINE filter without an entry hangs on the loading test. -/
theorem answer_toStandby (hs : rec.state = .online) (he : s.part.entry f = none) :
    s.part.frameAccepted.answer (.toStandby b) =
      if loadingWithout s.part rec.cfg.area ≤ s.part.plant.vmax then okay ((tested s f rec).startTransfer f .toStandby)
      else refuse (tested s f rec) .loading := by
  refine (answer_passed ht hb hf hx rfl).trans <| (unlessFails_ok (by simp [hs])).trans <|
    (unlessFails_ok (by simp [accepted_entry, he])).trans ?_
  rw [loadingTest_accepted]
  unfold unlessFails
  simp only [decide_eq_true_eq]

theorem toStandby_overloads (tag : Byte) (hs : rec.state = .online) (he : s.part.entry f = none)
    (hv : s.part.plant.vmax < loadingWithout s.part rec.cfg.area) :
    let met := loadingFlags s.part (s.part.serviceArea - rec.cfg.area)
    Done s (.toStandby tag b) [.flags] (calcReports s.part met (.loading (some f))) .loading .none fun q =>
      q.sched.flags = flagsWith s.part met := by
  obtain ⟨k, flags, told⟩ := tested_of s f rec
  have ans := (answer_toStandby ht hb hf hx hs he).trans (if_neg (by omega))
  exact done_reports hc rfl ans k told fun q' kr => (kr .flags (by simp)).trans flags

theorem toStandby_starts (tag : Byte) (hs : rec.state = .online) (he : s.part.entry f = none)
    (hv : loadingWithout s.part rec.cfg.area ≤ s.part.plant.vmax) :
    let met := loadingFlags s.part (s.part.serviceArea - rec.cfg.area)
    TransferBegins s.part f rec .toStandby s.part.table.marker fun xs bs now =>
      Done s (.toStandby tag b) ([.flags] ++ xs) (calcReports s.part met (.loading (some f)) ++ bs) .ok .none fun q =>
        now q ∧ (.overload ∉ xs → q.sched.flags = flagsWith s.part met) := by
  obtain ⟨k, flags, told⟩ := tested_of s f rec
  have ans := (answer_toStandby ht hb hf hx hs he).trans (if_pos hv)
  have ka : OnlyChanges ([Piece.silence, .lastAccepted, .events, .flags] ++ reporting) s.part (tested s f rec) :=
    onlyChanges_trans (onlyChanges_mono (accepted_only s.part) (by simp)) (onlyChanges_mono k (by simp))
  have course := startTransfer_begins (k := .toStandby) ((filter_kept ka (by simp) f).trans hf) hs
    ((operating_kept ka (by simp)).trans (operating_of ht))
  rw [transferBegins_same (sameCourse_kept ka (by simp)), show (tested s f rec).table.marker = _ from ka .marker (by simp)]
    at course
  refine transferBegins_mono (fun xs bs now ⟨kc, toldc, after, quiet⟩ => done_reports hc rfl ans ?_ ?_ fun q' kr =>
    ⟨after q' kr, fun hno => (kr .flags (by simp)).trans ((quiet hno).trans flags)⟩) course
  · exact onlyChanges_trans (onlyChanges_mono k (by intro x; simp only [List.mem_append]; tauto))
      (onlyChanges_mono kc (by intro x; simp only [List.mem_append]; tauto))
  · unfold Reports at told toldc ⊢
    rw [toldc, told, show (tested s f rec).clock = _ from k .clock (by simp)]
    exact (afterReports_append _ _ _ _).symm

end Commands

end Sys2Proof.Laws

namespace Sys2Proof

open Machine Laws

/-- Settles O47: the checks and the loading test, then the course of the transfer from the part they leave. -/
theorem transfersStart : Obligations.TransfersStart := by
  intro s tag b f rec hc ht hb hf hx
  exact ⟨toStandby_refused hc ht hb hf hx tag, toStandby_overloads hc ht hb hf hx tag, toStandby_starts hc ht hb hf hx tag,
    toService_refused hc ht hb hf hx tag, toService_starts hc ht hb hf hx tag⟩

end Sys2Proof
end

section
/-! SUPPORT. Aborts (R18, R120, R125 to R127, R133): the close commands to all six roles, the lane that waits for them, and
the end of the wash once each role is CLOSED or in FAULT. -/

namespace Sys2Proof.Laws

open Sys2Proof.Machine

/-! ### Channels under CLOSE commands (Table 8-3) -/

/-- What a CLOSE command to any channel may make of a channel's state. -/
def ClosesTo (x y : ChannelState) : Prop :=
  y = x ∨ (x.isFault = false ∧ x ≠ .closed ∧ ∃ e t, y = .closing e t) ∨ (x = .stopped ∧ y = .closed)

theorem closesTo_startTravel (p : Part) (ch d : ChannelId) (hf : (p.channel ch).state.isFault = false)
    (hc : (p.channel ch).state ≠ .closed) : ClosesTo (p.channel d).state ((p.startTravel ch .closed).channel d).state := by
  by_cases h : d = ch
  · subst h
    rw [startTravel_channel]
    exact .inr (.inl ⟨hf, hc, _, _, rfl⟩)
  · rw [startTravel_channel_ne p h]
    exact .inl rfl

theorem closesTo_completeAt (p : Part) (ch d : ChannelId) {x : ChannelState} (h : ClosesTo (p.channel ch).state x) :
    ClosesTo (p.channel d).state ((p.completeAt ch .closed x).channel d).state := by
  unfold Part.completeAt
  by_cases e : d = ch
  · subst e; rw [channel_putChannel]; exact h
  · rw [channel_putChannel_ne p e]; exact .inl rfl

theorem command_closesTo (p : Part) (ch d : ChannelId) :
    ClosesTo (p.channel d).state ((p.command ch .closed).1.channel d).state := by
  unfold Part.command
  dsimp only
  cases hs : (p.channel ch).state with
  | fault c => exact .inl rfl
  | closed => exact closesTo_completeAt p ch d (.inl hs.symm)
  | closing e t => exact closesTo_completeAt p ch d (.inl hs.symm)
  | opened => exact closesTo_startTravel p ch d (by rw [hs]; rfl) (by rw [hs]; simp)
  | unknown => exact closesTo_startTravel p ch d (by rw [hs]; rfl) (by rw [hs]; simp)
  | opening e t => exact closesTo_startTravel p ch d (by rw [hs]; rfl) (by rw [hs]; simp)
  | stopped =>
    dsimp only
    split
    · exact closesTo_completeAt p ch d (.inr (.inr ⟨hs, rfl⟩))
    · exact closesTo_startTravel p ch d (by rw [hs]; rfl) (by rw [hs]; simp)

theorem commandRole_closesTo (p : Part) (f : FilterId) (r : Role) (d : ChannelId) :
    ClosesTo (p.channel d).state ((p.commandRole f r .closed).1.channel d).state := by
  unfold Part.commandRole
  split
  · exact command_closesTo p _ d
  · exact .inl rfl

/-- What a CLOSE command cannot take from a channel's state, no group of them takes. -/
theorem commandAll_close_keeps {S : ChannelState → Prop} (hS : ∀ x y, ClosesTo x y → S x → S y) (l : LaneId) (f : FilterId)
    (roles : List Role) (d : ChannelId) : ∀ p : Part, S (p.channel d).state →
      S ((commandAll p l f roles .closed).channel d).state := by
  unfold commandAll
  induction roles with
  | nil => exact fun p h => h
  | cons r roles ih =>
    intro p h
    rw [List.foldl_cons]
    refine ih _ ?_
    have step : S ((p.commandRole f r .closed).1.channel d).state := hS _ _ (commandRole_closesTo p f r d) h
    dsimp only
    split
    · have ke : OnlyChanges [.events] (p.commandRole f r .closed).1
          ((p.commandRole f r .closed).1.raiseOnce (.roleFault l r)) := by simp
      rw [channel_kept ke (by simp)]
      exact step
    · exact step

theorem orderRoles_close_keeps {S : ChannelState → Prop} (hS : ∀ x y, ClosesTo x y → S x → S y) (p : Part) (l : LaneId)
    (f : FilterId) (roles : List Role) (d : ChannelId) (h : S (p.channel d).state) :
    S ((p.orderRoles l f roles .closed).channel d).state := by
  have km : OnlyChanges [.lanes] p (p.modWash l fun w => { w with targets := orderedTargets w.targets roles .closed }) := by
    simp
  have h' : S ((p.modWash l fun w => { w with targets := orderedTargets w.targets roles .closed }).channel d).state := by
    rw [channel_kept km (by simp)]; exact h
  rw [orderRoles_eq]
  dsimp only
  split
  · exact h'
  · exact commandAll_close_keeps hS l f roles d _ h'

/-! ### The lane told to abort (R125) -/

/-- The wash of a lane that has begun to abort. -/
def abortingWash (w : Wash) (cause : AbortCause) : Wash :=
  { w with
    state := .aborting cause
    holds := HoldSet.empty
    releaseSeen := false
    drifted := PerRole.all false
    pump := none
    blower := false
    targets := orderedTargets w.targets allRoles .closed }

/-- The part once a lane has been told to abort, before the end of the abort is looked at. -/
def abortTold (p : Part) (l : LaneId) (w : Wash) (cause : AbortCause) : Part :=
  ((((p.dropRun l).cancel (.holdLimit l)).putLane l (some { w with
      state := .aborting cause
      holds := HoldSet.empty
      releaseSeen := false
      drifted := PerRole.all false })).releaseAll l).orderRoles l w.filter allRoles .closed

theorem abortLane_of {p : Part} {l : LaneId} {w : Wash} (h : p.lane l = some w) (cause : AbortCause) :
    p.abortLane l cause = (abortTold p l w cause).checkAborted l := by
  unfold Part.abortLane; rw [h]; rfl

section Told
variable (p : Part) (l : LaneId) (w : Wash) (cause : AbortCause)

theorem abortTold_only : OnlyChanges ([Piece.lanes, .channels] ++ handing) p (abortTold p l w cause) := by
  unfold abortTold; simp

theorem abortTold_lane : (abortTold p l w cause).lane l = some (abortingWash w cause) :=
  orderRoles_lane (releaseAll_lane (lane_putLane _ l _)) _ _ _

theorem abortTold_other : OtherLaneKept p (abortTold p l w cause) l := fun m hm =>
  (orderRoles_other _ l w.filter allRoles .closed m hm).trans ((releaseAll_other _ hm).trans (lane_putLane_ne _ hm _))

theorem abortTold_units : HoldsNoUnit (abortTold p l w cause) l :=
  holdsNoUnit_kept ((orderRoles_keeps l w.filter allRoles .closed (List.Subset.refl _)).2 (onlyChanges_refl _ _))
    (by simp) (by simp) (by simp) (releaseAll_holdsNoUnit _ l)

theorem abortTold_mapped (f : FilterId) (r : Role) : (abortTold p l w cause).mapped f r = p.mapped f r :=
  mapped_kept (abortTold_only p l w cause) (by simp) f r

theorem abortTold_keeps {S : ChannelState → Prop} (hS : ∀ x y, ClosesTo x y → S x → S y) (d : ChannelId)
    (h : S (p.channel d).state) : S ((abortTold p l w cause).channel d).state := by
  unfold abortTold
  refine orderRoles_close_keeps hS _ l w.filter allRoles d ?_
  rw [channel_kept (p := p) (xs := [Piece.lanes] ++ handing) (by simp) (by simp)]
  exact h

/-- A role CLOSED stays so under the CLOSE commands. -/
theorem abortTold_rests {f : FilterId} {r : Role} (h : RestsAt p f r .closed) : RestsAt (abortTold p l w cause) f r .closed := by
  obtain ⟨ch, hm, hs⟩ := h
  refine ⟨ch, (abortTold_mapped p l w cause f r).trans hm, .inr ⟨rfl, ?_⟩⟩
  refine abortTold_keeps p l w cause (S := fun x => x = .closed) ?_ ch (by simpa using hs)
  rintro x y (rfl | ⟨-, hne, -⟩ | ⟨rfl, -⟩) hx
  · exact hx
  · exact absurd hx hne
  · cases hx

theorem abortTold_fault {f : FilterId} {r : Role} (h : RoleInFault p f r) : RoleInFault (abortTold p l w cause) f r := by
  obtain ⟨ch, c, hm, hs⟩ := h
  refine ⟨ch, c, (abortTold_mapped p l w cause f r).trans hm, ?_⟩
  refine abortTold_keeps p l w cause (S := fun x => x = .fault c) ?_ ch hs
  rintro x y (rfl | ⟨hne, -, -⟩ | ⟨rfl, -⟩) hx
  · exact hx
  · rw [hx] at hne; cases hne
  · cases hx

end Told

/-! ### Whether the abort is over (R126) -/

theorem abortOver_iff (p : Part) (f : FilterId) :
    p.abortOver f = true ↔ ∀ r, RestsAt p f r .closed ∨ RoleInFault p f r := by
  have one : ∀ r, (p.inPosition f r .closed || p.roleFaulted f r) = true ↔ RestsAt p f r .closed ∨ RoleInFault p f r :=
    fun r => by rw [Bool.or_eq_true, inPosition_iff, roleFaulted_iff]
  unfold Part.abortOver
  rw [List.all_eq_true]
  exact ⟨fun h r => (one r).1 (h r (mem_allRoles r)), fun h r _ => (one r).2 (h r)⟩

theorem anyFaulted_iff (p : Part) (f : FilterId) : allRoles.any (p.roleFaulted f) = true ↔ ∃ r, RoleInFault p f r := by
  rw [List.any_eq_true]
  exact ⟨fun ⟨r, _, h⟩ => ⟨r, (roleFaulted_iff p f r).1 h⟩, fun ⟨r, h⟩ => ⟨r, mem_allRoles r, (roleFaulted_iff p f r).2 h⟩⟩

/-- A channel on its way to CLOSED or not yet commanded there. -/
def AwayState (x : ChannelState) : Prop := x = .unknown ∨ x = .opened ∨ ∃ e t, x = .closing e t

theorem awayState_closesTo {x y : ChannelState} (h : ClosesTo x y) (hx : AwayState x) : AwayState y := by
  rcases h with rfl | ⟨-, -, hy⟩ | ⟨rfl, -⟩
  · exact hx
  · exact .inr (.inr hy)
  · rcases hx with hx | hx | ⟨e, t, hx⟩ <;> cases hx

theorem not_over_of_away {p : Part} {f : FilterId} {r : Role} {ch : ChannelId} (hm : p.mapped f r = some ch)
    (h : AwayState (p.channel ch).state) : p.abortOver f = false := by
  rw [Bool.eq_false_iff, ne_eq, abortOver_iff]
  intro all
  unfold AwayState at h
  rcases all r with ⟨d, hd, hs⟩ | ⟨d, c, hd, hs⟩ <;> rw [hm, Option.some.injEq] at hd <;> subst hd
  · simp_all
  · simp_all

theorem roleAway_state {p : Part} {f : FilterId} (h : RoleAway p f) :
    ∃ r ch, p.mapped f r = some ch ∧ AwayState (p.channel ch).state := by
  obtain ⟨r, ch, hm, hs⟩ := h
  exact ⟨r, ch, hm, hs.imp_right .inl⟩

theorem checkAborted_waits {p : Part} {l : LaneId} {w : Wash} (h : p.lane l = some w) (ho : p.abortOver w.filter = false) :
    p.checkAborted l = p := by
  unfold Part.checkAborted
  rw [h]
  dsimp only
  split
  · rw [ho]; rfl
  · rfl

/-- R125 with a role still to close: the lane aborts and waits. -/
theorem abortLane_begins {p : Part} {l : LaneId} {w : Wash} (h : p.lane l = some w) (ha : RoleAway p w.filter)
    (cause : AbortCause) :
    OnlyChanges ([Piece.lanes, .channels] ++ handing) p (p.abortLane l cause) ∧
    AbortBegan p (p.abortLane l cause) l w cause ∧ (p.abortLane l cause).lane l = some (abortingWash w cause) := by
  obtain ⟨r, ch, hm, hs⟩ := roleAway_state ha
  have away := not_over_of_away ((abortTold_mapped p l w cause w.filter r).trans hm)
    (abortTold_keeps p l w cause (fun _ _ => awayState_closesTo) ch hs)
  have hl := abortTold_lane p l w cause
  rw [abortLane_of h, checkAborted_waits hl away]
  refine ⟨abortTold_only p l w cause, ⟨abortTold_other p l w cause, abortTold_units p l w cause, _, hl,
    ⟨rfl, rfl, rfl, rfl, rfl, rfl, rfl, rfl⟩, rfl, rfl, rfl, rfl, rfl, fun r => ?_⟩, hl⟩
  cases r <;> rfl

/-! ### The filter's side of an aborted wash (R18) -/

/-- From `p` to `q` the filter takes this record and this entry, with these reports, and no other filter changes. -/
structure WashLeft (p q : Part) (f : FilterId) (r : FilterRecord) (entry : Option Entry) (bs : List ReportBody) : Prop where
  frame : OnlyChanges ([Piece.queue, .filters, .selection, .flags, .overload, .scanDue, .events] ++ reporting) p q
  now : q.filter f = some r
  entryNow : q.entry f = entry
  others : ∀ g, g ≠ f → q.filter g = p.filter g ∧ q.entry g = p.entry g
  told : Reports p q bs

section Left
variable {p : Part} {f : FilterId} {rec : FilterRecord} {l : LaneId} (h : p.filter f = some rec)
  (hs : rec.state = .washing l) (he : p.entry f = none) (hm : p.table.marker ≠ some f)
include h hs he hm

/-- A WASHING filter that takes a state outside ONLINE leaves the queue alone and reports the change. -/
theorem washLeft_change (g : FilterRecord → FilterRecord) (ho : (g rec).state ≠ .online)
    (ht : (g rec).transfer = rec.transfer) :
    WashLeft p (p.changeFilter f g) f (g rec).indexed none
      [.filterState f (some (g rec).state) (some (.washing l)) rec.transfer false] := by
  have kf : OnlyChanges ([Piece.filters, .selection, .flags, .overload, .scanDue, .events] ++ reporting) p
      (p.changeFilter f g) := by simp
  have e := changeFilter_quiet h g (iff_of_false ho (by rw [hs]; simp))
  refine ⟨onlyChanges_mono kf (by simp), changeFilter_filter h g, (entry_kept kf (by simp) f).trans he,
    fun k hk => ⟨changeFilter_filter_ne _ hk g, entry_kept kf (by simp) k⟩, ?_⟩
  unfold Reports
  rw [e, moveFilter_link, h, ht, beq_eq_false_iff_ne.2 hm, ← hs]
  rfl

theorem abortWash_channel :
    WashLeft p (p.abortWash f true) f { rec with state := .faulted .valve, u := 0, dominant := .turbidity } none
      [.filterState f (some (.faulted .valve)) (some (.washing l)) rec.transfer false] := by
  have e : p.abortWash f true = p.changeFilter f fun r => { r with state := .faulted .valve } := by
    unfold Part.abortWash; rw [h]; rfl
  rw [e]
  exact washLeft_change h hs he hm (fun r => { r with state := .faulted .valve }) (by simp) rfl

theorem abortWash_further (ha : 1 ≤ rec.aborts) :
    WashLeft p (p.abortWash f false) f { rec with state := .faulted .aborts, aborts := 2, u := 0, dominant := .turbidity }
      none [.filterState f (some (.faulted .aborts)) (some (.washing l)) rec.transfer false] := by
  have hn : bump 2 rec.aborts = 2 := by unfold bump; split <;> omega
  have e : p.abortWash f false = p.changeFilter f fun r => { r with state := .faulted .aborts, aborts := 2 } := by
    unfold Part.abortWash
    rw [h]
    dsimp only
    rw [hn]
    rfl
  rw [e]
  exact washLeft_change h hs he hm (fun r => { r with state := .faulted .aborts, aborts := 2 }) (by simp) rfl

theorem abortWash_first (ha : rec.aborts = 0) :
    WashLeft p (p.abortWash f false) f { rec with state := .stranded, aborts := 1, u := 0, dominant := .turbidity }
      (some ⟨f, .restart, .auto, 0, p.startUp.clock, none, none⟩)
      [.filterState f (some .stranded) (some (.washing l)) rec.transfer false,
        .request .added f .restart none .auto 0 none] := by
  have e : p.abortWash f false =
      (p.changeFilter f fun r => { r with state := .stranded, aborts := 1 }).addEntry f .restart .auto 0 none := by
    unfold Part.abortWash
    rw [h]
    dsimp only
    rw [ha]
    rfl
  have left := washLeft_change h hs he hm (fun r => { r with state := .stranded, aborts := 1 }) (by simp) rfl
  rw [e]
  generalize p.changeFilter f (fun r => { r with state := .stranded, aborts := 1 }) = q at *
  have ka : OnlyChanges ([Piece.queue, .scanDue] ++ reporting) q (q.addEntry f .restart .auto 0 none) := by simp
  have hclock : q.clock = p.clock := left.frame .clock (by simp)
  refine ⟨onlyChanges_trans left.frame (onlyChanges_mono ka (by simp)), (filter_kept ka (by simp) f).trans left.now, ?_,
    fun g hg => ⟨(filter_kept ka (by simp) g).trans (left.others g hg).1,
      (addEntry_entry_ne _ _ _ _ _ _ hg).trans (left.others g hg).2⟩, ?_⟩
  · rw [addEntry_entry, hclock]; rfl
  · have told := left.told
    unfold Reports at told ⊢
    rw [addEntry_link, told, hclock]
    exact (afterReports_append _ _ [_] [_]).symm

end Left

/-! ### The lane's side: it is IDLE again -/

theorem perLane_set_get {α : Type} (x : PerLane α) (l : LaneId) : x.set l (x.get l) = x := by
  cases l <;> rfl

theorem setShares_shares (p : Part) (l : LaneId) (x : Share) : (p.setShares l x).sched.shares = p.sched.shares.set l x := by
  unfold Part.setShares
  split
  next h => rw [← h, perLane_set_get]
  next =>
    have k : ∀ q : Part, OnlyChanges [.scanDue] q q.trigger := fun q => by simp
    exact k { p with sched := { p.sched with shares := p.sched.shares.set l x } } .shares (by simp)

theorem setShares_link (p : Part) (l : LaneId) (x : Share) : (p.setShares l x).link = p.link := by
  unfold Part.setShares
  split
  · rfl
  · exact trigger_link _

theorem laneIdle_lanes (p : Part) (l : LaneId) : (p.laneIdle l).lanes = p.lanes.set l none := by
  have k : OnlyChanges [.shares, .scanDue] ((p.dropLane l).putLane l none) (p.laneIdle l) := by unfold Part.laneIdle; simp
  exact k .lanes (by simp)

theorem laneIdle_shares (p : Part) (l : LaneId) : (p.laneIdle l).sched.shares = p.sched.shares.set l ⟨0, 0⟩ := by
  have k : OnlyChanges [.scanDue] (((p.dropLane l).putLane l none).setShares l ⟨0, 0⟩) (p.laneIdle l) := by
    unfold Part.laneIdle; simp
  exact (k .shares (by simp)).trans (setShares_shares _ l _)

theorem laneIdle_link (p : Part) (l : LaneId) : (p.laneIdle l).link = p.link :=
  (trigger_link _).trans (setShares_link _ l _)

theorem laneIdle_of {p q : Part} {l : LaneId} {f : FilterId} {r : FilterRecord} {entry : Option Entry}
    {bs : List ReportBody} (hl : WashLeft p q f r entry bs) (hop : p.operating = true) (b : ReportBody) :
    LaneFreed p ((q.report b).laneIdle l) l f ∧ ((q.report b).laneIdle l).filter f = some r ∧
    ((q.report b).laneIdle l).entry f = entry ∧ Reports p ((q.report b).laneIdle l) (bs ++ [b]) := by
  have ki : OnlyChanges ([Piece.lanes, .shares, .scanDue, .events] ++ reporting) q ((q.report b).laneIdle l) := by simp
  have kr : OnlyChanges reporting q (q.report b) := by simp
  have hop' : ((((q.report b).dropLane l).putLane l none).setShares l ⟨0, 0⟩).operating = true :=
    (operating_kept (p := p) (xs := [Piece.queue, .filters, .selection, .flags, .overload, .scanDue, .events, .lanes,
      .shares] ++ reporting) (onlyChanges_trans (onlyChanges_mono hl.frame (by simp)) (by simp)) (by simp)).trans hop
  have lanes : ((q.report b).laneIdle l).lanes = p.lanes.set l none := by
    rw [laneIdle_lanes, show (q.report b).lanes = q.lanes from kr .lanes (by simp),
      show q.lanes = p.lanes from hl.frame .lanes (by simp)]
  have shares : ((q.report b).laneIdle l).sched.shares = p.sched.shares.set l ⟨0, 0⟩ := by
    rw [laneIdle_shares, show (q.report b).sched.shares = q.sched.shares from kr .shares (by simp),
      show q.sched.shares = p.sched.shares from hl.frame .shares (by simp)]
  refine ⟨⟨?_, fun m hm => ?_, ?_, trigger_due _ hop', fun g hg => ⟨?_, ?_⟩⟩, ?_, ?_, ?_⟩
  · unfold Part.lane; rw [lanes, perLane_get_set]
  · unfold Part.lane; rw [lanes, perLane_get_set_ne _ hm]
  · exact shares
  · exact (filter_kept ki (by simp) g).trans (hl.others g hg).1
  · exact (entry_kept ki (by simp) g).trans (hl.others g hg).2
  · exact (filter_kept ki (by simp) f).trans hl.now
  · exact (entry_kept ki (by simp) f).trans hl.entryNow
  · have more := reports_more hl.told (hl.frame .clock (by simp)) b
    unfold Reports at more ⊢
    rw [laneIdle_link]
    exact more

/-! ### The end of an abort (R126) -/

/-- The cause an abort ends with (log 15). -/
def endCause (p : Part) (f : FilterId) (cause : AbortCause) : AbortCause :=
  if allRoles.any (p.roleFaulted f) then .channel else cause

/-- WASH_ABORTED for a wash that ends with this cause. -/
def abortReport (p q : Part) (l : LaneId) (w : Wash) (cause : AbortCause) : ReportBody :=
  .washAborted l w.filter cause w.phase w.elapsed w.holdCount (min (p.clock - w.startedAt) 65535)
    ((q.filter w.filter).map (·.state))

theorem checkAborted_ends {p : Part} {l : LaneId} {w : Wash} {cause : AbortCause} (h : p.lane l = some w)
    (hs : w.state = .aborting cause) (ho : p.abortOver w.filter = true) :
    p.checkAborted l =
      let c := endCause p w.filter cause
      let q := p.abortWash w.filter (c == .channel)
      (q.report (abortReport q q l w c)).laneIdle l := by
  unfold Part.checkAborted
  rw [h]
  simp only [hs, ho, if_true]
  rfl

/-- `q` is a part in which the abort of the wash that lane `l` had in `p` can end: the wash as it stood, each role where
`AbortCanEnd` has it, nothing but lanes, channels and units touched. -/
structure AbortReady (p q : Part) (l : LaneId) (w : Wash) (cause : AbortCause) : Prop where
  frame : OnlyChanges ([Piece.lanes, .channels] ++ handing) p q
  others : OtherLaneKept p q l
  lane : ∃ w', q.lane l = some w' ∧ SamePhase w w' ∧ w'.holdCount = w.holdCount ∧ w'.state = .aborting cause
  rests : ∀ r, RestsAt p w.filter r .closed → RestsAt q w.filter r .closed
  faults : ∀ r, RoleInFault p w.filter r → RoleInFault q w.filter r

theorem not_fault_of_rests {p : Part} {f : FilterId} {r : Role} {pos : Position} (h : RestsAt p f r pos) :
    ¬ RoleInFault p f r := by
  obtain ⟨ch, hm, hs⟩ := h
  rintro ⟨d, c, hd, hf⟩
  rw [hm, Option.some.injEq] at hd
  subst hd
  simp [hf] at hs

section Ended
variable {p q : Part} {l : LaneId} {w : Wash} {rec : FilterRecord} {cause : AbortCause} (hp : AbortCanEnd p l w rec)
  (hq : AbortReady p q l w cause)
include hp hq

theorem ready_faults : (∃ r, RoleInFault q w.filter r) ↔ ∃ r, RoleInFault p w.filter r := by
  obtain ⟨-, -, -, -, -, -, roles⟩ := hp
  refine ⟨fun ⟨r, h⟩ => ⟨r, (roles r).resolve_left fun hr => not_fault_of_rests (hq.rests r hr) h⟩,
    fun ⟨r, h⟩ => ⟨r, hq.faults r h⟩⟩

theorem ready_cause : endCause q w.filter cause = .channel ↔ cause = .channel ∨ ∃ r, RoleInFault p w.filter r := by
  rw [← ready_faults hp hq, ← anyFaulted_iff]
  unfold endCause
  split <;> simp_all

/-- The wash ends in the record, the entry and the reports that its filter is left with. -/
theorem checkAborted_leaves {c : AbortCause} (hcause : endCause q w.filter cause = c) {r : FilterRecord}
    {entry : Option Entry} {bs : List ReportBody}
    (left : WashLeft q (q.abortWash w.filter (c == .channel)) w.filter r entry bs) :
    OnlyChanges washEnding p (q.checkAborted l) ∧ (HoldsNoUnit q l → HoldsNoUnit (q.checkAborted l) l) ∧
    LaneFreed p (q.checkAborted l) l w.filter ∧ (q.checkAborted l).filter w.filter = some r ∧
    (q.checkAborted l).entry w.filter = entry ∧
    Reports p (q.checkAborted l) (bs ++ [.washAborted l w.filter c w.phase w.elapsed w.holdCount
      (min (p.startUp.clock - w.startedAt) 65535) (some r.state)]) := by
  obtain ⟨hop, -, -, -, -, -, roles⟩ := hp
  obtain ⟨frame, others, ⟨w', hl, ⟨ef, -, ep, ee, -, -, es, -⟩, eh, hs⟩, rests, faults⟩ := hq
  have isOver : q.abortOver w'.filter = true := by
    rw [ef, abortOver_iff]
    exact fun r => (roles r).imp (rests r) (faults r)
  have hopq : q.operating = true := (operating_kept frame (by simp)).trans (operating_of hop)
  have clock : q.startUp.clock = p.startUp.clock := frame .clock (by simp)
  have link : q.link = p.link := link_kept frame (by simp)
  have leftClock : (q.abortWash w.filter (c == .channel)).clock = q.clock := left.frame .clock (by simp)
  have report : abortReport (q.abortWash w.filter (c == .channel)) (q.abortWash w.filter (c == .channel)) l w' c =
      .washAborted l w.filter c w.phase w.elapsed w.holdCount (min (p.startUp.clock - w.startedAt) 65535)
        (some r.state) := by
    unfold abortReport
    rw [ef, ep, ee, es, eh, left.now, leftClock, ← clock]
    rfl
  have e := checkAborted_ends hl hs isOver
  rw [ef, hcause] at e
  dsimp only at e
  rw [report] at e
  have kc : OnlyChanges ([Piece.lanes, .filters, .selection, .queue, .shares, .flags, .overload, .scanDue, .events] ++ reporting)
      q (q.checkAborted l) := by simp
  obtain ⟨⟨idle, kept, shares, due, rest⟩, now, entryNow, told⟩ := laneIdle_of (l := l) left hopq
    (.washAborted l w.filter c w.phase w.elapsed w.holdCount (min (p.startUp.clock - w.startedAt) 65535) (some r.state))
  rw [← e] at idle kept shares due rest now entryNow told
  refine ⟨onlyChanges_trans (onlyChanges_mono frame (by simp)) (onlyChanges_mono kc (by simp)),
    holdsNoUnit_kept kc (by simp) (by simp) (by simp),
    ⟨idle, fun m hm => (kept m hm).trans (others m hm), ?_, due, fun g hg => ⟨?_, ?_⟩⟩, now, entryNow, ?_⟩
  · rw [shares, show q.sched.shares = p.sched.shares from frame .shares (by simp)]
  · exact (rest g hg).1.trans (filter_kept frame (by simp) g)
  · exact (rest g hg).2.trans (entry_kept frame (by simp) g)
  · unfold Reports at told ⊢
    rw [told, link, show q.clock = p.clock from clock]

/-- R126, R18: the abort ends as the cause, the roles in FAULT and the count of aborts have it. -/
theorem checkAborted_ended :
    OnlyChanges washEnding p (q.checkAborted l) ∧ (HoldsNoUnit q l → HoldsNoUnit (q.checkAborted l) l) ∧
    ∃ bs, Reports p (q.checkAborted l) bs ∧ AbortEnded p (q.checkAborted l) l w rec cause bs := by
  have frame := hq.frame
  have hcause := ready_cause hp hq
  have hp' := hp
  have leaves := fun {c} => @checkAborted_leaves _ _ _ _ _ _ hp hq c
  obtain ⟨-, -, hf, hs, he, hm, -⟩ := hp'
  have hf' : q.filter w.filter = some rec := (filter_kept frame (by simp) _).trans hf
  have he' : q.entry w.filter = none := (entry_kept frame (by simp) _).trans he
  have hm' : q.table.marker ≠ some w.filter := by rw [show q.table.marker = _ from frame .marker (by simp)]; exact hm
  have clock : q.startUp.clock = p.startUp.clock := frame .clock (by simp)
  by_cases hc : cause = .channel ∨ ∃ r, RoleInFault p w.filter r
  · obtain ⟨k, units, freed, now, entryNow, told⟩ := leaves (hcause.2 hc) (abortWash_channel hf' hs he' hm')
    exact ⟨k, units, _, told, freed, fun _ => ⟨now, entryNow, rfl⟩,
      fun h1 h2 => absurd hc (by simp [h1, h2]), fun h1 h2 => absurd hc (by simp [h1, h2])⟩
  · have hcause' : endCause q w.filter cause = cause := by
      unfold endCause
      rw [if_neg]
      rw [anyFaulted_iff, ready_faults hp hq]
      exact fun h => hc (.inr h)
    have hne : (cause == .channel) = false := beq_eq_false_iff_ne.2 fun h => hc (.inl h)
    rcases Nat.eq_zero_or_pos rec.aborts with ha | ha
    · obtain ⟨k, units, freed, now, entryNow, told⟩ := leaves hcause' (by rw [hne]; exact abortWash_first hf' hs he' hm' ha)
      rw [clock] at entryNow
      exact ⟨k, units, _, told, freed, fun h => absurd h hc, fun _ _ _ => ⟨now, entryNow, rfl⟩, fun _ _ h => by omega⟩
    · obtain ⟨k, units, freed, now, entryNow, told⟩ :=
        leaves hcause' (by rw [hne]; exact abortWash_further hf' hs he' hm' ha)
      exact ⟨k, units, _, told, freed, fun h => absurd h hc, fun _ _ h => by omega, fun _ _ _ => ⟨now, entryNow, rfl⟩⟩

end Ended

end Sys2Proof.Laws
end

section
/-! SUPPORT. The rows that abort a lane: HOLD_LIMIT_EXPIRY (R120), LANE_CHANNEL_FAULT (R127), ABORT (R133). -/

namespace Sys2Proof.Laws

open Sys2Proof.Machine

/-! ### The abort from its beginning to its end -/

theorem ready_told {p : Part} {l : LaneId} {w : Wash} {cause : AbortCause} :
    AbortReady p (abortTold p l w cause) l w cause where
  frame := abortTold_only p l w cause
  others := abortTold_other p l w cause
  lane := ⟨_, abortTold_lane p l w cause, ⟨rfl, rfl, rfl, rfl, rfl, rfl, rfl, rfl⟩, rfl, rfl⟩
  rests _ := abortTold_rests p l w cause
  faults _ := abortTold_fault p l w cause

/-- R127: the part once a lane that aborts already has taken the cause CHANNEL. -/
def channelTold (p : Part) (l : LaneId) (w : Wash) : Part := p.putLane l (some { w with state := .aborting .channel })

theorem channelTold_only (p : Part) (l : LaneId) (w : Wash) : OnlyChanges [.lanes] p (channelTold p l w) := by
  unfold channelTold; simp

theorem channelTold_other (p : Part) (l : LaneId) (w : Wash) : OtherLaneKept p (channelTold p l w) l := fun _ hm =>
  lane_putLane_ne p hm _

theorem channelTold_lane (p : Part) (l : LaneId) (w : Wash) :
    (channelTold p l w).lane l = some { w with state := .aborting .channel } := lane_putLane p l _

theorem ready_channel {p : Part} {l : LaneId} {w : Wash} : AbortReady p (channelTold p l w) l w .channel :=
  have same := sameRole_kept (channelTold_only p l w) (by simp) (by simp) w.filter
  { frame := onlyChanges_mono (channelTold_only p l w) (by simp)
    others := channelTold_other p l w
    lane := ⟨_, channelTold_lane p l w, ⟨rfl, rfl, rfl, rfl, rfl, rfl, rfl, rfl⟩, rfl, rfl⟩
    rests := fun r => (restsAt_same (same r) .closed).2
    faults := fun r => (roleInFault_same (same r)).2 }

/-- R125, R126: with each role CLOSED or in FAULT the abort begins and ends. -/
theorem abortLane_ends {p : Part} {l : LaneId} {w : Wash} {rec : FilterRecord} (hp : AbortCanEnd p l w rec)
    (cause : AbortCause) :
    OnlyChanges washEnding p (p.abortLane l cause) ∧ HoldsNoUnit (p.abortLane l cause) l ∧
    ∃ bs, Reports p (p.abortLane l cause) bs ∧ AbortEnded p (p.abortLane l cause) l w rec cause bs := by
  obtain ⟨-, hl, -⟩ := id hp
  rw [abortLane_of hl]
  obtain ⟨k, units, ended⟩ := checkAborted_ended hp (ready_told (cause := cause))
  exact ⟨k, units (abortTold_units p l w cause), ended⟩

/-! ### What the events do to the lane -/

section Falls
variable {p : Part} {l : LaneId} {w : Wash} (h : p.lane l = some w)
include h

theorem holdLimitFalls_of {t : Nat} (hs : w.state = .held t) : p.holdLimitFalls l = p.abortLane l .holdLimit := by
  unfold Part.holdLimitFalls
  rw [h]
  dsimp only
  rw [hs]
  rfl

theorem laneFault_aborts (hs : ∀ c, w.state ≠ .aborting c) : p.laneFault l = p.abortLane l .channel := by
  unfold Part.laneFault
  rw [h]
  dsimp only
  split
  · next c hc => exact absurd hc (hs c)
  · rfl

theorem laneFault_aborting {c : AbortCause} (hs : w.state = .aborting c) :
    p.laneFault l = (channelTold p l w).checkAborted l := by
  unfold Part.laneFault
  rw [h]
  dsimp only
  rw [hs]
  rfl

/-- R127: the fault's channel decides the cause of an abort that has begun. -/
theorem laneFault_turns {c : AbortCause} (hs : w.state = .aborting c) (ha : RoleAway p w.filter) :
    p.laneFault l = channelTold p l w := by
  obtain ⟨r, ch, hm, hc⟩ := roleAway_state ha
  have k := channelTold_only p l w
  rw [laneFault_aborting h hs]
  exact checkAborted_waits (channelTold_lane p l w) <|
    not_over_of_away ((mapped_kept k (by simp) w.filter r).trans hm) (by rw [channel_kept k (by simp)]; exact hc)

end Falls

/-! ### The events' rows -/

section Rows
variable {s : State} {l : LaneId} {w : Wash} {e : Event} {row : Instr} {g : Part → Part} {cause : AbortCause}
  (hrow : exec row s = takeEvent e g s) (ho : Outstanding s e)
  (hg : g (taking s.part e) = (taking s.part e).abortLane l cause)
include hrow ho hg

theorem eventAborts_begins (h : s.part.lane l = some w) (ha : RoleAway s.part w.filter) :
    ∃ t, exec row s = .next t ∧ t.pending = s.pending ∧
      OnlyChanges ([Piece.lanes, .channels] ++ handing) s.part t.part ∧ AbortBegan s.part t.part l w cause := by
  have begun := abortLane_begins (p := taking s.part e) h ha cause
  rw [← hg] at begun
  obtain ⟨k, began, -⟩ := begun
  have kt : OnlyChanges [.events] s.part (taking s.part e) := by unfold taking; simp
  exact ⟨_, hrow.trans (takeEvent_outstanding g ho), rfl,
    onlyChanges_trans (onlyChanges_mono kt (by simp)) k, began⟩

theorem eventAborts_ends {rec : FilterRecord} (hp : AbortCanEnd s.part l w rec) :
    ∃ t bs, exec row s = .next t ∧ t.pending = s.pending ∧ OnlyChanges washEnding s.part t.part ∧
      HoldsNoUnit t.part l ∧ Reports s.part t.part bs ∧ AbortEnded s.part t.part l w rec cause bs := by
  have ended := abortLane_ends (p := taking s.part e) hp cause
  rw [← hg] at ended
  obtain ⟨k, units, bs, told, ended⟩ := ended
  have kt : OnlyChanges [.events] s.part (taking s.part e) := by unfold taking; simp
  exact ⟨_, bs, hrow.trans (takeEvent_outstanding g ho), rfl,
    onlyChanges_trans (onlyChanges_mono kt (by simp)) k, units, told, ended⟩

end Rows

section ChannelFault
variable {s : State} {l : LaneId} {w : Wash} {role : Role} (ho : Outstanding s (.roleFault l role))
include ho

theorem channelFault_turns {c : AbortCause} (h : s.part.lane l = some w) (ha : RoleAway s.part w.filter)
    (hs : w.state = .aborting c) :
    ∃ t, exec (.laneChannelFault l role) s = .next t ∧ t.pending = s.pending ∧
      OnlyChanges [.lanes, .events] s.part t.part ∧ OtherLaneKept s.part t.part l ∧
      t.part.lane l = some { w with state := .aborting .channel } := by
  refine ⟨_, (exec_laneChannelFault l role s).trans (takeEvent_outstanding _ ho), rfl, ?_⟩
  dsimp only
  rw [laneFault_turns (p := taking s.part _) h hs ha]
  have kt : OnlyChanges [.events] s.part (taking s.part (.roleFault l role)) := by unfold taking; simp
  exact ⟨onlyChanges_trans (onlyChanges_mono kt (by simp)) (onlyChanges_mono (channelTold_only _ l w) (by simp)),
    channelTold_other _ l w, channelTold_lane _ l w⟩

theorem channelFault_ends {rec : FilterRecord} (hp : AbortCanEnd s.part l w rec) :
    ∃ t bs, exec (.laneChannelFault l role) s = .next t ∧ t.pending = s.pending ∧
      OnlyChanges washEnding s.part t.part ∧ ((∀ c, w.state ≠ .aborting c) → HoldsNoUnit t.part l) ∧
      Reports s.part t.part bs ∧ AbortEnded s.part t.part l w rec .channel bs := by
  obtain ⟨-, hl, -⟩ := id hp
  by_cases hs : ∃ c, w.state = .aborting c
  · obtain ⟨c, hs⟩ := hs
    have ended := checkAborted_ended (p := taking s.part (.roleFault l role)) hp ready_channel
    rw [← laneFault_aborting (p := taking s.part _) hl hs] at ended
    obtain ⟨k, -, bs, told, ended⟩ := ended
    have kt : OnlyChanges [.events] s.part (taking s.part (.roleFault l role)) := by unfold taking; simp
    exact ⟨_, bs, (exec_laneChannelFault l role s).trans (takeEvent_outstanding _ ho), rfl,
      onlyChanges_trans (onlyChanges_mono kt (by simp)) k, fun hn => absurd hs (hn c), told, ended⟩
  · have hn := not_exists.1 hs
    obtain ⟨t, bs, next, pending, k, units, told, ended⟩ :=
      eventAborts_ends (exec_laneChannelFault l role s) ho (laneFault_aborts hl hn) hp
    exact ⟨t, bs, next, pending, k, fun _ => units, told, ended⟩

end ChannelFault

/-! ### The command ABORT (R133) -/

/-- The command's target byte names the lane, or the filter of the lane's wash. -/
def NamesLane (p : Part) (l : LaneId) (w : Wash) (form target : Byte) : Prop :=
  (form = 0 ∧ laneOfByte target = some l) ∨
    (form = 1 ∧ filterOf target = some w.filter ∧ ∃ rec, p.filter w.filter = some rec ∧ rec.state = .washing l)

theorem laneWashing_of {p : Part} {f : FilterId} {rec : FilterRecord} {l : LaneId} (h : p.filter f = some rec)
    (hs : rec.state = .washing l) : p.laneWashing f = some l := by
  unfold Part.laneWashing
  rw [h]
  dsimp only
  rw [hs]

theorem answer_abort {p : Part} {l : LaneId} {w : Wash} {form target : Byte} (ht : p.startUp.top = .operating)
    (h : p.lane l = some w) (hh : w.state.holdable = true) (hn : NamesLane p l w form target) :
    p.answer (.abort form target) = (p.abortLane l .host).answerLane l := by
  have onLane : answerAbortLane p l = (p.abortLane l .host).answerLane l :=
    unlessFails_ok (by unfold Part.laneHoldable; rw [h]; exact hh)
  refine (inOperating_of ht _).trans ?_
  rcases hn with ⟨rfl, hb⟩ | ⟨rfl, hb, rec, hf, hs⟩
  · rw [if_pos rfl, named_some hb, onLane]
  · rw [if_neg (by decide), if_pos rfl, named_some hb, laneWashing_of hf hs]
    exact onLane

theorem answerLane_some {p : Part} {l : LaneId} {w : Wash} (h : p.lane l = some w) :
    p.answerLane l = (p, .ok, .laneNow (some w.state) w.holds) := by
  unfold Part.answerLane; rw [h]; rfl

theorem answerLane_none {p : Part} {l : LaneId} (h : p.lane l = none) :
    p.answerLane l = (p, .ok, .laneNow none HoldSet.empty) := by
  unfold Part.answerLane; rw [h]; rfl

theorem abortBegan_kept {xs : List Piece} {p q q' : Part} {l : LaneId} {w : Wash} {cause : AbortCause}
    (h : AbortBegan p q l w cause) (k : OnlyChanges xs q q') (hl : Piece.lanes ∉ xs) (hu : Piece.units ∉ xs)
    (hp : Piece.pumpWait ∉ xs) (hb : Piece.blowerWait ∉ xs) : AbortBegan p q' l w cause := by
  obtain ⟨others, units, w', lane, now⟩ := h
  exact ⟨fun m hm => (lane_kept k hl m).trans (others m hm), holdsNoUnit_kept k hu hp hb units, w',
    (lane_kept k hl l).trans lane, now⟩

theorem namesLane_accepted {p : Part} {l : LaneId} {w : Wash} {form target : Byte} (h : NamesLane p l w form target) :
    NamesLane p.frameAccepted l w form target :=
  h.imp_right fun ⟨form, target, rec, filter, washes⟩ =>
    ⟨form, target, rec, (accepted_filter p w.filter).trans filter, washes⟩

theorem roleAway_accepted {p : Part} {f : FilterId} (h : RoleAway p f) : RoleAway p.frameAccepted f := by
  obtain ⟨r, ch, mapped, away⟩ := h
  exact ⟨r, ch, (accepted_mapped p f r).trans mapped, by rw [accepted_channel]; exact away⟩

theorem abortCanEnd_accepted {p : Part} {l : LaneId} {w : Wash} {rec : FilterRecord} (h : AbortCanEnd p l w rec) :
    AbortCanEnd p.frameAccepted l w rec := by
  obtain ⟨top, lane, filter, washes, entry, marker, roles⟩ := h
  refine ⟨(frameAccepted_top p).trans top, (accepted_lane p l).trans lane, (accepted_filter p w.filter).trans filter,
    washes, (accepted_entry p w.filter).trans entry, by rw [accepted_marker]; exact marker, fun r => ?_⟩
  rw [restsAt_same (sameRole_accepted p w.filter r), roleInFault_same (sameRole_accepted p w.filter r)]
  exact roles r

theorem laneFreed_reply {p q q' : Part} {l : LaneId} {f : FilterId} (h : LaneFreed p.frameAccepted q l f)
    (k : OnlyChanges reporting q q') : LaneFreed p q' l f := by
  obtain ⟨idle, kept, shares, due, rest⟩ := h
  rw [accepted_sched] at shares
  exact ⟨(lane_kept k (by simp) l).trans idle,
    fun m hm => (lane_kept k (by simp) m).trans ((kept m hm).trans (accepted_lane p m)),
    (k .shares (by simp)).trans shares, (k .scanDue (by simp)).trans due,
    fun g hg => ⟨(filter_kept k (by simp) g).trans ((rest g hg).1.trans (accepted_filter p g)),
      (entry_kept k (by simp) g).trans ((rest g hg).2.trans (accepted_entry p g))⟩⟩

theorem abortEnded_reply {p q q' : Part} {l : LaneId} {w : Wash} {rec : FilterRecord} {cause : AbortCause}
    {bs : List ReportBody} (h : AbortEnded p.frameAccepted q l w rec cause bs) (k : OnlyChanges reporting q q') :
    AbortEnded p q' l w rec cause bs := by
  have clock : p.frameAccepted.startUp.clock = p.startUp.clock := frameAccepted_clock p
  have roles := fun r => roleInFault_same (sameRole_accepted p w.filter r)
  unfold AbortEnded at h ⊢
  simp only [clock, roles] at h
  simp only [filter_kept k (show Piece.filters ∉ reporting by simp), entry_kept k (show Piece.queue ∉ reporting by simp)]
  exact h.imp_left fun freed => laneFreed_reply freed k

section Command
variable {s : State} {l : LaneId} {w : Wash} {form target : Byte} (hc : CanHandle s) (hh : w.state.holdable = true)
  (hn : NamesLane s.part l w form target)
include hc hh hn

theorem abort_begins (tag : Byte) (h : s.part.lane l = some w) (ha : RoleAway s.part w.filter)
    (ht : s.part.startUp.top = .operating) :
    ∃ t, exec (.abort tag form target) s = .next t ∧
      Answers s t (.abort form target) tag [] .ok (.laneNow (some (.aborting .host)) HoldSet.empty) ∧
      OnlyChanges ([Piece.lanes, .channels] ++ handing ++ reporting) s.part.frameAccepted t.part ∧
      AbortBegan s.part.frameAccepted t.part l w .host := by
  have h' := (accepted_lane s.part l).trans h
  obtain ⟨k, began, lane⟩ := abortLane_begins h' (roleAway_accepted ha) .host
  have ans := (answer_abort ((frameAccepted_top _).trans ht) h' hh (namesLane_accepted hn)).trans (answerLane_some lane)
  have kr : OnlyChanges reporting (s.part.frameAccepted.abortLane l .host) (s.part.frameAccepted.handle tag
      (.abort form target)) := by
    rw [handle_of ans]; simp
  exact ⟨_, (exec_abort tag form target s).trans (submit_handled tag _ hc),
    answers_of ans ((link_kept k (by simp)).trans (frameAccepted_link _)),
    onlyChanges_trans (onlyChanges_mono k (by simp)) (onlyChanges_mono kr (by simp)),
    abortBegan_kept began kr (by simp) (by simp) (by simp) (by simp)⟩

theorem abort_ends {rec : FilterRecord} (tag : Byte) (hp : AbortCanEnd s.part l w rec) :
    ∃ bs, Done s (.abort tag form target) washEnding bs .ok (.laneNow none HoldSet.empty) fun q =>
      HoldsNoUnit q l ∧ AbortEnded s.part q l w rec .host bs := by
  have hp' := abortCanEnd_accepted hp
  obtain ⟨k, units, bs, told, ended⟩ := abortLane_ends hp' .host
  obtain ⟨top, lane, -⟩ := hp'
  obtain ⟨⟨idle, -⟩, -⟩ := id ended
  have ans := (answer_abort top lane hh (namesLane_accepted hn)).trans (answerLane_none idle)
  exact ⟨bs, done_reports hc rfl ans (onlyChanges_mono k (by simp)) told fun q' kr =>
    ⟨holdsNoUnit_kept kr (by simp) (by simp) (by simp) units, abortEnded_reply ended kr⟩⟩

end Command

end Sys2Proof.Laws

namespace Sys2Proof

open Machine Laws

theorem abortsBegin : AbortsBegin := fun _ _ _ hl ha =>
  ⟨fun _ ho hs => eventAborts_begins (exec_holdLimitExpiry _ _) ho (holdLimitFalls_of hl hs) hl ha,
    fun role ho hs => eventAborts_begins (exec_laneChannelFault _ role _) ho (laneFault_aborts hl hs) hl ha,
    fun _ _ ho hs => channelFault_turns ho hl ha hs,
    fun tag _ _ hc ht hh hn => abort_begins hc hh hn tag hl ha ht⟩

theorem abortsEndAtOnce : AbortsEndAtOnce := by
  intro s l w rec hp
  obtain ⟨-, hl, hf, hs, -⟩ := id hp
  exact ⟨fun _ ho held => eventAborts_ends (exec_holdLimitExpiry l s) ho (holdLimitFalls_of hl held) hp,
    fun _ ho => channelFault_ends ho hp,
    fun tag _ _ hc hh hn => abort_ends hc hh (hn.imp_right fun ⟨form, target⟩ => ⟨form, target, rec, hf, hs⟩) tag hp⟩

/-- Settles O24: the CLOSE commands move no role that is already CLOSED or in FAULT, and no role that is away to its rest, so
the end of the abort is reached at once or waited for. -/
theorem abortRowsBeginAborts : Obligations.AbortRowsBeginAborts := ⟨abortsBegin, abortsEndAtOnce⟩

end Sys2Proof
end

section
/-! SUPPORT. The points: a record written with its report, its readers and its volumes (R30 to R33), and what a row or a
command that sets points one after the other leaves of each. -/

namespace Sys2Proof.Laws

open Sys2Proof.Machine

/-! ### One point written -/

theorem point_writePoint_ne (p : Part) {id other : PointId} (h : other ≠ id) (x : Point) :
    (p.writePoint id x).point other = p.point other := by
  cases id with
  | hl n =>
    cases other with
    | hl m =>
      have ne : (n : Nat) ≠ m := fun e => h (congrArg PointId.hl (Fin.ext e.symm))
      simp [Part.writePoint, Part.point, ne]
    | _ => rfl
  | tb n =>
    cases other with
    | tb m =>
      have ne : (n : Nat) ≠ m := fun e => h (congrArg PointId.tb (Fin.ext e.symm))
      simp [Part.writePoint, Part.point, ne]
    | _ => rfl
  | flow | tank | basin => cases other <;> first | rfl | exact absurd rfl h

@[simp] theorem writePoint_link (p : Part) (id : PointId) (x : Point) : (p.writePoint id x).link = p.link := by
  cases id <;> rfl

@[simp] theorem writePoint_clock (p : Part) (id : PointId) (x : Point) : (p.writePoint id x).clock = p.clock := by
  cases id <;> rfl

/-! ### Volumes (R32, R33) -/

theorem tankVolume_eq (p : Part) : p.tankVolume = tankGives p (p.point .tank) := by
  unfold Part.tankVolume tankGives
  rw [show p.point .tank = p.front.tank from rfl]
  cases p.plantReceived <;> cases p.front.tank.usableValue <;> cases p.plant.tankMin <;> cases p.plant.tankArea <;> rfl

theorem basinVolume_eq (p : Part) : p.basinVolume = basinGives p (p.point .basin) := by
  unfold Part.basinVolume basinGives
  rw [show p.point .basin = p.front.basin from rfl]
  cases p.plantReceived <;> cases p.front.basin.usableValue <;> cases p.plant.basinMax <;> cases p.plant.basinArea <;> rfl

/-! ### Readers (R30) -/

/-- The events by which readers are told of a point. -/
def isPointNotice : Event → Bool
  | .urgency _ | .lanePoint .. | .schedulerMeasure _ => true
  | _ => false

theorem mem_busyLanes {p : Part} {l : LaneId} {w : Wash} (h : p.lane l = some w) : l ∈ p.busyLanes := by
  simp [Part.busyLanes, mem_allLanes, h]

theorem tellReaders_told (p : Part) (id : PointId) : ReadersTold p (p.tellReaders id).events id := by
  cases id with
  | hl n => simp [Part.tellReaders, ReadersTold]
  | tb n =>
    constructor
    · unfold Part.tellReaders; dsimp only; split <;> simp
    · intro r l hf hs
      have e : (p.raise (.urgency n)).laneWashing n = some l := laneWashing_of (p := p.raise (.urgency n)) hf hs
      simp [Part.tellReaders, e]
  | flow => simp [Part.tellReaders, ReadersTold]
  | tank => exact ⟨by simp [Part.tellReaders], fun l w h => by simp [Part.tellReaders, mem_busyLanes h]⟩
  | basin => exact ⟨by simp [Part.tellReaders], fun l w h => by simp [Part.tellReaders, mem_busyLanes h]⟩

theorem tellReaders_events (p : Part) (id : PointId) : ∀ e ∈ p.events, e ∈ (p.tellReaders id).events := by
  intro e he
  cases id <;> unfold Part.tellReaders <;> dsimp only
  case tb => split <;> simp [he]
  all_goals simp [he]

@[simp] theorem tellReaders_link (p : Part) (id : PointId) : (p.tellReaders id).link = p.link := by
  cases id <;> unfold Part.tellReaders <;> dsimp only
  case tb => split <;> rfl
  all_goals rfl

theorem tellReaders_tankAvail (p : Part) : (p.tellReaders .tank).front.tankAvail = tankGives p (p.point .tank) :=
  tankVolume_eq p

theorem tellReaders_basinRoom (p : Part) : (p.tellReaders .basin).front.basinRoom = basinGives p (p.point .basin) :=
  basinVolume_eq p

theorem tellReaders_tankAvail_ne (p : Part) {id : PointId} (h : id ≠ .tank) :
    (p.tellReaders id).front.tankAvail = p.front.tankAvail := by
  cases id <;> unfold Part.tellReaders <;> dsimp only
  case tb => split <;> rfl
  case tank => exact absurd rfl h
  all_goals rfl

theorem tellReaders_basinRoom_ne (p : Part) {id : PointId} (h : id ≠ .basin) :
    (p.tellReaders id).front.basinRoom = p.front.basinRoom := by
  cases id <;> unfold Part.tellReaders <;> dsimp only
  case tb => split <;> rfl
  case basin => exact absurd rfl h
  all_goals rfl

/-- What the readers must be told hangs on the filters and the lanes alone; more notices tell them too. -/
theorem readersTold_of {xs : List Piece} {p q : Part} {es es' : List Event} {id : PointId} (h : ReadersTold q es id)
    (k : OnlyChanges xs p q) (hf : Piece.filters ∉ xs) (hl : Piece.lanes ∉ xs)
    (hm : ∀ e ∈ es, isPointNotice e = true → e ∈ es') : ReadersTold p es' id := by
  cases id with
  | hl n => exact hm _ h rfl
  | tb n => exact ⟨hm _ h.1 rfl, fun r l hr hs => hm _ (h.2 r l ((filter_kept k hf n).trans hr) hs) rfl⟩
  | flow => exact hm _ h rfl
  | tank => exact ⟨hm _ h.1 rfl, fun l w hw => hm _ (h.2 l w ((lane_kept k hl l).trans hw)) rfl⟩
  | basin => exact ⟨hm _ h.1 rfl, fun l w hw => hm _ (h.2 l w ((lane_kept k hl l).trans hw)) rfl⟩

/-! ### Points set one after the other -/

/-- The point changes in quality or value as it becomes `x`. -/
abbrev PointMoves (p : Part) (id : PointId) (x : Point) : Prop :=
  ¬ (x.quality = (p.point id).quality ∧ x.value = (p.point id).value)

/-- One point is `x` now, its readers are told of a change, and the volume it gives follows. -/
structure PointSet (p q : Part) (id : PointId) (x : Point) : Prop where
  now : q.point id = x
  told : PointMoves p id x → ReadersTold p q.events id
  tank : id = .tank → TankFollows p q x
  basin : id = .basin → BasinFollows p q x

/-- What setting points touches, with what an accepted frame moves before it. -/
abbrev settingPoints : List Piece := [Piece.points, .volumes, .silence, .lastAccepted, .events] ++ reporting

/-- From `p` to `q` the points of the list become what it says, and no other point is touched. -/
structure PointsSet (p q : Part) (xs : List (PointId × Point)) : Prop where
  each : ∀ x ∈ xs, PointSet p q x.1 x.2
  others : ∀ id ∉ xs.map Prod.fst, q.point id = p.point id
  tankKept : .tank ∉ xs.map Prod.fst → q.front.tankAvail = p.front.tankAvail
  basinKept : .basin ∉ xs.map Prod.fst → q.front.basinRoom = p.front.basinRoom
  frame : OnlyChanges settingPoints p q
  notices : ∀ e ∈ p.events, isPointNotice e = true → e ∈ q.events

/-- A change that touches no point. -/
theorem pointsSet_none {p q : Part} (hf : q.front = p.front) (h : OnlyChanges settingPoints p q)
    (hn : ∀ e ∈ p.events, isPointNotice e = true → e ∈ q.events) : PointsSet p q [] :=
  ⟨nofun, fun id _ => point_of_front hf id, fun _ => by rw [hf], fun _ => by rw [hf], h, hn⟩

theorem tankGives_kept {xs : List Piece} {p q : Part} (h : OnlyChanges xs p q) (hp : Piece.plant ∉ xs)
    (hr : Piece.plantReceived ∉ xs) (x : Point) : tankGives q x = tankGives p x := by
  have a : q.plant = p.plant := h .plant hp
  have b : q.plantReceived = p.plantReceived := h .plantReceived hr
  unfold tankGives; rw [a, b]

theorem basinGives_kept {xs : List Piece} {p q : Part} (h : OnlyChanges xs p q) (hp : Piece.plant ∉ xs)
    (hr : Piece.plantReceived ∉ xs) (x : Point) : basinGives q x = basinGives p x := by
  have a : q.plant = p.plant := h .plant hp
  have b : q.plantReceived = p.plantReceived := h .plantReceived hr
  unfold basinGives; rw [a, b]

/-- A point set after others were: they are no part of what it changes from. -/
theorem pointSet_before {p q r : Part} {xs : List (PointId × Point)} {id : PointId} {x : Point} (h : PointsSet p q xs)
    (hid : id ∉ xs.map Prod.fst) (k : PointSet q r id x) : PointSet p r id x where
  now := k.now
  told m := readersTold_of (k.told (by rw [PointMoves, h.others id hid]; exact m)) h.frame (by simp) (by simp) fun _ he _ => he
  tank e := by
    subst e
    have t := k.tank rfl
    unfold TankFollows at t ⊢
    rw [h.others _ hid, h.tankKept hid, tankGives_kept h.frame (by simp) (by simp)] at t
    exact t
  basin e := by
    subst e
    have t := k.basin rfl
    unfold BasinFollows at t ⊢
    rw [h.others _ hid, h.basinKept hid, basinGives_kept h.frame (by simp) (by simp)] at t
    exact t

/-- A point stays set while others are. -/
theorem pointSet_after {p q r : Part} {ys : List (PointId × Point)} {id : PointId} {x : Point} (h : PointSet p q id x)
    (hid : id ∉ ys.map Prod.fst) (k : PointsSet q r ys) : PointSet p r id x where
  now := (k.others id hid).trans h.now
  told m := readersTold_of (h.told m) (onlyChanges_refl [] p) (by simp) (by simp) k.notices
  tank e := by subst e; unfold TankFollows; rw [k.tankKept hid]; exact h.tank rfl
  basin e := by subst e; unfold BasinFollows; rw [k.basinKept hid]; exact h.basin rfl

theorem pointsSet_append {p q r : Part} {xs ys : List (PointId × Point)} (h : PointsSet p q xs) (k : PointsSet q r ys)
    (apart : ∀ id ∈ xs.map Prod.fst, id ∉ ys.map Prod.fst) : PointsSet p r (xs ++ ys) where
  each x hx := by
    rcases List.mem_append.1 hx with hx | hx
    · exact pointSet_after (h.each x hx) (apart _ (List.mem_map_of_mem hx)) k
    · exact pointSet_before h (fun hm => apart _ hm (List.mem_map_of_mem hx)) (k.each x hx)
  others id hid := by
    rw [List.map_append, List.mem_append, not_or] at hid
    exact (k.others id hid.2).trans (h.others id hid.1)
  tankKept hid := by
    rw [List.map_append, List.mem_append, not_or] at hid
    exact (k.tankKept hid.2).trans (h.tankKept hid.1)
  basinKept hid := by
    rw [List.map_append, List.mem_append, not_or] at hid
    exact (k.basinKept hid.2).trans (h.basinKept hid.1)
  frame := onlyChanges_trans h.frame k.frame
  notices e he hn := k.notices e (h.notices e he hn) hn

theorem pointsSet_then {p q r : Part} {xs : List (PointId × Point)} (h : PointsSet p q []) (k : PointsSet q r xs) :
    PointsSet p r xs := pointsSet_append h k nofun

/-- Reports made and a reply given touch no point. -/
theorem pointsSet_reporting {p q r : Part} {xs : List (PointId × Point)} (h : PointsSet p q xs)
    (k : OnlyChanges reporting q r) : PointsSet p r xs := by
  have front : r.front = q.front := by
    obtain ⟨hl, tb, flow, tank, basin⟩ := k .points (by simp)
    obtain ⟨avail, room⟩ := k .volumes (by simp)
    have counts : r.front.counts = q.front.counts := k .counts (by simp)
    cases hr : r.front; cases hq : q.front; simp_all
  have events : r.events = q.events := k .events (by simp)
  have n := pointsSet_none front (onlyChanges_mono k (by simp)) fun e he _ => by rw [events]; exact he
  simpa using pointsSet_append h n (by simp)

/-! ### `putPoint` -/

/-- The record written and a change of quality reported (R31); the readers not yet told. -/
def pointReported (p : Part) (id : PointId) (x : Point) : Part :=
  if x.quality = (p.point id).quality then p.writePoint id x
  else (p.writePoint id x).report
    (.measure id x.quality (p.point id).quality x.source (if x.quality = .none then none else x.value))

theorem putPoint_eq (p : Part) (id : PointId) (x : Point) : p.putPoint id x =
    if PointMoves p id x then (pointReported p id x).tellReaders id else pointReported p id x := by
  unfold Part.putPoint PointMoves pointReported
  rw [ite_not]

theorem pointReported_only (p : Part) (id : PointId) (x : Point) :
    OnlyChanges reporting (p.writePoint id x) (pointReported p id x) := by
  unfold pointReported
  split <;> simp

theorem pointReported_point (p : Part) (id : PointId) (x : Point) : (pointReported p id x).point id = x :=
  (point_kept (pointReported_only p id x) (by simp) id).trans (point_writePoint p id x)

theorem pointReported_link (p : Part) (id : PointId) (x : Point) :
    (pointReported p id x).link = afterReports p.clock p.link (pointReports p id x) := by
  unfold pointReported pointReports
  split
  · exact writePoint_link p id x
  · rw [afterReports_one, writePoint_clock, writePoint_link]

theorem writePoint_volumes (p : Part) (id : PointId) (x : Point) : (p.writePoint id x).front.tankAvail = p.front.tankAvail ∧
    (p.writePoint id x).front.basinRoom = p.front.basinRoom := by cases id <;> exact ⟨rfl, rfl⟩

theorem pointReported_volumes (p : Part) (id : PointId) (x : Point) :
    (pointReported p id x).front.tankAvail = p.front.tankAvail ∧
    (pointReported p id x).front.basinRoom = p.front.basinRoom := by
  obtain ⟨a, b⟩ := pointReported_only p id x .volumes (by simp)
  obtain ⟨c, d⟩ := writePoint_volumes p id x
  exact ⟨a.trans c, b.trans d⟩

/-- R31: exactly a change of quality is reported. -/
theorem putPoint_reports (p : Part) (id : PointId) (x : Point) : Reports p (p.putPoint id x) (pointReports p id x) := by
  unfold Reports
  rw [putPoint_eq]
  split
  · rw [tellReaders_link, pointReported_link]
  · rw [pointReported_link]

/-- The record becomes `x` (R30, R32, R33). -/
theorem putPoint_sets (p : Part) (id : PointId) (x : Point) : PointsSet p (p.putPoint id x) [(id, x)] := by
  have write : OnlyChanges ([Piece.points] ++ reporting) p (pointReported p id x) :=
    onlyChanges_trans (q := p.writePoint id x) (by simp) (onlyChanges_mono (pointReported_only p id x) (by simp))
  have told : OnlyChanges [.volumes, .events] (pointReported p id x) (p.putPoint id x) := by
    rw [putPoint_eq]; split <;> simp
  have now : (p.putPoint id x).point id = x := (point_kept told (by simp) id).trans (pointReported_point p id x)
  obtain ⟨avail, room⟩ := pointReported_volumes p id x
  have tank (h : ¬ (id = .tank ∧ PointMoves p id x)) : (p.putPoint id x).front.tankAvail = p.front.tankAvail := by
    rw [putPoint_eq]
    split
    · rw [tellReaders_tankAvail_ne _ fun e => h ⟨e, ‹_›⟩, avail]
    · exact avail
  have basin (h : ¬ (id = .basin ∧ PointMoves p id x)) : (p.putPoint id x).front.basinRoom = p.front.basinRoom := by
    rw [putPoint_eq]
    split
    · rw [tellReaders_basinRoom_ne _ fun e => h ⟨e, ‹_›⟩, room]
    · exact room
  have set : PointSet p (p.putPoint id x) id x := by
    refine ⟨now, fun m => ?_, fun e => ⟨fun m => ?_, fun m => tank fun k => (e ▸ k.2) m⟩,
      fun e => ⟨fun m => ?_, fun m => basin fun k => (e ▸ k.2) m⟩⟩
    · rw [putPoint_eq, if_pos m]
      exact readersTold_of (tellReaders_told _ id) write (by simp) (by simp) fun _ he _ => he
    · subst e
      rw [putPoint_eq, if_pos m, tellReaders_tankAvail, pointReported_point, tankGives_kept write (by simp) (by simp)]
    · subst e
      rw [putPoint_eq, if_pos m, tellReaders_basinRoom, pointReported_point, basinGives_kept write (by simp) (by simp)]
  refine ⟨by simpa using set, fun other h => ?_, fun h => tank fun k => ?_, fun h => basin fun k => ?_, by simp,
    fun e he _ => ?_⟩
  · rw [point_kept told (by simp), point_kept (pointReported_only p id x) (by simp),
      point_writePoint_ne p (by simpa using h)]
  · exact h (by simp [k.1])
  · exact h (by simp [k.1])
  · have h : e ∈ (pointReported p id x).events := by rw [write .events (by simp)]; exact he
    rw [putPoint_eq]
    split
    · exact tellReaders_events _ id e h
    · exact h

end Sys2Proof.Laws
end

section
/-! SUPPORT. The rows that bring samples to the points: ANALOG_SCAN (R21), POINT_SAMPLE (R24 to R26), POINT_STALE (R27). -/

namespace Sys2Proof.Laws

open Sys2Proof.Machine

/-! ### Counts (R21) -/

theorem mem_allPoints (id : PointId) : id ∈ allPoints := by
  cases id <;> simp [allPoints, mem_allFilters]

theorem mapVec_getElem {α β : Type} {n : Nat} (g : α → β) (v : Vector α n) (i : Nat) (h : i < n) :
    (mapVec g v)[i] = g v[i] := by
  simp [mapVec]

theorem point_counts (p : Part) (counts : Vector (Option Nat) 40) (id : PointId) :
    ({ p with front := { p.front with counts } } : Part).point id = p.point id := by cases id <;> rfl

theorem analogScan_stores : AnalogScanStoresEveryCount := by
  intro s counts hl
  refine ⟨_, (exec_analogScan counts s).trans (act_live _ hl), rfl, by simp, fun i => ?_, fun id i lo hi h => ?_, fun e he => ?_⟩
  · exact mapVec_getElem _ counts i.val i.isLt
  · refine List.mem_append_right _ (List.mem_filterMap.2 ⟨id, mem_allPoints id, ?_⟩)
    rw [point_counts, h]
    rfl
  · exact List.mem_append_left _ he

/-! ### Conversion and ring (R24 to R26) -/

/-- Table 2-5 in the words of the statement. -/
theorem convertCount_eq (c lo hi : Nat) : convertCount c lo hi =
    if c < 576 then .broken else if c ≤ 3280 then .inRange (engineering c lo hi) else .over (engineering c lo hi) := by
  unfold convertCount engineering roundHalfUp
  by_cases broken : c < 576
  · simp [broken]
  by_cases foot : c < 640
  · simp [broken, foot, show c ≤ 3280 by omega]
  by_cases span : c ≤ 3200
  · simp [broken, foot, span, show c ≤ 3280 by omega]
  · simp [broken, foot, span]

theorem ringAdd_eq (ring : List Nat) (e : Nat) : ringAdd ring e = lastFour (ring ++ [e]) := by
  unfold ringAdd lastFour
  rw [List.length_append, List.length_singleton]
  split
  · rw [Nat.sub_eq_zero_of_le (by omega)]; rfl
  · rw [List.drop_append_of_le_length (by omega)]; rfl

/-- Table 2-6: the point after a sample. -/
theorem sampled_eq (x : Point) (c lo hi t : Nat) : x.sampled t (convertCount c lo hi) = pointSampled x c lo hi t := by
  unfold pointSampled
  rw [convertCount_eq]
  by_cases broken : c < 576
  · rw [if_pos broken, if_pos broken]
    cases h : x.quality <;> simp [Point.sampled, h, Quality.usable]
  · rw [if_neg broken, if_neg broken]
    by_cases range : c ≤ 3280
    · simp only [if_pos range, Point.sampled, ringAdd_eq]
      rfl
    · have top : engineering c lo hi = hi := by
        unfold engineering; rw [if_neg (by omega), if_neg (by omega)]
      simp only [if_neg range, Point.sampled, ringAdd_eq, top]

/-! ### The rows -/

/-- Taking up and calling off events that tell no reader touches no point. -/
theorem pointsSet_events (p : Part) {es : List Event} (h : ∀ e ∈ p.events, isPointNotice e = true → e ∈ es) :
    PointsSet p { p with events := es } [] := pointsSet_none rfl (by simp) h

theorem pointsSet_taking (p : Part) {e : Event} (h : isPointNotice e = false) : PointsSet p (taking p e) [] :=
  pointsSet_events p fun _ hm hn => (List.mem_erase_of_ne fun k => by simp [k, h] at hn).2 hm

theorem pointsSet_cancel (p : Part) {e : Event} (h : isPointNotice e = false) : PointsSet p (p.cancel e) [] :=
  pointsSet_events p fun x hm hn => List.mem_filter.2 ⟨hm, by simpa using fun k : x = e => by simp [k, h] at hn⟩

/-- A point set and its report made, in the words of the statement. -/
theorem pointBecomes_of {p q : Part} {id : PointId} {x : Point} (h : PointsSet p q [(id, x)])
    (hr : Reports p q (pointReports p id x)) : PointBecomes p q id x := by
  obtain ⟨now, told, tank, basin⟩ := h.each (id, x) (by simp)
  dsimp only at now told tank basin
  refine ⟨now, fun other ho => h.others other (by simpa using ho), hr, told, fun ⟨e, m⟩ => (tank e).1 (e ▸ m), fun n => ?_,
    fun ⟨e, m⟩ => (basin e).1 (e ▸ m), fun n => ?_⟩
  · by_cases e : id = .tank
    · subst e; exact (tank rfl).2 (by simpa using n)
    · exact h.tankKept (by simpa using Ne.symm e)
  · by_cases e : id = .basin
    · subst e; exact (basin rfl).2 (by simpa using n)
    · exact h.basinKept (by simpa using Ne.symm e)

/-- The row of a point, after events that tell no reader have been taken up or called off. -/
theorem putPoint_becomes {p q : Part} (h : PointsSet p q []) (hl : q.link = p.link) (hc : q.clock = p.clock) (id : PointId)
    (x : Point) : PointBecomes p (q.putPoint id x) id x := by
  refine pointBecomes_of (pointsSet_then h (putPoint_sets q id x)) ?_
  have r := putPoint_reports q id x
  unfold Reports pointReports at r
  rw [hl, hc, h.others id nofun] at r
  exact r

theorem takeSample_becomes {p q : Part} {id : PointId} {i : InputId} {lo hi : Nat} (h : PointsSet p q [])
    (hl : q.link = p.link) (hc : q.clock = p.clock) (hsrc : (p.point id).source = .analog i lo hi) (c : Nat) :
    PointBecomes p (q.takeSample id c) id (pointSampled (p.point id) c lo hi p.startUp.clock) := by
  have e : q.takeSample id c = (if convertCount c lo hi = .broken then q else q.cancel (.stale id)).putPoint id
      (pointSampled (p.point id) c lo hi p.startUp.clock) := by
    unfold Part.takeSample
    dsimp only
    rw [h.others id nofun, hsrc]
    dsimp only [PointSource.input]
    rw [← sampled_eq, show p.startUp.clock = q.clock from hc.symm]
    split <;> rfl
  rw [e]
  split
  · exact putPoint_becomes h hl hc id _
  · exact putPoint_becomes (pointsSet_then h (pointsSet_cancel q rfl)) hl hc id _

theorem pointSample_follows : PointSampleFollowsTheTables := by
  intro s id c lo hi i hl hf hsrc
  have e : s.part.takeOldestSample id = (taking s.part (.sample id c)).takeSample id c := by
    unfold Part.takeOldestSample; rw [hf]; rfl
  refine ⟨_, (exec_pointSample id s).trans (act_live _ hl), rfl, ?_, ?_⟩ <;> dsimp only <;> rw [e]
  · simp
  · exact takeSample_becomes (pointsSet_taking _ rfl) rfl rfl hsrc c

theorem pointStale_goes : PointGoesStale := by
  intro s id ho hu
  have e : (taking s.part (.stale id)).goStale id =
      (taking s.part (.stale id)).putPoint id { s.part.point id with quality := .stale, ring := [] } := by
    have same : (taking s.part (.stale id)).point id = s.part.point id := point_of_front rfl id
    unfold Part.goStale
    rw [same]
    exact if_pos hu
  refine ⟨_, (exec_pointStale id s).trans (takeEvent_outstanding _ ho), rfl, ?_, ?_⟩ <;> dsimp only <;> rw [e]
  · simp
  · exact putPoint_becomes (pointsSet_taking _ rfl) rfl rfl id _

end Sys2Proof.Laws

namespace Sys2Proof

open Machine Laws

/-- Settles O11: each row sets one point or none, once the sample or the stale event is taken. -/
theorem samplesReachTheirPoints : Obligations.SamplesReachTheirPoints :=
  ⟨analogScan_stores, pointSample_follows, pointStale_goes⟩

end Sys2Proof
end

section
/-! SUPPORT. The scheduler's events (R30, R64, R68, R71, R79, R145), and the host's settings of points: SET_POINT (R22, R23)
and PUT_MEASURE (R28, R29). -/

namespace Sys2Proof.Laws

open Sys2Proof.Machine

/-! ### Triggers of a scan -/

/-- A row that takes its event and triggers a scan. -/
theorem triggers_scan {s : State} {row : Instr} {e : Event} (hrow : exec row s = takeEvent e (fun p => p.trigger) s)
    (ho : Outstanding s e) (ht : s.part.startUp.top = .operating) :
    ∃ t, exec row s = .next t ∧ t.pending = s.pending ∧ OnlyChanges [.scanDue, .events] s.part t.part ∧
      t.part.sched.scanDue = true :=
  ⟨_, hrow.trans (takeEvent_outstanding _ ho), rfl, by simp, trigger_due _ (operating_of (p := taking s.part e) ht)⟩

theorem computeLoading_trigger_overload {p : Part} (h : p.operating = true) :
    p.computeLoading.trigger.sched.overload = overloadAt p (currentLoading p) := by
  have k : OnlyChanges [.scanDue] p.computeLoading p.computeLoading.trigger := by simp
  exact (k .overload (by simp)).trans (computeLoading_overload h)

/-- A change of FLOW: the loading computed, then a scan triggered. -/
theorem flowChange_scans {s : State} (ho : Outstanding s (.schedulerMeasure .flow)) (ht : s.part.startUp.top = .operating) :
    ∃ t, exec (.schedulerMeasureChange .flow) s = .next t ∧ t.pending = s.pending ∧
      OnlyChanges ([Piece.scanDue, .overload, .flags, .events] ++ reporting) s.part t.part ∧
      t.part.sched.scanDue = true ∧ t.part.sched.overload = overloadAt s.part (currentLoading s.part) := by
  have taken : OnlyChanges [.events] s.part (taking s.part (.schedulerMeasure .flow)) := by simp
  have hop : (taking s.part (.schedulerMeasure .flow)).operating = true := operating_of ht
  have computed : OnlyChanges ([Piece.flags, .overload, .events] ++ reporting) (taking s.part (.schedulerMeasure .flow))
      (taking s.part (.schedulerMeasure .flow)).computeLoading := by simp
  refine ⟨_, (exec_schedulerMeasureChange .flow s).trans (takeEvent_outstanding _ ho), rfl, by simp,
    trigger_due _ ((operating_kept computed (by simp)).trans hop), (computeLoading_trigger_overload hop).trans ?_⟩
  rw [currentLoading_kept taken (by simp) (by simp) (by simp), overloadAt_kept taken (by simp) (by simp) (by simp)]

/-! ### What a point's number, source and input name (R22) -/

theorem pointOfIndex_eq_some {n : Nat} {id : PointId} : pointOfIndex n = some id ↔ pointIndex id = n := by
  unfold pointOfIndex pointIndex
  constructor
  · intro h
    split_ifs at h <;> cases h <;> dsimp only <;> omega
  · intro h
    subst h
    cases id with
    | hl k => have := k.isLt; simp only [show 1 ≤ k.val + 1 ∧ k.val + 1 ≤ 16 by omega, Nat.add_sub_cancel]; rfl
    | tb k =>
      have := k.isLt
      simp only [show ¬ (1 ≤ k.val + 17 ∧ k.val + 17 ≤ 16) by omega, show 17 ≤ k.val + 17 ∧ k.val + 17 ≤ 32 by omega,
        Nat.add_sub_cancel]
      rfl
    | flow | tank | basin => rfl

theorem pointOfIndex_none {n : Nat} (h : ¬ (1 ≤ n ∧ n ≤ 35)) : pointOfIndex n = none := by
  rw [Option.eq_none_iff_forall_ne_some]
  intro id e
  rw [pointOfIndex_eq_some] at e
  cases id <;> simp only [pointIndex] at e <;> omega

theorem sourceOf_eq_some {id : PointId} {source input : Byte} {lo hi : Half} {src : PointSource} :
    sourceOf id source input lo hi = some src ↔ SourceNamed id source input lo hi src := by
  have code (k : Nat) (hk : k < 256) : source.toNat = k ↔ source = BitVec.ofNat 8 k := by
    rw [← BitVec.toNat_inj, BitVec.toNat_ofNat, Nat.mod_eq_of_lt hk]
  have h0 := code 0 (by omega)
  have h1 := code 1 (by omega)
  have h2 := code 2 (by omega)
  unfold sourceOf SourceNamed
  split <;> rename_i h
  · rw [h0] at h; subst h; simp [and_assoc, @eq_comm _ _ src]
  · rw [h1] at h; subst h
    split <;> rename_i h' <;> simp [h', and_assoc, @eq_comm _ _ src]
  · rw [h2] at h; subst h; simp [and_assoc, @eq_comm _ _ src]
  · simp_all

theorem hasInput_iff {p : Part} {id : PointId} {i : InputId} :
    HasInput p id i ↔ (p.point id).source.input.any (·.1 == i) = true := by
  unfold HasInput
  cases (p.point id).source <;> simp [PointSource.input]

theorem assignedPoint_has {p : Part} {id : PointId} {i : InputId} (h : p.assignedPoint i = some id) : HasInput p id i := by
  unfold Part.assignedPoint at h
  have k := List.find?_some h
  exact hasInput_iff.2 k

theorem assignedPoint_some {p : Part} {id : PointId} {i : InputId} (h : HasInput p id i) :
    ∃ other, p.assignedPoint i = some other := by
  rw [← Option.isSome_iff_exists]
  exact List.find?_isSome.2 ⟨id, mem_allPoints id, hasInput_iff.1 h⟩

/-- IN_USE: the first point that has the input is another. -/
theorem inputFree_taken {p : Part} {id other : PointId} {i : InputId} (lo hi : Nat) (h : HasInput p other i)
    (hid : ¬ HasInput p id i) : p.inputFree id (.analog i lo hi) = false := by
  obtain ⟨first, hf⟩ := assignedPoint_some h
  have ne : first ≠ id := fun e => hid (e ▸ assignedPoint_has hf)
  simp [Part.inputFree, PointSource.input, hf, ne]

theorem inputFree_free {p : Part} {id : PointId} {src : PointSource}
    (h : ∀ i lo hi, src = .analog i lo hi → ∀ other, other ≠ id → ¬ HasInput p other i) : p.inputFree id src = true := by
  unfold Part.inputFree
  cases src with
  | none | pushed => rfl
  | analog i lo hi =>
    dsimp only [PointSource.input]
    cases hf : p.assignedPoint i with
    | none => rfl
    | some first =>
      by_contra ne
      exact h i lo hi rfl first (by simpa using ne) (assignedPoint_has hf)

/-! ### Points set by an accepted command -/

theorem unlessSurveying_accepted {p : Part} (h : p.startUp.top ≠ .surveying) (k : Answer) :
    unlessSurveying p.frameAccepted k = k := unlessSurveying_of (accepted_notSurveying h) k

theorem accepted_clock (p : Part) : p.frameAccepted.startUp.clock = p.startUp.clock := frameAccepted_clock p

theorem accepted_point (p : Part) (id : PointId) : p.frameAccepted.point id = p.point id :=
  point_of_front (accepted_front p) id

theorem accepted_notices (p : Part) : ∀ e ∈ p.events, isPointNotice e = true → e ∈ p.frameAccepted.events := by
  intro e he hn
  unfold Part.frameAccepted Part.restartSilence Part.setSilence
  dsimp only
  split
  · exact List.mem_filter.2 ⟨he, by simpa using fun k : e = .silenceExpiry => by simp [k, isPointNotice] at hn⟩
  · exact he

theorem pointsSet_accepted (p : Part) : PointsSet p p.frameAccepted [] :=
  pointsSet_none (accepted_front p) (onlyChanges_mono (accepted_only p) (by simp)) (accepted_notices p)

theorem pointReports_accepted (p : Part) (id : PointId) (x : Point) :
    pointReports p.frameAccepted id x = pointReports p id x := by
  unfold pointReports; rw [accepted_point]

/-- The point a SET_POINT leaves (R23). -/
abbrev freshPoint (src : PointSource) : Point := ⟨src, [], none, .none, none⟩

theorem startPoint_sets (p : Part) (id : PointId) (src : PointSource) :
    PointsSet p (p.startPoint id src) [(id, freshPoint src)] := by
  refine pointsSet_then ?_ (putPoint_sets _ id _)
  refine pointsSet_then (pointsSet_events p fun e he hn => List.mem_filter.2 ⟨he, ?_⟩) (pointsSet_cancel _ rfl)
  cases e <;> simp_all [isPointNotice, Event.isSampleOf]

theorem startPoint_reports (p : Part) (id : PointId) (src : PointSource) :
    Reports p (p.startPoint id src) (pointReports p id (freshPoint src)) := by
  have r := putPoint_reports (Part.cancel { p with events := p.events.filter fun e => !e.isSampleOf id } (.stale id)) id
    (freshPoint src)
  have same : (Part.cancel { p with events := p.events.filter fun e => !e.isSampleOf id } (.stale id)).point id = p.point id :=
    point_of_front rfl id
  unfold pointReports at r ⊢
  rw [same] at r
  exact r

theorem push_sets (p : Part) (id : PointId) (v : Nat) :
    PointsSet p (p.push id v) [(id, pushedPoint id (p.point id) v p.startUp.clock)] :=
  pointsSet_then (pointsSet_cancel p rfl) (putPoint_sets _ id _)

theorem push_reports (p : Part) (id : PointId) (v : Nat) :
    Reports p (p.push id v) (pointReports p id (pushedPoint id (p.point id) v p.startUp.clock)) := by
  have r := putPoint_reports (p.cancel (.stale id)) id (pushedPoint id (p.point id) v p.startUp.clock)
  have same : (p.cancel (.stale id)).point id = p.point id := point_of_front rfl id
  unfold pointReports at r ⊢
  rw [same] at r
  exact r

theorem push_clock (p : Part) (id : PointId) (v : Nat) : (p.push id v).startUp.clock = p.startUp.clock :=
  (push_sets p id v).frame .clock (by simp)

/-- A point and what a pair of PUT_MEASURE makes of it. -/
abbrev pushedPair (p : Part) (x : PointId × Half) : PointId × Point :=
  (x.1, pushedPoint x.1 (p.point x.1) x.2.toNat p.startUp.clock)

/-- A pair for another point is taken as if the pushed one had not come before it. -/
theorem pushedPair_push (p : Part) {id : PointId} {x : PointId × Half} (h : x.1 ≠ id) (v : Nat) :
    pushedPair (p.push id v) x = pushedPair p x := by
  unfold pushedPair
  rw [(push_sets p id v).others x.1 (by simpa using h), push_clock]

/-- All pairs of PUT_MEASURE, each of another point (R29). -/
theorem pushes_set {xs : List (PointId × Half)} (apart : (xs.map Prod.fst).Nodup) (p : Part) :
    PointsSet p (xs.foldl (fun p x => p.push x.1 x.2.toNat) p) (xs.map (pushedPair p)) ∧
    Reports p (xs.foldl (fun p x => p.push x.1 x.2.toNat) p)
      (xs.flatMap fun x => pointReports p x.1 (pushedPair p x).2) := by
  induction xs generalizing p with
  | nil => exact ⟨pointsSet_none rfl (onlyChanges_refl _ p) fun _ he _ => he, rfl⟩
  | cons x xs ih =>
    obtain ⟨hx, apart⟩ := List.nodup_cons.1 apart
    obtain ⟨sets, told⟩ := ih apart (p.push x.1 x.2.toNat)
    have ne (y) (hy : y ∈ xs) : y.1 ≠ x.1 := fun e => hx (e ▸ List.mem_map_of_mem hy)
    have pairs : xs.map (pushedPair (p.push x.1 x.2.toNat)) = xs.map (pushedPair p) :=
      List.map_congr_left fun y hy => pushedPair_push p (ne y hy) _
    rw [pairs] at sets
    constructor
    · refine pointsSet_append (push_sets p x.1 x.2.toNat) sets fun id hid => ?_
      rw [List.map_map]
      have e : id = x.1 := by simpa using hid
      exact e ▸ hx
    · have reports : (xs.flatMap fun y => pointReports (p.push x.1 x.2.toNat) y.1 (pushedPair (p.push x.1 x.2.toNat) y).2) =
          xs.flatMap fun y => pointReports p y.1 (pushedPair p y).2 :=
        List.flatMap_congr fun y hy => by
          unfold pointReports
          rw [pushedPair_push p (ne y hy), (push_sets p x.1 x.2.toNat).others y.1 (by simpa using ne y hy)]
      have first := push_reports p x.1 x.2.toNat
      unfold Reports at told first ⊢
      rw [List.foldl_cons, told, reports, List.flatMap_cons, afterReports_append, first]
      show afterReports (p.push x.1 x.2.toNat).startUp.clock _ _ = _
      rw [push_clock]
      rfl

end Sys2Proof.Laws
end

section
/-! SUPPORT. The commands SET_POINT (R22, R23) and PUT_MEASURE (R28, R29): their checks in order, and the points as the reply
leaves them. -/

namespace Sys2Proof.Laws

open Sys2Proof.Machine

/-- A command that sets points: its reports are those of the points, and the reply moves none of them. -/
theorem setsPoints_done {s : State} {row : Instr} {tag : Byte} {c : HostCommand} {q : Part} {bs : List ReportBody}
    {xs : List (PointId × Point)} {now : Part → Prop} (hc : CanHandle s) (hrow : row.command = some (tag, c))
    (h : s.part.frameAccepted.answer c = okay q)
    (k : OnlyChanges ([Piece.points, .volumes, .events] ++ reporting) s.part.frameAccepted q)
    (hs : PointsSet s.part.frameAccepted q xs) (hr : Reports s.part.frameAccepted q bs)
    (hn : ∀ q', PointsSet s.part q' xs → now q') : Done s row [.points, .volumes, .events] bs .ok .none now :=
  done_reports hc hrow h k hr fun _ kr => hn _ (pointsSet_reporting (pointsSet_then (pointsSet_accepted _) hs) kr)

/-! ### SET_POINT (R22, R23) -/

section SetPoint
variable {s : State} {point source input : Byte} {lo hi : Half} {id : PointId} {src : PointSource}
  (ht : s.part.startUp.top ≠ .surveying)
include ht

theorem answer_setPoint_noPoint (h : pointOfIndex point.toNat = none) :
    s.part.frameAccepted.answer (.setPoint point source input lo hi) = refuse s.part.frameAccepted .range :=
  (unlessSurveying_accepted ht _).trans (named_none h)

theorem answer_setPoint_noSource (h : pointIndex id = point.toNat) (hs : ∀ src, ¬ SourceNamed id source input lo hi src) :
    s.part.frameAccepted.answer (.setPoint point source input lo hi) = refuse s.part.frameAccepted .range :=
  (unlessSurveying_accepted ht _).trans <| (named_some (pointOfIndex_eq_some.2 h)).trans <|
    named_none (Option.eq_none_iff_forall_ne_some.2 fun src e => hs src (sourceOf_eq_some.1 e))

/-- Point and source named: the two checks that are left, and the effect. -/
theorem answer_setPoint_named (h : pointIndex id = point.toNat) (hs : SourceNamed id source input lo hi src) :
    s.part.frameAccepted.answer (.setPoint point source input lo hi) =
      unlessFails s.part.frameAccepted (s.part.frameAccepted.inputFree id src) .inUse
        (unlessFails s.part.frameAccepted (!(s.part.frameAccepted.operating && src == .none && isPlantPoint id)) .state
          (okay (s.part.frameAccepted.startPoint id src))) :=
  (unlessSurveying_accepted ht _).trans <| (named_some (pointOfIndex_eq_some.2 h)).trans <|
    named_some (sourceOf_eq_some.2 hs)

end SetPoint

theorem hasInput_accepted {p : Part} {id : PointId} {i : InputId} : HasInput p.frameAccepted id i ↔ HasInput p id i := by
  unfold HasInput; rw [accepted_point]

/-- R22: in OPERATING the points of the plant are not left without a source. -/
theorem strips_iff {p : Part} {id : PointId} {src : PointSource} :
    (p.frameAccepted.operating && src == .none && isPlantPoint id) = true ↔
      p.startUp.top = .operating ∧ src = .none ∧ (id = .flow ∨ id = .tank ∨ id = .basin) := by
  have plant : isPlantPoint id = true ↔ id = .flow ∨ id = .tank ∨ id = .basin := by cases id <;> simp [isPlantPoint]
  simp only [Bool.and_eq_true, beq_iff_eq, Part.operating, frameAccepted_top, plant, and_assoc]

/-! ### PUT_MEASURE (R28, R29) -/

theorem joinBytes_halves (v : Half) : joinBytes (hiByte v) (loByte v) = v := by
  have parts : v.extractLsb' 8 8 ++ v.extractLsb' 0 8 = v.extractLsb' 0 16 :=
    BitVec.extractLsb'_append_extractLsb'_eq_extractLsb' rfl
  exact parts.trans BitVec.extractLsb'_eq_self

theorem pairsOf_pairBytes (pairs : List (Byte × Half)) : pairsOf (pairBytes pairs) = pairs := by
  induction pairs with
  | nil => rfl
  | cons x pairs ih => unfold pairBytes pairsOf; rw [ih, joinBytes_halves]

theorem pairBytes_length (pairs : List (Byte × Half)) : (pairBytes pairs).length = 3 * pairs.length := by
  induction pairs with
  | nil => rfl
  | cons x pairs ih => unfold pairBytes; simp only [List.length_cons, ih]; omega

/-- What command handling makes of the pairs once their points are known. -/
def pairsFor (ids : List PointId) (pairs : List (Byte × Half)) : List (PointId × Nat) :=
  (ids.zip (pairs.map Prod.snd)).map fun x => (x.1, x.2.toNat)

theorem pairPoints_some {pairs : List (Byte × Half)} {xs : List (PointId × Nat)} (h : pairPoints pairs = some xs) :
    (xs.map Prod.fst).map pointIndex = pairs.map fun x => x.1.toNat := by
  induction pairs generalizing xs with
  | nil => cases h; rfl
  | cons x pairs ih =>
    unfold pairPoints at h
    split at h
    · rename_i id ys hid hys
      cases h
      simp only [List.map_cons, ih hys, pointOfIndex_eq_some.1 hid]
    · cases h

theorem pairPoints_of {pairs : List (Byte × Half)} {ids : List PointId}
    (h : ids.map pointIndex = pairs.map fun x => x.1.toNat) : pairPoints pairs = some (pairsFor ids pairs) := by
  induction pairs generalizing ids with
  | nil => rw [List.map_nil, List.map_eq_nil_iff] at h; subst h; rfl
  | cons x pairs ih =>
    cases ids with
    | nil => cases h
    | cons id ids =>
      obtain ⟨hid, rest⟩ := List.cons.inj h
      unfold pairPoints
      rw [pointOfIndex_eq_some.2 hid, ih rest]
      rfl

theorem distinctPoints_iff (xs : List (PointId × Nat)) : distinctPoints xs = true ↔ (xs.map Prod.fst).Nodup := by
  induction xs with
  | nil => simp [distinctPoints]
  | cons x xs ih =>
    have fresh : xs.any (·.1 == x.1) = false ↔ x.1 ∉ xs.map Prod.fst := by
      simp only [List.any_eq_false, beq_iff_eq, List.mem_map, not_exists, not_and]
    unfold distinctPoints
    rw [Bool.and_eq_true, Bool.not_eq_true', fresh, ih, List.map_cons, List.nodup_cons]

theorem zip_fst_of_named {pairs : List (Byte × Half)} {ids : List PointId} (h : PairsName pairs ids) :
    (ids.zip (pairs.map Prod.snd)).map Prod.fst = ids := by
  have e := congrArg List.length h.1
  simp only [List.length_map] at e
  exact List.map_fst_zip (by rw [List.length_map, e])

theorem pairsFor_fst_of_named {pairs : List (Byte × Half)} {ids : List PointId} (h : PairsName pairs ids) :
    (pairsFor ids pairs).map Prod.fst = ids := by
  rw [pairsFor, List.map_map]; exact zip_fst_of_named h

section PutMeasure
variable {s : State} {pairs : List (Byte × Half)} (ht : s.part.startUp.top ≠ .surveying)
include ht

theorem answer_putMeasure_length (hl : pairs.length < 256) (h : ¬ (1 ≤ pairs.length ∧ pairs.length ≤ 16)) :
    s.part.frameAccepted.answer (.putMeasure (BitVec.ofNat 8 pairs.length) (pairBytes pairs)) =
      refuse s.part.frameAccepted .length := by
  refine (unlessSurveying_accepted ht _).trans (unlessFails_no ?_)
  rw [decide_eq_false_iff_not, BitVec.toNat_ofNat, Nat.mod_eq_of_lt hl]
  exact fun ⟨a, b, _⟩ => h ⟨a, b⟩

variable (h1 : 1 ≤ pairs.length) (h16 : pairs.length ≤ 16)
include h1 h16

/-- With a count that is right, the checks that are left and the effect. -/
theorem answer_putMeasure_count :
    s.part.frameAccepted.answer (.putMeasure (BitVec.ofNat 8 pairs.length) (pairBytes pairs)) =
      named s.part.frameAccepted (pairPoints pairs) fun xs =>
        unlessFails s.part.frameAccepted (distinctPoints xs) .range <|
        unlessFails s.part.frameAccepted (xs.all fun x => (s.part.frameAccepted.point x.1).source == .pushed) .state <|
        okay (xs.foldl (fun p x => p.push x.1 x.2) s.part.frameAccepted) := by
  refine (unlessSurveying_accepted ht _).trans ((unlessFails_ok ?_).trans ?_)
  · rw [decide_eq_true_iff, BitVec.toNat_ofNat, Nat.mod_eq_of_lt (by omega), pairBytes_length]
    exact ⟨h1, h16, rfl⟩
  · rw [pairsOf_pairBytes]

theorem answer_putMeasure_unnamed (h : ∀ ids, ¬ PairsName pairs ids) :
    s.part.frameAccepted.answer (.putMeasure (BitVec.ofNat 8 pairs.length) (pairBytes pairs)) =
      refuse s.part.frameAccepted .range := by
  rw [answer_putMeasure_count ht h1 h16]
  cases hp : pairPoints pairs with
  | none => rfl
  | some xs =>
    refine (named_some rfl).trans (unlessFails_no ?_)
    rw [Bool.eq_false_iff, ne_eq, distinctPoints_iff]
    exact fun nodup => h _ ⟨pairPoints_some hp, nodup⟩

theorem answer_putMeasure_named {ids : List PointId} (h : PairsName pairs ids) :
    s.part.frameAccepted.answer (.putMeasure (BitVec.ofNat 8 pairs.length) (pairBytes pairs)) =
      unlessFails s.part.frameAccepted (ids.all fun id => (s.part.point id).source == .pushed) .state
        (okay ((ids.zip (pairs.map Prod.snd)).foldl (fun p x => p.push x.1 x.2.toNat) s.part.frameAccepted)) := by
  have sources : ((pairsFor ids pairs).all fun x => (s.part.frameAccepted.point x.1).source == .pushed) =
      ids.all fun id => (s.part.point id).source == .pushed := by
    conv_rhs => rw [← pairsFor_fst_of_named h, List.all_map]
    simp only [accepted_point]
    rfl
  rw [answer_putMeasure_count ht h1 h16, named_some (pairPoints_of h.1),
    unlessFails_ok ((distinctPoints_iff _).2 (by rw [pairsFor_fst_of_named h]; exact h.2)), sources, pairsFor, List.foldl_map]

end PutMeasure

end Sys2Proof.Laws

namespace Sys2Proof

open Machine Laws

/-- Settles O8: the rows trigger a scan; FLOW has the loading computed before. -/
theorem schedulerEventsTriggerAScan : Obligations.SchedulerEventsTriggerAScan := by
  intro s ht
  refine ⟨fun id hid ho => ?_, fun ho => flowChange_scans ho ht,
    fun ho => triggers_scan (exec_spacingExpiry s) ho ht, fun u n ho => triggers_scan (exec_schedulerUnitNotice u n s) ho ht⟩
  rcases hid with rfl | rfl
  · exact triggers_scan (exec_schedulerMeasureChange .tank s) ho ht
  · exact triggers_scan (exec_schedulerMeasureChange .basin s) ho ht

/-- Settles O44: the checks of R22 in their order, then the one point set afresh. -/
theorem setPointStartsThePointAfresh : Obligations.SetPointStartsThePointAfresh := by
  intro s tag point source input lo hi hc ht
  dsimp only
  refine ⟨fun h => reads_of hc rfl (answer_setPoint_noPoint ht (pointOfIndex_none h)),
    fun id hid => ⟨fun h => reads_of hc rfl (answer_setPoint_noSource ht hid h), fun src hs => ?_⟩⟩
  have ans := answer_setPoint_named ht hid hs
  refine ⟨fun i a b other e taken own => ?inUse, fun strips => ?strips, fun free keeps => ?done⟩
  case inUse =>
    subst e
    exact reads_of hc rfl (ans.trans (unlessFails_no
      (inputFree_taken a b (hasInput_accepted.2 taken) (mt hasInput_accepted.1 own))))
  case strips =>
    have free : s.part.frameAccepted.inputFree id src = true := by rw [strips.2.1]; rfl
    exact reads_of hc rfl (ans.trans ((unlessFails_ok free).trans (unlessFails_no (by rw [strips_iff.2 strips]; rfl))))
  case done =>
    have isFree : s.part.frameAccepted.inputFree id src = true :=
      inputFree_free fun i a b e other ne => mt hasInput_accepted.1 (free i a b e other ne)
    have isKept := Bool.eq_false_iff.2 (mt strips_iff.1 keeps)
    rw [unlessFails_ok isFree, unlessFails_ok (by rw [isKept]; rfl)] at ans
    refine setsPoints_done hc rfl ans (by simp) (startPoint_sets _ id src)
      (pointReports_accepted s.part id _ ▸ startPoint_reports _ id src) fun q' set => ?_
    obtain ⟨now, told, tank, basin⟩ := set.each (id, freshPoint src) (by simp)
    exact ⟨now, fun other ne => set.others other (by simpa using ne),
      fun moves => told fun same => moves ⟨same.1.symm, same.2.symm⟩, tank,
      fun ne => set.tankKept (by simpa using Ne.symm ne), basin, fun ne => set.basinKept (by simpa using Ne.symm ne)⟩

/-- Settles O45: the checks of R28 in their order, then one point set after the other, each of them once. -/
theorem putMeasurePushesEveryPair : Obligations.PutMeasurePushesEveryPair := by
  intro s tag pairs hc ht
  dsimp only
  refine ⟨fun hl h => reads_of hc rfl (answer_putMeasure_length ht hl h),
    fun h1 h16 h => reads_of hc rfl (answer_putMeasure_unnamed ht h1 h16 h),
    fun h1 h16 ids h => ⟨fun ⟨id, hid, hp⟩ => ?state, fun pushed => ?done⟩⟩
  case state =>
    refine reads_of hc rfl ((answer_putMeasure_named ht h1 h16 h).trans (unlessFails_no ?_))
    rw [Bool.eq_false_iff, ne_eq, List.all_eq_true]
    exact fun all => hp (by simpa using all id hid)
  case done =>
    have all : (ids.all fun id => (s.part.point id).source == .pushed) = true :=
      List.all_eq_true.2 fun id hid => by simp [pushed id hid]
    obtain ⟨sets, told⟩ := pushes_set (xs := ids.zip (pairs.map Prod.snd)) (by rw [zip_fst_of_named h]; exact h.2)
      s.part.frameAccepted
    have pair : pushedPair s.part.frameAccepted = pushedPair s.part := by
      funext x; unfold pushedPair; rw [accepted_point, accepted_clock]
    rw [pair] at sets told
    simp only [pointReports_accepted] at told
    have points : ((ids.zip (pairs.map Prod.snd)).map (pushedPair s.part)).map Prod.fst = ids := by
      rw [List.map_map]; exact zip_fst_of_named h
    refine setsPoints_done hc rfl ((answer_putMeasure_named ht h1 h16 h).trans (unlessFails_ok all)) (by simp) sets told
      fun q' set => ⟨fun i id v hi hv => ?_, fun ne => set.tankKept (by rwa [points]),
        fun ne => set.basinKept (by rwa [points]), fun id ne => set.others id (by rwa [points])⟩
    have mem : (id, v) ∈ ids.zip (pairs.map Prod.snd) :=
      List.mem_of_getElem? (List.getElem?_zip_eq_some.2 ⟨hi, by rw [List.getElem?_map]; exact hv⟩)
    obtain ⟨now, moved, tank, basin⟩ := set.each _ (List.mem_map_of_mem mem)
    exact ⟨now, moved, tank, basin⟩

end Sys2Proof
end

section
/-! SUPPORT. The commands that only read (R35, R58, R101, R102, R134, R149, R167, R168, R180): what each view shows, the
stretch of a list a reply carries, and the ranges. -/

namespace Sys2Proof.Laws

open Sys2Proof.Machine

/-! ### Stretches of a list -/

theorem numbered_getElem? {α : Type} (l : List α) (k i : Nat) : (numbered k l)[i]? = l[i]?.map fun x => (k + i, x) := by
  induction l generalizing k i with
  | nil => rfl
  | cons x l ih =>
    cases i with
    | zero => rfl
    | succ i => simp only [numbered, List.getElem?_cons_succ, ih, Nat.add_right_comm, Nat.add_assoc]

theorem numbered_length {α : Type} (l : List α) (k : Nat) : (numbered k l).length = l.length := by
  induction l generalizing k with
  | nil => rfl
  | cons x l ih => simp only [numbered, List.length_cons, ih]

/-- The eight elements from number `k` on that GET_QUEUE and GET_RECIPE read. -/
abbrev eightFrom {α : Type} (k : Nat) (l : List α) : List (Nat × α) := (numbered k (l.drop (k - 1))).take 8

theorem eightFrom_length {α : Type} {k : Nat} (hk : 1 ≤ k) (l : List α) :
    (eightFrom k l).length = min 8 (l.length + 1 - k) := by
  rw [List.length_take, numbered_length, List.length_drop]
  omega

theorem eightFrom_getElem? {α : Type} {k i : Nat} {l : List α} {x : α} (hi : i < 8) (h : l[k - 1 + i]? = some x) :
    (eightFrom k l)[i]? = some (k + i, x) := by
  rw [List.getElem?_take_of_lt hi, numbered_getElem?, List.getElem?_drop, h]
  rfl

/-- A view for each of `n` things from position `a` on. -/
theorem views_getElem? {α β : Type} {l : List α} {a n i : Nat} {x : α} (g : α → β) (hi : i < n) (h : l[a + i]? = some x) :
    (((l.drop a).take n).map g)[i]? = some (g x) := by
  rw [List.getElem?_map, List.getElem?_take_of_lt hi, List.getElem?_drop, h]
  rfl

theorem views_length {α β : Type} {l : List α} {a n : Nat} (g : α → β) (h : a + n ≤ l.length) :
    (((l.drop a).take n).map g).length = n := by
  rw [List.length_map, List.length_take, List.length_drop]
  omega

theorem allPoints_length : allPoints.length = 35 := by simp [allPoints, allFilters]

theorem allPoints_getElem? (id : PointId) : allPoints[pointIndex id - 1]? = some id := by
  unfold allPoints allFilters pointIndex
  cases id with
  | hl n => simp [List.getElem?_append, n.isLt]
  | tb n => simp [List.getElem?_append, n.isLt]
  | flow | tank | basin => rfl

theorem allChannels_getElem? (ch : ChannelId) : allChannels[ch.val]? = some ch := by simp [allChannels]

/-! ### Views after the frame's acceptance -/

theorem viewPoint_accepted (p : Part) (id : PointId) : p.frameAccepted.viewPoint id = p.viewPoint id := by
  unfold Part.viewPoint
  rw [accepted_point, accepted_front, frameAccepted_clock]

theorem viewUnit_accepted (p : Part) (u : UnitId) : p.frameAccepted.viewUnit u = p.viewUnit u := by
  unfold Part.viewUnit Part.feedback
  rw [accepted_unit, accepted_plant, frameAccepted_clock]

theorem ownerOf_accepted (p : Part) (ch : ChannelId) : p.frameAccepted.ownerOf ch = p.ownerOf ch := by
  unfold Part.ownerOf
  rw [accepted_channel]
  split
  · unfold Part.filterOwner; rw [accepted_filter]
  · rfl

theorem viewChannel_accepted (p : Part) (ch : ChannelId) : p.frameAccepted.viewChannel ch = p.viewChannel ch := by
  unfold Part.viewChannel Part.travelTime
  rw [accepted_channel, accepted_plant, frameAccepted_clock, ownerOf_accepted]

theorem viewSignature_accepted (p : Part) (slot : SlotId) : p.frameAccepted.viewSignature slot = p.viewSignature slot := by
  have staging : p.frameAccepted.recipes.staging = p.recipes.staging := accepted_only p .staging (by simp)
  unfold Part.viewSignature Part.slotNamed Part.laneRuns Part.stagingPicture
  simp only [accepted_recipe, accepted_filter, accepted_lane, staging]

theorem ready_accepted (p : Part) : p.frameAccepted.ready = p.ready := by
  have supply : p.frameAccepted.supply = p.supply := accepted_only p .supply (by simp)
  have reset : p.frameAccepted.resetHeld = p.resetHeld := accepted_only p .resetHeld (by simp)
  have call : p.frameAccepted.startUp.readyCall = p.startUp.readyCall := accepted_only p .readyCall (by simp)
  unfold Part.ready Part.live Part.stopAsserted
  rw [supply, reset, call, accepted_valves]

/-! ### What the views show -/

theorem viewPoint_shows (p : Part) (id : PointId) : PointShown p id (p.viewPoint id) := by
  refine ⟨rfl, rfl, rfl, rfl, rfl, ?_⟩
  unfold Part.viewPoint
  dsimp only
  cases (p.point id).source <;> rfl

theorem phaseNow_of {p : Part} {w : Wash} {r : Recipe} {ph : Phase} (hr : p.recipe w.slot = some r)
    (h : r.phases[w.phase - 1]? = some ph) : p.phaseNow w = ph := by
  unfold Part.phaseNow Part.phasesOf
  rw [hr]
  dsimp only
  rw [h]
  rfl

theorem viewLane_shows (p : Part) (l : LaneId) : LaneShown p l (p.viewLane l) := by
  refine ⟨rfl, rfl, fun h => ?_, fun w rec r ph ⟨hl, _, hr, hph⟩ => ?_, fun w h hl hs => ?_, fun w hl hs => ?_⟩ <;>
    unfold Part.viewLane <;> dsimp only
  · rw [h]; exact ⟨rfl, rfl⟩
  · rw [hl, Option.map_some, phaseNow_of hr hph]
  · rw [hl, Option.bind_some, hs]; rfl
  · rw [hl, Option.bind_some]
    split
    · exact absurd ‹_› (hs _)
    · rfl

theorem viewUnit_shows (p : Part) (u : UnitId) : UnitShown p u (p.viewUnit u) := by
  unfold UnitShown Part.viewUnit
  cases h : (p.unit u).state <;> simp [UnitState.runOn, Part.clock]

theorem readingOf_active {sense : SwitchSense} {level : Option Level} :
    level.map (readingOf sense) = some .active ↔ ReadsActive sense level := by
  unfold ReadsActive
  rcases level with _ | level
  · simp
  · cases sense <;> cases level <;> simp [readingOf]

theorem viewChannel_shows (p : Part) (ch : ChannelId) : ChannelShown p ch (p.viewChannel ch) := by
  refine ⟨rfl, rfl, readingOf_active, Option.map_eq_none_iff, readingOf_active, Option.map_eq_none_iff, ?_, ?_, rfl, ?_, ?_,
    ?_, ?_⟩ <;>
    unfold Part.viewChannel <;> dsimp only
  · unfold Channel.drive; cases (p.channel ch).state <;> simp
  · unfold Channel.drive; cases (p.channel ch).state <;> simp
  · rintro e n (h | h) <;> unfold Channel.expiry <;> rw [h] <;> rfl
  · unfold Channel.expiry; cases (p.channel ch).state <;> simp [ChannelState.inTravel]
  · intro f r h; unfold Part.travelTime; rw [h]
  · intro h; unfold Part.travelTime; rw [h]

theorem laneRuns_iff {p : Part} {l : LaneId} {slot : SlotId} :
    p.laneRuns l slot = true ↔ ∃ w, p.lane l = some w ∧ w.slot = slot := by
  unfold Part.laneRuns
  cases p.lane l <;> simp

theorem slotNamed_iff {p : Part} {slot : SlotId} :
    p.slotNamed slot = true ↔ ∃ f r, p.filter f = some r ∧ r.cfg.slot = slot := by
  unfold Part.slotNamed
  simp [Option.any_eq_true, mem_allFilters]

theorem viewSignature_shows (p : Part) (slot : SlotId) : SlotShown p slot (p.viewSignature slot) :=
  ⟨rfl, rfl, slotNamed_iff, laneRuns_iff, laneRuns_iff, rfl⟩

end Sys2Proof.Laws
end

section
/-! SUPPORT. The reading commands by their rows: within their ranges they answer what they read, outside them RANGE. -/

namespace Sys2Proof.Laws

open Sys2Proof.Machine

section Reading
variable {s : State} (tag : Byte) (hc : CanHandle s) (ht : s.part.startUp.top ≠ .surveying)
include ht

theorem getQueue_answer {k : Byte} (hk : 1 ≤ k.toNat) (h16 : k.toNat ≤ 16) : s.part.frameAccepted.answer (.getQueue k) =
    if s.part.sched.queue.length < k.toNat then
      (s.part.frameAccepted, .endOfRead, .queue s.part.sched.queue.length s.part.sched.mask [])
    else (s.part.frameAccepted, .ok,
      .queue s.part.sched.queue.length s.part.sched.mask (eightFrom k.toNat s.part.sched.queue)) := by
  refine (unlessSurveying_accepted ht _).trans
    ((unlessFails_ok (by rw [decide_eq_true_iff]; exact ⟨hk, h16⟩)).trans ?_)
  rw [accepted_sched]

theorem getRecipe_empty {b k : Byte} {slot : SlotId} (hb : slotOf b = some slot) (hk : 1 ≤ k.toNat) (h16 : k.toNat ≤ 16)
    (hr : s.part.recipe slot = none) :
    s.part.frameAccepted.answer (.getRecipe b k) = (s.part.frameAccepted, .endOfRead, .recipeEnd none) := by
  refine (unlessSurveying_accepted ht _).trans ((named_some hb).trans
    ((unlessFails_ok (by rw [decide_eq_true_iff]; exact ⟨hk, h16⟩)).trans ?_))
  simp only [accepted_recipe, hr]

theorem getRecipe_installed {b k : Byte} {slot : SlotId} {r : Recipe} (hb : slotOf b = some slot) (hk : 1 ≤ k.toNat)
    (h16 : k.toNat ≤ 16) (hr : s.part.recipe slot = some r) : s.part.frameAccepted.answer (.getRecipe b k) =
      if r.phases.length < k.toNat then (s.part.frameAccepted, .endOfRead, .recipeEnd (some r.phases.length))
      else (s.part.frameAccepted, .ok, .phases r.phases.length r.signature (eightFrom k.toNat r.phases)) := by
  refine (unlessSurveying_accepted ht _).trans ((named_some hb).trans
    ((unlessFails_ok (by rw [decide_eq_true_iff]; exact ⟨hk, h16⟩)).trans ?_))
  simp only [accepted_recipe, hr]

include hc

theorem getPoints_reads {a n : Byte} (ha : 1 ≤ a.toNat) (hn : 1 ≤ n.toNat) (h16 : n.toNat ≤ 16)
    (hlast : a.toNat + n.toNat ≤ 36) :
    ∃ vs, Reads s (.getPoints tag a n) .ok (.points s.part.front.tankAvail s.part.front.basinRoom vs) ∧
      vs.length = n.toNat ∧
      ∀ i id, i < n.toNat → pointIndex id = a.toNat + i → ∃ v, vs[i]? = some v ∧ PointShown s.part id v := by
  refine ⟨((allPoints.drop (a.toNat - 1)).take n.toNat).map s.part.viewPoint, reads_of hc rfl ?_,
    views_length _ (by rw [allPoints_length]; omega),
    fun i id hi hid => ⟨_, views_getElem? _ hi ?_, viewPoint_shows s.part id⟩⟩
  · refine (unlessSurveying_accepted ht _).trans ((unlessFails_ok (by rw [decide_eq_true_iff]; omega)).trans ?_)
    rw [funext (viewPoint_accepted s.part), accepted_front]
  · rw [show a.toNat - 1 + i = pointIndex id - 1 by omega]
    exact allPoints_getElem? id

theorem getQueue_reads {k : Byte} (hk : 1 ≤ k.toNat) (h16 : k.toNat ≤ 16) :
    (s.part.sched.queue.length < k.toNat →
      Reads s (.getQueue tag k) .endOfRead (.queue s.part.sched.queue.length s.part.sched.mask [])) ∧
    (k.toNat ≤ s.part.sched.queue.length →
      ∃ es, Reads s (.getQueue tag k) .ok (.queue s.part.sched.queue.length s.part.sched.mask es) ∧
        es.length = min 8 (s.part.sched.queue.length + 1 - k.toNat) ∧
        ∀ i e, i < 8 → s.part.sched.queue[k.toNat - 1 + i]? = some e → es[i]? = some (k.toNat + i, e)) :=
  ⟨fun past => reads_of hc rfl ((getQueue_answer ht hk h16).trans (if_pos past)),
    fun inside => ⟨_, reads_of hc rfl ((getQueue_answer ht hk h16).trans (if_neg (by omega))), eightFrom_length hk _,
      fun _ _ hi h => eightFrom_getElem? hi h⟩⟩

theorem getSignature_reads {b : Byte} {slot : SlotId} (hb : slotOf b = some slot) :
    ∃ v, Reads s (.getRecipeSignature tag b) .ok (.signature v) ∧ SlotShown s.part slot v := by
  refine ⟨_, reads_of hc rfl ((unlessSurveying_accepted ht _).trans ((named_some hb).trans ?_)),
    viewSignature_shows s.part slot⟩
  rw [viewSignature_accepted]

theorem getRecipe_reads {b k : Byte} {slot : SlotId} (hb : slotOf b = some slot) (hk : 1 ≤ k.toNat) (h16 : k.toNat ≤ 16) :
    (s.part.recipe slot = none → Reads s (.getRecipe tag b k) .endOfRead (.recipeEnd none)) ∧
    (∀ r, s.part.recipe slot = some r → r.phases.length < k.toNat →
      Reads s (.getRecipe tag b k) .endOfRead (.recipeEnd (some r.phases.length))) ∧
    ∀ r, s.part.recipe slot = some r → k.toNat ≤ r.phases.length →
      ∃ xs, Reads s (.getRecipe tag b k) .ok (.phases r.phases.length r.signature xs) ∧
        xs.length = min 8 (r.phases.length + 1 - k.toNat) ∧
        ∀ i ph, i < 8 → r.phases[k.toNat - 1 + i]? = some ph → xs[i]? = some (k.toNat + i, ph) :=
  ⟨fun empty => reads_of hc rfl (getRecipe_empty ht hb hk h16 empty),
    fun r hr past => reads_of hc rfl ((getRecipe_installed ht hb hk h16 hr).trans (if_pos past)),
    fun r hr inside => ⟨_, reads_of hc rfl ((getRecipe_installed ht hb hk h16 hr).trans (if_neg (by omega))),
      eightFrom_length hk _, fun _ _ hi h => eightFrom_getElem? hi h⟩⟩

theorem getLanes_reads : ∃ a b, Reads s (.getLanes tag) .ok (.lanes a b) ∧ LaneShown s.part.frameAccepted .a a ∧
    LaneShown s.part.frameAccepted .b b :=
  ⟨_, _, reads_of hc rfl (unlessSurveying_accepted ht _), viewLane_shows _ .a, viewLane_shows _ .b⟩

theorem getEquipment_reads : ∃ a b c,
    Reads s (.getEquipment tag) .ok (.equipment a b c s.part.arb.duty s.part.arb.pumpWait s.part.arb.blowerWait) ∧
    UnitShown s.part .p1 a ∧ UnitShown s.part .p2 b ∧ UnitShown s.part .bl c := by
  have duty : s.part.frameAccepted.arb.duty = s.part.arb.duty := accepted_only s.part .duty (by simp)
  have pumps : s.part.frameAccepted.arb.pumpWait = s.part.arb.pumpWait := accepted_only s.part .pumpWait (by simp)
  have blower : s.part.frameAccepted.arb.blowerWait = s.part.arb.blowerWait := accepted_only s.part .blowerWait (by simp)
  refine ⟨_, _, _, reads_of hc rfl ((unlessSurveying_accepted ht _).trans ?_),
    viewUnit_shows _ .p1, viewUnit_shows _ .p2, viewUnit_shows _ .bl⟩
  rw [duty, pumps, blower, viewUnit_accepted, viewUnit_accepted, viewUnit_accepted]

theorem getChannels_reads {a n : Byte} (hn : 1 ≤ n.toNat) (h8 : n.toNat ≤ 8) (hlast : a.toNat + n.toNat ≤ 112) :
    ∃ vs, Reads s (.getChannels tag a n) .ok
        (.channels s.part.stopAsserted s.part.ready s.part.valves.selection vs) ∧
      vs.length = n.toNat ∧
      ∀ i (ch : ChannelId), i < n.toNat → ch.val = a.toNat + i → ∃ v, vs[i]? = some v ∧ ChannelShown s.part ch v := by
  refine ⟨((allChannels.drop a.toNat).take n.toNat).map s.part.viewChannel, reads_of hc rfl ?_,
    views_length _ (by rw [allChannels, List.length_finRange]; exact hlast),
    fun i ch hi hch => ⟨_, views_getElem? _ hi ?_, viewChannel_shows s.part ch⟩⟩
  · refine (unlessSurveying_accepted ht _).trans ((unlessFails_ok (by rw [decide_eq_true_iff]; omega)).trans ?_)
    rw [funext (viewChannel_accepted s.part), ready_accepted, stopAsserted_kept (accepted_only s.part) (by simp),
      accepted_valves]
  · rw [← hch]; exact allChannels_getElem? ch

theorem getChannelFault_reads : Reads s (.getChannelFault tag) .ok (.capture s.part.valves.capture) := by
  refine reads_of hc rfl ((unlessSurveying_accepted ht _).trans ?_)
  rw [accepted_valves]

/-! ### Ranges -/

theorem getPoints_refused {a n : Byte}
    (h : ¬ (1 ≤ a.toNat ∧ 1 ≤ n.toNat ∧ n.toNat ≤ 16 ∧ a.toNat + n.toNat ≤ 36)) : Refused s (.getPoints tag a n) .range :=
  reads_of hc rfl ((unlessSurveying_accepted ht _).trans
    (unlessFails_no (by rw [decide_eq_false_iff_not]; omega)))

theorem getQueue_refused {k : Byte} (h : ¬ (1 ≤ k.toNat ∧ k.toNat ≤ 16)) : Refused s (.getQueue tag k) .range :=
  reads_of hc rfl ((unlessSurveying_accepted ht _).trans
    (unlessFails_no (by rw [decide_eq_false_iff_not]; exact h)))

theorem filtersFirst_refused {b : Byte} (h : ¬ (1 ≤ b.toNat ∧ b.toNat ≤ 16)) : Refused s (.filtersFirst tag b) .range :=
  reads_of hc rfl ((unlessSurveying_accepted ht _).trans (named_none (dif_neg h)))

theorem getSignature_refused {b : Byte} (h : 8 ≤ b.toNat) : Refused s (.getRecipeSignature tag b) .range :=
  reads_of hc rfl ((unlessSurveying_accepted ht _).trans (named_none (dif_neg (by omega))))

theorem getRecipe_refused {b k : Byte} (h : 8 ≤ b.toNat ∨ ¬ (1 ≤ k.toNat ∧ k.toNat ≤ 16)) :
    Refused s (.getRecipe tag b k) .range := by
  refine reads_of hc rfl ((unlessSurveying_accepted ht _).trans ?_)
  cases hb : slotOf b with
  | none => rfl
  | some slot =>
    have small := slotOf_eq_some.1 hb
    exact unlessFails_no (by rw [decide_eq_false_iff_not]; omega)

theorem getChannels_refused {a n : Byte} (h : ¬ (1 ≤ n.toNat ∧ n.toNat ≤ 8 ∧ a.toNat + n.toNat ≤ 112)) :
    Refused s (.getChannels tag a n) .range :=
  reads_of hc rfl ((unlessSurveying_accepted ht _).trans
    (unlessFails_no (by rw [decide_eq_false_iff_not]; omega)))

end Reading

end Sys2Proof.Laws

namespace Sys2Proof

open Machine Laws

theorem readingCommandsAnswer : ReadingCommandsAnswer := by
  intro s tag hc
  refine ⟨reads_of hc rfl ?_, reads_of hc rfl rfl, fun ht => ⟨fun _ _ => getPoints_reads tag hc ht,
    fun _ => getQueue_reads tag hc ht, fun _ _ hb => ⟨getSignature_reads tag hc ht hb, fun _ => getRecipe_reads tag hc ht hb⟩,
    getLanes_reads tag hc ht, getEquipment_reads tag hc ht, fun _ _ => getChannels_reads tag hc ht,
    getChannelFault_reads tag hc ht⟩⟩
  show answerIdent s.part.frameAccepted = _
  rw [answerIdent, frameAccepted_link]

theorem readingCommandsCheckTheirRanges : ReadingCommandsCheckTheirRanges := fun _ tag _ _ hc ht =>
  ⟨getPoints_refused tag hc ht, fun h => ⟨getQueue_refused tag hc ht h, filtersFirst_refused tag hc ht h⟩,
    getSignature_refused tag hc ht, getRecipe_refused tag hc ht, getChannels_refused tag hc ht⟩

/-- Settles O37: no reading command changes the part its view is taken of, and each view shows what its rule names. -/
theorem readingCommandsReadAndChangeNothing : Obligations.ReadingCommandsReadAndChangeNothing :=
  ⟨readingCommandsAnswer, readingCommandsCheckTheirRanges⟩

end Sys2Proof
end

section
/-! SUPPORT. The order of the rotation queue (R44, R46): each operation on the queue keeps it, what changes only other pieces
leaves it as it was, and so every command, every frame and every row keeps it. -/

namespace Sys2Proof.Laws

open Sys2Proof.Machine

/-! ### The queue left alone -/

/-- Every piece but the rotation queue. -/
def besideQueue : List Piece :=
  [.supply, .resetHeld, .clock, .top, .survey, .readyCall, .silence, .silent, .lastAccepted, .plant, .plantReceived, .counts,
    .points, .volumes, .filters, .marker, .mask, .mode, .blocked, .proposal, .shares, .lastAdmission, .overload, .flags,
    .scanDue, .slots, .staging, .lanes, .units, .duty, .pumpWait, .blowerWait, .channels, .map, .selection, .capture, .stop,
    .rx, .rxQueue, .reply, .reports, .sending, .seq, .errors, .overflow, .reportLoss, .cursor, .rate, .softReset, .events]

@[simp] theorem mem_besideQueue (x : Piece) : x ∈ besideQueue ↔ x ≠ .queue := by cases x <;> simp [besideQueue]

theorem inOrder_aside {p q : Part} (k : OnlyChanges besideQueue p q) (h : QueueInOrder p) : QueueInOrder q :=
  inOrder_kept k (by simp) h

theorem inOrder_of_queue {p q : Part} (k : q.sched.queue = p.sched.queue) (h : QueueInOrder p) : QueueInOrder q := by
  unfold QueueInOrder; rw [k]; exact h

theorem inOrder_empty {p : Part} (h : p.sched.queue = []) : QueueInOrder p := by
  unfold QueueInOrder; simp [h]

/-! ### Entries added, changed, removed -/

section Entries
variable {p : Part} (h : QueueInOrder p)
include h

theorem addEntry_inOrder (f : FilterId) (c : RequestClass) (src : RequestSource) (u : Nat) (o : Option SlotId) :
    QueueInOrder (p.addEntry f c src u o) := by
  unfold Part.addEntry
  exact inOrder_aside (p := p.putEntry ⟨f, c, src, u, p.clock, o, none⟩) (by simp) (putEntry_inOrder _ h)

theorem dropEntry_inOrder (f : FilterId) (c : RemovalCause) : QueueInOrder (p.dropEntry f c) := by
  unfold Part.dropEntry
  split
  · exact inOrder_aside (by simp) (removeEntry_inOrder f h)
  · exact h

theorem expelEntry_inOrder (f : FilterId) (c : RemovalCause) : QueueInOrder (p.expelEntry f c) :=
  inOrder_aside (by unfold Part.expelEntry; simp) (dropEntry_inOrder h f c)

theorem setDefer_inOrder (e : Entry) (t : Option Nat) : QueueInOrder (p.setDefer e t) := by
  have k : QueueInOrder ((p.cancel (.deferExpiry e.filter)).putEntry { e with deferUntil := t }) :=
    putEntry_inOrder _ (inOrder_aside (by simp) h)
  unfold Part.setDefer
  dsimp only
  split
  · exact k
  · exact inOrder_aside (by simp) k

theorem takeEvaluation_inOrder (f : FilterId) (u : Nat) (cls : Option RequestClass) :
    QueueInOrder (p.takeEvaluation f u cls) := by
  have put : ∀ e, QueueInOrder (p.putEntry e).trigger := fun e => inOrder_aside (by simp) (putEntry_inOrder e h)
  have report : ∀ e c, QueueInOrder ((p.putEntry e).reportRequest .upgraded e c none).trigger := fun e c =>
    inOrder_aside (by simp) (putEntry_inOrder e h)
  unfold Part.takeEvaluation
  split
  · exact h
  · exact addEntry_inOrder h _ _ _ _ _
  · split
    · exact report _ _
    · split
      · exact h
      · exact put _
  · split
    · exact h
    · exact put _

theorem clearOverrides_inOrder (slot : SlotId) : QueueInOrder (p.clearOverrides slot) := by
  unfold Part.clearOverrides
  split
  · exact inOrder_aside (by simp) (withoutOverride_inOrder slot h)
  · exact h

theorem evaluate_inOrder (f : FilterId) : QueueInOrder (p.evaluate f) := by
  unfold Part.evaluate
  split
  · split
    · exact takeEvaluation_inOrder (inOrder_aside (by simp) h) _ _ _
    · exact h
  · exact h

theorem upgradeManual_inOrder (e : Entry) (o : Option SlotId) : QueueInOrder (p.upgradeManual e o) := by
  have put : QueueInOrder ((p.cancel (.deferExpiry e.filter)).putEntry
      { e with cls := .manual, source := .host, override := o, deferUntil := none }) :=
    putEntry_inOrder _ (inOrder_aside (by simp) h)
  unfold Part.upgradeManual
  exact inOrder_aside (by simp) put

theorem eraseSlot_inOrder (slot : SlotId) : QueueInOrder (p.eraseSlot slot) := by
  unfold Part.eraseSlot
  split
  · exact clearOverrides_inOrder (inOrder_aside (by simp) h) slot
  · exact h

/-! ### Filters and washes -/

theorem unownedFault_inOrder (f : FilterId) : QueueInOrder (p.unownedFault f) :=
  inOrder_aside (by unfold Part.unownedFault; simp) (expelEntry_inOrder h f .faulted)

theorem tableFault_inOrder (f : FilterId) (r : Role) : QueueInOrder (p.tableFault f r) := by
  unfold Part.tableFault
  split
  · exact unownedFault_inOrder h f
  · exact inOrder_aside (by simp) h
  · exact inOrder_aside (by simp) h
  · exact h

theorem abortWash_inOrder (f : FilterId) (channelFault : Bool) : QueueInOrder (p.abortWash f channelFault) := by
  unfold Part.abortWash
  split
  · exact h
  · split
    · exact inOrder_aside (by simp) h
    · dsimp only
      split
      · exact addEntry_inOrder (inOrder_aside (by simp) h) _ _ _ _ _
      · exact inOrder_aside (by simp) h

theorem putIn_inOrder (f : FilterId) (dirty : Bool) : QueueInOrder (p.putIn f dirty) := by
  unfold Part.putIn
  split
  · exact addEntry_inOrder (inOrder_aside (by simp) h) _ _ _ _ _
  · exact inOrder_aside (by simp) h

/-! ### Lanes -/

theorem checkAborted_inOrder (l : LaneId) : QueueInOrder (p.checkAborted l) := by
  have ended : ∀ f c b, QueueInOrder (((p.abortWash f c).report b).laneIdle l) := fun f c b =>
    inOrder_aside (by simp) (abortWash_inOrder h f c)
  unfold Part.checkAborted
  split
  · split
    · split
      · exact ended _ _ _
      · exact h
    · exact h
  · exact h

theorem abortLane_inOrder (l : LaneId) (cause : AbortCause) : QueueInOrder (p.abortLane l cause) := by
  unfold Part.abortLane
  split
  · exact checkAborted_inOrder (inOrder_aside (by simp) h) l
  · exact h

theorem advanceLane_inOrder (l : LaneId) : QueueInOrder (p.advanceLane l) := by
  unfold Part.advanceLane
  split
  · split
    case h_3 => exact checkAborted_inOrder h l
    all_goals exact inOrder_aside (by simp) h
  · exact h

theorem laneArrival_inOrder (l : LaneId) (r : Role) : QueueInOrder (p.laneArrival l r) :=
  advanceLane_inOrder (inOrder_aside (by simp) h) l

theorem laneDrift_inOrder (l : LaneId) (r : Role) : QueueInOrder (p.laneDrift l r) := by
  unfold Part.laneDrift
  split
  · split
    · exact h
    · split
      · exact inOrder_aside (by simp) h
      · exact advanceLane_inOrder (inOrder_aside (by simp) h) l
  · exact h

theorem laneFault_inOrder (l : LaneId) : QueueInOrder (p.laneFault l) := by
  unfold Part.laneFault
  split
  · split
    · exact checkAborted_inOrder (inOrder_aside (by simp) h) l
    · exact abortLane_inOrder h l _
  · exact h

theorem laneReleased_inOrder (l : LaneId) : QueueInOrder (p.laneReleased l) := by
  unfold Part.laneReleased
  split
  · exact h
  · split
    · dsimp only
      split
      · split
        · exact inOrder_aside (by simp) h
        · exact inOrder_aside (by simp) h
      · exact inOrder_aside (by simp) h
    · exact advanceLane_inOrder (inOrder_aside (by simp) h) l
    · exact advanceLane_inOrder (inOrder_aside (by simp) h) l
    · exact h

theorem holdLimitFalls_inOrder (l : LaneId) : QueueInOrder (p.holdLimitFalls l) := by
  unfold Part.holdLimitFalls
  split
  · split
    · exact abortLane_inOrder h l _
    · exact h
  · exact h

/-! ### The scan and the scheduler's timers -/

theorem admitEntry_inOrder (e : Entry) : QueueInOrder (p.admitEntry e) := by
  unfold Part.admitEntry
  split
  · exact h
  · exact inOrder_aside (by simp) (dropEntry_inOrder h e.filter .admitted)

theorem earlyRule_inOrder : QueueInOrder p.earlyRule := by
  unfold Part.earlyRule
  split
  · split
    · rename_i f u _
      exact inOrder_aside (by simp) (addEntry_inOrder h f .early .auto u none)
    · exact h
  · exact h

theorem tests_inOrder (e : Entry) : QueueInOrder (p.tests e).1 := inOrder_aside (by simp) h

theorem testHead_inOrder (e : Entry) : QueueInOrder (p.testHead e) := by
  have k := tests_inOrder h e
  unfold Part.testHead
  split
  · rename_i q b hq
    rw [hq] at k
    exact inOrder_aside (by simp) k
  · rename_i q hq
    rw [hq] at k
    split
    · exact inOrder_aside (by simp) k
    · exact inOrder_aside (by simp) (admitEntry_inOrder k e)

theorem scan_inOrder : QueueInOrder p.scan := by
  have k := earlyRule_inOrder h
  unfold Part.scan
  split
  · exact inOrder_aside (by simp) h
  · dsimp only
    split
    · exact inOrder_aside (by simp) k
    · split
      · split
        · exact testHead_inOrder (inOrder_aside (by simp) k) _
        · exact inOrder_aside (by simp) k
      · exact testHead_inOrder k _

theorem runScan_inOrder : QueueInOrder p.runScan := by
  unfold Part.runScan
  split
  · exact scan_inOrder (inOrder_aside (by simp) h)
  · exact h

theorem deferralEnds_inOrder (f : FilterId) : QueueInOrder (p.deferralEnds f) := by
  unfold Part.deferralEnds
  split
  · split
    · exact setDefer_inOrder h _ _
    · exact h
  · exact h

theorem proposalExpires_inOrder : QueueInOrder p.proposalExpires := by
  unfold Part.proposalExpires
  split
  · dsimp only
    split
    · rename_i e _
      exact inOrder_aside (by simp) (setDefer_inOrder h e (some (secondsOn p.clock p.plant.lifetime)))
    · exact inOrder_aside (by simp) h
  · exact h

theorem decline_inOrder (e : Entry) (minutes : Nat) : QueueInOrder (p.decline e minutes) := by
  unfold Part.decline
  split
  · rename_i t _
    exact inOrder_aside (by simp) (setDefer_inOrder h e (some t))
  · exact inOrder_aside (by simp) h

/-! ### Commands -/

theorem answerAbortLane_inOrder (l : LaneId) : QueueInOrder (answerAbortLane p l).1 :=
  answer_unlessFails h (abortLane_inOrder h l .host)

theorem answerAcceptEntry_inOrder (e : Entry) : QueueInOrder (answerAcceptEntry p e).1 := by
  have k := tests_inOrder h e
  unfold answerAcceptEntry
  split
  · rename_i q b hq
    rw [hq] at k
    exact inOrder_aside (by simp) k
  · rename_i q hq
    rw [hq] at k
    exact admitEntry_inOrder (inOrder_aside (by simp) k) e

theorem answerRequestWash_inOrder (f o : Byte) : QueueInOrder (answerRequestWash p f o).1 := by
  refine answer_onFilter h fun f r => answer_named h fun o => ?_
  split
  · exact addEntry_inOrder h _ _ _ _ _
  · exact addEntry_inOrder h _ _ _ _ _
  · split
    case h_4 | h_5 | h_6 => exact h
    all_goals exact upgradeManual_inOrder h _ _
  · exact h

theorem answerCancelRequest_inOrder (f : Byte) : QueueInOrder (answerCancelRequest p f).1 := by
  refine answer_onFilter h fun f r => ?_
  split
  · exact h
  · split
    case h_1 | h_2 => exact expelEntry_inOrder h _ _
    all_goals exact h

theorem answerDefer_inOrder (f : Byte) (m : Half) : QueueInOrder (answerDefer p f m).1 := by
  refine answer_onFilter h fun f r => answer_unlessFails h ?_
  split
  · exact h
  · exact setDefer_inOrder h _ _

theorem answerAccept_inOrder (f : Byte) : QueueInOrder (answerAccept p f).1 := by
  refine answer_inOperating h (answer_named h fun f => ?_)
  split
  · split
    · exact answerAcceptEntry_inOrder h _
    · exact h
  · exact h

theorem answerDecline_inOrder (f : Byte) (m : Half) : QueueInOrder (answerDecline p f m).1 := by
  refine answer_inOperating h (answer_named h fun f => answer_unlessFails h ?_)
  split
  · split
    · exact decline_inOrder h _ _
    · exact h
  · exact h

theorem answerAbort_inOrder (form target : Byte) : QueueInOrder (answerAbort p form target).1 := by
  refine answer_inOperating h ?_
  split
  · exact answer_named h fun l => answerAbortLane_inOrder h l
  · split
    · refine answer_named h fun f => ?_
      split
      · exact answerAbortLane_inOrder h _
      · exact h
    · exact h

theorem answerSetFilter_inOrder (f form : Byte) (c : RawFilter) : QueueInOrder (answerSetFilter p f form c).1 := by
  refine answer_unlessSurveying h (answer_named h fun f => ?_)
  split
  · exact answer_unlessFails h (answer_named h fun _ => inOrder_aside (by simp [okay]) h)
  · split
    · unfold answerUndefine
      split
      · exact h
      · split
        · exact inOrder_aside (by simp [okay]) h
        · exact h
    · exact h

theorem answerChunk_inOrder (start : Nat) : QueueInOrder (answerChunk p start).1 := by
  unfold answerChunk
  dsimp only
  split
  · exact inOrder_aside (by simp) h
  · exact inOrder_aside (by simp) h

theorem answerToStandby_inOrder (f : Byte) : QueueInOrder (answerToStandby p f).1 := by
  refine answer_onFilter h fun f r => answer_unlessFails h (answer_unlessFails h ?_)
  exact answer_unlessFails (inOrder_aside (by simp) h) (inOrder_aside (by simp [okay]) h)

theorem answerEquipment_inOrder (u a : Byte) : QueueInOrder (answerEquipment p u a).1 := by
  refine answer_unlessSurveying h (answer_named h fun u => answer_named h fun a => ?_)
  cases a <;> dsimp only
  case lock =>
    unfold answerLockUnit
    split
    case h_5 | h_6 | h_7 => exact inOrder_aside (by simp [Part.answerUnit]) h
    all_goals exact h
  case unlock =>
    unfold answerUnlockUnit
    split
    · exact inOrder_aside (by simp [Part.answerUnit]) h
    · exact h
  case resetFault =>
    unfold answerResetUnit
    split
    · exact inOrder_aside (by simp [Part.answerUnit]) h
    · exact h

theorem answerDirectDrive_inOrder (a : Byte) : QueueInOrder (answerDirectDrive p a).1 := by
  refine answer_unlessSurveying h (answer_named h fun a => ?_)
  split
  · exact h
  · exact answer_unlessFails h <| answer_unlessFails h <| answer_unlessFails h <| answer_unlessFails h <|
      inOrder_aside (by simp) h

/-- Every command keeps the queue in order. -/
theorem answer_inOrder (c : HostCommand) : QueueInOrder (p.answer c).1 := by
  cases c with
  | getIdent | ping => exact h
  | getStatus | getLinkErrors => exact inOrder_aside (by simp [Part.answer, answerStatus, answerLinkErrors]) h
  | softReset | clearSilence | clearCalc => exact answer_unlessSurveying h (inOrder_aside (by simp [okay]) h)
  | getLanes | getEquipment | getChannelFault => exact answer_unlessSurveying h h
  | commission =>
    refine answer_unlessSurveying h (answer_unlessFails h ?_)
    split
    · exact h
    · exact inOrder_aside (by simp [okay]) h
  | setPlant r =>
    exact answer_unlessSurveying h (answer_named h fun _ => answer_unlessFails h (inOrder_aside (by simp [okay]) h))
  | setMode m => exact answer_inOperating h (answer_named h fun _ => inOrder_aside (by simp [okay]) h)
  | setMask m => exact answer_inOperating h (answer_named h fun _ => inOrder_aside (by simp [okay]) h)
  | getLoading => exact answer_inOperating h (inOrder_aside (by simp) h)
  | setPoint pt src i lo hi =>
    exact answer_unlessSurveying h <| answer_named h fun _ => answer_named h fun _ => answer_unlessFails h <|
      answer_unlessFails h (inOrder_aside (by simp [okay]) h)
  | putMeasure n rest =>
    exact answer_unlessSurveying h <| answer_unlessFails h <| answer_named h fun _ => answer_unlessFails h <|
      answer_unlessFails h (inOrder_aside (by simp [okay]) h)
  | getPoints a n => exact answer_unlessSurveying h (answer_unlessFails h h)
  | getChannels a n => exact answer_unlessSurveying h (answer_unlessFails h h)
  | setFilter f form c => exact answerSetFilter_inOrder h f form c
  | takeOut f =>
    exact answer_onFilter h fun f _ => answer_unlessFails h
      (inOrder_aside (by simp [okay]) (expelEntry_inOrder h f .takenOut))
  | putIn f c =>
    exact answer_onFilter h fun _ _ => answer_named h fun _ => answer_unlessFails h <| answer_unlessFails h <|
      answer_unlessFails h (putIn_inOrder h _ _)
  | clearFault f => exact answer_onFilter h fun _ _ => answer_unlessFails h (inOrder_aside (by simp [okay]) h)
  | toStandby f => exact answerToStandby_inOrder h f
  | toService f =>
    exact answer_onFilter h fun _ _ => answer_unlessFails h (answer_unlessFails h (inOrder_aside (by simp [okay]) h))
  | filtersFirst f => exact answer_unlessSurveying h (answer_named h fun _ => answerChunk_inOrder h _)
  | filtersNext =>
    refine answer_unlessSurveying h ?_
    split
    · exact h
    · exact answerChunk_inOrder h _
  | requestWash f o => exact answerRequestWash_inOrder h f o
  | cancelRequest f => exact answerCancelRequest_inOrder h f
  | defer f m => exact answerDefer_inOrder h f m
  | getQueue k =>
    refine answer_unlessSurveying h (answer_unlessFails h ?_)
    dsimp only
    split
    · exact h
    · exact h
  | accept f => exact answerAccept_inOrder h f
  | decline f m => exact answerDecline_inOrder h f m
  | recipeBegin slot n =>
    exact answer_unlessSurveying h <| answer_named h fun _ => answer_unlessFails h (inOrder_aside (by simp [okay]) h)
  | recipePhases n rest =>
    refine answer_unlessSurveying h ?_
    split
    · exact inOrder_aside (by simp) h
    · exact h
  | recipeErase slot =>
    exact answer_unlessSurveying h <| answer_named h fun _ => answer_unlessFails h <| answer_unlessFails h
      (eraseSlot_inOrder h _)
  | getRecipeSignature slot => exact answer_unlessSurveying h (answer_named h fun _ => h)
  | getRecipe slot k =>
    refine answer_unlessSurveying h (answer_named h fun _ => answer_unlessFails h ?_)
    split
    · exact h
    · split
      · exact h
      · exact h
  | hold l =>
    exact answer_inOperating h <| answer_named h fun _ => answer_unlessFails h
      (inOrder_aside (by simp [Part.answerLane]) h)
  | resume l =>
    exact answer_inOperating h <| answer_named h fun _ => answer_unlessFails h
      (inOrder_aside (by simp [Part.answerLane]) h)
  | abort form t => exact answerAbort_inOrder h form t
  | equipmentCommand u a => exact answerEquipment_inOrder h u a
  | mapValve f r c s =>
    exact answer_unlessSurveying h <| answer_named h fun _ => answer_named h fun _ => answer_named h fun _ =>
      answer_named h fun _ => answer_unlessFails h <| answer_unlessFails h <| answer_unlessFails h <|
      answer_unlessFails h (inOrder_aside (by simp) h)
  | lockChannel c a =>
    exact answer_unlessSurveying h <| answer_named h fun _ => answer_named h fun _ => answer_unlessFails h <|
      answer_unlessFails h (inOrder_aside (by simp) h)
  | directSelect c =>
    exact answer_unlessSurveying h <| answer_named h fun _ => answer_unlessFails h (inOrder_aside (by simp) h)
  | directDrive a => exact answerDirectDrive_inOrder h a
  | clearChannel c =>
    exact answer_unlessSurveying h <| answer_named h fun _ => answer_unlessFails h <| answer_unlessFails h
      (inOrder_aside (by simp) h)

/-! ### Frames -/

theorem handle_inOrder (tag : Byte) (c : HostCommand) : QueueInOrder (p.handle tag c) := by
  rw [handle_part]
  exact inOrder_aside (by simp) (answer_inOrder h c)

theorem handleFrame_inOrder (f : Frame) : QueueInOrder (p.handleFrame f) := by
  unfold Part.handleFrame
  split
  · exact inOrder_aside (by simp [finish, refuse]) h
  · exact handle_inOrder h _ _

omit h in
theorem serve_inOrder (fuel : Nat) : ∀ {p : Part}, QueueInOrder p → QueueInOrder (p.serve fuel) := by
  induction fuel with
  | zero => exact fun h => h
  | succ fuel ih =>
    intro p h
    unfold Part.serve
    split
    · split
      · exact ih (handleFrame_inOrder (inOrder_aside (by simp) h) _)
      · exact h
    · exact h

theorem arriveFrame_inOrder (f : Frame) : QueueInOrder (p.arriveFrame f) := by
  unfold Part.arriveFrame
  split
  · exact serve_inOrder _ (inOrder_aside (by simp) h)
  · exact inOrder_aside (by simp) h

theorem submit_inOrder (tag : Byte) (c : HostCommand) : QueueInOrder (p.submit tag c) := by
  unfold Part.submit
  split
  · exact handle_inOrder (inOrder_aside (by simp) h) tag c
  · exact arriveFrame_inOrder h _

theorem takeCharacter_inOrder (c : Byte) : QueueInOrder (p.takeCharacter c) := by
  unfold Part.takeCharacter Part.collect Part.completeFrame
  split
  · split
    · exact inOrder_aside (by simp) h
    · exact h
  · split
    · exact inOrder_aside (by simp) h
    · split
      · dsimp only
        split
        · exact arriveFrame_inOrder (inOrder_aside (by simp) h) _
        · exact inOrder_aside (by simp) h
      · exact inOrder_aside (by simp) h

theorem abandonFrame_inOrder : QueueInOrder p.abandonFrame := by
  unfold Part.abandonFrame
  split
  · exact h
  · exact inOrder_aside (by simp) h

theorem frameSent_inOrder : QueueInOrder p.frameSent := by
  unfold Part.frameSent
  split
  · exact h
  · split
    · exact inOrder_aside (by simp) h
    · exact serve_inOrder _ (inOrder_of_queue rfl h)

end Entries

/-! ### Rows -/

theorem act_inOrder {g : Part → Part} {s t : State} (hg : ∀ p, QueueInOrder p → QueueInOrder (g p)) (h : act g s = .next t)
    (hp : QueueInOrder s.part) : QueueInOrder t.part := act_keeps (hg _) h hp

theorem takeEvent_inOrder {e : Event} {g : Part → Part} {s t : State} (hg : ∀ p, QueueInOrder p → QueueInOrder (g p))
    (h : takeEvent e g s = .next t) (hp : QueueInOrder s.part) : QueueInOrder t.part :=
  takeEvent_keeps (fun _ _ => inOrder_of_queue rfl) hg h hp

theorem takeStopNotice_inOrder {e : Event} {l : LaneId} {g : Part → Part} {s t : State}
    (hg : ∀ p, QueueInOrder p → QueueInOrder (g p)) (h : takeStopNotice l e g s = .next t) (hp : QueueInOrder s.part) :
    QueueInOrder t.part :=
  takeStopNotice_keeps (fun _ _ => inOrder_of_queue rfl) hg h hp

theorem act_aside {g : Part → Part} {s t : State} (h : act g s = .next t) (k : ∀ p, OnlyChanges besideQueue p (g p))
    (hp : QueueInOrder s.part) : QueueInOrder t.part := act_inOrder (fun p => inOrder_aside (k p)) h hp

theorem takeEvent_aside {e : Event} {g : Part → Part} {s t : State} (h : takeEvent e g s = .next t)
    (k : ∀ p, OnlyChanges besideQueue p (g p)) (hp : QueueInOrder s.part) : QueueInOrder t.part :=
  takeEvent_inOrder (fun p => inOrder_aside (k p)) h hp

/-- A row that carries a host command keeps the queue in order. -/
theorem command_inOrder {row : Instr} {x : Byte × HostCommand} {s t : State} (hrow : row.command = some x)
    (h : exec row s = .next t) (hp : QueueInOrder s.part) : QueueInOrder t.part := by
  rw [exec_command hrow] at h
  exact act_inOrder (fun p k => submit_inOrder k x.1 x.2) h hp

/-- Every row keeps the queue in order. -/
theorem exec_inOrder (row : Instr) (s t : State) (h : exec row s = .next t) (hp : QueueInOrder s.part) :
    QueueInOrder t.part := by
  cases row
  case powerOnReset | resetLineAsserted => rw [← next_inj h]; exact inOrder_empty rfl
  case resetLineReleased =>
    rw [← next_inj h]
    dsimp only
    split
    · exact inOrder_empty rfl
    · exact hp
  case softResetEffect =>
    refine act_inOrder (fun p k => ?_) h hp
    split
    · exact inOrder_empty rfl
    · exact k
  case supplyLoss => rw [← next_inj h]; exact inOrder_of_queue rfl hp
  case feedbackChange =>
    rw [← next_inj h]
    dsimp only
    split
    · exact inOrder_aside (by simp) hp
    · exact inOrder_aside (by simp) hp
  case galleryClockTick | analogScan | limitReadingChange | surveyEnd =>
    unfold exec at h
    exact act_aside h (fun p => by simp) hp
  case stopAsserted =>
    exact act_aside (g := Part.stopLineAsserted) h (fun p => by unfold Part.stopLineAsserted; split <;> simp) hp
  case stopReleased =>
    exact act_aside (g := Part.stopLineReleased) h (fun p => by unfold Part.stopLineReleased; split <;> simp) hp
  case stopInputFirstTaken level =>
    refine act_aside (g := fun p => p.stopFirstTaken level) h (fun p => ?_) hp
    unfold Part.stopFirstTaken
    split
    · cases level <;> simp
    · simp
  case pointSample id =>
    exact act_aside (g := fun p => p.takeOldestSample id) h (fun p => by unfold Part.takeOldestSample; split <;> simp) hp
  case admissionScan => exact act_inOrder (fun p k => runScan_inOrder k) h hp
  case receiveCharacter c => exact act_inOrder (fun p k => takeCharacter_inOrder k c) h hp
  case characterError | receiveGapTimeout => exact act_inOrder (fun p k => abandonFrame_inOrder k) h hp
  case transmitFrameEnd => exact act_inOrder (fun p k => frameSent_inOrder k) h hp
  case unknownKindCommand tag kind payload => exact act_inOrder (fun p k => arriveFrame_inOrder k ⟨kind, tag, payload⟩) h hp
  case urgencyEvaluation f => exact takeEvent_inOrder (fun p k => evaluate_inOrder k f) h hp
  case deferExpiry f => exact takeEvent_inOrder (fun p k => deferralEnds_inOrder k f) h hp
  case proposalExpiry => exact takeEvent_inOrder (fun p k => proposalExpires_inOrder k) h hp
  case holdLimitExpiry l => exact takeEvent_inOrder (fun p k => holdLimitFalls_inOrder k l) h hp
  case laneRoleArrival l r => exact takeEvent_inOrder (fun p k => laneArrival_inOrder k l r) h hp
  case laneChannelFault l r => exact takeEvent_inOrder (fun p k => laneFault_inOrder k l) h hp
  case laneRoleDrift l r => exact takeEvent_inOrder (fun p k => laneDrift_inOrder k l r) h hp
  case transferChannelFault f r | filterChannelFault f r =>
    exact takeEvent_inOrder (fun p k => tableFault_inOrder k f r) h hp
  case laneStopAsserted l =>
    exact takeStopNotice_inOrder (g := fun p => p.laneStopped l) (fun p k => inOrder_aside (by simp) k) h hp
  case laneStopReleased l => exact takeStopNotice_inOrder (fun p k => laneReleased_inOrder k l) h hp
  case runMinute | minuteTick | pointStale | schedulerMeasureChange | lanePointChange | overloadDeadline | spacingExpiry |
      laneSecond | phaseTimeEnd | ripenConfirmed | laneGrant | laneUnitProven | laneProveFailed | laneUnitTripped |
      laneUnitNotice | schedulerUnitNotice | transferRoleArrival | transferRoleDrift | transferStopReleased | travelExpiry |
      arbiterStopAsserted | proveExpiry | guardEnd | silenceExpiry =>
    unfold exec at h
    exact takeEvent_aside h (fun p => by simp) hp
  all_goals exact command_inOrder rfl h hp

end Sys2Proof.Laws

namespace Sys2Proof

open Machine Laws

/-- Settles O59: a step runs one row, and every row keeps the queue in order. -/
theorem stepsKeepTheQueueInOrder : Obligations.StepsKeepTheQueueInOrder := step_keeps exec_inOrder

/-- Settles O60: the link port stands at its reset values, every channel stands UNKNOWN, and the queue is empty. -/
theorem invariantsHoldAtReset : Obligations.InvariantsHoldAtReset := by
  have link : LinkInBounds State.reset.part := by simp [LinkInBounds, State.reset, Part.initial, LinkPort.initial]
  refine ⟨link, fun _ ch => ?_, inOrder_empty rfl⟩
  show ((Part.initial _ _).channel ch).state.inTravel = false
  rw [channel_initial]
  rfl

end Sys2Proof
end

section
/-! SUPPORT. The evaluation of a filter (R37 to R44) in the words of the statements: its fractions, flags and class, and what
becomes of the filter's entry; then the scheduler's timers. -/

namespace Sys2Proof.Laws

open Sys2Proof.Machine

/-! ### Fractions (R37 to R40) -/

/-- A fraction reads the value of a usable point, and is 0 for any other. -/
theorem fractionOf_value (x : Point) (g : Nat → Nat) : (fractionOf x g).value = (x.usableValue.map g).getD 0 := by
  unfold fractionOf Point.usableValue
  cases x.quality <;> cases x.value <;> rfl

theorem fractionOf_stale (x : Point) (g : Nat → Nat) : (fractionOf x g).stale = decide (x.quality = .stale) := by
  unfold fractionOf
  cases x.quality <;> cases x.value <;> rfl

theorem headlossFraction_value (c : FilterConfig) (x : Point) : (headlossFraction c x).value = headlossPart c x := by
  unfold headlossFraction headlossPart
  rw [fractionOf_value]
  cases x.usableValue <;> rfl

theorem turbidityFraction_value (r : FilterRecord) (x : Point) : (turbidityFraction r x).value = turbidityPart r x := by
  unfold turbidityFraction turbidityPart
  split
  · rfl
  · rw [fractionOf_value]
    cases x.usableValue <;> rfl

theorem turbidityFraction_stale (r : FilterRecord) (x : Point) :
    (turbidityFraction r x).stale = decide (r.cfg.arming ≤ r.armedMin ∧ x.quality = .stale) := by
  unfold turbidityFraction
  split
  · rw [eq_comm, decide_eq_false_iff_not]; omega
  · rw [fractionOf_stale, decide_eq_decide]
    exact ⟨fun h => ⟨by omega, h⟩, fun h => h.2⟩

theorem headlossFraction_stale (c : FilterConfig) (x : Point) : (headlossFraction c x).stale = decide (x.quality = .stale) :=
  fractionOf_stale _ _

/-- Clamping moves no fraction across the thresholds of Table 3-2. -/
theorem evaluationOf_cls (h t : Fraction) (k : Nat) : (evaluationOf h t k).cls = classOf h.value t.value k := by
  have clamp : ∀ n, 1000 ≤ min n urgencyMax ↔ 1000 ≤ n := fun n => by unfold urgencyMax; omega
  unfold evaluationOf classOf
  simp only [clamp]

/-- An evaluation in the words of R37 to R43. -/
theorem evaluation_eq (p : Part) (f : FilterId) (r : FilterRecord) :
    let h := headlossPart r.cfg (p.point (.hl f))
    let t := turbidityPart r (p.point (.tb f))
    let k := runtimePart r
    let u := max (min h 1999) (max (min t 1999) (min k 1999))
    p.evaluation f r =
      { u := u
        dominant := if min t 1999 = u then .turbidity else if min h 1999 = u then .headloss else .runtime
        cls := classOf h t k
        sat := decide (1999 < h ∨ 1999 < t ∨ 1999 < k)
        stale := decide ((p.point (.hl f)).quality = .stale ∨
          (r.cfg.arming ≤ r.armedMin ∧ (p.point (.tb f)).quality = .stale)) } := by
  dsimp only
  have cls := evaluationOf_cls (headlossFraction r.cfg (p.point (.hl f))) (turbidityFraction r (p.point (.tb f)))
    (runtimeFraction r)
  rw [← headlossFraction_value, ← turbidityFraction_value, show runtimePart r = runtimeFraction r from rfl, ← cls]
  simp only [Bool.decide_or, ← headlossFraction_stale r.cfg, ← turbidityFraction_stale]
  unfold Part.evaluation evaluationOf urgencyMax
  simp only [Bool.or_assoc]

/-! ### The filter's entry (R44, Table 3-3) -/

/-- An entry's U is written, whether or not it moves the entry. -/
theorem refreshed_entry {p : Part} {f : FilterId} {e : Entry} (h : p.entry f = some e) (u : Nat) :
    let q := if u = e.u then p else (p.putEntry { e with u := u }).trigger
    q.entry f = some { e with u := u } ∧ ∀ g, g ≠ f → q.entry g = p.entry g := by
  have hf := entry_filter h
  subst hf
  have kt : OnlyChanges [.scanDue] (p.putEntry { e with u := u }) (p.putEntry { e with u := u }).trigger := by simp
  dsimp only
  split
  · rename_i hu
    subst hu
    exact ⟨h, fun _ _ => rfl⟩
  · exact ⟨(entry_kept kt (by simp) _).trans (entry_putEntry p { e with u := u }),
      fun g hg => (entry_kept kt (by simp) g).trans (entry_putEntry_ne p hg)⟩

/-- Table 3-3: the entry is added, upgraded or refreshed, and no other entry changes. -/
theorem takeEvaluation_entry (p : Part) (f : FilterId) (u : Nat) (c : Option RequestClass) :
    (p.takeEvaluation f u c).entry f = entryEvaluated f p.clock u (p.entry f) c ∧
    ∀ g, g ≠ f → (p.takeEvaluation f u c).entry g = p.entry g := by
  unfold Part.takeEvaluation entryEvaluated
  cases h : p.entry f with
  | none =>
    cases c with
    | none => exact ⟨h, fun _ _ => rfl⟩
    | some c => exact ⟨addEntry_entry p f c .auto u none, fun g hg => addEntry_entry_ne p f c .auto u none hg⟩
  | some e =>
    cases c with
    | none => exact refreshed_entry h u
    | some c =>
      have hf := entry_filter h
      subst hf
      dsimp only
      split
      · generalize he : ({ e with u := u, cls := c, source := .auto } : Entry) = e'
        have hf' : e'.filter = e.filter := by rw [← he]
        have kr : OnlyChanges ([Piece.scanDue] ++ reporting) (p.putEntry e')
            ((p.putEntry e').reportRequest .upgraded e' (some e.cls) none).trigger := by simp
        exact ⟨(entry_kept kr (by simp) _).trans (by rw [← hf']; exact entry_putEntry p e'),
          fun g hg => (entry_kept kr (by simp) g).trans (entry_putEntry_ne p (by rw [hf']; exact hg))⟩
      · exact refreshed_entry h u

/-! ### One evaluation -/

/-- The record an evaluation leaves (R40, R41). -/
def FilterRecord.evaluated (r : FilterRecord) (e : Evaluation) : FilterRecord := { r with u := e.u, dominant := e.dominant }

/-- The part between the flags of an evaluation and its queue. -/
def indexedPart (p : Part) (f : FilterId) (r : FilterRecord) (e : Evaluation) : Part :=
  (p.setFlags ⟨e.sat, false, e.stale, false⟩ (.urgency f)).putFilter f (some (FilterRecord.evaluated r e))

theorem indexedPart_only (p : Part) (f : FilterId) (r : FilterRecord) (e : Evaluation) :
    OnlyChanges ([Piece.filters, .flags] ++ reporting) p (indexedPart p f r e) := by unfold indexedPart; simp

theorem evaluate_of {p : Part} {f : FilterId} {r : FilterRecord} (h : p.filter f = some r) (ho : r.state = .online)
    (hx : r.transfer = none) : p.evaluate f =
      (indexedPart p f r (p.evaluation f r)).takeEvaluation f (p.evaluation f r).u (p.evaluation f r).cls := by
  have hf : (p.setFlags ⟨(p.evaluation f r).sat, false, (p.evaluation f r).stale, false⟩ (.urgency f)).filter f = some r :=
    (filter_kept (p := p) (xs := [Piece.flags] ++ reporting) (by simp) (by simp) f).trans h
  unfold Part.evaluate
  rw [h]
  dsimp only
  rw [if_pos ⟨ho, hx⟩, modFilter_of hf]
  rfl

/-- R39 to R44: what an evaluation makes of its filter, of the flags and of the queue. -/
theorem evaluate_parts {p : Part} {f : FilterId} {r : FilterRecord} (h : p.filter f = some r) (ho : r.state = .online)
    (hx : r.transfer = none) :
    let e := p.evaluation f r
    let q := p.evaluate f
    OnlyChanges ([Piece.filters, .queue, .flags, .scanDue] ++ reporting) p q ∧
    q.filter f = some (FilterRecord.evaluated r e) ∧ OtherFiltersKept p q f ∧
    q.sched.flags = flagsWith p ⟨e.sat, false, e.stale, false⟩ ∧
    q.entry f = entryEvaluated f p.clock e.u (p.entry f) e.cls ∧ ∀ g, g ≠ f → q.entry g = p.entry g := by
  dsimp only
  rw [evaluate_of h ho hx]
  generalize p.evaluation f r = e
  have ki := indexedPart_only p f r e
  have kt : OnlyChanges ([Piece.queue, .scanDue] ++ reporting) (indexedPart p f r e)
      ((indexedPart p f r e).takeEvaluation f e.u e.cls) := by simp
  obtain ⟨entry, others⟩ := takeEvaluation_entry (indexedPart p f r e) f e.u e.cls
  have hclock : (indexedPart p f r e).clock = p.clock := ki .clock (by simp)
  rw [hclock, entry_kept ki (by simp)] at entry
  refine ⟨onlyChanges_trans (onlyChanges_mono ki (by simp)) (onlyChanges_mono kt (by simp)),
    (filter_kept kt (by simp) f).trans (filter_putFilter _ f _), fun g hg => (filter_kept kt (by simp) g).trans ?_,
    (kt .flags (by simp)).trans (setFlags_flags _ _ _), entry, fun g hg => (others g hg).trans (entry_kept ki (by simp) g)⟩
  exact (filter_putFilter_ne _ hg _).trans (filter_kept (p := p) (xs := [Piece.flags] ++ reporting) (by simp) (by simp) g)

/-! ### Timers of the scheduler (R49, R85) -/

/-- R85 EXPIRED: the entry deferred, then the proposal withdrawn. -/
theorem proposalExpires_of {p : Part} {pr : Proposal} {e : Entry} (hp : p.sched.proposal = some pr)
    (he : p.entry pr.filter = some e) :
    p.proposalExpires = (p.setDefer e (some (secondsOn p.clock p.plant.lifetime))).withdraw .expired
      (some (secondsOn p.clock p.plant.lifetime)) := by
  unfold Part.proposalExpires
  rw [hp]
  dsimp only
  rw [he]

/-- R49: a deferral reached is cleared. -/
theorem deferralEnds_of {p : Part} {f : FilterId} {e : Entry} {d : Nat} (he : p.entry f = some e)
    (hd : e.deferUntil = some d) (h : d ≤ p.clock) : p.deferralEnds f = p.setDefer e none := by
  unfold Part.deferralEnds
  rw [he]
  exact if_pos (by simp [hd, h])

end Sys2Proof.Laws

namespace Sys2Proof

open Machine Laws

/-- Settles O7: an evaluation of the part that has taken the event, its fractions and class read as the rules write them. -/
theorem urgencyEvaluationFollowsTheFractions : Obligations.UrgencyEvaluationFollowsTheFractions := by
  intro s f r ho hr hon hx
  obtain ⟨only, now, others, flags, entry, entries⟩ :=
    evaluate_parts (p := taking s.part (.urgency f)) (f := f) (r := r) hr hon hx
  refine ⟨_, (exec_urgencyEvaluation f s).trans (takeEvent_outstanding _ ho), rfl,
    onlyChanges_trans (by simp) (onlyChanges_mono only (by simp)), ?_⟩
  rw [evaluation_eq] at now flags entry
  refine ⟨now, others, flags.trans ?_, entry, entries, only .events (by simp)⟩
  unfold flagsWith
  simp only [Bool.or_false]
  rfl

/-- Settles O12: each timer's row writes the deferral; the proposal's also withdraws it. -/
theorem deferralsAndProposalsExpire : Obligations.DeferralsAndProposalsExpire := by
  intro s e ht he
  refine ⟨fun d ho hd hle => ?_, fun x ho hp => ?_⟩
  · have ends : (taking s.part (.deferExpiry e.filter)).deferralEnds e.filter =
        (taking s.part (.deferExpiry e.filter)).setDefer e none := deferralEnds_of he hd hle
    refine ⟨_, (exec_deferExpiry e.filter s).trans (takeEvent_outstanding _ ho), rfl, by simp, ?_⟩
    dsimp only
    rw [ends]
    exact ⟨setDefer_entry _ e none, fun g hg => setDefer_entry_ne _ e none hg,
      setDefer_due _ e none (operating_of ht) (by rw [hd]; simp)⟩
  · generalize hq : (taking s.part .proposalExpiry).setDefer e
      (some (secondsOn s.part.clock s.part.plant.lifetime)) = q
    have expires : (taking s.part .proposalExpiry).proposalExpires =
        q.withdraw .expired (some (secondsOn s.part.clock s.part.plant.lifetime)) := by
      rw [← hq]; exact proposalExpires_of hp he
    have kd : OnlyChanges [.queue, .scanDue, .events] s.part q := by rw [← hq]; simp
    obtain ⟨gone, told, due⟩ := withdraw_of (p := q) ((kd .proposal (by simp)).trans hp) .expired
      (some (secondsOn s.part.clock s.part.plant.lifetime))
    have kw : OnlyChanges ([Piece.proposal, .scanDue, .events] ++ reporting) q
      (q.withdraw .expired (some (secondsOn s.part.clock s.part.plant.lifetime))) := by simp
    refine ⟨_, (exec_proposalExpiry s).trans (takeEvent_outstanding _ ho), rfl, by simp, ?_⟩
    dsimp only
    rw [expires]
    refine ⟨gone, (entry_kept kw (by simp) _).trans ?_, fun g hg => (entry_kept kw (by simp) g).trans ?_,
      due ((operating_kept kd (by simp)).trans (operating_of ht)), ?_⟩
    · rw [← hq]; exact setDefer_entry _ e _
    · rw [← hq]; exact setDefer_entry_ne _ e _ hg
    · unfold Reports
      rw [told, show q.clock = s.part.clock from kd .clock (by simp), ← hq, setDefer_link]
      rfl

end Sys2Proof
end

section
/-! SUPPORT. The commands of the scheduler (R50 to R54, R60, R61, R81, R87, R191): their checks, and what each does where it is
accepted. -/

namespace Sys2Proof.Laws

open Sys2Proof.Machine

/-! ### Checks by top state -/

theorem unlessSurveying_busy {p : Part} (h : p.startUp.top = .surveying) (k : Answer) : unlessSurveying p k = refuse p .busy := by
  unfold unlessSurveying; rw [h]

theorem inOperating_busy {p : Part} (h : p.startUp.top = .surveying) (k : Answer) : inOperating p k = refuse p .busy := by
  unfold inOperating; rw [h]

theorem inOperating_notConfigured {p : Part} (h : p.startUp.top = .configuring) (k : Answer) :
    inOperating p k = refuse p .notConfigured := by
  unfold inOperating; rw [h]

/-! ### Operand forms -/

theorem classSetOf_none {b : Byte} (h : 64 ≤ b.toNat) : classSetOf b = none := by
  unfold classSetOf; simp; omega

theorem classSetOf_some {b : Byte} (h : b.toNat < 64) : classSetOf b = some (b.setWidth 6) := by
  unfold classSetOf; simp [h]

/-- The six classes lie within the mask's six bits. -/
theorem hasClass_setWidth (b : Byte) (c : RequestClass) : hasClass (b.setWidth 6) c = b.getLsbD c.rank := by
  have h : c.rank < 6 := by cases c <;> decide
  unfold hasClass
  simp [h]

/-! ### A proposal withdrawn, if one is outstanding (R85) -/

/-- The report of a withdrawal. -/
def withdrawal (p : Part) (c : WithdrawalCause) (d : Option Nat) : List ReportBody :=
  match p.sched.proposal with
  | some pr => [.proposalWithdrawn pr.filter c d]
  | none => []

theorem withdraw_proposal (p : Part) (c : WithdrawalCause) (d : Option Nat) : (p.withdraw c d).sched.proposal = none := by
  cases h : p.sched.proposal with
  | none => rw [withdraw_none h]; exact h
  | some pr => obtain ⟨gone, -, -⟩ := withdraw_of h c d; exact gone

theorem withdraw_link (p : Part) (c : WithdrawalCause) (d : Option Nat) :
    (p.withdraw c d).link = afterReports p.clock p.link (withdrawal p c d) := by
  unfold withdrawal
  cases h : p.sched.proposal with
  | none => rw [withdraw_none h]; rfl
  | some pr => obtain ⟨-, told, -⟩ := withdraw_of h c d; exact told

/-! ### SET_MODE (R60, R61) -/

/-- The mode written. -/
def withMode (p : Part) (m : PlantMode) : Part := { p with sched := { p.sched with mode := m } }

theorem withMode_only (p : Part) (m : PlantMode) : OnlyChanges [.mode] p (withMode p m) := by unfold withMode; simp

theorem changeMode_same (p : Part) : p.changeMode p.sched.mode = p := by unfold Part.changeMode; exact if_pos rfl

theorem changeMode_of {p : Part} {m : PlantMode} (h : m ≠ p.sched.mode) :
    p.changeMode m = ((withMode p m).withdraw .mode none).trigger := if_neg h

/-- R61, R85: another mode withdraws a proposal and triggers a scan. -/
theorem changeMode_other {p : Part} {m : PlantMode} (h : m ≠ p.sched.mode) (ho : p.operating = true) :
    Reports p (p.changeMode m) (modeReports p m) ∧ (p.changeMode m).sched.mode = m ∧
    (p.changeMode m).sched.proposal = none ∧ (p.changeMode m).sched.scanDue = true := by
  rw [changeMode_of h]
  have kw : OnlyChanges ([Piece.proposal, .scanDue, .events] ++ reporting) (withMode p m)
      ((withMode p m).withdraw .mode none).trigger := by simp
  have kt : OnlyChanges [.scanDue] ((withMode p m).withdraw .mode none) ((withMode p m).withdraw .mode none).trigger := by simp
  have km := withMode_only p m
  refine ⟨?_, kw .mode (by simp), (kt .proposal (by simp)).trans (withdraw_proposal _ _ _), trigger_due _ ?_⟩
  · unfold Reports modeReports
    rw [trigger_link, withdraw_link, if_neg h]
    rfl
  · rw [operating_kept (p := withMode p m) (xs := [Piece.proposal, .scanDue, .events] ++ reporting) (by simp) (by simp),
      operating_kept km (by simp)]
    exact ho

/-! ### SET_MASK (R51) -/

/-- The class mask written. -/
def withMask (p : Part) (m : BitVec 6) : Part := { p with sched := { p.sched with mask := m } }

theorem withMask_only (p : Part) (m : BitVec 6) : OnlyChanges [.mask] p (withMask p m) := by unfold withMask; simp

/-- The proposal whose entry's class the mask holds (Table 4-3, MASK). -/
def maskedProposal (p : Part) (m : BitVec 6) : Option Proposal :=
  p.sched.proposal.filter fun pr => (p.entry pr.filter).any fun e => hasClass m e.cls

/-- Withdrawn if its class is masked now. -/
def withdrawMasked (p : Part) (m : BitVec 6) : Part :=
  if (maskedProposal p m).isSome then (withMask p m).withdraw .mask none else withMask p m

theorem changeMask_same (p : Part) : p.changeMask p.sched.mask = p := by unfold Part.changeMask; exact if_pos rfl

theorem changeMask_of {p : Part} {m : BitVec 6} (h : m ≠ p.sched.mask) : p.changeMask m = (withdrawMasked p m).trigger := by
  unfold Part.changeMask withdrawMasked maskedProposal
  rw [if_neg h]
  cases hp : p.sched.proposal with
  | none => simp [hp, withMask]
  | some pr =>
    have he : (withMask p m).entry pr.filter = p.entry pr.filter := entry_kept (withMask_only p m) (by simp) _
    simp only [hp, Option.filter_some, ← he]
    split <;> split <;> simp_all [withMask]

/-- R51, R85: another mask withdraws a proposal that it masks, and triggers a scan. -/
theorem changeMask_other {p : Part} {m : BitVec 6} (h : m ≠ p.sched.mask) (ho : p.operating = true) :
    Reports p (p.changeMask m) ((maskedProposal p m).toList.map fun pr => .proposalWithdrawn pr.filter .mask none) ∧
    (p.changeMask m).sched.mask = m ∧ (p.changeMask m).sched.scanDue = true ∧
    (p.changeMask m).sched.proposal = if (maskedProposal p m).isSome then none else p.sched.proposal := by
  have kd : OnlyChanges ([Piece.proposal, .scanDue, .events] ++ reporting) (withMask p m) (withdrawMasked p m) := by
    unfold withdrawMasked; split <;> simp
  have kt : OnlyChanges [.scanDue] (withdrawMasked p m) (withdrawMasked p m).trigger := by simp
  have km := withMask_only p m
  rw [changeMask_of h]
  refine ⟨?_, (kt .mask (by simp)).trans (kd .mask (by simp)), trigger_due _ ?_, (kt .proposal (by simp)).trans ?_⟩
  · unfold Reports withdrawMasked
    rw [trigger_link]
    cases hm : maskedProposal p m with
    | none => rfl
    | some pr =>
      have hp : (withMask p m).sched.proposal = some pr := by
        obtain ⟨hp, -⟩ := Option.filter_eq_some_iff.1 hm
        exact hp
      exact (withdraw_of hp _ _).2.1
  · exact (operating_kept kd (by simp)).trans ((operating_kept km (by simp)).trans ho)
  · unfold withdrawMasked
    split
    · exact withdraw_proposal _ _ _
    · exact km .proposal (by simp)

/-! ### GET_LOADING (R81) -/

theorem onlineFilters_length (p : Part) : p.onlineFilters.length = filtersIn p .online := by
  unfold Part.onlineFilters filtersIn allFilters
  induction List.finRange 16 with
  | nil => rfl
  | cons f fs ih =>
    cases h : p.filter f with
    | none => simpa [h] using ih
    | some r => by_cases hs : r.state = .online <;> simpa [h, hs] using ih

theorem flowUsed_design (p : Part) : p.flowUsed.2 = p.front.flow.usableValue.isNone := by
  unfold Part.flowUsed; cases p.front.flow.usableValue <;> rfl

theorem currentLoading_accepted (p : Part) : currentLoading p.frameAccepted = currentLoading p :=
  currentLoading_kept (accepted_only p) (by simp) (by simp) (by simp)

theorem overloadAt_accepted (p : Part) (v : Nat) : overloadAt p.frameAccepted v = overloadAt p v :=
  overloadAt_kept (accepted_only p) (by simp) (by simp) (by simp) v

theorem flagsWith_accepted (p : Part) (met : CalcFlags) : flagsWith p.frameAccepted met = flagsWith p met := by
  unfold flagsWith; rw [accepted_sched]

theorem flowUsed_accepted (p : Part) : p.frameAccepted.flowUsed = p.flowUsed := by
  unfold Part.flowUsed; rw [accepted_front, accepted_plant]

theorem filtersIn_accepted (p : Part) (x : FilterState) : filtersIn p.frameAccepted x = filtersIn p x := by
  unfold filtersIn; simp only [accepted_filter]

/-- R71, R79, R88: what the loading computed in OPERATING leaves, and what it reports. -/
theorem computeLoading_parts {p : Part} (h : p.operating = true) :
    Reports p p.computeLoading (calcReports p (loadingFlags p p.serviceArea) (.loading none)) ∧
    p.computeLoading.sched.flags = flagsWith p (loadingFlags p p.serviceArea) ∧
    p.computeLoading.sched.overload = overloadAt p (currentLoading p) := by
  refine (fun hover => ?_) (computeLoading_overload h)
  have hflags : p.loadingNow.2 = loadingFlags p p.serviceArea := loadingOver_snd p p.serviceArea
  rw [computeLoading_of h, hflags] at hover ⊢
  have ko : OnlyChanges [.overload, .events] (p.setFlags (loadingFlags p p.serviceArea) (.loading none))
      ((p.setFlags (loadingFlags p p.serviceArea) (.loading none)).overloadAfter p.loadingNow.1) := by simp
  exact ⟨(overloadAfter_link _ _).trans (setFlags_link _ _ _), (ko .flags (by simp)).trans (setFlags_flags _ _ _), hover⟩

/-- What GET_LOADING shows once the loading has been computed. -/
theorem loadingView_computed {p : Part} (h : p.operating = true) : p.computeLoading.loadingView =
    { flow := p.flowUsed.1, isDesign := p.front.flow.usableValue.isNone, area := p.serviceArea
      online := filtersIn p .online, loading := currentLoading p, vmax := p.plant.vmax
      overload := overloadAt p (currentLoading p), marker := p.table.marker } := by
  have k : OnlyChanges ([Piece.flags, .overload, .events] ++ reporting) p p.computeLoading := by simp
  obtain ⟨-, -, hover⟩ := computeLoading_parts h
  have hplant : p.computeLoading.plant = p.plant := k .plant (by simp)
  have hmarker : p.computeLoading.table.marker = p.table.marker := k .marker (by simp)
  have hfilter : p.computeLoading.filter = p.filter := funext (filter_kept k (by simp))
  have hflow : p.computeLoading.flowUsed = p.flowUsed := by
    obtain ⟨-, -, hf, -, -⟩ := k .points (by simp)
    unfold Part.flowUsed; rw [hf, hplant]
  have honline : filtersIn p.computeLoading .online = filtersIn p .online := by unfold filtersIn; rw [hfilter]
  unfold Part.loadingView
  rw [hflow, hplant, hmarker, hover, serviceArea_kept k (by simp), onlineFilters_length, honline, loadingNow_eq,
    currentLoading_kept k (by simp) (by simp) (by simp), flowUsed_design]

end Sys2Proof.Laws

namespace Sys2Proof

open Machine Laws

section Flags
variable {s : State} (hc : CanHandle s) (tag b : Byte)
include hc

theorem modeMaskAndFlags_surveying (ht : s.part.startUp.top = .surveying) :
    Refused s (.clearSilence tag) .busy ∧ Refused s (.clearCalc tag) .busy ∧ Refused s (.setMode tag b) .busy ∧
    Refused s (.setMask tag b) .busy ∧ Refused s (.getLoading tag) .busy := by
  have ht' : s.part.frameAccepted.startUp.top = .surveying := (frameAccepted_top _).trans ht
  exact ⟨reads_of hc rfl (unlessSurveying_busy ht' _), reads_of hc rfl (unlessSurveying_busy ht' _),
    reads_of hc rfl (inOperating_busy ht' _), reads_of hc rfl (inOperating_busy ht' _),
    reads_of hc rfl (inOperating_busy ht' _)⟩

theorem modeMaskAndFlags_configuring (ht : s.part.startUp.top = .configuring) :
    Refused s (.setMode tag b) .notConfigured ∧ Refused s (.setMask tag b) .notConfigured ∧
    Refused s (.getLoading tag) .notConfigured := by
  have ht' : s.part.frameAccepted.startUp.top = .configuring := (frameAccepted_top _).trans ht
  exact ⟨reads_of hc rfl (inOperating_notConfigured ht' _), reads_of hc rfl (inOperating_notConfigured ht' _),
    reads_of hc rfl (inOperating_notConfigured ht' _)⟩

theorem clearSilence_done (ht : s.part.startUp.top ≠ .surveying) :
    Done s (.clearSilence tag) [.silent] [] .ok .none fun q => q.startUp.silent = false :=
  have only : ∀ p : Part, OnlyChanges ([Piece.silent] ++ reporting) p { p with startUp := { p.startUp with silent := false } } :=
    fun p => by simp
  done_of hc rfl (unlessSurveying_of (by rwa [frameAccepted_top]) _) (only _) (frameAccepted_link _)
    fun _ k => k .silent (by simp)

theorem clearCalc_done (ht : s.part.startUp.top ≠ .surveying) :
    Done s (.clearCalc tag) [.flags] [] .ok .none fun q => q.sched.flags = ⟨false, false, false, false⟩ :=
  have only : ∀ p : Part, OnlyChanges ([Piece.flags] ++ reporting) p { p with sched := { p.sched with flags := CalcFlags.clear } } :=
    fun p => by simp
  done_of hc rfl (unlessSurveying_of (by rwa [frameAccepted_top]) _) (only _) (frameAccepted_link _)
    fun _ k => k .flags (by simp)

end Flags

section Operating
variable {s : State} (hc : CanHandle s) (ht : s.part.startUp.top = .operating) (tag : Byte) {b : Byte}
include hc ht

theorem setMode_refused (h : modeOf b = none) : Refused s (.setMode tag b) .range :=
  reads_of hc rfl ((inOperating_of ((frameAccepted_top _).trans ht) _).trans (named_none h))

theorem setMode_same {m : PlantMode} (h : modeOf b = some m) (hm : m = s.part.sched.mode) :
    Reads s (.setMode tag b) .ok .none := by
  refine reads_of hc rfl ((inOperating_of ((frameAccepted_top _).trans ht) _).trans ((named_some h).trans ?_))
  rw [hm, ← accepted_sched, changeMode_same]
  rfl

theorem setMode_other {m : PlantMode} (h : modeOf b = some m) (hm : m ≠ s.part.sched.mode) :
    Done s (.setMode tag b) [.mode, .proposal, .scanDue, .events] (modeReports s.part m) .ok .none fun q =>
      q.sched.mode = m ∧ q.sched.proposal = none ∧ q.sched.scanDue = true := by
  obtain ⟨told, mode, proposal, due⟩ := changeMode_other (p := s.part.frameAccepted) (m := m)
    (by rw [accepted_sched]; exact hm) (accepted_operating ht)
  unfold modeReports at told
  rw [accepted_sched] at told
  exact done_reports hc rfl ((inOperating_of ((frameAccepted_top _).trans ht) _).trans (named_some h)) (by simp) told
    fun _ k => ⟨(k .mode (by simp)).trans mode, (k .proposal (by simp)).trans proposal, (k .scanDue (by simp)).trans due⟩

theorem setMask_refused (h : 64 ≤ b.toNat) : Refused s (.setMask tag b) .range :=
  reads_of hc rfl ((inOperating_of ((frameAccepted_top _).trans ht) _).trans (named_none (classSetOf_none h)))

theorem setMask_same (h : b.toNat < 64) (hm : b.setWidth 6 = s.part.sched.mask) : Reads s (.setMask tag b) .ok .none := by
  refine reads_of hc rfl ((inOperating_of ((frameAccepted_top _).trans ht) _).trans ((named_some (classSetOf_some h)).trans ?_))
  rw [hm, ← accepted_sched, changeMask_same]
  rfl

theorem setMask_other (h : b.toNat < 64) (hm : b.setWidth 6 ≠ s.part.sched.mask) :
    let held := s.part.sched.proposal.filter fun pr => (s.part.entry pr.filter).any fun e => b.getLsbD e.cls.rank
    Done s (.setMask tag b) [.mask, .proposal, .scanDue, .events]
      (held.toList.map fun pr => .proposalWithdrawn pr.filter .mask none) .ok .none fun q =>
        q.sched.mask = b.setWidth 6 ∧ q.sched.scanDue = true ∧
        q.sched.proposal = if held.isSome then none else s.part.sched.proposal := by
  obtain ⟨told, mask, due, proposal⟩ := changeMask_other (p := s.part.frameAccepted) (m := b.setWidth 6)
    (by rw [accepted_sched]; exact hm) (accepted_operating ht)
  have held : maskedProposal s.part.frameAccepted (b.setWidth 6) =
      s.part.sched.proposal.filter fun pr => (s.part.entry pr.filter).any fun e => b.getLsbD e.cls.rank := by
    unfold maskedProposal
    simp only [accepted_sched, accepted_entry, hasClass_setWidth]
  rw [held] at told proposal
  rw [accepted_sched] at proposal
  exact done_reports hc rfl ((inOperating_of ((frameAccepted_top _).trans ht) _).trans (named_some (classSetOf_some h)))
    (by simp) told
    fun _ k => ⟨(k .mask (by simp)).trans mask, (k .scanDue (by simp)).trans due, (k .proposal (by simp)).trans proposal⟩

theorem getLoading_done :
    Done s (.getLoading tag) [.flags, .overload, .events]
      (calcReports s.part (loadingFlags s.part s.part.serviceArea) (.loading none)) .ok
      (.loading
        { flow := s.part.flowUsed.1, isDesign := s.part.front.flow.usableValue.isNone, area := s.part.serviceArea
          online := filtersIn s.part .online, loading := currentLoading s.part, vmax := s.part.plant.vmax
          overload := overloadAt s.part (currentLoading s.part), marker := s.part.table.marker }) fun q =>
        q.sched.flags = flagsWith s.part (loadingFlags s.part s.part.serviceArea) ∧
        q.sched.overload = overloadAt s.part (currentLoading s.part) := by
  have ho := accepted_operating ht
  obtain ⟨told, flags, overload⟩ := computeLoading_parts ho
  have view := loadingView_computed ho
  rw [calcReports_accepted, accepted_serviceArea, loadingFlags_accepted] at told
  rw [flagsWith_accepted, accepted_serviceArea, loadingFlags_accepted] at flags
  rw [currentLoading_accepted, overloadAt_accepted] at overload
  rw [flowUsed_accepted, accepted_front, accepted_serviceArea, filtersIn_accepted, currentLoading_accepted,
    overloadAt_accepted, accepted_plant, accepted_marker] at view
  have answer : s.part.frameAccepted.answer .getLoading =
      (s.part.frameAccepted.computeLoading, .ok, .loading s.part.frameAccepted.computeLoading.loadingView) :=
    inOperating_of ((frameAccepted_top _).trans ht) _
  rw [view] at answer
  exact done_reports hc rfl answer (by simp) told
    fun _ k => ⟨(k .flags (by simp)).trans flags, (k .overload (by simp)).trans overload⟩

end Operating

/-- Settles O42: each command's checks by the top state and its operand, then what it does in OPERATING. -/
theorem modeMaskAndFlagCommands : Obligations.ModeMaskAndFlagCommands := by
  intro s tag b hc
  exact ⟨modeMaskAndFlags_surveying hc tag b, modeMaskAndFlags_configuring hc tag b,
    fun ht => ⟨clearSilence_done hc tag ht, clearCalc_done hc tag ht⟩,
    fun ht => ⟨setMode_refused hc ht tag, fun m => setMode_same hc ht tag, fun m => setMode_other hc ht tag,
      setMask_refused hc ht tag, setMask_same hc ht tag, setMask_other hc ht tag, getLoading_done hc ht tag⟩⟩

end Sys2Proof
end

section
/-! SUPPORT. REQUEST_WASH, CANCEL_REQUEST and DEFER (R50, R53, R54): the operand forms, and the filter's entry after each. -/

namespace Sys2Proof.Laws

open Sys2Proof.Machine

/-! ### The override field (R53) -/

theorem overrideOf_eq_some {p : Part} {o : Byte} {x : Option SlotId} : p.overrideOf o = some x ↔ OverrideNamed p o x := by
  unfold Part.overrideOf OverrideNamed
  split
  · rename_i h
    have far : ∀ slot : SlotId, o.toNat ≠ slot.val := fun slot e => by
      have hs := slot.isLt
      rw [← e, h] at hs
      exact absurd hs (by decide)
    constructor
    · rintro ⟨⟩
      exact .inl ⟨h, rfl⟩
    · rintro (⟨-, rfl⟩ | ⟨slot, hs, -⟩)
      · rfl
      · exact absurd hs (far slot)
  · rename_i h
    cases hs : slotOf o with
    | none =>
      refine ⟨fun e => (by cases e), ?_⟩
      rintro (⟨h', -⟩ | ⟨slot, hs', -⟩)
      · exact absurd h' h
      · rw [slotOf_eq_some.2 hs'] at hs
        cases hs
    | some slot =>
      dsimp only
      constructor
      · intro e
        obtain ⟨hi, e⟩ := Option.ite_none_right_eq_some.1 e
        exact .inr ⟨slot, slotOf_eq_some.1 hs, Option.isSome_iff_ne_none.1 hi, (Option.some.inj e).symm⟩
      · rintro (⟨h', -⟩ | ⟨slot', hs', hi, rfl⟩)
        · exact absurd h' h
        · rw [slotOf_eq_some.2 hs', Option.some.injEq] at hs
          rw [← hs, if_pos (Option.isSome_iff_ne_none.2 hi)]

theorem overrideNamed_accepted (p : Part) (o : Byte) (x : Option SlotId) :
    OverrideNamed p.frameAccepted o x ↔ OverrideNamed p o x := by
  unfold OverrideNamed; simp only [accepted_recipe]

theorem overrideOf_eq_none {p : Part} {o : Byte} (h : ∀ x, ¬ OverrideNamed p o x) : p.overrideOf o = none :=
  Option.eq_none_iff_forall_ne_some.2 fun x hx => h x (overrideOf_eq_some.1 hx)

theorem deferTime_accepted (p : Part) (minutes : Nat) : p.frameAccepted.deferTime minutes = deferralOf p minutes := by
  unfold Part.deferTime deferralOf secondsOn
  rw [frameAccepted_clock]
  rfl

/-! ### An entry added -/

theorem addEntry_due {p : Part} (h : p.operating = true) (f : FilterId) (c : RequestClass) (src : RequestSource) (u : Nat)
    (o : Option SlotId) : (p.addEntry f c src u o).sched.scanDue = true := by
  unfold Part.addEntry
  exact trigger_due _ ((operating_kept (p := p) (xs := [Piece.queue] ++ reporting) (by simp) (by simp)).trans h)

/-! ### An entry upgraded to MANUAL (R53, Table 4-3) -/

/-- The entry after its upgrade. -/
def asManual (e : Entry) (o : Option SlotId) : Entry :=
  { e with cls := .manual, source := .host, override := o, deferUntil := none }

/-- The part when the upgrade has been reported and a proposal for the filter still stands. -/
def upgraded (p : Part) (e : Entry) (o : Option SlotId) : Part :=
  ((p.cancel (.deferExpiry e.filter)).putEntry (asManual e o)).reportRequest .upgraded (asManual e o) (some e.cls) none

theorem upgradeManual_of (p : Part) (e : Entry) (o : Option SlotId) :
    p.upgradeManual e o = ((upgraded p e o).withdrawFor e.filter .manual).trigger := rfl

theorem upgraded_only (p : Part) (e : Entry) (o : Option SlotId) :
    OnlyChanges ([Piece.queue, .events] ++ reporting) p (upgraded p e o) := by unfold upgraded; simp

theorem upgraded_entry (p : Part) (e : Entry) (o : Option SlotId) :
    (upgraded p e o).entry e.filter = some (asManual e o) ∧ ∀ g, g ≠ e.filter → (upgraded p e o).entry g = p.entry g := by
  have kr : OnlyChanges reporting ((p.cancel (.deferExpiry e.filter)).putEntry (asManual e o)) (upgraded p e o) := by
    unfold upgraded; simp
  exact ⟨(entry_kept kr (by simp) _).trans (entry_putEntry _ (asManual e o)),
    fun g hg => (entry_kept kr (by simp) g).trans (entry_putEntry_ne _ hg)⟩

theorem upgraded_link (p : Part) (e : Entry) (o : Option SlotId) :
    (upgraded p e o).link = afterReports p.clock p.link [.request .upgraded e.filter .manual (some e.cls) .host e.u none] := rfl

theorem upgraded_proposal (p : Part) (e : Entry) (o : Option SlotId) :
    (upgraded p e o).sched.proposal = p.sched.proposal := upgraded_only p e o .proposal (by simp)

/-- R53, Table 3-6: the entry is MANUAL, a proposal for its filter is gone, and a scan is due. -/
theorem upgradeManual_parts {p : Part} (ho : p.operating = true) (e : Entry) (o : Option SlotId) {withdrawn : List ReportBody}
    (hw : ProposalFor p e.filter → withdrawn = [.proposalWithdrawn e.filter .manual none])
    (hn : ¬ ProposalFor p e.filter → withdrawn = []) :
    let q := p.upgradeManual e o
    Reports p q (.request .upgraded e.filter .manual (some e.cls) .host e.u none :: withdrawn) ∧
    q.entry e.filter = some (asManual e o) ∧ QueueChanged p q e.filter ∧
    (ProposalFor p e.filter → q.sched.proposal = none) ∧
    (¬ ProposalFor p e.filter → q.sched.proposal = p.sched.proposal) := by
  dsimp only
  rw [upgradeManual_of]
  have ku := upgraded_only p e o
  have hclock : (upgraded p e o).clock = p.clock := ku .clock (by simp)
  have kw : OnlyChanges ([Piece.proposal, .scanDue, .events] ++ reporting) (upgraded p e o)
      ((upgraded p e o).withdrawFor e.filter .manual) := by simp
  have kt : OnlyChanges [.scanDue] ((upgraded p e o).withdrawFor e.filter .manual)
      ((upgraded p e o).withdrawFor e.filter .manual).trigger := by simp
  obtain ⟨entry, others⟩ := upgraded_entry p e o
  have told : ((upgraded p e o).withdrawFor e.filter .manual).link = afterReports p.clock (upgraded p e o).link withdrawn ∧
      (ProposalFor p e.filter → ((upgraded p e o).withdrawFor e.filter .manual).sched.proposal = none) ∧
      (¬ ProposalFor p e.filter → ((upgraded p e o).withdrawFor e.filter .manual).sched.proposal = p.sched.proposal) := by
    by_cases h : ProposalFor p e.filter
    · rw [hw h]
      obtain ⟨pr, hpr, hf⟩ := h
      have hpr' := (upgraded_proposal p e o).trans hpr
      rw [← hf, withdrawFor_of hpr', ← hclock]
      obtain ⟨gone, link, -⟩ := withdraw_of hpr' .manual none
      exact ⟨link, fun _ => gone, fun hno => absurd ⟨pr, hpr, rfl⟩ hno⟩
    · rw [hn h, withdrawFor_idle fun pr hpr hf => h ⟨pr, (upgraded_proposal p e o).symm.trans hpr, hf⟩]
      exact ⟨rfl, fun hp => absurd hp h, fun _ => upgraded_proposal p e o⟩
  obtain ⟨link, gone, stays⟩ := told
  refine ⟨?_, (entry_kept kt (by simp) _).trans ((entry_kept kw (by simp) _).trans entry), ⟨fun g hg => ?_, trigger_due _ ?_⟩,
    fun hp => (kt .proposal (by simp)).trans (gone hp), fun hp => (kt .proposal (by simp)).trans (stays hp)⟩
  · unfold Reports
    rw [trigger_link, link, upgraded_link]
    rfl
  · exact (entry_kept kt (by simp) g).trans ((entry_kept kw (by simp) g).trans (others g hg))
  · exact (operating_kept kw (by simp)).trans ((operating_kept ku (by simp)).trans ho)

/-! ### An entry removed (R54, R55) -/

theorem expelEntry_due {p : Part} {f : FilterId} {e : Entry} (h : p.entry f = some e) (ho : p.operating = true)
    (c : RemovalCause) : (p.expelEntry f c).sched.scanDue = true := by
  obtain ⟨-, -, -, due⟩ := dropEntry_of h c
  have kd : OnlyChanges ([Piece.queue, .scanDue, .events] ++ reporting) p (p.dropEntry f c) := by simp
  unfold Part.expelEntry
  by_cases hp : ∃ pr, (p.dropEntry f c).sched.proposal = some pr ∧ pr.filter = f
  · obtain ⟨pr, hpr, rfl⟩ := hp
    rw [withdrawFor_of hpr]
    exact (withdraw_of hpr _ _).2.2 ((operating_kept kd (by simp)).trans ho)
  · rw [withdrawFor_idle fun pr hpr hf => hp ⟨pr, hpr, hf⟩]
    exact due ho

/-! ### The commands -/

/-- Results of an entry's change carried past the acceptance of the frame and the reply. -/
theorem queueChanged_reply {p q q' : Part} {f : FilterId} (h : QueueChanged p.frameAccepted q f)
    (k : OnlyChanges reporting q q') : QueueChanged p q' f := by
  obtain ⟨others, due⟩ := h
  exact ⟨fun g hg => (entry_kept k (by simp) g).trans ((others g hg).trans (accepted_entry p g)),
    (k .scanDue (by simp)).trans due⟩

theorem proposalFor_accepted (p : Part) (f : FilterId) : ProposalFor p.frameAccepted f ↔ ProposalFor p f := by
  unfold ProposalFor; rw [accepted_sched]

section Commands
variable {s : State} {b : Byte} {f : FilterId} {rec : FilterRecord} (hc : CanHandle s)
  (ht : s.part.startUp.top = .operating) (hb : filterOf b = some f) (hf : s.part.filter f = some rec)
  (hx : rec.transfer = none) (tag : Byte)
include hc ht hb hf hx

theorem requestWash_range {o : Byte} (h : ∀ x, ¬ OverrideNamed s.part o x) : Refused s (.requestWash tag b o) .range :=
  reads_of hc rfl ((answer_passed ht hb hf hx rfl).trans
    (named_none (overrideOf_eq_none fun x hn => h x ((overrideNamed_accepted _ _ _).1 hn))))

section Override
variable {o : Byte} {x : Option SlotId} (ho : OverrideNamed s.part o x)
include ho

omit hc in
/-- The answer of REQUEST_WASH once its override is named hangs on the filter's state and entry (Table 3-6). -/
theorem answer_requestWash : s.part.frameAccepted.answer (.requestWash b o) =
    match rec.state, s.part.entry f with
    | .online, none | .standby, none => okay (s.part.frameAccepted.addEntry f .manual .host rec.u x)
    | .online, some e =>
      match e.cls with
      | .terminal | .routine | .early => okay (s.part.frameAccepted.upgradeManual e x)
      | .breakthrough | .restart | .manual => refuse s.part.frameAccepted .state
    | _, _ => refuse s.part.frameAccepted .state := by
  have named' := (answer_passed ht hb hf hx (c := .requestWash b o) rfl).trans
    (named_some (overrideOf_eq_some.2 ((overrideNamed_accepted _ _ _).2 ho)))
  rw [accepted_entry] at named'
  exact named'

theorem requestWash_adds (he : s.part.entry f = none) (hs : rec.state = .online ∨ rec.state = .standby) :
    Done s (.requestWash tag b o) [.queue, .scanDue] [.request .added f .manual none .host rec.u none] .ok .none fun q =>
      q.entry f = some ⟨f, .manual, .host, rec.u, s.part.startUp.clock, x, none⟩ ∧ QueueChanged s.part q f := by
  have ans : s.part.frameAccepted.answer (.requestWash b o) =
      okay (s.part.frameAccepted.addEntry f .manual .host rec.u x) := by
    rw [answer_requestWash ht hb hf hx ho, he]
    rcases hs with hs | hs <;> rw [hs]
  have entry := addEntry_entry s.part.frameAccepted f .manual .host rec.u x
  rw [frameAccepted_clock] at entry
  exact done_reports hc rfl ans (by simp) (addEntry_link _ f .manual .host rec.u x) fun q' k =>
    ⟨(entry_kept k (by simp) f).trans entry,
      queueChanged_reply ⟨fun g hg => addEntry_entry_ne _ f .manual .host rec.u x hg,
        addEntry_due (accepted_operating ht) f .manual .host rec.u x⟩ k⟩

theorem requestWash_state (he : s.part.entry f = none) (h1 : rec.state ≠ .online) (h2 : rec.state ≠ .standby) :
    Refused s (.requestWash tag b o) .state := by
  refine reads_of hc rfl ((answer_requestWash ht hb hf hx ho).trans ?_)
  rw [he]
  split
  · exact absurd ‹_› h1
  · exact absurd ‹_› h2
  · cases ‹none = some _›
  · rfl

theorem requestWash_stays {e : Entry} (he : s.part.entry f = some e)
    (h : ¬ (rec.state = .online ∧ (e.cls = .terminal ∨ e.cls = .routine ∨ e.cls = .early))) :
    Refused s (.requestWash tag b o) .state := by
  refine reads_of hc rfl ((answer_requestWash ht hb hf hx ho).trans ?_)
  rw [he]
  split
  case h_1 | h_2 => cases ‹some e = none›
  case h_3 =>
    obtain rfl := Option.some.inj ‹some e = some _›
    split
    · exact absurd ⟨‹_›, .inl ‹_›⟩ h
    · exact absurd ⟨‹_›, .inr (.inl ‹_›)⟩ h
    · exact absurd ⟨‹_›, .inr (.inr ‹_›)⟩ h
    all_goals rfl
  case h_4 => rfl

theorem requestWash_upgrades {e : Entry} (he : s.part.entry f = some e)
    (h : rec.state = .online ∧ (e.cls = .terminal ∨ e.cls = .routine ∨ e.cls = .early)) {withdrawn : List ReportBody}
    (hw : ProposalFor s.part f → withdrawn = [.proposalWithdrawn f .manual none])
    (hn : ¬ ProposalFor s.part f → withdrawn = []) :
    Done s (.requestWash tag b o) [.queue, .proposal, .scanDue, .events]
      (.request .upgraded f .manual (some e.cls) .host e.u none :: withdrawn) .ok .none fun q =>
        q.entry f = some { e with cls := .manual, source := .host, override := x, deferUntil := none } ∧
        QueueChanged s.part q f ∧ (ProposalFor s.part f → q.sched.proposal = none) ∧
        (¬ ProposalFor s.part f → q.sched.proposal = s.part.sched.proposal) := by
  have ans : s.part.frameAccepted.answer (.requestWash b o) = okay (s.part.frameAccepted.upgradeManual e x) := by
    rw [answer_requestWash ht hb hf hx ho, he]
    obtain ⟨hs, h | h | h⟩ := h <;> rw [hs] <;> dsimp only <;> rw [h]
  obtain rfl := entry_filter he
  rw [← proposalFor_accepted] at hw hn ⊢
  rw [← accepted_sched]
  obtain ⟨told, entry, queue, gone, stays⟩ := upgradeManual_parts (accepted_operating ht) e x hw hn
  exact done_reports hc rfl ans (by simp) told fun q' k => ⟨(entry_kept k (by simp) _).trans entry,
    queueChanged_reply queue k, fun hp => (k .proposal (by simp)).trans (gone hp),
    fun hp => (k .proposal (by simp)).trans (stays hp)⟩

end Override

/-! ### CANCEL_REQUEST (R54) -/

omit hc in
theorem answer_cancelRequest : s.part.frameAccepted.answer (.cancelRequest b) =
    match s.part.entry f with
    | none => refuse s.part.frameAccepted .state
    | some e =>
      match e.cls with
      | .manual | .early => okay (s.part.frameAccepted.expelEntry f .cancelled)
      | .breakthrough | .restart | .terminal | .routine => refuse s.part.frameAccepted .state := by
  have passed := answer_passed ht hb hf hx (c := .cancelRequest b) rfl
  rw [accepted_entry] at passed
  exact passed

theorem cancelRequest_none (he : s.part.entry f = none) : Refused s (.cancelRequest tag b) .state := by
  refine reads_of hc rfl ((answer_cancelRequest ht hb hf hx).trans ?_)
  rw [he]
  rfl

theorem cancelRequest_refused {e : Entry} (he : s.part.entry f = some e) (h1 : e.cls ≠ .manual) (h2 : e.cls ≠ .early) :
    Refused s (.cancelRequest tag b) .state := by
  refine reads_of hc rfl ((answer_cancelRequest ht hb hf hx).trans ?_)
  rw [he]
  dsimp only
  split
  · exact absurd ‹_› h1
  · exact absurd ‹_› h2
  all_goals rfl

theorem cancelRequest_done {e : Entry} (he : s.part.entry f = some e) (h : e.cls = .manual ∨ e.cls = .early) :
    Done s (.cancelRequest tag b) [.queue, .proposal, .scanDue, .events] (removalReports s.part f .cancelled) .ok .none
      fun q => EntryGone s.part q f ∧ q.sched.scanDue = true := by
  have ans : s.part.frameAccepted.answer (.cancelRequest b) = okay (s.part.frameAccepted.expelEntry f .cancelled) := by
    rw [answer_cancelRequest ht hb hf hx, he]
    rcases h with h | h <;> dsimp only <;> rw [h]
  have told := expelEntry_link s.part.frameAccepted f .cancelled
  rw [removalReports_accepted] at told
  exact done_reports hc rfl ans (by simp) told fun q' k => ⟨entryGone_reply (expelEntry_gone _ f .cancelled) k,
    (k .scanDue (by simp)).trans (expelEntry_due ((accepted_entry _ f).trans he) (accepted_operating ht) .cancelled)⟩

/-! ### DEFER (R50) -/

theorem defer_range {m : Half} (h : 1440 < m.toNat) : Refused s (.defer tag b m) .range :=
  reads_of hc rfl ((answer_passed ht hb hf hx rfl).trans (unlessFails_no (by simpa using h)))

theorem defer_state {m : Half} (h : m.toNat ≤ 1440) (he : s.part.entry f = none) : Refused s (.defer tag b m) .state := by
  refine reads_of hc rfl ((answer_passed ht hb hf hx rfl).trans ((unlessFails_ok (by simpa using h)).trans ?_))
  rw [accepted_entry, he]
  rfl

theorem defer_done {m : Half} (h : m.toNat ≤ 1440) {e : Entry} (he : s.part.entry f = some e) :
    Done s (.defer tag b m) [.queue, .scanDue, .events] [] .ok .none fun q =>
      q.entry f = some { e with deferUntil := deferralOf s.part m.toNat } ∧ (∀ g, g ≠ f → q.entry g = s.part.entry g) ∧
      (deferralOf s.part m.toNat ≠ e.deferUntil → q.sched.scanDue = true) := by
  have ans : s.part.frameAccepted.answer (.defer b m) =
      okay (s.part.frameAccepted.setDefer e (deferralOf s.part m.toNat)) := by
    refine (answer_passed ht hb hf hx rfl).trans ((unlessFails_ok (by simpa using h)).trans ?_)
    rw [accepted_entry, he, ← deferTime_accepted]
  obtain rfl := entry_filter he
  exact done_reports hc rfl ans (by simp) (setDefer_link _ _ _) fun q' k =>
    ⟨(entry_kept k (by simp) _).trans (setDefer_entry _ e _),
      fun g hg => (entry_kept k (by simp) g).trans ((setDefer_entry_ne _ e _ hg).trans (accepted_entry _ g)),
      fun hd => (k .scanDue (by simp)).trans (setDefer_due _ e _ (accepted_operating ht) hd)⟩

end Commands

end Sys2Proof.Laws

namespace Sys2Proof

open Machine Laws

/-- Settles O49: behind the common checks, Table 3-6 for REQUEST_WASH, the entry's class for CANCEL_REQUEST, the range and the
entry for DEFER. -/
theorem entriesFollowTheHost : Obligations.EntriesFollowTheHost := by
  intro s tag b o m f rec hc ht hb hf hx
  exact ⟨requestWash_range hc ht hb hf hx tag, fun x ho => ⟨requestWash_adds hc ht hb hf hx tag ho,
      requestWash_state hc ht hb hf hx tag ho, fun e he => ⟨requestWash_stays hc ht hb hf hx tag ho he,
        fun hu withdrawn hw hn => requestWash_upgrades hc ht hb hf hx tag ho he hu hw hn⟩⟩,
    cancelRequest_none hc ht hb hf hx tag, fun e he => ⟨cancelRequest_refused hc ht hb hf hx tag he,
      cancelRequest_done hc ht hb hf hx tag he⟩,
    defer_range hc ht hb hf hx tag, defer_state hc ht hb hf hx tag, fun h e he => defer_done hc ht hb hf hx tag h he⟩

end Sys2Proof
end

section
/-! SUPPORT. The tests of the admission scan (Table 4-2) in the words of the statements, and the scan's end at the first test
that fails (R65 to R75). -/

namespace Sys2Proof.Laws

open Sys2Proof.Machine

/-! ### Each test in the words of the statements -/

/-- What fails in the words of the statements fails as a test. -/
theorem test_false {P : Prop} {b : Bool} (h : ¬ P) (hb : b = true ↔ P) : b = false := Bool.eq_false_iff.2 (mt hb.1 h)

theorem idleLane_isSome (p : Part) : p.idleLane.isSome = true ↔ ∃ l, p.lane l = none := by
  unfold Part.idleLane
  rw [List.find?_isSome]
  simp [mem_allLanes]

/-- R67. -/
theorem laneOk_iff (p : Part) : p.laneOk = true ↔ LaneFree p := by
  unfold Part.laneOk LaneFree
  rw [Bool.and_eq_true, idleLane_isSome, decide_eq_true_eq]

/-- R68. -/
theorem spacingOk_iff (p : Part) (e : Entry) : p.spacingOk e = true ↔ Spaced p e := by
  have exempt : spacingExempt e.cls = true ↔ e.cls = .breakthrough ∨ e.cls = .restart := by
    cases e.cls <;> simp [spacingExempt]
  unfold Part.spacingOk Spaced
  rw [Bool.or_eq_true, exempt, or_assoc]
  cases p.sched.lastAdmission with
  | none => simp
  | some a =>
    show _ ∨ _ ∨ decide (60 * p.plant.spacing ≤ p.startUp.clock - a) = true ↔ _
    rw [decide_eq_true_eq]
    simp

theorem usable_iff (p : Part) (u : UnitId) : (p.unit u).state.usable = true ↔ UsableUnit p u := by
  unfold UsableUnit UnitState.usable
  cases (p.unit u).state <;> simp

theorem pumpUsable_iff (p : Part) : p.kindUsable .pump = true ↔ UsableUnit p .p1 ∨ UsableUnit p .p2 := by
  rw [← usable_iff, ← usable_iff, ← Bool.or_eq_true]
  show ((p.unit .p1).state.usable || ((p.unit .p2).state.usable || false)) = true ↔ _
  rw [Bool.or_false]

theorem blowerUsable_iff (p : Part) : p.kindUsable .blower = true ↔ UsableUnit p .bl := by
  rw [← usable_iff]
  show ((p.unit .bl).state.usable || false) = true ↔ _
  rw [Bool.or_false]

theorem pump_needed (k : PhaseKind) : .pump ∈ neededKinds k ↔ k = .airWater ∨ k = .water := by
  cases k <;> simp [neededKinds]

theorem blower_needed (k : PhaseKind) : .blower ∈ neededKinds k ↔ k = .airWater ∨ k = .air := by
  cases k <;> simp [neededKinds]

theorem phasesOf_of {p : Part} {slot : SlotId} {r : Recipe} (h : p.recipe slot = some r) : p.phasesOf slot = r.phases := by
  unfold Part.phasesOf; rw [h]

/-- R70. -/
theorem measureOk_iff (p : Part) : p.measureOk = true ↔ Measured p := by
  unfold Part.measureOk Measured; rw [Bool.and_eq_true]

/-- R74. -/
theorem waterOk_iff (p : Part) (w : Nat) : p.waterOk w = true ↔ WaterFor p w := by
  unfold Part.waterOk WaterFor Part.reservedWater
  cases p.front.tankAvail <;> simp

/-- R75. -/
theorem wasteOk_iff (p : Part) (x : Nat) : p.wasteOk x = true ↔ RoomFor p x := by
  unfold Part.wasteOk RoomFor Part.reservedWaste
  cases p.front.basinRoom <;> simp

/-! ### The filter that a substitution takes (R72) -/

theorem canSubstitute_iff (p : Part) (g : FilterId) :
    ((p.filter g).any (fun r => r.state == .standby && r.transfer.isNone) && (p.entry g).isNone) = true ↔
      CanSubstitute p g := by
  unfold CanSubstitute
  cases p.filter g <;> simp [and_assoc]

theorem substitute_none {p : Part} (h : ∀ g, ¬ CanSubstitute p g) : p.substitute = none := by
  unfold Part.substitute
  rw [List.find?_eq_none]
  exact fun g _ hg => h g ((canSubstitute_iff p g).1 hg)

theorem substitute_some {p : Part} {g : FilterId} {x : FilterRecord} (h : FirstSubstitute p g x) :
    p.substitute = some g := by
  obtain ⟨-, can, first⟩ := h
  unfold Part.substitute allFilters
  rw [List.find?_eq_some_iff_getElem]
  refine ⟨(canSubstitute_iff p g).2 can, g.val, by simp, by simp, fun j hj => ?_⟩
  rw [Bool.not_eq_true', ← Bool.not_eq_true, canSubstitute_iff]
  exact first _ (by rw [Fin.lt_def]; simpa using hj)

theorem canSubstitute_kept {xs : List Piece} {p q : Part} (h : OnlyChanges xs p q) (hf : Piece.filters ∉ xs)
    (hq : Piece.queue ∉ xs) (g : FilterId) : CanSubstitute q g ↔ CanSubstitute p g := by
  unfold CanSubstitute
  rw [filter_kept h hf, entry_kept h hq]

/-! ### The seven tests in turn -/

/-- WATER and WASTE, where the loading test has not failed. -/
def afterLoading (rec : FilterRecord) (r : Recipe) : Part × Option BlockedReason → Part × Option BlockedReason
  | (q, some b) => (q, some b)
  | (q, none) =>
    if !q.waterOk (waterNeed rec r) then (q, some .water)
    else if !q.wasteOk (wasteNeed rec r) then (q, some .waste)
    else (q, none)

section Head
variable {p : Part} {e : Entry} {rec : FilterRecord} {r : Recipe} (hf : p.filter e.filter = some rec)
  (hr : p.recipe (e.override.getD rec.cfg.slot) = some r)

include hf in
theorem slotFor_of : p.slotFor e = e.override.getD rec.cfg.slot := by
  unfold Part.slotFor
  rw [hf]
  cases e.override <;> rfl

include hf hr

/-- R69. -/
theorem equipmentOk_iff : p.equipmentOk e = true ↔ Equipped p r := by
  unfold Part.equipmentOk Equipped
  rw [slotFor_of hf, phasesOf_of hr, ← pumpUsable_iff, ← blowerUsable_iff, List.all_eq_true]
  have kinds : ∀ k, k ∈ recipeKinds r.phases ↔ ∃ ph ∈ r.phases, k ∈ neededKinds ph.kind := fun k => by
    cases k <;> simp [recipeKinds]
  simp only [kinds]
  constructor
  · exact fun h => ⟨fun ⟨ph, hm, hk⟩ => h .pump ⟨ph, hm, (pump_needed _).2 hk⟩,
      fun ⟨ph, hm, hk⟩ => h .blower ⟨ph, hm, (blower_needed _).2 hk⟩⟩
  · rintro ⟨pump, blower⟩ (_ | _) ⟨ph, hm, hk⟩
    · exact pump ⟨ph, hm, (pump_needed _).1 hk⟩
    · exact blower ⟨ph, hm, (blower_needed _).1 hk⟩

/-- R73. -/
theorem requirement_of : p.requirement e = ⟨waterNeed rec r, wasteNeed rec r⟩ := by
  unfold Part.requirement Part.areaOf
  rw [slotFor_of hf, hr, hf]
  rfl

theorem tests_before {b : BlockedReason} (h : FailsBeforeLoading p e r b) : p.tests e = (p, some b) := by
  have lane := laneOk_iff p
  have spacing := spacingOk_iff p e
  have equipment := equipmentOk_iff hf hr
  have measure := measureOk_iff p
  unfold Part.tests
  rcases h with ⟨rfl, h1⟩ | ⟨rfl, h1, h2⟩ | ⟨rfl, h1, h2, h3⟩ | ⟨rfl, h1, h2, h3, h4⟩
  · simp [test_false h1 lane]
  · simp [lane.2 h1, test_false h2 spacing]
  · simp [lane.2 h1, spacing.2 h2, test_false h3 equipment]
  · simp [lane.2 h1, spacing.2 h2, equipment.2 h3, test_false h4 measure]

/-- What the tests come to once those before the loading test have passed. -/
theorem tests_ready (h : ReadyForLoading p e r) : p.tests e = afterLoading rec r (p.loadingStep e) := by
  obtain ⟨h1, h2, h3, h4⟩ := h
  have lane := (laneOk_iff p).2 h1
  have spacing := (spacingOk_iff p e).2 h2
  have equipment := (equipmentOk_iff hf hr).2 h3
  have measure := (measureOk_iff p).2 h4
  unfold Part.tests
  simp only [lane, spacing, equipment, measure, requirement_of hf hr, Bool.not_true, Bool.false_eq_true, if_false]
  rfl

theorem tests_loading (h : ReadyForLoading p e r) {q : Part} {b : BlockedReason} (hl : p.loadingStep e = (q, some b)) :
    p.tests e = (q, some b) := by
  rw [tests_ready hf hr h, hl]
  rfl

theorem tests_after (h : ReadyForLoading p e r) {q : Part} {b : BlockedReason} (hl : p.loadingStep e = (q, none))
    (hb : FailsAfterLoading q rec r b) : p.tests e = (q, some b) := by
  have water := waterOk_iff q (waterNeed rec r)
  have waste := wasteOk_iff q (wasteNeed rec r)
  rw [tests_ready hf hr h, hl]
  unfold afterLoading
  rcases hb with ⟨rfl, h1⟩ | ⟨rfl, h1, h2⟩
  · simp [test_false h1 water]
  · simp [water.2 h1, test_false h2 waste]

theorem tests_pass (h : ReadyForLoading p e r) {q : Part} (hl : p.loadingStep e = (q, none))
    (h1 : WaterFor q (waterNeed rec r)) (h2 : RoomFor q (wasteNeed rec r)) : p.tests e = (q, none) := by
  rw [tests_ready hf hr h, hl]
  unfold afterLoading
  simp only [(waterOk_iff q _).2 h1, (wasteOk_iff q _).2 h2, Bool.not_true, Bool.false_eq_true, if_false]

end Head

/-! ### The loading test (R71, R72) -/

/-- The part once the loading test of an ONLINE head has set its flags. -/
def headTested (p : Part) (e : Entry) (rec : FilterRecord) : Part := p.setFlags (testFlags p rec) (.loading (some e.filter))

theorem headTested_only (p : Part) (e : Entry) (rec : FilterRecord) :
    OnlyChanges ([Piece.flags] ++ reporting) p (headTested p e rec) := by unfold headTested; simp

theorem headTested_flags (p : Part) (e : Entry) (rec : FilterRecord) :
    (headTested p e rec).sched.flags = flagsWith p (testFlags p rec) := setFlags_flags _ _ _

theorem headTested_reports (p : Part) (e : Entry) (rec : FilterRecord) :
    Reports p (headTested p e rec) (testReports p e.filter rec) := setFlags_link _ _ _

/-- Over Vmax, what the marker and the substitution make of it. -/
def overVmax (p : Part) (e : Entry) (rec : FilterRecord) : Part × Option BlockedReason :=
  if p.table.marker.isSome then (headTested p e rec, some .loadingSubst)
  else match p.substitute with
    | some g => ((headTested p e rec).startSubstitution g, some .loadingSubst)
    | none => (headTested p e rec, some .loading)

section Step
variable {p : Part} {e : Entry} {rec : FilterRecord} (hf : p.filter e.filter = some rec)
include hf

theorem loadingStep_offline (h : rec.state ≠ .online) : p.loadingStep e = (p, none) := by
  unfold Part.loadingStep
  rw [hf]
  exact if_neg h

theorem loadingStep_within (h : rec.state = .online) (hv : loadingWithout p rec.cfg.area ≤ p.plant.vmax) :
    p.loadingStep e = (headTested p e rec, none) := by
  have ok : (p.loadingTest e.filter rec.cfg.area).2 = true := by rw [loadingTest_snd]; exact decide_eq_true hv
  unfold Part.loadingStep
  rw [hf]
  dsimp only
  rw [if_pos h, if_pos ok, loadingTest_fst]
  rfl

theorem loadingStep_over (h : rec.state = .online) (hv : p.plant.vmax < loadingWithout p rec.cfg.area) :
    p.loadingStep e = overVmax p e rec := by
  have exceeds : ¬ (p.loadingTest e.filter rec.cfg.area).2 = true := by
    rw [loadingTest_snd, decide_eq_true_eq]; omega
  have fst : (p.loadingTest e.filter rec.cfg.area).1 = headTested p e rec := loadingTest_fst _ _ _
  have k := headTested_only p e rec
  have marker : (headTested p e rec).table.marker = p.table.marker := k .marker (by simp)
  have subst : (headTested p e rec).substitute = p.substitute := by
    unfold Part.substitute
    simp only [filter_kept k (show Piece.filters ∉ _ by simp), entry_kept k (by simp)]
  unfold Part.loadingStep
  rw [hf]
  dsimp only
  rw [if_pos h, if_neg exceeds, fst, marker, subst]
  rfl

theorem loadingStep_marked (h : rec.state = .online) (hv : p.plant.vmax < loadingWithout p rec.cfg.area)
    (hm : p.table.marker ≠ none) : p.loadingStep e = (headTested p e rec, some .loadingSubst) := by
  rw [loadingStep_over hf h hv, overVmax, if_pos (Option.isSome_iff_ne_none.2 hm)]

theorem loadingStep_alone (h : rec.state = .online) (hv : p.plant.vmax < loadingWithout p rec.cfg.area)
    (hm : p.table.marker = none) (hs : ∀ g, ¬ CanSubstitute p g) :
    p.loadingStep e = (headTested p e rec, some .loading) := by
  rw [loadingStep_over hf h hv]
  simp [overVmax, hm, substitute_none hs]

theorem loadingStep_substitutes (h : rec.state = .online) (hv : p.plant.vmax < loadingWithout p rec.cfg.area)
    (hm : p.table.marker = none) {g : FilterId} {x : FilterRecord} (hs : FirstSubstitute p g x) :
    p.loadingStep e = ((headTested p e rec).startSubstitution g, some .loadingSubst) := by
  rw [loadingStep_over hf h hv]
  simp [overVmax, hm, substitute_some hs]

end Step

end Sys2Proof.Laws
end

section
/-! SUPPORT. The scan's head put to the tests of Table 4-2: its end at the first that fails (R65 to R75). -/

namespace Sys2Proof.Laws

open Sys2Proof.Machine

/-! ### Reports one after the other -/

theorem reports_trans {p q r : Part} {xs ys : List ReportBody} (h : Reports p q xs) (hc : q.clock = p.clock)
    (k : Reports q r ys) : Reports p r (xs ++ ys) := by
  unfold Reports at h k ⊢
  rw [k, h, hc]
  exact (afterReports_append _ _ _ _).symm

/-! ### What of a transfer's course still holds once the blocked reason is written -/

/-- The blocked reason does not bear on it. -/
def AsideOfBlocked (now : Part → Prop) : Prop := ∀ q q', OnlyChanges [.blocked] q q' → now q → now q'

section Aside
variable (p : Part) (f : FilterId) (r : FilterRecord) (m : Option FilterId) (roles : List (Role × Position))

theorem recordAndMarker_aside :
    AsideOfBlocked fun q => q.filter f = some r ∧ OtherFiltersKept p q f ∧ q.table.marker = m :=
  fun q _ k ⟨now, others, marker⟩ => ⟨(filter_kept k (by simp) f).trans now,
    fun g hg => (filter_kept k (by simp) g).trans (others g hg), Eq.trans (k .marker (by simp)) marker⟩

theorem onlyCommanded_aside : AsideOfBlocked fun q => OnlyCommanded p q f roles := fun q _ k ⟨commanded, others⟩ => by
  refine ⟨fun x hx ch hm => ?_, fun ch hch => ?_⟩ <;> rw [channel_kept k (by simp)]
  · exact commanded x hx ch hm
  · exact others ch hch

theorem course_aside :
    AsideOfBlocked fun q => (q.filter f = some r ∧ OtherFiltersKept p q f ∧ q.table.marker = m) ∧ OnlyCommanded p q f roles :=
  fun q q' k ⟨shown, commanded⟩ => ⟨recordAndMarker_aside p f r m q q' k shown, onlyCommanded_aside p f roles q q' k commanded⟩

end Aside

/-- A transfer's course read anew, with what it never touches and what its ends hang on. -/
theorem transferBegins_aside {p : Part} {f : FilterId} {rec : FilterRecord} {k : TransferKind} {m : Option FilterId}
    {ends ends' : List Piece → List ReportBody → (Part → Prop) → Prop}
    (hi : ∀ xs bs now, .queue ∉ xs → AsideOfBlocked now → ends xs bs now → ends' xs bs now)
    (h : TransferBegins p f rec k m ends) : TransferBegins p f rec k m ends' := by
  obtain ⟨stopped, runs⟩ := h
  refine ⟨fun hs => hi _ _ _ (by simp) (recordAndMarker_aside p f _ _) (stopped hs), fun hs hb => ?_⟩
  obtain ⟨steps, completes⟩ := runs hs hb
  refine ⟨fun n h1 hn hr => ?_, fun hr => ?_⟩
  · obtain ⟨waits, fails⟩ := steps n h1 hn hr
    refine ⟨fun ho ht => hi _ _ _ (by simp) (course_aside p f _ _ _) (waits ho ht), fun before r pos later hx ho hf => ?_⟩
    obtain ⟨cs, hcs, he⟩ := fails before r pos later hx ho hf
    exact ⟨cs, hcs, hi _ _ _ (by split <;> simp) (course_aside p f _ _ _) he⟩
  · obtain ⟨cs, he⟩ := completes hr
    refine ⟨cs, hi _ _ _ (by simp) (fun q q' kq ⟨shown, commanded, urgent⟩ => ?_) he⟩
    exact ⟨recordAndMarker_aside p f _ _ q q' kq shown, onlyCommanded_aside p f _ q q' kq commanded,
      fun hk => by rw [show q'.events = q.events from kq .events (by simp)]; exact urgent hk⟩

/-! ### The head's end -/

/-- From `p` to `q` the head is put to the tests: beside the blocked reason `b` these pieces change, these reports are made,
and `now` holds. -/
def HeadEnds (p q : Part) (xs : List Piece) (bs : List ReportBody) (b : BlockedReason) (now : Part → Prop) : Prop :=
  OnlyChanges ([Piece.blocked] ++ xs) p q ∧ q.sched.blocked = b ∧ Reports p q bs ∧ now q

theorem headEnds_setBlocked {p q : Part} {xs : List Piece} {bs : List ReportBody} {now : Part → Prop} (b : BlockedReason)
    (k : OnlyChanges xs p q) (told : Reports p q bs) (h : now (q.setBlocked b)) : HeadEnds p (q.setBlocked b) xs bs b now := by
  have kb : OnlyChanges [.blocked] q (q.setBlocked b) := by simp
  exact ⟨onlyChanges_trans (onlyChanges_mono k (by simp)) (onlyChanges_mono kb (by simp)), rfl, told, h⟩

theorem testHead_fails {p q : Part} {e : Entry} {b : BlockedReason} (h : p.tests e = (q, some b)) :
    p.testHead e = q.setBlocked b := by
  unfold Part.testHead; rw [h]

section Ends
variable {p : Part} {e : Entry} {rec : FilterRecord} {r : Recipe} (hf : p.filter e.filter = some rec)
  (hr : p.recipe (e.override.getD rec.cfg.slot) = some r)

theorem testHead_quiet {b : BlockedReason} (h : p.tests e = (p, some b)) :
    HeadEnds p (p.testHead e) [] [] b fun _ => True := by
  rw [testHead_fails h]
  exact headEnds_setBlocked b (onlyChanges_refl _ _) rfl trivial

theorem testHead_loaded {b : BlockedReason} (h : p.tests e = (headTested p e rec, some b)) :
    HeadEnds p (p.testHead e) ([Piece.flags] ++ reporting) (testReports p e.filter rec) b fun q =>
      q.sched.flags = flagsWith p (testFlags p rec) := by
  rw [testHead_fails h]
  exact headEnds_setBlocked b (headTested_only p e rec) (headTested_reports p e rec) (headTested_flags p e rec)

/-- R72: a substitution that the head's loading test starts runs its course as any transfer does. -/
theorem testHead_substitutes (hop : p.operating = true) {g : FilterId} {x : FilterRecord} (hx : FirstSubstitute p g x)
    (h : p.tests e = ((headTested p e rec).startSubstitution g, some .loadingSubst)) :
    TransferBegins p g x .toService (some g) fun xs bs now =>
      HeadEnds p (p.testHead e) ([Piece.flags, .marker] ++ xs ++ reporting) (testReports p e.filter rec ++ bs) .loadingSubst
        now := by
  rw [testHead_fails h, show (headTested p e rec).startSubstitution g =
    ((headTested p e rec).setMarker (some g)).startTransfer g .toService from rfl]
  have kt := headTested_only p e rec
  have km : OnlyChanges ([Piece.flags, .marker] ++ reporting) p ((headTested p e rec).setMarker (some g)) :=
    onlyChanges_trans (onlyChanges_mono kt (by simp)) (by simp)
  have told : Reports p ((headTested p e rec).setMarker (some g)) (testReports p e.filter rec) := headTested_reports p e rec
  obtain ⟨hg, ⟨x', hx', standby, -, -⟩, -⟩ := hx
  obtain rfl : x = x' := Option.some.inj (hg.symm.trans hx')
  have course := startTransfer_begins (k := .toService) ((filter_kept km (by simp) g).trans hg) standby
    ((operating_kept km (by simp)).trans hop)
  rw [transferBegins_same (sameCourse_kept km (by simp))] at course
  refine transferBegins_aside (fun xs bs now _ aside ⟨kc, toldc, after, _⟩ => ?_) course
  refine headEnds_setBlocked _ (onlyChanges_trans (onlyChanges_mono km (by simp)) (onlyChanges_mono kc (by simp)))
    (reports_trans told (km .clock (by simp)) toldc) (aside _ _ (by simp) (after _ (onlyChanges_refl _ _)))

include hf hr

/-- R65 to R75: the head at the first test that fails. -/
theorem testHead_ends (hop : p.operating = true) : TestsEnd p e rec r (HeadEnds p (p.testHead e)) := by
  refine ⟨fun b hb => testHead_quiet (tests_before hf hr hb), fun ready => ⟨fun offline b hb => ?_,
    fun online within b hb => ?_, fun online exceeds => ⟨fun marked => ?_, fun unmarked alone => ?_,
    fun g x unmarked hx => ?_⟩⟩⟩
  · exact testHead_quiet (tests_after hf hr ready (loadingStep_offline hf offline) hb)
  · refine testHead_loaded (tests_after hf hr ready (loadingStep_within hf online within) ?_)
    have k := headTested_only p e rec
    have shares : (headTested p e rec).sched.shares = p.sched.shares := k .shares (by simp)
    obtain ⟨tank, basin⟩ := k .volumes (by simp)
    unfold FailsAfterLoading WaterFor RoomFor at hb ⊢
    rw [shares, tank, basin]
    exact hb
  · exact testHead_loaded (tests_loading hf hr ready (loadingStep_marked hf online exceeds marked))
  · exact testHead_loaded (tests_loading hf hr ready (loadingStep_alone hf online exceeds unmarked alone))
  · exact testHead_substitutes hop hx
      (tests_loading hf hr ready (loadingStep_substitutes hf online exceeds unmarked hx))

end Ends

end Sys2Proof.Laws
end

section
/-! SUPPORT. The scan's head that passes every test: admitted or proposed (R76, R77, R82, R106). -/

namespace Sys2Proof.Laws

open Sys2Proof.Machine

/-! ### The reports of a filter's change -/

theorem calcReports_calc {p : Part} {met : CalcFlags} {o : CalcOrigin} {b : ReportBody} (h : b ∈ calcReports p met o) :
    ∃ k all, b = .calcSet k all o := by
  unfold calcReports at h
  obtain ⟨k, -, rfl⟩ := List.mem_map.1 h
  exact ⟨k, _, rfl⟩

/-- The loading computed in OPERATING reports the flags it newly sets. -/
theorem computeLoading_calcs {p : Part} (hop : p.operating = true) :
    ∃ cs, Reports p p.computeLoading cs ∧ ∀ b ∈ cs, ∃ k all, b = .calcSet k all (.loading none) :=
  ⟨_, (computeLoading_parts hop).1, fun _ => calcReports_calc⟩

/-- What a change of a filter's record reports in OPERATING: FILTER_STATE, and the flags that a loading computed anew sets. -/
theorem changeFilter_reports {p : Part} {f : FilterId} {r : FilterRecord} (h : p.filter f = some r)
    (g : FilterRecord → FilterRecord) (hop : p.operating = true) : ∃ cs, Reports p (p.changeFilter f g)
      (.filterState f (some (g r).state) (some r.state) (g r).transfer (p.table.marker == some f) :: cs) ∧
    (((g r).state = .online ↔ r.state = .online) → cs = []) ∧ ∀ b ∈ cs, ∃ k all, b = .calcSet k all (.loading none) := by
  have moved : Reports p (p.moveFilter f (g r))
      [.filterState f (some (g r).state) (some r.state) (g r).transfer (p.table.marker == some f)] := by
    unfold Reports; rw [moveFilter_link, h]; rfl
  by_cases ho : (g r).state = .online ↔ r.state = .online
  · exact ⟨[], by rw [changeFilter_quiet h g ho]; exact moved, fun _ => rfl, by simp⟩
  · have km : OnlyChanges ([Piece.filters, .selection, .events] ++ reporting) p (p.moveFilter f (g r)) := by simp
    have hne : (p.moveFilter f (g r)).isOnline f ≠ (r.state == .online) := by
      rw [isOnline_moveFilter, ne_eq, Bool.eq_iff_iff, beq_iff_eq, beq_iff_eq]; exact ho
    obtain ⟨cs, computed, calcs⟩ := computeLoading_calcs ((operating_kept km (by simp)).trans hop)
    have told := reports_trans moved (km .clock (by simp)) computed
    have link : (p.changeFilter f g).link = (p.moveFilter f (g r)).computeLoading.link := by
      rw [changeFilter_of h, areaChanged_of hne]
      split
      · rw [raise_link, trigger_link]
      · rw [trigger_link]
    unfold Reports at told
    exact ⟨cs, link.trans told, fun k => absurd k ho, calcs⟩

/-! ### A phase entered, with its report (R106, R107) -/

theorem enterPhase_reports {p : Part} {l : LaneId} {w : Wash} (h : p.lane l = some w) (prev : Option PhaseEnd) :
    ∃ after, Reports p (p.enterPhase l (some prev))
      (.phase l w.filter w.phase (p.phaseNow w).kind (p.phaseNow w).duration prev w.remWater w.remWaste :: after) := by
  obtain ⟨-, after, told⟩ := tells_trans (releaseUnneeded_tells
    ((p.putLane l (some { w with state := .acquiring, confirm := 0 })).report
      (.phase l w.filter w.phase (p.phaseNow w).kind (p.phaseNow w).duration prev w.remWater w.remWaste)) l
    (p.phaseNow w).kind) (enterTail_tells _ l)
  refine ⟨after, ?_⟩
  rw [enterPhase_of h]
  exact told

/-! ### The hand-off to the lane (R106) -/

/-- The wash as the lane takes it over. -/
def freshWash (p : Part) (f : FilterId) (slot : SlotId) (s : Share) : Wash :=
  { state := .acquiring, filter := f, slot := slot, phase := 1, elapsed := 0, targets := PerRole.all none
    holds := HoldSet.empty, releaseSeen := false, drifted := PerRole.all false, holdCount := 0
    pump := none, blower := false, remWater := s.water, remWaste := s.waste, startedAt := p.clock
    confirm := 0, ripenTimeout := false }

/-- The lane with the wash, before its first phase is entered. -/
def assigned (p : Part) (l : LaneId) (f : FilterId) (slot : SlotId) (s : Share) : Part :=
  (p.dropLane l).putLane l (some (freshWash p f slot s))

theorem handOff_eq (p : Part) (l : LaneId) (f : FilterId) (slot : SlotId) (s : Share) :
    p.handOff l f slot s = (assigned p l f slot s).enterPhase l (some none) := rfl

theorem assigned_only (p : Part) (l : LaneId) (f : FilterId) (slot : SlotId) (s : Share) :
    OnlyChanges [.lanes, .events] p (assigned p l f slot s) := by unfold assigned; simp

theorem handOff_lane (p : Part) (l : LaneId) (f : FilterId) (slot : SlotId) (s : Share) :
    ∃ w, (p.handOff l f slot s).lane l = some w ∧ WashStarted p w f slot s.water s.waste := by
  have fresh : (assigned p l f slot s).lane l = some (freshWash p f slot s) := lane_putLane _ _ _
  obtain ⟨w, lane, ⟨hf, hslot, hphase, helapsed, hwater, hwaste, hstart, hripen⟩, -⟩ := enterPhase_lane fresh (some none)
  exact ⟨w, lane, hf, hslot, hphase, helapsed, hwater, hwaste, hstart, hripen⟩

theorem handOff_other (p : Part) (l : LaneId) (f : FilterId) (slot : SlotId) (s : Share) :
    OtherLaneKept p (p.handOff l f slot s) l := fun m hm =>
  (enterPhase_other _ l (some none) m hm).trans (lane_putLane_ne (p.dropLane l) hm _)

theorem handOff_reports {p : Part} {slot : SlotId} {r : Recipe} (hr : p.recipe slot = some r) (l : LaneId) (f : FilterId)
    (s : Share) : ∃ after, Reports p (p.handOff l f slot s)
      (.phase l f 1 (r.phases.headD noPhase).kind (r.phases.headD noPhase).duration none s.water s.waste :: after) := by
  have fresh : (assigned p l f slot s).lane l = some (freshWash p f slot s) := lane_putLane _ _ _
  have first : (assigned p l f slot s).phaseNow (freshWash p f slot s) = r.phases.headD noPhase := by
    have phases : (assigned p l f slot s).phasesOf slot = r.phases :=
      phasesOf_of ((recipe_kept (assigned_only p l f slot s) (by simp) slot).trans hr)
    show (((assigned p l f slot s).phasesOf slot)[0]?).getD noPhase = _
    rw [phases]
    cases r.phases <;> rfl
  obtain ⟨after, told⟩ := enterPhase_reports fresh none
  rw [first] at told
  exact ⟨after, told⟩

/-! ### The filter taken for its wash (R16, R77) -/

/-- The entry out of the queue, the filter WASHING. -/
def takenForWash (p : Part) (e : Entry) (l : LaneId) : Part := (p.dropEntry e.filter .admitted).setWashing e.filter l

section Taken
variable {p : Part} {e : Entry} {rec : FilterRecord} (hf : p.filter e.filter = some rec)
  (he : p.entry e.filter = some e) (l : LaneId)

theorem takenForWash_only (p : Part) (e : Entry) (l : LaneId) :
    OnlyChanges ([Piece.queue, .filters, .selection, .flags, .overload, .scanDue, .events] ++ reporting) p
      (takenForWash p e l) := by unfold takenForWash; simp

theorem dropped_only (p : Part) (e : Entry) :
    OnlyChanges ([Piece.queue, .scanDue, .events] ++ reporting) p (p.dropEntry e.filter .admitted) := by simp

theorem taken_from_dropped (p : Part) (e : Entry) (l : LaneId) :
    OnlyChanges ([Piece.filters, .selection, .flags, .overload, .scanDue, .events] ++ reporting)
      (p.dropEntry e.filter .admitted) (takenForWash p e l) := by unfold takenForWash; simp

include he in
theorem takenForWash_entry : (takenForWash p e l).entry e.filter = none := by
  obtain ⟨gone, -, -, -⟩ := dropEntry_of he .admitted
  rw [entry_kept (taken_from_dropped p e l) (by simp)]
  exact gone

include he in
theorem takenForWash_entry_ne {g : FilterId} (hg : g ≠ e.filter) : (takenForWash p e l).entry g = p.entry g := by
  obtain ⟨-, others, -, -⟩ := dropEntry_of he .admitted
  rw [entry_kept (taken_from_dropped p e l) (by simp)]
  exact others g hg

include hf in
theorem takenForWash_filter : (takenForWash p e l).filter e.filter = some { rec with state := .washing l } :=
  changeFilter_filter ((filter_kept (dropped_only p e) (by simp) _).trans hf) _

theorem takenForWash_filter_ne {g : FilterId} (hg : g ≠ e.filter) : (takenForWash p e l).filter g = p.filter g :=
  (changeFilter_filter_ne _ hg _).trans (filter_kept (dropped_only p e) (by simp) g)

include hf he in
/-- The entry removed, the filter's state, and the flags that the loading computed anew may set. -/
theorem takenForWash_reports (hop : p.operating = true) : ∃ between,
    Reports p (takenForWash p e l) ([ReportBody.request .removed e.filter e.cls none e.source e.u (some .admitted),
      .filterState e.filter (some (.washing l)) (some rec.state) rec.transfer (p.table.marker == some e.filter)] ++ between) ∧
    (rec.state ≠ .online → between = []) ∧ ∀ b ∈ between, ∃ k all, b = .calcSet k all (.loading none) := by
  have kd := dropped_only p e
  obtain ⟨-, -, removed, -⟩ := dropEntry_of he .admitted
  obtain ⟨between, told, quiet, calcs⟩ := changeFilter_reports ((filter_kept kd (by simp) _).trans hf)
    (fun r => { r with state := .washing l }) ((operating_kept kd (by simp)).trans hop)
  rw [show (p.dropEntry e.filter .admitted).table.marker = p.table.marker from kd .marker (by simp)] at told
  exact ⟨between, reports_trans (xs := [_]) removed (kd .clock (by simp)) told, fun h => quiet (iff_of_false (by simp) h), calcs⟩

end Taken

end Sys2Proof.Laws
end

section
/-! SUPPORT. The row admits, or proposes, the head that passes every test (R76, R77, R82). -/

namespace Sys2Proof.Laws

open Sys2Proof.Machine

/-! ### What an admission hangs on -/

/-- What the words of an admission read of the part before it, beside the queue. -/
structure SameAdmission (p q : Part) : Prop where
  lane : q.lane = p.lane
  filter : q.filter = p.filter
  clock : q.startUp.clock = p.startUp.clock
  shares : q.sched.shares = p.sched.shares
  marker : q.table.marker = p.table.marker

theorem sameAdmission_kept {xs : List Piece} {p q : Part} (h : OnlyChanges xs p q)
    (hx : ∀ x ∈ [Piece.lanes, .filters, .clock, .shares, .marker], x ∉ xs) : SameAdmission p q where
  lane := funext (lane_kept h (hx _ (by simp)))
  filter := funext (filter_kept h (hx _ (by simp)))
  clock := h .clock (hx _ (by simp))
  shares := h .shares (hx _ (by simp))
  marker := h .marker (hx _ (by simp))

section Same
variable {p q : Part} (h : SameAdmission p q) {e : Entry} {rec : FilterRecord} {r : Recipe} {l : LaneId}
include h

theorem admissionReports_same (between after : List ReportBody) :
    admissionReports q e rec r l between after = admissionReports p e rec r l between after := by
  unfold admissionReports
  rw [h.shares, h.marker, h.clock]

theorem admits_same (he : ∀ g, g ≠ e.filter → q.entry g = p.entry g) {t : Part} (ha : Admits q t e rec r l) :
    Admits p t e rec r l := by
  unfold Admits OtherLaneKept WashStarted at *
  rw [h.lane, h.filter, h.clock, h.shares] at ha
  obtain ⟨gone, washing, others, rest⟩ := ha
  exact ⟨gone, washing, fun g hg => ⟨(others g hg).1.trans (he g hg), (others g hg).2⟩, rest⟩

end Same

theorem admits_aside {p t t' : Part} {e : Entry} {rec : FilterRecord} {r : Recipe} {l : LaneId}
    (k : OnlyChanges [.blocked, .scanDue] t t') (h : Admits p t e rec r l) : Admits p t' e rec r l := by
  obtain ⟨gone, washing, others, ⟨w, lane, started⟩, otherLane, shares, last⟩ := h
  exact ⟨(entry_kept k (by simp) _).trans gone, (filter_kept k (by simp) _).trans washing,
    fun g hg => ⟨(entry_kept k (by simp) g).trans (others g hg).1, (filter_kept k (by simp) g).trans (others g hg).2⟩,
    ⟨w, (lane_kept k (by simp) l).trans lane, started⟩, fun m hm => (lane_kept k (by simp) m).trans (otherLane m hm),
    Eq.trans (k .shares (by simp)) shares, Eq.trans (k .lastAdmission (by simp)) last⟩

/-! ### Admission (R77) -/

/-- The shares reserved and the second of the admission noted. -/
def booked (p : Part) (l : LaneId) (need : Share) : Part := ((p.setShares l need).cancel .spacingExpiry).stampAdmission

theorem booked_only (p : Part) (l : LaneId) (need : Share) :
    OnlyChanges [.shares, .scanDue, .events, .lastAdmission] p (booked p l need) := by unfold booked; simp

theorem booked_shares (p : Part) (l : LaneId) (need : Share) :
    (booked p l need).sched.shares = p.sched.shares.set l need := setShares_shares p l need

theorem booked_lastAdmission (p : Part) (l : LaneId) (need : Share) :
    (booked p l need).sched.lastAdmission = some p.startUp.clock := by
  have k : OnlyChanges [.shares, .scanDue, .events] p ((p.setShares l need).cancel .spacingExpiry) := by simp
  exact congrArg some (k .clock (by simp))

theorem booked_link (p : Part) (l : LaneId) (need : Share) : (booked p l need).link = p.link := setShares_link p l need

/-- W and X of the wash (R73). -/
def washNeed (rec : FilterRecord) (r : Recipe) : Share := ⟨waterNeed rec r, wasteNeed rec r⟩

/-- The report of the admission, with what the lanes hold once its shares are reserved. -/
def admittedBody (p : Part) (e : Entry) (rec : FilterRecord) (r : Recipe) (l : LaneId) : ReportBody :=
  let held := p.sched.shares.set l (washNeed rec r)
  .admitted e.filter l e.cls e.source (e.override.getD rec.cfg.slot) e.override.isSome (waterNeed rec r) (wasteNeed rec r)
    (held.a.water + held.b.water) (held.a.waste + held.b.waste) p.startUp.clock

/-- The filter taken and the shares reserved. -/
def reserved (p : Part) (e : Entry) (rec : FilterRecord) (r : Recipe) (l : LaneId) : Part :=
  booked (takenForWash p e l) l (washNeed rec r)

/-- And the admission reported; before the lane takes the wash over. -/
def admitted (p : Part) (e : Entry) (rec : FilterRecord) (r : Recipe) (l : LaneId) : Part :=
  (reserved p e rec r l).report (admittedBody p e rec r l)

theorem reserved_from_taken (p : Part) (e : Entry) (rec : FilterRecord) (r : Recipe) (l : LaneId) :
    OnlyChanges [.shares, .scanDue, .events, .lastAdmission] (takenForWash p e l) (reserved p e rec r l) := booked_only _ l _

theorem reserved_only (p : Part) (e : Entry) (rec : FilterRecord) (r : Recipe) (l : LaneId) :
    OnlyChanges ([Piece.queue, .filters, .selection, .flags, .overload, .scanDue, .events, .shares, .lastAdmission] ++ reporting)
      p (reserved p e rec r l) :=
  onlyChanges_trans (onlyChanges_mono (takenForWash_only p e l) (by simp))
    (onlyChanges_mono (reserved_from_taken p e rec r l) (by simp))

theorem admitted_from_reserved (p : Part) (e : Entry) (rec : FilterRecord) (r : Recipe) (l : LaneId) :
    OnlyChanges reporting (reserved p e rec r l) (admitted p e rec r l) := by unfold admitted; simp

theorem admitted_only (p : Part) (e : Entry) (rec : FilterRecord) (r : Recipe) (l : LaneId) :
    OnlyChanges ([Piece.queue, .filters, .selection, .flags, .overload, .scanDue, .events, .shares, .lastAdmission] ++ reporting)
      p (admitted p e rec r l) :=
  onlyChanges_trans (reserved_only p e rec r l) (onlyChanges_mono (admitted_from_reserved p e rec r l) (by simp))

theorem reserved_shares (p : Part) (e : Entry) (rec : FilterRecord) (r : Recipe) (l : LaneId) :
    (reserved p e rec r l).sched.shares = p.sched.shares.set l (washNeed rec r) := by
  have k := takenForWash_only p e l
  rw [← show (takenForWash p e l).sched.shares = p.sched.shares from k .shares (by simp)]
  exact booked_shares _ l _

theorem reserved_lastAdmission (p : Part) (e : Entry) (rec : FilterRecord) (r : Recipe) (l : LaneId) :
    (reserved p e rec r l).sched.lastAdmission = some p.startUp.clock := by
  have k := takenForWash_only p e l
  rw [← show (takenForWash p e l).startUp.clock = p.startUp.clock from k .clock (by simp)]
  exact booked_lastAdmission _ l _

/-- What the report of the admission reads once the shares are reserved. -/
theorem admittedBody_eq (p : Part) (e : Entry) (rec : FilterRecord) (r : Recipe) (l : LaneId) :
    admittedBody p e rec r l = .admitted e.filter l e.cls e.source (e.override.getD rec.cfg.slot) e.override.isSome
      (waterNeed rec r) (wasteNeed rec r) (reserved p e rec r l).reservedWater (reserved p e rec r l).reservedWaste
      (reserved p e rec r l).clock := by
  have k := reserved_only p e rec r l
  have clock : (reserved p e rec r l).clock = p.startUp.clock := k .clock (by simp)
  unfold admittedBody Part.reservedWater Part.reservedWaste
  rw [reserved_shares, clock]

/-- The whole admission: the lane with the wash, a scan triggered. -/
def admission (p : Part) (e : Entry) (rec : FilterRecord) (r : Recipe) (l : LaneId) : Part :=
  ((admitted p e rec r l).handOff l e.filter (e.override.getD rec.cfg.slot) (washNeed rec r)).trigger

theorem admission_from_reserved (p : Part) (e : Entry) (rec : FilterRecord) (r : Recipe) (l : LaneId) :
    OnlyChanges (laneWork ++ [Piece.scanDue]) (reserved p e rec r l) (admission p e rec r l) :=
  onlyChanges_trans (onlyChanges_mono (admitted_from_reserved p e rec r l) (by simp)) (by unfold admission; simp)

theorem admission_only (p : Part) (e : Entry) (rec : FilterRecord) (r : Recipe) (l : LaneId) :
    OnlyChanges admitting p (admission p e rec r l) :=
  onlyChanges_trans (onlyChanges_mono (reserved_only p e rec r l) (by simp))
    (onlyChanges_mono (admission_from_reserved p e rec r l) (by simp))

section Admission
variable {p : Part} {e : Entry} {rec : FilterRecord} {r : Recipe} (hf : p.filter e.filter = some rec)
  (hr : p.recipe (e.override.getD rec.cfg.slot) = some r) (l : LaneId)

include hf hr in
theorem admitEntry_eq (hl : p.idleLane = some l) : p.admitEntry e = admission p e rec r l := by
  unfold Part.admitEntry admission admitted
  rw [hl, admittedBody_eq]
  dsimp only
  rw [requirement_of hf hr, slotFor_of hf]
  rfl

theorem handedOff_only (p : Part) (e : Entry) (rec : FilterRecord) (r : Recipe) (l : LaneId) (slot : SlotId) (s : Share) :
    OnlyChanges laneWork (admitted p e rec r l) ((admitted p e rec r l).handOff l e.filter slot s) := by simp

theorem admission_due (hop : p.operating = true) : (admission p e rec r l).sched.scanDue = true :=
  trigger_due _ ((operating_kept (handedOff_only p e rec r l _ _) (by simp)).trans
    ((operating_kept (admitted_only p e rec r l) (by simp)).trans hop))

theorem admission_lane (m : LaneId) : (admission p e rec r l).lane m =
    ((admitted p e rec r l).handOff l e.filter (e.override.getD rec.cfg.slot) (washNeed rec r)).lane m := by
  have k : ∀ q : Part, OnlyChanges [.scanDue] q q.trigger := fun q => by simp
  exact lane_kept (k _) (by simp) m

variable (he : p.entry e.filter = some e)
include hf he

theorem admission_admits : Admits p (admission p e rec r l) e rec r l := by
  have k := admission_from_reserved p e rec r l
  have kt : OnlyChanges (laneWork ++ [Piece.scanDue, .shares, .lastAdmission]) (takenForWash p e l) (admission p e rec r l) :=
    onlyChanges_trans (onlyChanges_mono (reserved_from_taken p e rec r l) (by simp)) (onlyChanges_mono k (by simp))
  have ka := admitted_only p e rec r l
  have clock : (admitted p e rec r l).startUp.clock = p.startUp.clock := ka .clock (by simp)
  obtain ⟨w, lane, started⟩ := handOff_lane (admitted p e rec r l) l e.filter (e.override.getD rec.cfg.slot) (washNeed rec r)
  refine ⟨(entry_kept kt (by simp) _).trans (takenForWash_entry he l),
    (filter_kept kt (by simp) _).trans (takenForWash_filter hf l),
    fun g hg => ⟨(entry_kept kt (by simp) g).trans (takenForWash_entry_ne he l hg),
      (filter_kept kt (by simp) g).trans (takenForWash_filter_ne l hg)⟩,
    ⟨w, (admission_lane l l).trans lane, ?_⟩, fun m hm => ?_,
    Eq.trans (k .shares (by simp)) (reserved_shares p e rec r l),
    Eq.trans (k .lastAdmission (by simp)) (reserved_lastAdmission p e rec r l)⟩
  · unfold WashStarted at started ⊢
    rw [clock] at started
    exact started
  · exact (admission_lane l m).trans ((handOff_other _ l _ _ _ m hm).trans (lane_kept ka (by simp) m))

include hr

theorem admission_reports (hop : p.operating = true) : ∃ between after,
    Reports p (admission p e rec r l) (admissionReports p e rec r l between after) ∧
    (rec.state ≠ .online → between = []) ∧ ∀ b ∈ between, ∃ k all, b = .calcSet k all (.loading none) := by
  obtain ⟨between, taken, quiet, calcs⟩ := takenForWash_reports hf he l hop
  have kr := reserved_only p e rec r l
  have ka := admitted_only p e rec r l
  have told : Reports p (admitted p e rec r l) _ :=
    reports_more (q := reserved p e rec r l) ((booked_link _ l _).trans taken) (kr .clock (by simp)) _
  obtain ⟨after, phase⟩ := handOff_reports ((recipe_kept ka (by simp) _).trans hr) l e.filter (washNeed rec r)
  have all := reports_trans told (ka .clock (by simp)) phase
  refine ⟨between, after, ?_, quiet, calcs⟩
  unfold Reports at all ⊢
  rw [admission, trigger_link, all]
  simp only [List.append_assoc, admissionReports, admittedBody, washNeed, List.cons_append, List.nil_append]

end Admission

/-! ### Proposal (R82) -/

/-- The proposal written, before it is reported. -/
def withProposal (p : Part) (e : Entry) : Part :=
  let made : Proposal := ⟨e.filter, min (p.startUp.clock + p.plant.lifetime) 4294967295⟩
  ({ p with sched := { p.sched with proposal := some made } } : Part).cancel .proposalExpiry

theorem withProposal_only (p : Part) (e : Entry) : OnlyChanges [.proposal, .events] p (withProposal p e) := by
  unfold withProposal; simp

theorem propose_eq {p : Part} {e : Entry} {rec : FilterRecord} {r : Recipe} (hf : p.filter e.filter = some rec)
    (hr : p.recipe (e.override.getD rec.cfg.slot) = some r) {l : LaneId} (hl : p.idleLane = some l) :
    p.propose e = (withProposal p e).report (.proposal e.filter e.cls e.source e.u (e.override.getD rec.cfg.slot)
      (waterNeed rec r) (wasteNeed rec r) l (min (p.startUp.clock + p.plant.lifetime) 4294967295)) := by
  have slot : (withProposal p e).slotFor e = _ := slotFor_of (p := withProposal p e) hf
  have lane : (withProposal p e).idleLane = some l := hl
  unfold Part.propose
  rw [requirement_of hf hr]
  show (withProposal p e).report (.proposal _ _ _ _ ((withProposal p e).slotFor e) _ _
    ((withProposal p e).idleLane.getD .a) _) = _
  rw [slot, lane]
  rfl

/-! ### The head that passes every test -/

theorem idleLane_of {p : Part} {l : LaneId} (h : LowestIdle p l) : p.idleLane = some l := by
  obtain ⟨idle, lowest⟩ := h
  cases l with
  | a => simp [Part.idleLane, allLanes, idle]
  | b =>
    obtain ⟨w, busy⟩ := lowest rfl
    simp [Part.idleLane, allLanes, idle, busy]

theorem idleLane_kept {xs : List Piece} {p q : Part} (h : OnlyChanges xs p q) (hx : Piece.lanes ∉ xs) :
    q.idleLane = p.idleLane := by
  unfold Part.idleLane
  simp only [lane_kept h hx]

/-- The part after the tests, once all have passed. -/
def headPassed (p : Part) (e : Entry) (rec : FilterRecord) : Part := if rec.state = .online then headTested p e rec else p

theorem headPassed_only (p : Part) (e : Entry) (rec : FilterRecord) :
    OnlyChanges ([Piece.flags] ++ reporting) p (headPassed p e rec) := by
  unfold headPassed
  split
  · exact headTested_only p e rec
  · exact onlyChanges_refl _ _

theorem headPassed_reports (p : Part) (e : Entry) (rec : FilterRecord) :
    Reports p (headPassed p e rec) (if rec.state = .online then testReports p e.filter rec else []) := by
  unfold headPassed
  split
  · exact headTested_reports p e rec
  · rfl

theorem headPassed_flags (p : Part) (e : Entry) (rec : FilterRecord) :
    (headPassed p e rec).sched.flags = if rec.state = .online then flagsWith p (testFlags p rec) else p.sched.flags := by
  unfold headPassed
  split
  · exact headTested_flags p e rec
  · rfl

theorem testHead_passed {p q : Part} {e : Entry} (h : p.tests e = (q, none)) :
    p.testHead e = if q.sched.mode = .directed ∧ e.cls ≠ .manual then (q.propose e).setBlocked .proposed
      else (q.admitEntry e).setBlocked .none := by
  unfold Part.testHead; rw [h]

section Passes
variable {p : Part} {e : Entry} {rec : FilterRecord} {r : Recipe} (hf : p.filter e.filter = some rec)
  (hr : p.recipe (e.override.getD rec.cfg.slot) = some r)
include hf hr

theorem tests_passes (h : PassesTests p e rec r) : p.tests e = (headPassed p e rec, none) := by
  obtain ⟨ready, loading, water, room⟩ := h
  have k := headPassed_only p e rec
  have shares : (headPassed p e rec).sched.shares = p.sched.shares := k .shares (by simp)
  obtain ⟨tank, basin⟩ := k .volumes (by simp)
  have step : p.loadingStep e = (headPassed p e rec, none) := by
    unfold headPassed
    split
    next online => exact loadingStep_within hf online (loading online)
    next offline => exact loadingStep_offline hf offline
  refine tests_pass hf hr ready step ?_ ?_
  · unfold WaterFor at water ⊢; rw [tank, shares]; exact water
  · unfold RoomFor at room ⊢; rw [basin, shares]; exact room

section Lane
variable {l : LaneId} (hl : LowestIdle p l)
include hl

/-- R77: the head admitted. -/
theorem headPassed_admits (he : p.entry e.filter = some e) (hop : p.operating = true) :
    AdmitsByTests p e rec r l fun xs bs now =>
      HeadEnds p (((headPassed p e rec).admitEntry e).setBlocked .none) xs bs .none now := by
  have k := headPassed_only p e rec
  have same := sameAdmission_kept k (by simp)
  have hf' := (filter_kept k (by simp) e.filter).trans hf
  have hr' := (recipe_kept k (by simp) (e.override.getD rec.cfg.slot)).trans hr
  have he' := (entry_kept k (by simp) e.filter).trans he
  have hop' := (operating_kept k (by simp)).trans hop
  rw [admitEntry_eq hf' hr' l ((idleLane_kept k (by simp)).trans (idleLane_of hl))]
  obtain ⟨between, after, told, quiet, calcs⟩ := admission_reports hf' hr' l he' hop'
  rw [admissionReports_same same] at told
  refine ⟨between, after, quiet, calcs, headEnds_setBlocked _ ?_ ?_ ⟨?_, admission_due l hop'⟩⟩
  · exact onlyChanges_trans (onlyChanges_mono k (by simp)) (admission_only _ e rec r l)
  · exact reports_trans (headPassed_reports p e rec) (k .clock (by simp)) told
  · exact admits_aside (by simp)
      (admits_same same (fun g _ => entry_kept k (by simp) g) (admission_admits hf' l he'))

/-- R82: the head proposed. -/
theorem headPassed_proposes :
    let expiry := min (p.startUp.clock + p.plant.lifetime) 4294967295
    HeadEnds p (((headPassed p e rec).propose e).setBlocked .proposed) ([Piece.proposal, .flags, .events] ++ reporting)
      ((if rec.state = .online then testReports p e.filter rec else []) ++
        [ReportBody.proposal e.filter e.cls e.source e.u (e.override.getD rec.cfg.slot) (waterNeed rec r) (wasteNeed rec r) l expiry])
      .proposed fun q => q.sched.proposal = some ⟨e.filter, expiry⟩ ∧
        q.sched.flags = if rec.state = .online then flagsWith p (testFlags p rec) else p.sched.flags := by
  have k := headPassed_only p e rec
  have clock : (headPassed p e rec).startUp.clock = p.startUp.clock := k .clock (by simp)
  have plant : (headPassed p e rec).plant = p.plant := k .plant (by simp)
  have kw := withProposal_only (headPassed p e rec) e
  have proposed : (withProposal (headPassed p e rec) e).sched.proposal =
      some ⟨e.filter, min (p.startUp.clock + p.plant.lifetime) 4294967295⟩ := by
    rw [← clock, ← plant]; rfl
  have kr : ∀ (q : Part) (b : ReportBody), OnlyChanges ([Piece.blocked] ++ reporting) q ((q.report b).setBlocked .proposed) :=
    fun q b => by simp
  rw [propose_eq ((filter_kept k (by simp) _).trans hf) ((recipe_kept k (by simp) _).trans hr)
    ((idleLane_kept k (by simp)).trans (idleLane_of hl)), clock, plant]
  refine headEnds_setBlocked _ ?_ ?_ ⟨?_, ?_⟩
  · exact onlyChanges_trans (onlyChanges_mono k (by simp)) (onlyChanges_trans (onlyChanges_mono kw (by simp)) (by simp))
  · exact reports_more (q := withProposal (headPassed p e rec) e) (headPassed_reports p e rec) clock _
  · exact Eq.trans (kr _ _ .proposal (by simp)) proposed
  · exact Eq.trans (kr _ _ .flags (by simp)) (Eq.trans (kw .flags (by simp)) (headPassed_flags p e rec))

end Lane

/-- R76, R77, R82: the head that passes every test. -/
theorem testHead_passes (he : p.entry e.filter = some e) (hop : p.operating = true) :
    TestsPass p e rec r (HeadEnds p (p.testHead e)) := by
  intro passes l hl
  have k := headPassed_only p e rec
  have mode : (headPassed p e rec).sched.mode = p.sched.mode := k .mode (by simp)
  rw [testHead_passed (tests_passes hf hr passes), mode]
  refine ⟨fun h => ?_, fun hm hc => ?_⟩
  · rw [if_neg fun ⟨hm, hc⟩ => h.elim (by rw [hm]; simp) hc]
    exact headPassed_admits hf hr hl he hop
  · rw [if_pos ⟨hm, hc⟩]
    exact headPassed_proposes hf hr hl

end Passes

end Sys2Proof.Laws
end

section
/-! SUPPORT. The EARLY rule (R48): the entry it raises is the scan's head, and the scan goes on with it as it would from the
part before. -/

namespace Sys2Proof.Laws

open Sys2Proof.Machine

/-! ### The tests read from another part -/

/-- What the words of Table 4-2 read of the part, beside the filters that can be substituted. -/
structure SameTests (p q : Part) : Prop extends SameCourse p q, SameAdmission p q where
  unit : q.unit = p.unit
  flow : q.front.flow = p.front.flow
  tank : q.front.tank = p.front.tank
  basin : q.front.basin = p.front.basin
  tankAvail : q.front.tankAvail = p.front.tankAvail
  basinRoom : q.front.basinRoom = p.front.basinRoom
  lastAdmission : q.sched.lastAdmission = p.sched.lastAdmission
  flags : q.sched.flags = p.sched.flags
  mode : q.sched.mode = p.sched.mode

theorem sameTests_kept {xs : List Piece} {p q : Part} (h : OnlyChanges xs p q)
    (hx : ∀ x ∈ [Piece.stop, .map, .channels, .filters, .clock, .plant, .lanes, .shares, .marker, .units, .points, .volumes,
      .lastAdmission, .flags, .mode], x ∉ xs) : SameTests p q where
  toSameCourse := sameCourse_kept h fun x m => hx x (by simp at m ⊢; tauto)
  lane := funext (lane_kept h (hx _ (by simp)))
  shares := h .shares (hx _ (by simp))
  marker := h .marker (hx _ (by simp))
  unit := funext (unit_kept h (hx _ (by simp)))
  flow := by obtain ⟨-, -, flow, -, -⟩ := h .points (hx _ (by simp)); exact flow
  tank := by obtain ⟨-, -, -, tank, -⟩ := h .points (hx _ (by simp)); exact tank
  basin := by obtain ⟨-, -, -, -, basin⟩ := h .points (hx _ (by simp)); exact basin
  tankAvail := by obtain ⟨tank, -⟩ := h .volumes (hx _ (by simp)); exact tank
  basinRoom := by obtain ⟨-, basin⟩ := h .volumes (hx _ (by simp)); exact basin
  lastAdmission := h .lastAdmission (hx _ (by simp))
  flags := h .flags (hx _ (by simp))
  mode := h .mode (hx _ (by simp))

section Same
variable {p q : Part} (h : SameTests p q) {e : Entry} {rec : FilterRecord} {r : Recipe}
include h

theorem readyForLoading_same : ReadyForLoading q e r = ReadyForLoading p e r := by
  unfold ReadyForLoading LaneFree Spaced Equipped Measured UsableUnit Part.busyLanes
  simp only [h.lane, h.plant, h.lastAdmission, h.clock, h.unit, h.tank, h.basin]

theorem failsBeforeLoading_same : FailsBeforeLoading q e r = FailsBeforeLoading p e r := by
  unfold FailsBeforeLoading LaneFree Spaced Equipped Measured UsableUnit Part.busyLanes
  simp only [h.lane, h.plant, h.lastAdmission, h.clock, h.unit, h.tank, h.basin]

theorem waterFor_same : WaterFor q = WaterFor p := by
  unfold WaterFor
  rw [h.tankAvail, h.shares]

theorem roomFor_same : RoomFor q = RoomFor p := by
  unfold RoomFor
  rw [h.basinRoom, h.shares]

theorem serviceArea_same : q.serviceArea = p.serviceArea := by
  unfold Part.serviceArea Part.onlineFilters
  rw [h.filter]

theorem loadingWithout_same : loadingWithout q = loadingWithout p := by
  unfold loadingWithout Part.flowUsed
  rw [serviceArea_same h, h.flow, h.plant]

theorem testFlags_same : testFlags q = testFlags p := by
  unfold testFlags loadingFlags Part.flowUsed
  rw [serviceArea_same h, h.flow, h.plant]

theorem flagsWith_same : flagsWith q = flagsWith p := by
  unfold flagsWith
  rw [h.flags]

theorem testReports_same : testReports q = testReports p := by
  unfold testReports calcReports
  rw [testFlags_same h, flagsWith_same h, h.flags, h.plant]

/-- The tests end as they would from the part before. -/
theorem testsEnd_same (hs : CanSubstitute q = CanSubstitute p)
    {ends ends' : List Piece → List ReportBody → BlockedReason → (Part → Prop) → Prop}
    (hi : ∀ xs bs b now, .queue ∉ xs → ends xs bs b now → ends' xs bs b now) (hq : TestsEnd q e rec r ends) :
    TestsEnd p e rec r ends' := by
  have course := fun g x => transferBegins_same (h.toSameCourse) g x .toService (some g)
  unfold TestsEnd FailsAfterLoading FirstSubstitute at hq
  rw [readyForLoading_same h, failsBeforeLoading_same h, waterFor_same h, roomFor_same h, loadingWithout_same h, h.plant,
    testFlags_same h, flagsWith_same h, testReports_same h, h.marker, hs, h.filter] at hq
  simp only [course] at hq
  obtain ⟨before, after⟩ := hq
  refine ⟨fun b hb => hi _ _ _ _ (by simp) (before b hb), fun ready => ?_⟩
  obtain ⟨offline, within, exceeds⟩ := after ready
  refine ⟨fun hoff b hb => hi _ _ _ _ (by simp) (offline hoff b hb),
    fun hon hv b hb => hi _ _ _ _ (by simp) (within hon hv b hb), fun hon hv => ?_⟩
  obtain ⟨marked, alone, substitutes⟩ := exceeds hon hv
  exact ⟨fun hm => hi _ _ _ _ (by simp) (marked hm), fun hm hn => hi _ _ _ _ (by simp) (alone hm hn),
    fun g x hm hx => transferBegins_aside (fun xs bs now hxs _ => hi _ _ _ _ (by simpa using hxs)) (substitutes g x hm hx)⟩

/-- So they do where all pass. -/
theorem testsPass_same (he : ∀ g, g ≠ e.filter → q.entry g = p.entry g)
    {ends ends' : List Piece → List ReportBody → BlockedReason → (Part → Prop) → Prop}
    (hi : ∀ xs bs b (now now' : Part → Prop), (∀ t, now t → now' t) → ends xs bs b now → ends' xs bs b now')
    (hq : TestsPass q e rec r ends) : TestsPass p e rec r ends' := by
  unfold TestsPass PassesTests at hq
  rw [readyForLoading_same h, waterFor_same h, roomFor_same h, loadingWithout_same h, h.plant, testFlags_same h,
    flagsWith_same h, testReports_same h, h.mode, h.flags, h.clock] at hq
  intro passes l hl
  obtain ⟨admits, proposes⟩ := hq passes l (by unfold LowestIdle at hl ⊢; rw [h.lane]; exact hl)
  refine ⟨fun hm => ?_, fun hm hc => hi _ _ _ _ _ (fun _ => id) (proposes hm hc)⟩
  obtain ⟨between, after, quiet, calcs, done⟩ := admits hm
  rw [testReports_same h, admissionReports_same h.toSameAdmission] at done
  exact ⟨between, after, quiet, calcs, hi _ _ _ _ _ (fun t ⟨ha, due⟩ => ⟨admits_same h.toSameAdmission he ha, due⟩) done⟩

end Same

end Sys2Proof.Laws
end

section
/-! SUPPORT. The EARLY rule (R48): which filter it raises an entry for, and the scan that goes on with that entry. -/

namespace Sys2Proof.Laws

open Sys2Proof.Machine

/-! ### The highest index -/

theorem highest_mem {xs : List (FilterId × Nat)} {y : FilterId × Nat} (h : highest xs = some y) : y ∈ xs := by
  induction xs with
  | nil => cases h
  | cons x xs ih =>
    unfold highest at h
    split at h
    next z hz =>
      split at h
      · exact List.mem_cons_of_mem _ (ih (hz.trans h))
      · rw [Option.some.inj h]; exact List.mem_cons_self
    next => rw [Option.some.inj h]; exact List.mem_cons_self

/-- In a list in the order of the filters, the highest U with the lowest number among equals is found. -/
theorem highest_of {xs : List (FilterId × Nat)} {y : FilterId × Nat} (order : xs.Pairwise fun a b => a.1 < b.1) (hy : y ∈ xs)
    (best : ∀ x ∈ xs, x.2 < y.2 ∨ (x.2 = y.2 ∧ y.1 ≤ x.1)) : highest xs = some y := by
  induction xs with
  | nil => cases hy
  | cons x xs ih =>
    obtain ⟨first, order⟩ := List.pairwise_cons.1 order
    unfold highest
    rcases List.mem_cons.1 hy with rfl | hy
    · split
      next z hz =>
        have hle := best z (List.mem_cons_of_mem _ (highest_mem hz))
        rw [if_neg (by omega)]
      next => rfl
    · rw [ih order hy fun z hz => best z (List.mem_cons_of_mem _ hz)]
      refine if_pos ((best x List.mem_cons_self).resolve_right fun ⟨_, hle⟩ => ?_)
      exact absurd (first y hy) (not_lt_of_ge hle)

/-! ### The filter that the rule picks -/

theorem eligible_iff (p : Part) (e : Entry) : p.eligible e = true ↔ Eligible p e := by
  unfold Part.eligible Eligible Entry.deferred Part.clock
  rw [Bool.and_eq_true, Bool.not_eq_true', Bool.not_eq_true']
  cases e.deferUntil <;> simp

theorem eligible_kept {xs : List Piece} {p q : Part} (h : OnlyChanges xs p q) (hc : Piece.clock ∉ xs) (hm : Piece.mask ∉ xs)
    (e : Entry) : Eligible q e ↔ Eligible p e := by
  unfold Eligible
  rw [show q.startUp.clock = p.startUp.clock from h .clock hc, show q.sched.mask = p.sched.mask from h .mask hm]

/-- The EARLY rule raises an entry for this filter (R48). -/
structure EarlyDue (p : Part) (f : FilterId) (rec : FilterRecord) : Prop where
  enabled : p.plant.early ≠ 0
  unmasked : hasClass p.sched.mask .early = false
  idle : ∀ l, p.lane l = none
  headless : ∀ e ∈ p.sched.queue, ¬ Eligible p e ∧ e.cls ≠ .early
  here : p.filter f = some rec
  online : rec.state = .online
  still : rec.transfer = none
  free : p.entry f = none
  reached : p.plant.early ≤ rec.u
  best : ∀ g x, p.filter g = some x → x.state = .online → x.transfer = none → p.entry g = none →
    x.u < rec.u ∨ (x.u = rec.u ∧ f ≤ g)

theorem mem_earlyCandidates {p : Part} {g : FilterId} {u : Nat} : (g, u) ∈ p.earlyCandidates ↔
    ∃ x, p.filter g = some x ∧ x.state = .online ∧ x.transfer = none ∧ p.entry g = none ∧ p.plant.early ≤ x.u ∧ x.u = u := by
  unfold Part.earlyCandidates
  rw [List.mem_filterMap]
  constructor
  · rintro ⟨f, -, hf⟩
    obtain ⟨x, hx, hg⟩ := Option.bind_eq_some_iff.1 hf
    split at hg
    next h =>
      obtain ⟨hs, ht, he, hu⟩ := h
      obtain ⟨rfl, rfl⟩ := Prod.mk.inj (Option.some.inj hg)
      exact ⟨x, hx, hs, ht, he, hu, rfl⟩
    next => cases hg
  · rintro ⟨x, hx, hs, ht, he, hu, rfl⟩
    exact ⟨g, mem_allFilters g, by rw [hx, Option.bind_some, if_pos ⟨hs, ht, he, hu⟩]⟩

theorem earlyCandidates_order (p : Part) : p.earlyCandidates.Pairwise fun a b => a.1 < b.1 := by
  have fst : ∀ g (y : FilterId × Nat), ((p.filter g).bind fun r => if r.state = .online ∧ r.transfer = none ∧
      p.entry g = none ∧ p.plant.early ≤ r.u then some (g, r.u) else none) = some y → y.1 = g := by
    intro g y hy
    obtain ⟨x, -, hx⟩ := Option.bind_eq_some_iff.1 hy
    split at hx
    · rw [← Option.some.inj hx]
    · cases hx
  unfold Part.earlyCandidates
  rw [List.pairwise_filterMap]
  refine (List.pairwise_lt_finRange 16).imp fun {a b} hab y hy z hz => ?_
  rw [fst a y hy, fst b z hz]
  exact hab

section Early
variable {p : Part} {f : FilterId} {rec : FilterRecord} (h : EarlyDue p f rec)

/-- The entry that the rule raises. -/
def earlyEntry (p : Part) (f : FilterId) (rec : FilterRecord) : Entry :=
  ⟨f, .early, .auto, rec.u, p.startUp.clock, none, none⟩

/-- The part once the rule has raised it, no scan triggered. -/
def earlyRaised (p : Part) (f : FilterId) (rec : FilterRecord) : Part :=
  (p.addEntry f .early .auto rec.u none).setScanDue p.sched.scanDue

theorem earlyRaised_only (p : Part) (f : FilterId) (rec : FilterRecord) :
    OnlyChanges ([Piece.queue, .scanDue] ++ reporting) p (earlyRaised p f rec) := by unfold earlyRaised; simp

theorem raised_from_added (p : Part) (f : FilterId) (rec : FilterRecord) :
    OnlyChanges [.scanDue] (p.addEntry f .early .auto rec.u none) (earlyRaised p f rec) := by unfold earlyRaised; simp

theorem earlyRaised_entry (p : Part) (f : FilterId) (rec : FilterRecord) :
    (earlyRaised p f rec).entry f = some (earlyEntry p f rec) :=
  (entry_kept (raised_from_added p f rec) (by simp) f).trans (addEntry_entry p f _ _ _ _)

theorem earlyRaised_entry_ne (p : Part) {f g : FilterId} (hg : g ≠ f) (rec : FilterRecord) :
    (earlyRaised p f rec).entry g = p.entry g :=
  (entry_kept (raised_from_added p f rec) (by simp) g).trans (addEntry_entry_ne p f _ _ _ _ hg)

theorem earlyRaised_reports (p : Part) (f : FilterId) (rec : FilterRecord) :
    Reports p (earlyRaised p f rec) [.request .added f .early none .auto rec.u none] := addEntry_link p f _ _ _ _

theorem earlyRaised_queue (p : Part) (f : FilterId) (rec : FilterRecord) : (earlyRaised p f rec).sched.queue =
    insertEntry (earlyEntry p f rec) (removeEntry f p.sched.queue) := by
  have k : OnlyChanges ([Piece.scanDue] ++ reporting) (p.putEntry (earlyEntry p f rec)) (earlyRaised p f rec) := by
    unfold earlyRaised Part.addEntry; simp [earlyEntry, Part.clock]
  exact k .queue (by simp)

include h

theorem earlyAllowed_of : p.earlyAllowed = true := by
  unfold Part.earlyAllowed Part.busyLanes
  have early : ¬ p.sched.queue.any (fun e => e.cls == .early) = true := by
    rw [List.any_eq_true]
    rintro ⟨e, he, hc⟩
    exact (h.headless e he).2 (by simpa using hc)
  have eligible : ¬ p.sched.queue.any p.eligible = true := by
    rw [List.any_eq_true]
    rintro ⟨e, he, hc⟩
    exact (h.headless e he).1 ((eligible_iff p e).1 hc)
  simp [h.enabled, h.unmasked, h.idle, eq_false_of_ne_true early, eq_false_of_ne_true eligible]

theorem earlyRule_of : p.earlyRule = earlyRaised p f rec := by
  have pick : highest p.earlyCandidates = some (f, rec.u) := by
    refine highest_of (earlyCandidates_order p)
      (mem_earlyCandidates.2 ⟨rec, h.here, h.online, h.still, h.free, h.reached, rfl⟩) ?_
    rintro ⟨g, u⟩ hg
    obtain ⟨x, hx, hs, ht, he, -, rfl⟩ := mem_earlyCandidates.1 hg
    exact h.best g x hx hs ht he
  unfold Part.earlyRule
  rw [if_pos (earlyAllowed_of h), pick]
  rfl

/-- The entry raised is the only one the scan does not pass over. -/
theorem earlyRaised_head : (earlyRaised p f rec).head = some (earlyEntry p f rec) := by
  have k := earlyRaised_only p f rec
  have mem : ∀ x, x ∈ (earlyRaised p f rec).sched.queue ↔ x = earlyEntry p f rec ∨ (x ∈ p.sched.queue ∧ x.filter ≠ f) := by
    intro x
    rw [earlyRaised_queue, (insertEntry_perm _ _).mem_iff, List.mem_cons, mem_removeEntry]
  have own : (earlyRaised p f rec).eligible (earlyEntry p f rec) = true := by
    rw [eligible_iff, eligible_kept k (by simp) (by simp)]
    exact ⟨nofun, h.unmasked⟩
  unfold Part.head
  cases hq : (earlyRaised p f rec).sched.queue.find? (earlyRaised p f rec).eligible with
  | none => exact absurd own (List.find?_eq_none.1 hq _ ((mem _).2 (.inl rfl)))
  | some x =>
    have hx : Eligible p x := by
      rw [← eligible_kept k (by simp) (by simp), ← eligible_iff]
      exact List.find?_some hq
    rcases (mem x).1 (List.mem_of_find?_eq_some hq) with rfl | ⟨hx', -⟩
    · rfl
    · exact absurd hx (h.headless x hx').1

theorem earlyRaised_canSubstitute : CanSubstitute (earlyRaised p f rec) = CanSubstitute p := by
  have k := earlyRaised_only p f rec
  funext g
  unfold CanSubstitute
  rw [filter_kept k (by simp)]
  by_cases hg : g = f
  · subst hg
    have never : ∀ r, ¬ (p.filter g = some r ∧ r.state = .standby) := by
      rintro r ⟨hr, hs⟩
      obtain rfl : rec = r := Option.some.inj (h.here.symm.trans hr)
      rw [h.online] at hs
      cases hs
    exact propext (iff_of_false (fun ⟨r, hr, hs, _⟩ => never r ⟨hr, hs⟩) (fun ⟨r, hr, hs, _⟩ => never r ⟨hr, hs⟩))
  · rw [earlyRaised_entry_ne p hg]

/-- The scan goes on with the entry raised. -/
theorem scan_of_earlyDue (hm : p.sched.mode ≠ .paused) (hp : p.sched.proposal = none) :
    p.scan = (earlyRaised p f rec).testHead (earlyEntry p f rec) := by
  have k := earlyRaised_only p f rec
  have proposal : (earlyRaised p f rec).sched.proposal = none := Eq.trans (k .proposal (by simp)) hp
  unfold Part.scan
  rw [if_neg hm, earlyRule_of h]
  dsimp only
  rw [earlyRaised_head h]
  dsimp only
  rw [proposal]

end Early

/-! ### The row -/

section Row
variable {s : State} {f : FilterId} {rec : FilterRecord} (h : EarlyDue s.part f rec)

/-- The part that the tests see. -/
def earlyPart (p : Part) (f : FilterId) (rec : FilterRecord) : Part := earlyRaised (p.setScanDue false) f rec

theorem setScanDue_only (p : Part) (b : Bool) : OnlyChanges [.scanDue] p (p.setScanDue b) := by simp

theorem earlyPart_only (p : Part) (f : FilterId) (rec : FilterRecord) :
    OnlyChanges ([Piece.queue, .scanDue] ++ reporting) p (earlyPart p f rec) :=
  onlyChanges_trans (onlyChanges_mono (setScanDue_only p false) (by simp)) (earlyRaised_only _ f rec)

theorem earlyPart_entry_ne (p : Part) {f g : FilterId} (hg : g ≠ f) (rec : FilterRecord) :
    (earlyPart p f rec).entry g = p.entry g := earlyRaised_entry_ne (p.setScanDue false) hg rec

theorem earlyDue_setScanDue {p : Part} (h : EarlyDue p f rec) (b : Bool) : EarlyDue (p.setScanDue b) f rec := by
  obtain ⟨enabled, unmasked, idle, headless, here, online, still, free, reached, best⟩ := h
  exact ⟨enabled, unmasked, idle, headless, here, online, still, free, reached, best⟩

include h in
theorem exec_scan_early (hl : s.part.live = true) (ht : s.part.startUp.top = .operating) (hd : s.part.sched.scanDue = true)
    (hm : s.part.sched.mode ≠ .paused) (hp : s.part.sched.proposal = none) : exec .admissionScan s =
      .next { s with part := (earlyPart s.part f rec).testHead (earlyEntry s.part f rec) } := by
  have run : s.part.runScan = (s.part.setScanDue false).scan := by
    unfold Part.runScan
    rw [operating_of ht, hd]
    rfl
  rw [exec_admissionScan, act_live _ hl, run, scan_of_earlyDue (earlyDue_setScanDue h false) hm hp]
  rfl

/-- Where the tests end so from the part with the entry raised, the row ends so. -/
theorem scanEnds_early (hx : exec .admissionScan s =
      .next { s with part := (earlyPart s.part f rec).testHead (earlyEntry s.part f rec) })
    {xs : List Piece} {bs : List ReportBody} {b : BlockedReason} {now now' : Part → Prop}
    (hh : HeadEnds (earlyPart s.part f rec) ((earlyPart s.part f rec).testHead (earlyEntry s.part f rec)) xs bs b now)
    (hn : ∀ t, t = (earlyPart s.part f rec).testHead (earlyEntry s.part f rec) → now t → now' t) :
    ScanEnds s false ([Piece.queue] ++ reporting ++ xs) ([ReportBody.request .added f .early none .auto rec.u none] ++ bs) b
      now' := by
  obtain ⟨k, blocked, told, shown⟩ := hh
  have ke := earlyPart_only s.part f rec
  refine ⟨_, hx, rfl, ?_, blocked, fun hd => ?_, ?_, hn _ rfl shown⟩
  · exact onlyChanges_trans (onlyChanges_mono ke (by intro x; simp; tauto)) (onlyChanges_mono k (by intro x; simp; tauto))
  · exact k .scanDue (by simp at hd ⊢; exact hd)
  · exact reports_trans (earlyRaised_reports (s.part.setScanDue false) f rec) (ke .clock (by simp)) told

end Row

/-! ### The entries of the other filters -/

theorem dropEntry_entry_ne (p : Part) {f g : FilterId} (hg : g ≠ f) (c : RemovalCause) :
    (p.dropEntry f c).entry g = p.entry g := by
  cases he : p.entry f with
  | none => rw [dropEntry_none he]
  | some e =>
    obtain ⟨-, others, -, -⟩ := dropEntry_of he c
    exact others g hg

theorem admitEntry_entry_ne (p : Part) {e : Entry} {g : FilterId} (hg : g ≠ e.filter) :
    (p.admitEntry e).entry g = p.entry g := by
  cases hl : p.idleLane with
  | none => unfold Part.admitEntry; rw [hl]
  | some l =>
    have k : OnlyChanges (laneWork ++ [Piece.filters, .selection, .shares, .lastAdmission, .flags, .overload, .scanDue])
        (p.dropEntry e.filter .admitted) (p.admitEntry e) := by
      unfold Part.admitEntry
      rw [hl]
      simp
    exact (entry_kept k (by simp) g).trans (dropEntry_entry_ne p hg .admitted)

theorem testHead_entry_ne (p : Part) {e : Entry} {g : FilterId} (hg : g ≠ e.filter) :
    (p.testHead e).entry g = p.entry g := by
  have kt : OnlyChanges ([Piece.filters, .marker, .channels, .selection, .flags, .overload, .scanDue, .events] ++ reporting) p
      (p.tests e).1 := by simp
  have kb : ∀ (q : Part) b, OnlyChanges [.blocked] q (q.setBlocked b) := fun q b => by simp
  have kp : ∀ q : Part, OnlyChanges ([Piece.proposal, .events] ++ reporting) q (q.propose e) := fun q => by simp
  unfold Part.testHead
  split
  next q b h =>
    rw [h] at kt
    exact (entry_kept (kb q b) (by simp) g).trans (entry_kept kt (by simp) g)
  next q h =>
    rw [h] at kt
    split
    · exact (entry_kept (kb _ _) (by simp) g).trans
        ((entry_kept (kp q) (by simp) g).trans (entry_kept kt (by simp) g))
    · exact (entry_kept (kb _ _) (by simp) g).trans
        ((admitEntry_entry_ne q hg).trans (entry_kept kt (by simp) g))

/-! ### The entry raised, put to the tests -/

theorem earlyPart_entry (p : Part) (f : FilterId) (rec : FilterRecord) :
    (earlyPart p f rec).entry f = some (earlyEntry p f rec) := earlyRaised_entry (p.setScanDue false) f rec

theorem earlyPart_same (p : Part) (f : FilterId) (rec : FilterRecord) : SameTests p (earlyPart p f rec) :=
  sameTests_kept (earlyPart_only p f rec) (by simp)

theorem earlyPart_others (p : Part) {f : FilterId} (rec : FilterRecord) (g : FilterId) (hg : g ≠ f) :
    ((earlyPart p f rec).testHead (earlyEntry p f rec)).entry g = p.entry g :=
  (testHead_entry_ne _ hg).trans (earlyPart_entry_ne p hg rec)

section Tested
variable {p : Part} {f : FilterId} {rec : FilterRecord} {r : Recipe} (hf : p.filter f = some rec)
  (hr : p.recipe rec.cfg.slot = some r) (hop : p.operating = true)
include hf hr hop

theorem earlyPart_ends : TestsEnd (earlyPart p f rec) (earlyEntry p f rec) rec r
    (HeadEnds (earlyPart p f rec) ((earlyPart p f rec).testHead (earlyEntry p f rec))) := by
  have k := earlyPart_only p f rec
  have filter : (earlyPart p f rec).filter (earlyEntry p f rec).filter = some rec := (filter_kept k (by simp) f).trans hf
  have recipe : (earlyPart p f rec).recipe ((earlyEntry p f rec).override.getD rec.cfg.slot) = some r :=
    (recipe_kept k (by simp) _).trans hr
  exact testHead_ends filter recipe ((operating_kept k (by simp)).trans hop)

theorem earlyPart_passes : TestsPass (earlyPart p f rec) (earlyEntry p f rec) rec r
    (HeadEnds (earlyPart p f rec) ((earlyPart p f rec).testHead (earlyEntry p f rec))) := by
  have k := earlyPart_only p f rec
  have filter : (earlyPart p f rec).filter (earlyEntry p f rec).filter = some rec := (filter_kept k (by simp) f).trans hf
  have recipe : (earlyPart p f rec).recipe ((earlyEntry p f rec).override.getD rec.cfg.slot) = some r :=
    (recipe_kept k (by simp) _).trans hr
  have entry : (earlyPart p f rec).entry (earlyEntry p f rec).filter = some (earlyEntry p f rec) := earlyPart_entry p f rec
  exact testHead_passes filter recipe entry ((operating_kept k (by simp)).trans hop)

end Tested

section Ended
variable {s : State} {f : FilterId} {rec : FilterRecord} {r : Recipe} (due : EarlyDue s.part f rec)
  (hr : s.part.recipe rec.cfg.slot = some r) (hop : s.part.operating = true)
  (row : exec .admissionScan s =
    .next { s with part := (earlyPart s.part f rec).testHead (earlyEntry s.part f rec) })
include due hr hop row

theorem scan_early_ends : TestsEnd s.part (earlyEntry s.part f rec) rec r fun xs bs b now =>
    ScanEnds s false ([Piece.queue] ++ reporting ++ xs) ([ReportBody.request .added f .early none .auto rec.u none] ++ bs) b
      fun q => now q ∧ q.entry f = some (earlyEntry s.part f rec) ∧ ∀ g, g ≠ f → q.entry g = s.part.entry g := by
  refine testsEnd_same (earlyPart_same s.part f rec) (earlyRaised_canSubstitute (earlyDue_setScanDue due false))
    (fun xs bs b now hq hh => scanEnds_early row hh ?_) (earlyPart_ends due.here hr hop)
  rintro _ rfl shown
  obtain ⟨kh, -, -, -⟩ := hh
  exact ⟨shown, (entry_kept kh (by simpa using hq) f).trans (earlyPart_entry s.part f rec), earlyPart_others s.part rec⟩

theorem scan_early_passes : TestsPass s.part (earlyEntry s.part f rec) rec r fun xs bs b now =>
    ScanEnds s false ([Piece.queue] ++ reporting ++ xs) ([ReportBody.request .added f .early none .auto rec.u none] ++ bs) b
      fun q => now q ∧ ∀ g, g ≠ f → q.entry g = s.part.entry g := by
  refine testsPass_same (e := earlyEntry s.part f rec) (earlyPart_same s.part f rec) (fun g hg => earlyPart_entry_ne s.part hg rec)
    (fun xs bs b now now' hn hh => scanEnds_early row hh ?_) (earlyPart_passes due.here hr hop)
  rintro _ rfl shown
  exact ⟨hn _ shown, earlyPart_others s.part rec⟩

end Ended

end Sys2Proof.Laws

namespace Sys2Proof

open Machine Laws

/-- Settles O19: the EARLY rule raises the entry of the filter it picks, and the tests go on from there as they would from the
part before. -/
theorem scanRaisesAnEarlyEntry : Obligations.ScanRaisesAnEarlyEntry := by
  intro s f rec r hl ht hd hm hp enabled unmasked idle headless here online still free reached best hr e ends
  have due : EarlyDue s.part f rec :=
    ⟨enabled, unmasked, idle, headless, here, online, still, free, reached, best⟩
  have row := exec_scan_early due hl ht hd hm hp
  exact ⟨scan_early_ends due hr (operating_of ht) row, scan_early_passes due hr (operating_of ht) row⟩

end Sys2Proof
end

section
/-! SUPPORT. OVERLOAD_DEADLINE (R80): the deadline moved on, a substitution started where one can be, OVERLOAD reported. -/

namespace Sys2Proof.Laws

open Sys2Proof.Machine

/-! ### What OVERLOAD reads -/

/-- OVERLOAD with the loading and the service area as they are in `q`, the rest as in `p`. -/
def overloadBody (p q : Part) (o : Overload) (started : Option FilterId) : ReportBody :=
  .overload (currentLoading q) p.plant.vmax p.flowUsed.1 p.flowUsed.2 q.serviceArea o.start started

theorem flowUsed_kept {xs : List Piece} {p q : Part} (h : OnlyChanges xs p q) (hm : Piece.points ∉ xs)
    (hp : Piece.plant ∉ xs) : q.flowUsed = p.flowUsed := by
  obtain ⟨-, -, flow, -, -⟩ := h .points hm
  have plant : q.plant = p.plant := h .plant hp
  unfold Part.flowUsed
  rw [flow, plant]

theorem substitute_kept {xs : List Piece} {p q : Part} (h : OnlyChanges xs p q) (hf : Piece.filters ∉ xs)
    (hq : Piece.queue ∉ xs) : q.substitute = p.substitute := by
  unfold Part.substitute
  simp only [filter_kept h hf, entry_kept h hq]

/-- OVERLOAD reported, with what the part then is. -/
def overloadTold (q : Part) (o : Overload) (started : Option FilterId) : Part :=
  q.report (overloadBody q q o started)

theorem overloadTold_only (q : Part) (o : Overload) (started : Option FilterId) :
    OnlyChanges reporting q (overloadTold q o started) := by
  unfold overloadTold; simp

/-- The report of a part that differs from `p` in nothing but the loading and the area, read once it has been made. -/
theorem overloadTold_reports {xs : List Piece} {p q : Part} {bs : List ReportBody} (h : OnlyChanges xs p q)
    (hx : ∀ x ∈ [Piece.points, .plant, .clock], x ∉ xs) (told : Reports p q bs) (o : Overload) (started : Option FilterId) :
    Reports p (overloadTold q o started) (bs ++ [overloadBody p (overloadTold q o started) o started]) := by
  have k := overloadTold_only q o started
  have plant : q.plant = p.plant := h .plant (hx _ (by simp))
  have body : overloadBody p (overloadTold q o started) o started = overloadBody q q o started := by
    unfold overloadBody
    rw [currentLoading_kept k (by simp) (by simp) (by simp), serviceArea_kept k (by simp),
      flowUsed_kept h (hx _ (by simp)) (hx _ (by simp)), plant]
  rw [body]
  exact reports_more told (h .clock (hx _ (by simp))) _

/-! ### The deadline falls -/

/-- The timer with its deadline moved on. -/
def deadlineMoved (p : Part) (o : Overload) : Part :=
  { p with sched := { p.sched with
      overload := some ⟨o.start, min (o.deadline + p.plant.overloadDelay) 4294967295⟩ } }

theorem deadlineMoved_only (p : Part) (o : Overload) : OnlyChanges [.overload] p (deadlineMoved p o) := by
  unfold deadlineMoved; simp

/-- The filter that a deadline starts, if any (R80). -/
def startable (p : Part) : Option FilterId := if p.table.marker.isNone then p.substitute else none

theorem startable_none {p : Part} (h : p.table.marker ≠ none ∨ ∀ f, ¬ CanSubstitute p f) : startable p = none := by
  unfold startable
  rcases h with marked | alone
  · exact if_neg (by simpa using marked)
  · rw [substitute_none alone]; exact ite_self _

theorem startable_some {p : Part} {f : FilterId} {r : FilterRecord} (hm : p.table.marker = none)
    (h : FirstSubstitute p f r) : startable p = some f := by
  unfold startable
  rw [if_pos (by simp [hm]), substitute_some h]

/-- The part before OVERLOAD is reported. -/
def afterDeadline (p : Part) (o : Overload) : Option FilterId → Part
  | some f => (deadlineMoved p o).startSubstitution f
  | none => deadlineMoved p o

theorem overloadFalls_of {p : Part} {o : Overload} (ho : p.sched.overload = some o) :
    p.overloadFalls = overloadTold (afterDeadline p o (startable p)) o (startable p) := by
  have same : startable (deadlineMoved p o) = startable p := by
    have k := deadlineMoved_only p o
    unfold startable
    rw [substitute_kept k (by simp) (by simp)]
    rfl
  unfold Part.overloadFalls
  rw [ho, ← same]
  unfold overloadTold overloadBody
  rw [← loadingNow_eq]
  rfl

section Falls
variable {p : Part} {o : Overload} (ho : p.sched.overload = some o)
include ho

/-- R80 with nothing to start. -/
theorem overloadFalls_alone (h : p.table.marker ≠ none ∨ ∀ f, ¬ CanSubstitute p f) :
    p.overloadFalls = overloadTold (deadlineMoved p o) o none := by
  rw [overloadFalls_of ho, startable_none h]
  rfl

/-- R80 with a filter to start: its transfer runs its course from the part with the deadline moved on. -/
theorem overloadFalls_starts {f : FilterId} {r : FilterRecord} (hm : p.table.marker = none) (h : FirstSubstitute p f r) :
    p.overloadFalls = overloadTold (((deadlineMoved p o).setMarker (some f)).startTransfer f .toService) o (some f) := by
  rw [overloadFalls_of ho, startable_some hm h]
  rfl

end Falls

/-! ### A transfer started in any top state

OVERLOAD_DEADLINE is stated without the top state, while `startTransfer_begins` speaks of OPERATING; only the completion of a
transfer computes a loading, and what is said of it holds whether or not it does. -/

/-- A filter that comes ONLINE is to be evaluated (R42). -/
theorem changeFilter_urgent {p : Part} {f : FilterId} {r : FilterRecord} (h : p.filter f = some r)
    (g : FilterRecord → FilterRecord) (hr : r.state ≠ .online) (hg : (g r).state = .online) :
    .urgency f ∈ (p.changeFilter f g).events := by
  have joins : (p.moveFilter f (g r)).isOnline f ≠ (r.state == .online) := by
    rw [isOnline_moveFilter, hg]
    simpa using hr
  rw [changeFilter_of h, areaChanged_of joins, isOnline_moveFilter, if_pos (by simp [hg])]
  simp

section Completes
variable {p : Part} {f : FilterId} {rec : FilterRecord} {k : TransferKind} (h : p.filter f = some rec)
  (hs : rec.state = stateFrom k)
include h hs

/-- The end that a completed transfer leaves, beside the loading (R11). -/
theorem transferCompletes_leaves :
    let q := p.transferCompletes f k
    OnlyChanges ([Piece.filters, .marker, .selection, .flags, .overload, .scanDue, .events] ++ reporting) p q ∧
    OtherFiltersKept p q f ∧ q.table.marker = markerWithout p f ∧
    q.filter f = some { rec with state := stateTo k, transfer := none }.indexed ∧
    (k = .toService → .urgency f ∈ q.events) ∧
    ∃ cs, q.link = afterReports p.clock p.link (transferReport p f k (stateTo k) none :: cs) := by
  dsimp only
  rw [transferCompletes_eq]
  generalize hg : (fun r : FilterRecord => { r with state := stateTo k, transfer := none }) = g
  have gr : g rec = { rec with state := stateTo k, transfer := none } := by rw [← hg]
  obtain ⟨cs, told, -⟩ := changeFilter_link h g
  have kf : OnlyChanges ([Piece.filters, .selection, .flags, .overload, .scanDue, .events] ++ reporting) p
      (p.changeFilter f g) := by simp
  have km : OnlyChanges [.marker, .scanDue] (p.changeFilter f g) (clearMarker (p.changeFilter f g) f) := by simp
  refine ⟨onlyChanges_trans (onlyChanges_mono kf (by simp)) (onlyChanges_mono km (by simp)), fun o ho => ?_, ?_, ?_,
    fun hk => ?_, cs, ?_⟩
  · exact (filter_kept km (by simp) o).trans (changeFilter_filter_ne p ho g)
  · rw [clearMarker_marker]
    unfold markerWithout
    rw [marker_changeFilter]
  · rw [filter_kept km (by simp), changeFilter_filter h, gr]
  · rw [show (clearMarker (p.changeFilter f g) f).events = _ from km .events (by simp)]
    exact changeFilter_urgent h g (by rw [hs, hk]; nofun) (by rw [gr, hk]; rfl)
  · rw [clearMarker_link, told, gr, hs]
    rfl

theorem course_completes_anywhere (hrun : p.stopAsserted = false) (hb : MapBothWays p f)
    (hr : ∀ x ∈ stepsUpTo k (finalStep k), RestsAt p f x.1 x.2) :
    ∃ cs, RunsTo p (p.startTransfer f k) [.filters, .selection, .channels, .events, .marker, .scanDue, .flags, .overload]
      ([transferReport p f k (stateFrom k) (some ⟨k, 1⟩), transferReport p f k (stateTo k) none] ++ cs) fun q =>
        (q.filter f = some (offIndex { rec with state := stateTo k, transfer := none }) ∧ OtherFiltersKept p q f ∧
          q.table.marker = markerWithout p f) ∧
        OnlyCommanded p q f (stepsUpTo k (finalStep k)) ∧ (k = .toService → .urgency f ∈ q.events) := by
  obtain ⟨q, e, hq⟩ := startTransfer_completes h hs hrun hb hr
  obtain ⟨kc, others, marker, now, urgent, cs, told⟩ :=
    transferCompletes_leaves hq.now ((recordAt_state _ _ _).trans hs)
  have ended : (q.transferCompletes f k).filter f = some (offIndex { rec with state := stateTo k, transfer := none }) := by
    rw [now]; unfold recordAt; cases k <;> rfl
  have cleared : (q.transferCompletes f k).table.marker = markerWithout p f := by
    rw [marker]; unfold markerWithout; rw [standing_marker hq]
  rw [e]
  refine ⟨cs, onlyChanges_trans (onlyChanges_mono hq.frame (by simp)) (onlyChanges_mono kc (by simp)),
    standing_reports hq told, fun q' kq => ?_, fun hno => absurd (by simp) hno⟩
  obtain ⟨shown, commanded⟩ := ended_of hq (onlyChanges_mono kc (by simp)) ended others cleared kq
  exact ⟨shown, commanded, fun hk => by rw [show q'.events = _ from kq .events (by simp)]; exact urgent hk⟩

theorem startTransfer_begins_anywhere : TransferBegins p f rec k p.table.marker (RunsTo p (p.startTransfer f k)) := by
  refine ⟨course_stopped h hs, fun hrun hb => ⟨fun n h1 hn hr => ?_, course_completes_anywhere h hs hrun hb⟩⟩
  obtain ⟨n, rfl⟩ : ∃ m, n = m + 1 := ⟨n - 1, by omega⟩
  exact ⟨course_waits h hs hrun hb hn hr, fun before r pos later hx ho hf => course_fails h hs hrun hb hn hr hx ho hf⟩

end Completes

section Falls
variable {p : Part} {o : Overload} (ho : p.sched.overload = some o)
include ho

/-- R80 with a filter to start, in the words of the statement. -/
theorem overloadFalls_course {f : FilterId} {r : FilterRecord} (hm : p.table.marker = none) (h : FirstSubstitute p f r) :
    TransferBegins p f r .toService (some f) fun xs bs now =>
      OnlyChanges ([Piece.overload, .marker] ++ xs ++ reporting) p p.overloadFalls ∧
      (.overload ∉ xs → p.overloadFalls.sched.overload = (deadlineMoved p o).sched.overload) ∧
      Reports p p.overloadFalls (bs ++ [overloadBody p p.overloadFalls o (some f)]) ∧ now p.overloadFalls := by
  rw [overloadFalls_starts ho hm h]
  obtain ⟨hf, ⟨r', hr', standby, -, -⟩, -⟩ := h
  obtain rfl : r = r' := Option.some.inj (hf.symm.trans hr')
  have kq : OnlyChanges [.overload, .marker] p ((deadlineMoved p o).setMarker (some f)) :=
    onlyChanges_trans (onlyChanges_mono (deadlineMoved_only p o) (by simp)) (by simp)
  have same : Reports p ((deadlineMoved p o).setMarker (some f)) [] := rfl
  have moved : ((deadlineMoved p o).setMarker (some f)).sched.overload = (deadlineMoved p o).sched.overload := rfl
  have marked : ((deadlineMoved p o).setMarker (some f)).table.marker = some f := rfl
  generalize (deadlineMoved p o).setMarker (some f) = q at kq same moved marked ⊢
  have course := startTransfer_begins_anywhere (k := .toService) ((filter_kept kq (by simp) f).trans hf) standby
  rw [transferBegins_same (sameCourse_kept kq (by simp)), marked] at course
  refine transferBegins_mono (fun xs bs now ⟨kc, told, after, _⟩ => ?_) course
  have started : OnlyChanges ([Piece.filters, .marker, .channels, .selection, .flags, .overload, .scanDue, .events] ++ reporting)
      p (q.startTransfer f .toService) := by
    rw [startTransfer_keeps _ _ (List.Subset.refl _)]
    exact onlyChanges_mono kq (by simp)
  have told : Reports p (q.startTransfer f .toService) ([] ++ bs) := reports_trans same (kq .clock (by simp)) told
  have kt := overloadTold_only (q.startTransfer f .toService) o (some f)
  refine ⟨onlyChanges_trans (onlyChanges_mono kq (by simp))
    (onlyChanges_trans (onlyChanges_mono kc (by simp)) (onlyChanges_mono kt (by simp))), fun hx => ?_,
    overloadTold_reports started (by simp) told o (some f), after _ kt⟩
  exact ((kt .overload (by simp)).trans (kc .overload (by simpa using hx))).trans moved

end Falls

/-! ### The row -/

section Row
variable {s : State} {o : Overload} (ho : Outstanding s .overloadDeadline) (hv : s.part.sched.overload = some o)
include ho hv

theorem overloadDeadline_alone (h : s.part.table.marker ≠ none ∨ ∀ f, ¬ CanSubstitute s.part f) :
    ∃ t, exec .overloadDeadline s = .next t ∧ t.pending = s.pending ∧
      OnlyChanges ([Piece.overload, .events] ++ reporting) s.part t.part ∧
      t.part.sched.overload = (deadlineMoved s.part o).sched.overload ∧
      Reports s.part t.part [overloadBody s.part s.part o none] := by
  have kd : OnlyChanges [.overload, .events] s.part (deadlineMoved (taking s.part .overloadDeadline) o) :=
    onlyChanges_trans (q := taking s.part .overloadDeadline) (by simp) (onlyChanges_mono (deadlineMoved_only _ o) (by simp))
  have kt := overloadTold_only (deadlineMoved (taking s.part .overloadDeadline) o) o none
  have k : OnlyChanges ([Piece.overload, .events] ++ reporting) s.part _ :=
    onlyChanges_trans (onlyChanges_mono kd (by simp)) (onlyChanges_mono kt (by simp))
  have told := overloadTold_reports kd (by simp) (reports_none rfl) o none
  rw [show overloadBody s.part (overloadTold (deadlineMoved (taking s.part .overloadDeadline) o) o none) o none =
    overloadBody s.part s.part o none by
      unfold overloadBody
      rw [currentLoading_kept k (by simp) (by simp) (by simp), serviceArea_kept k (by simp)]] at told
  have falls : (taking s.part .overloadDeadline).overloadFalls = _ := overloadFalls_alone hv h
  refine ⟨_, (exec_overloadDeadline s).trans (takeEvent_outstanding _ ho), rfl, ?_⟩
  dsimp only
  rw [falls]
  exact ⟨k, kt .overload (by simp), told⟩

theorem overloadDeadline_starts {f : FilterId} {r : FilterRecord} (hm : s.part.table.marker = none)
    (h : FirstSubstitute s.part f r) :
    TransferBegins s.part f r .toService (some f) fun xs bs now =>
      ∃ t, exec .overloadDeadline s = .next t ∧ t.pending = s.pending ∧
        OnlyChanges ([Piece.overload, .marker, .events] ++ xs ++ reporting) s.part t.part ∧
        (.overload ∉ xs → t.part.sched.overload = (deadlineMoved s.part o).sched.overload) ∧
        Reports s.part t.part (bs ++ [overloadBody s.part t.part o (some f)]) ∧ now t.part := by
  have kt : OnlyChanges [.events] s.part (taking s.part .overloadDeadline) := by simp
  have course := overloadFalls_course (p := taking s.part .overloadDeadline) hv hm h
  rw [transferBegins_same (sameCourse_kept kt (by simp))] at course
  refine transferBegins_mono (fun xs bs now ⟨k, moved, told, after⟩ => ?_) course
  exact ⟨_, (exec_overloadDeadline s).trans (takeEvent_outstanding _ ho), rfl,
    onlyChanges_trans (onlyChanges_mono kt (by simp)) (onlyChanges_mono k (by grind)), moved, told, after⟩

end Row

end Sys2Proof.Laws
end

section

namespace Sys2Proof

open Machine Laws

/-- Settles O13. With nothing to start, the moved deadline is followed by the report alone; else the course of the started
transfer is read from the part with the deadline moved and the filter named, and OVERLOAD follows it. -/
theorem overloadDeadlineReportsAndSubstitutes : Obligations.OverloadDeadlineReportsAndSubstitutes := by
  intro s o ho hv
  exact ⟨overloadDeadline_alone ho hv, fun f r hm hf hc hfirst => overloadDeadline_starts ho hv hm ⟨hf, hc, hfirst⟩⟩

end Sys2Proof
end

section
/-! SUPPORT. The tests of Table 4-2 that stop: the part they leave and what their outcome hangs on, for the scan and for ACCEPT
alike (R65 to R75, R83). -/

namespace Sys2Proof.Laws

open Sys2Proof.Machine

/-! ### What the outcome of the tests hangs on -/

/-- The two parts agree on the pieces that the words of `TestsEnd` speak of, and no URGENCY_EVALUATION called for is lost. -/
structure SameOutcome (q q' : Part) : Prop where
  filter : q'.filter = q.filter
  channel : q'.channel = q.channel
  marker : q'.table.marker = q.table.marker
  flags : q'.sched.flags = q.sched.flags
  urgent : ∀ f, .urgency f ∈ q.events → .urgency f ∈ q'.events

theorem sameOutcome_refl (q : Part) : SameOutcome q q := ⟨rfl, rfl, rfl, rfl, fun _ => id⟩

theorem sameOutcome_trans {q r t : Part} (h : SameOutcome q r) (k : SameOutcome r t) : SameOutcome q t where
  filter := k.filter.trans h.filter
  channel := k.channel.trans h.channel
  marker := k.marker.trans h.marker
  flags := k.flags.trans h.flags
  urgent f hf := k.urgent f (h.urgent f hf)

theorem sameOutcome_kept {xs : List Piece} {q q' : Part} (h : OnlyChanges xs q q')
    (hx : ∀ x ∈ [Piece.filters, .channels, .marker, .flags, .events], x ∉ xs) : SameOutcome q q' where
  filter := funext (filter_kept h (hx _ (by simp)))
  channel := funext (channel_kept h (hx _ (by simp)))
  marker := h .marker (hx _ (by simp))
  flags := h .flags (hx _ (by simp))
  urgent f hf := by rw [show q'.events = q.events from h .events (hx _ (by simp))]; exact hf

/-- What holds of a part holds of every part with the same outcome. -/
def OutcomeOnly (now : Part → Prop) : Prop := ∀ q q', SameOutcome q q' → now q → now q'

section Outcome
variable (p : Part) (f : FilterId) (r : FilterRecord) (m : Option FilterId) (roles : List (Role × Position))

theorem recordAndMarker_outcome :
    OutcomeOnly fun q => q.filter f = some r ∧ OtherFiltersKept p q f ∧ q.table.marker = m :=
  fun _ _ k ⟨now, others, marker⟩ => ⟨(congrFun k.filter f).trans now, fun g hg => (congrFun k.filter g).trans (others g hg),
    k.marker.trans marker⟩

theorem onlyCommanded_outcome : OutcomeOnly fun q => OnlyCommanded p q f roles := fun q q' k h => by
  unfold OnlyCommanded RoleCommanded at h ⊢
  dsimp only at h ⊢
  rw [k.channel]
  exact h

theorem course_outcome :
    OutcomeOnly fun q => (q.filter f = some r ∧ OtherFiltersKept p q f ∧ q.table.marker = m) ∧ OnlyCommanded p q f roles :=
  fun q q' k ⟨shown, commanded⟩ =>
    ⟨recordAndMarker_outcome p f r m q q' k shown, onlyCommanded_outcome p f roles q q' k commanded⟩

end Outcome

/-- A transfer's course read anew, with what its ends hang on. -/
theorem transferBegins_outcome {p : Part} {f : FilterId} {rec : FilterRecord} {k : TransferKind} {m : Option FilterId}
    {ends ends' : List Piece → List ReportBody → (Part → Prop) → Prop}
    (hi : ∀ xs bs now, OutcomeOnly now → ends xs bs now → ends' xs bs now)
    (h : TransferBegins p f rec k m ends) : TransferBegins p f rec k m ends' := by
  obtain ⟨stopped, runs⟩ := h
  refine ⟨fun hs => hi _ _ _ (recordAndMarker_outcome p f _ _) (stopped hs), fun hs hb => ?_⟩
  obtain ⟨steps, completes⟩ := runs hs hb
  refine ⟨fun n h1 hn hr => ?_, fun hr => ?_⟩
  · obtain ⟨waits, fails⟩ := steps n h1 hn hr
    refine ⟨fun ho ht => hi _ _ _ (course_outcome p f _ _ _) (waits ho ht), fun before r pos later hx ho hf => ?_⟩
    obtain ⟨cs, hcs, he⟩ := fails before r pos later hx ho hf
    exact ⟨cs, hcs, hi _ _ _ (course_outcome p f _ _ _) he⟩
  · obtain ⟨cs, he⟩ := completes hr
    refine ⟨cs, hi _ _ _ (fun q q' kq ⟨shown, commanded, urgent⟩ => ?_) he⟩
    exact ⟨recordAndMarker_outcome p f _ _ q q' kq shown, onlyCommanded_outcome p f _ q q' kq commanded,
      fun hk => kq.urgent f (urgent hk)⟩

/-! ### The part that the tests leave -/

/-- The tests stop with the reason `b`: they touch `xs`, make the reports `bs`, and `now` holds of every part with the
outcome of the one they leave. -/
def TestsStop (p : Part) (e : Entry) (xs : List Piece) (bs : List ReportBody) (b : BlockedReason) (now : Part → Prop) :
    Prop :=
  ∃ q, p.tests e = (q, some b) ∧ OnlyChanges xs p q ∧ Reports p q bs ∧ ∀ q', SameOutcome q q' → now q'

section Stop
variable {p : Part} {e : Entry} {rec : FilterRecord} {r : Recipe}

theorem testsStop_quiet {b : BlockedReason} (h : p.tests e = (p, some b)) : TestsStop p e [] [] b fun _ => True :=
  ⟨p, h, onlyChanges_refl _ _, rfl, fun _ _ => trivial⟩

theorem testsStop_loaded {b : BlockedReason} (h : p.tests e = (headTested p e rec, some b)) :
    TestsStop p e ([Piece.flags] ++ reporting) (testReports p e.filter rec) b fun q =>
      q.sched.flags = flagsWith p (testFlags p rec) :=
  ⟨_, h, headTested_only p e rec, headTested_reports p e rec, fun _ k => k.flags.trans (headTested_flags p e rec)⟩

/-- R72: a substitution that the loading test starts runs its course as any transfer does. -/
theorem testsStop_substitutes (hop : p.operating = true) {g : FilterId} {x : FilterRecord} (hx : FirstSubstitute p g x)
    (h : p.tests e = ((headTested p e rec).startSubstitution g, some .loadingSubst)) :
    TransferBegins p g x .toService (some g) fun xs bs now =>
      TestsStop p e ([Piece.flags, .marker] ++ xs ++ reporting) (testReports p e.filter rec ++ bs) .loadingSubst now := by
  have km : OnlyChanges ([Piece.flags, .marker] ++ reporting) p ((headTested p e rec).setMarker (some g)) :=
    onlyChanges_trans (onlyChanges_mono (headTested_only p e rec) (by simp)) (by simp)
  have told : Reports p ((headTested p e rec).setMarker (some g)) (testReports p e.filter rec) := headTested_reports p e rec
  obtain ⟨hg, ⟨x', hx', standby, -, -⟩, -⟩ := hx
  obtain rfl : x = x' := Option.some.inj (hg.symm.trans hx')
  have course := startTransfer_begins (k := .toService) ((filter_kept km (by simp) g).trans hg) standby
    ((operating_kept km (by simp)).trans hop)
  rw [transferBegins_same (sameCourse_kept km (by simp))] at course
  refine transferBegins_outcome (fun xs bs now outcome ⟨kc, toldc, after, _⟩ => ⟨_, h, ?_, ?_, fun q' same => ?_⟩) course
  · exact onlyChanges_trans (onlyChanges_mono km (by simp)) (onlyChanges_mono kc (by simp))
  · exact reports_trans told (km .clock (by simp)) toldc
  · exact outcome _ q' same (after _ (onlyChanges_refl _ _))

/-- R65 to R75: the tests up to the first that fails. -/
theorem tests_stop (hf : p.filter e.filter = some rec) (hr : p.recipe (e.override.getD rec.cfg.slot) = some r)
    (hop : p.operating = true) : TestsEnd p e rec r (TestsStop p e) := by
  refine ⟨fun b hb => testsStop_quiet (tests_before hf hr hb), fun ready => ⟨fun offline b hb => ?_,
    fun online within b hb => ?_, fun online exceeds => ⟨fun marked => ?_, fun unmarked alone => ?_,
    fun g x unmarked hx => ?_⟩⟩⟩
  · exact testsStop_quiet (tests_after hf hr ready (loadingStep_offline hf offline) hb)
  · refine testsStop_loaded (tests_after hf hr ready (loadingStep_within hf online within) ?_)
    have k := headTested_only p e rec
    have shares : (headTested p e rec).sched.shares = p.sched.shares := k .shares (by simp)
    obtain ⟨tank, basin⟩ := k .volumes (by simp)
    unfold FailsAfterLoading WaterFor RoomFor at hb ⊢
    rw [shares, tank, basin]
    exact hb
  · exact testsStop_loaded (tests_loading hf hr ready (loadingStep_marked hf online exceeds marked))
  · exact testsStop_loaded (tests_loading hf hr ready (loadingStep_alone hf online exceeds unmarked alone))
  · exact testsStop_substitutes hop hx
      (tests_loading hf hr ready (loadingStep_substitutes hf online exceeds unmarked hx))

/-- What the tests never touch. -/
theorem tests_only {q : Part} {b : Option BlockedReason} (h : p.tests e = (q, b)) :
    OnlyChanges ([Piece.filters, .marker, .channels, .selection, .flags, .overload, .scanDue, .events] ++ reporting) p q := by
  rw [show q = (p.tests e).1 by rw [h]]
  simp

/-- The scan's head, where the tests stop. -/
theorem headEnds_stop {xs : List Piece} {bs : List ReportBody} {b : BlockedReason} {now : Part → Prop}
    (h : TestsStop p e xs bs b now) :
    HeadEnds p (p.testHead e) xs bs b fun q => now q ∧ q.sched.proposal = p.sched.proposal := by
  obtain ⟨q, ht, k, told, after⟩ := h
  rw [testHead_fails ht]
  exact headEnds_setBlocked b k told
    ⟨after _ (sameOutcome_kept (xs := [.blocked]) (by simp) (by simp)), tests_only ht .proposal (by simp)⟩

end Stop

end Sys2Proof.Laws
end

section
/-! SUPPORT. ADMISSION_SCAN up to its head (R64 to R66), and from there as the tests of the head go. -/

namespace Sys2Proof.Laws

open Sys2Proof.Machine

/-! ### The head -/

theorem head_of {p : Part} {e : Entry} (h : IsHead p e) : p.head = some e := by
  obtain ⟨front, back, queue, own, passed⟩ := h
  have none : front.find? p.eligible = none :=
    List.find?_eq_none.2 fun x hx hxe => passed x hx ((eligible_iff p x).1 hxe)
  unfold Part.head
  rw [queue, List.find?_append, none, List.find?_cons_of_pos ((eligible_iff p e).2 own)]
  rfl

theorem head_none {p : Part} (h : ∀ e ∈ p.sched.queue, ¬ Eligible p e) : p.head = none :=
  List.find?_eq_none.2 fun x hx hxe => h x hx ((eligible_iff p x).1 hxe)

/-! ### The EARLY rule where it raises nothing (R48) -/

theorem earlyRule_shut {p : Part} (h : ¬ p.earlyAllowed = true) : p.earlyRule = p := if_neg h

theorem earlyRule_head {p : Part} {e : Entry} (h : IsHead p e) : p.earlyRule = p := by
  obtain ⟨front, back, queue, own, -⟩ := h
  have some : p.sched.queue.any p.eligible = true :=
    List.any_eq_true.2 ⟨e, by rw [queue]; simp, (eligible_iff p e).2 own⟩
  refine earlyRule_shut ?_
  unfold Part.earlyAllowed
  rw [some]
  simp

/-- R48: off, masked, a lane at work or an EARLY entry in the queue. -/
theorem earlyRule_barred {p : Part} (h : p.plant.early = 0 ∨ hasClass p.sched.mask .early = true ∨
    (∃ l w, p.lane l = some w) ∨ ∃ e ∈ p.sched.queue, e.cls = .early) : p.earlyRule = p := by
  refine earlyRule_shut fun allowed => ?_
  unfold Part.earlyAllowed at allowed
  simp only [Bool.and_eq_true, bne_iff_ne, ne_eq, Bool.not_eq_true', List.isEmpty_iff] at allowed
  obtain ⟨⟨⟨⟨on, unmasked⟩, idle⟩, noEarly⟩, -⟩ := allowed
  rcases h with off | masked | ⟨l, w, busy⟩ | ⟨e, he, early⟩
  · exact on off
  · exact absurd (masked.symm.trans unmasked) (by simp)
  · have := mem_busyLanes busy
    rw [idle] at this
    cases this
  · exact List.any_eq_false.1 noEarly e he (by simp [early])

/-! ### The scan in its cases (R65) -/

section Scan
variable {p : Part}

theorem scan_paused (h : p.sched.mode = .paused) : p.scan = p.setBlocked .paused := if_pos h

variable (hm : p.sched.mode ≠ .paused)
include hm

theorem scan_empty (h : ∀ e ∈ p.sched.queue, ¬ Eligible p e) (hr : p.earlyRule = p) : p.scan = p.setBlocked .empty := by
  unfold Part.scan
  rw [if_neg hm, hr]
  dsimp only
  rw [head_none h]

variable {e : Entry} (h : IsHead p e)
include h

theorem scan_tests (hp : p.sched.proposal = none) : p.scan = p.testHead e := by
  unfold Part.scan
  rw [if_neg hm, earlyRule_head h]
  dsimp only
  rw [head_of h]
  dsimp only
  rw [hp]

theorem scan_under {pr : Proposal} (hp : p.sched.proposal = some pr) :
    p.scan = if p.outranks e pr then (p.withdraw .higher none).testHead e else p.setBlocked .proposed := by
  unfold Part.scan
  rw [if_neg hm, earlyRule_head h]
  dsimp only
  rw [head_of h]
  dsimp only
  rw [hp]

end Scan

theorem outranks_iff {p : Part} {e : Entry} {pr : Proposal} : p.outranks e pr = true ↔
    e.filter ≠ pr.filter ∧ ∃ x, p.entry pr.filter = some x ∧ e.cls.rank < x.cls.rank := by
  unfold Part.outranks
  cases p.entry pr.filter <;> simp

/-! ### The row -/

section Row
variable {s : State} (hl : s.part.live = true) (ht : s.part.startUp.top = .operating) (hd : s.part.sched.scanDue = true)
include hl ht hd

theorem exec_scan : exec .admissionScan s = .next { s with part := (s.part.setScanDue false).scan } := by
  rw [exec_admissionScan, act_live _ hl]
  unfold Part.runScan
  rw [operating_of ht, hd]
  rfl

theorem endsBlocked_of {b : BlockedReason}
    (h : (s.part.setScanDue false).scan = (s.part.setScanDue false).setBlocked b) : EndsBlocked s b := by
  refine ⟨_, exec_scan hl ht hd, rfl, ?_⟩
  dsimp only
  rw [h]
  exact ⟨by simp, rfl, rfl⟩

/-- R65, R66: the scan that no test ends. -/
theorem scan_ends_before :
    (s.part.sched.mode = .paused → EndsBlocked s .paused) ∧
    (s.part.sched.mode ≠ .paused → (∀ e ∈ s.part.sched.queue, ¬ Eligible s.part e) →
      (s.part.plant.early = 0 ∨ hasClass s.part.sched.mask .early = true ∨ (∃ l w, s.part.lane l = some w) ∨
        ∃ e ∈ s.part.sched.queue, e.cls = .early) →
      EndsBlocked s .empty) ∧
    (s.part.sched.mode ≠ .paused → ∀ e pr, IsHead s.part e → s.part.sched.proposal = some pr →
      (e.filter = pr.filter ∨ ∀ x, s.part.entry pr.filter = some x → x.cls.rank ≤ e.cls.rank) →
      EndsBlocked s .proposed) := by
  refine ⟨fun hm => endsBlocked_of hl ht hd (scan_paused hm), fun hm none barred => endsBlocked_of hl ht hd ?_,
    fun hm e pr head hp below => endsBlocked_of hl ht hd ?_⟩
  · exact scan_empty hm none (earlyRule_barred (p := s.part.setScanDue false) barred)
  · rw [scan_under (p := s.part.setScanDue false) hm head hp]
    refine if_neg fun outranks => ?_
    obtain ⟨other, x, hx, above⟩ := outranks_iff.1 outranks
    rcases below with same | below
    · exact other same
    · exact absurd above (not_lt_of_ge (below x hx))

end Row

/-- Where the head's tests go so from the part `q`, the row ends so. -/
theorem scanEnds_of {s : State} {q : Part} {e : Entry} {due : Bool} {ys : List Piece} {cs : List ReportBody}
    (row : exec .admissionScan s = .next { s with part := q.testHead e }) (k : OnlyChanges ([Piece.scanDue] ++ ys) s.part q)
    (hc : q.clock = s.part.clock) (told : Reports s.part q cs) (hq : q.sched.scanDue = due) {xs : List Piece}
    {bs : List ReportBody} {b : BlockedReason} {now : Part → Prop} (h : HeadEnds q (q.testHead e) xs bs b now) :
    ScanEnds s due (ys ++ xs) (cs ++ bs) b now := by
  obtain ⟨kh, blocked, toldh, shown⟩ := h
  refine ⟨_, row, rfl, ?_, blocked, fun hx => ?_, reports_trans told hc toldh, shown⟩
  · exact onlyChanges_trans (onlyChanges_mono k (by grind)) (onlyChanges_mono kh (by grind))
  · exact (kh .scanDue (by simp at hx ⊢; exact hx.2)).trans hq

/-! ### The head put to the tests, with no proposal in its way or with the proposal it outranks withdrawn -/

theorem canSubstitute_same {xs : List Piece} {p q : Part} (h : OnlyChanges xs p q) (hf : Piece.filters ∉ xs)
    (hq : Piece.queue ∉ xs) : CanSubstitute q = CanSubstitute p :=
  funext fun g => propext (canSubstitute_kept h hf hq g)

/-- The part that the tests of a head see that outranks the proposal. -/
def proposalCleared (p : Part) : Part := (p.setScanDue false).withdraw .higher none

/-- R65: what the scan has touched when it comes to the tests. -/
abbrev beforeTests : List Piece := [.scanDue, .proposal, .events] ++ reporting

theorem proposalCleared_only (p : Part) : OnlyChanges beforeTests p (proposalCleared p) := by
  unfold proposalCleared; simp

theorem setScanDue_beforeTests (p : Part) (b : Bool) : OnlyChanges beforeTests p (p.setScanDue b) := by simp

section Tested
variable {s : State} {e : Entry} {rec : FilterRecord} {r : Recipe} (hs : ScanReaches s e rec r)
include hs

theorem scan_row_free (hp : s.part.sched.proposal = none) :
    exec .admissionScan s = .next { s with part := (s.part.setScanDue false).testHead e } := by
  obtain ⟨hl, ht, hd, hm, head, -, -⟩ := hs
  rw [exec_scan hl ht hd, scan_tests (p := s.part.setScanDue false) hm head hp]

theorem scan_row_higher {pr : Proposal} (hp : RanksAboveProposal s.part e pr) :
    exec .admissionScan s = .next { s with part := (proposalCleared s.part).testHead e } := by
  obtain ⟨hl, ht, hd, hm, head, -, -⟩ := hs
  obtain ⟨proposed, other, x, hx, above⟩ := hp
  rw [exec_scan hl ht hd, scan_under (p := s.part.setScanDue false) hm head proposed,
    if_pos (outranks_iff (p := s.part.setScanDue false).2 ⟨other, x, hx, above⟩)]
  rfl

section Seen
variable {q : Part} (k : OnlyChanges beforeTests s.part q)
include k

/-- The head's tests stop as they would from the part before the scan. -/
theorem scan_stops {ends : List Piece → List ReportBody → BlockedReason → (Part → Prop) → Prop}
    (hi : ∀ xs bs b now, HeadEnds q (q.testHead e) xs bs b (fun t => now t ∧ t.sched.proposal = q.sched.proposal) →
      ends xs bs b now) : TestsEnd s.part e rec r ends := by
  obtain ⟨-, ht, -, -, -, hf, hr⟩ := hs
  exact testsEnd_same (sameTests_kept k (by simp)) (canSubstitute_same k (by simp) (by simp))
    (fun xs bs b now _ stop => hi xs bs b now (headEnds_stop stop))
    (tests_stop ((filter_kept k (by simp) _).trans hf) ((recipe_kept k (by simp) _).trans hr)
      ((operating_kept k (by simp)).trans (operating_of ht)))

/-- So does a head that passes them all. -/
theorem scan_passes (he : s.part.entry e.filter = some e)
    {ends : List Piece → List ReportBody → BlockedReason → (Part → Prop) → Prop}
    (hi : ∀ xs bs b now, HeadEnds q (q.testHead e) xs bs b now → ends xs bs b now) : TestsPass s.part e rec r ends := by
  obtain ⟨-, ht, -, -, -, hf, hr⟩ := hs
  exact testsPass_same (sameTests_kept k (by simp)) (fun g _ => entry_kept k (by simp) g)
    (fun xs bs b now now' hn ⟨kh, blocked, told, shown⟩ => hi xs bs b now' ⟨kh, blocked, told, hn _ shown⟩)
    (testHead_passes ((filter_kept k (by simp) _).trans hf) ((recipe_kept k (by simp) _).trans hr)
      ((entry_kept k (by simp) _).trans he) ((operating_kept k (by simp)).trans (operating_of ht)))

end Seen

/-! ### The two ways to the tests -/

theorem scanEnds_free (hp : s.part.sched.proposal = none) {xs : List Piece} {bs : List ReportBody} {b : BlockedReason}
    {now : Part → Prop}
    (h : HeadEnds (s.part.setScanDue false) ((s.part.setScanDue false).testHead e) xs bs b now) :
    ScanEnds s false xs bs b now :=
  scanEnds_of (ys := []) (cs := []) (scan_row_free hs hp) (setScanDue_only s.part false) rfl rfl rfl h

theorem scanEnds_higher {pr : Proposal} (hp : RanksAboveProposal s.part e pr) {xs : List Piece} {bs : List ReportBody}
    {b : BlockedReason} {now : Part → Prop}
    (h : HeadEnds (proposalCleared s.part) ((proposalCleared s.part).testHead e) xs bs b now) :
    ScanEndsHigher s pr xs bs b now := by
  have row := scan_row_higher hs hp
  obtain ⟨-, ht, -, -, -, -, -⟩ := hs
  obtain ⟨proposed, -⟩ := hp
  obtain ⟨-, told, due⟩ := withdraw_of (p := s.part.setScanDue false) proposed .higher none
  exact scanEnds_of row (proposalCleared_only s.part) (proposalCleared_only s.part .clock (by simp)) told
    (due (operating_of ht)) h

end Tested

end Sys2Proof.Laws

namespace Sys2Proof

open Machine Laws

/-- Settles O20: before the tests the scan's own cases; at the tests the part they leave, read back from the part before the
scan, with the proposal that the head outranks withdrawn first. -/
theorem scansEndBlocked : Obligations.ScansEndBlocked := by
  refine ⟨fun s hl ht hd => scan_ends_before hl ht hd, fun s e rec r hs => ⟨fun hp => ?_, fun pr hp => ?_⟩⟩
  · exact scan_stops hs (setScanDue_beforeTests s.part false) fun xs bs b now ⟨k, blocked, told, shown, _⟩ =>
      scanEnds_free hs hp ⟨k, blocked, told, shown⟩
  · refine scan_stops hs (proposalCleared_only s.part) fun xs bs b now ⟨k, blocked, told, shown, kept⟩ =>
      scanEnds_higher hs hp ⟨k, blocked, told, shown, kept.trans ?_⟩
    exact withdraw_proposal _ _ _

/-- Settles O18: the head that passes every test, from the part the scan brings it to. -/
theorem scanAdmitsOrProposes : Obligations.ScanAdmitsOrProposes := by
  intro s e rec r hs he
  exact ⟨fun hp => scan_passes hs (setScanDue_beforeTests s.part false) he fun _ _ _ _ => scanEnds_free hs hp,
    fun pr hp => scan_passes hs (proposalCleared_only s.part) he fun _ _ _ _ => scanEnds_higher hs hp⟩

end Sys2Proof
end

section
/-! SUPPORT. ACCEPT and DECLINE (R83, R84): the outstanding proposal withdrawn, or its wash admitted. -/

namespace Sys2Proof.Laws

open Sys2Proof.Machine

/-! ### A proposal withdrawn beside the entry it was made for -/

/-- A withdrawal loses no event but the proposal's own expiry. -/
theorem withdraw_outcome (p : Part) (c : WithdrawalCause) (d : Option Nat) : SameOutcome p (p.withdraw c d) := by
  have k : OnlyChanges ([Piece.proposal, .scanDue, .events] ++ reporting) p (p.withdraw c d) := by simp
  refine ⟨funext (filter_kept k (by simp)), funext (channel_kept k (by simp)), k .marker (by simp), k .flags (by simp),
    fun f hf => ?_⟩
  cases h : p.sched.proposal with
  | none => rw [withdraw_none h]; exact hf
  | some pr =>
    have kept : OnlyChanges ([Piece.scanDue] ++ reporting)
        (({ p with sched := { p.sched with proposal := none } } : Part).cancel .proposalExpiry) (p.withdraw c d) := by
      unfold Part.withdraw; rw [h]; simp
    rw [show (p.withdraw c d).events = p.events.filter (· != .proposalExpiry) from kept .events (by simp)]
    exact List.mem_filter.2 ⟨hf, by simp⟩

/-- The entry stands as it did before the withdrawal, and a scan is due. -/
theorem withdraw_withdrawn {p q : Part} {f : FilterId} {e : Entry} (he : q.entry f = some e)
    (others : ∀ g, g ≠ f → q.entry g = p.entry g) (hop : q.operating = true) {pr : Proposal}
    (hp : q.sched.proposal = some pr) (c : WithdrawalCause) (d : Option Nat) : Withdrawn p (q.withdraw c d) f e := by
  have k : OnlyChanges ([Piece.proposal, .scanDue, .events] ++ reporting) q (q.withdraw c d) := by simp
  obtain ⟨gone, -, due⟩ := withdraw_of hp c d
  exact ⟨gone, (entry_kept k (by simp) f).trans he, fun g hg => (entry_kept k (by simp) g).trans (others g hg), due hop⟩

theorem withdrawn_reply {p q q' : Part} {f : FilterId} {e : Entry} (h : Withdrawn p.frameAccepted q f e)
    (k : OnlyChanges reporting q q') : Withdrawn p q' f e := by
  obtain ⟨gone, entry, queue⟩ := h
  exact ⟨(k .proposal (by simp)).trans gone, (entry_kept k (by simp) f).trans entry, queueChanged_reply queue k⟩

/-! ### DECLINE (R84) -/

/-- The entry deferred before the proposal is withdrawn. -/
def deferredBy (p : Part) (e : Entry) (minutes : Nat) : Part :=
  if minutes = 0 then p else p.setDefer e (p.deferTime minutes)

theorem deferredBy_only (p : Part) (e : Entry) (minutes : Nat) :
    OnlyChanges [.queue, .scanDue, .events] p (deferredBy p e minutes) := by
  unfold deferredBy
  split <;> simp

theorem deferredBy_link (p : Part) (e : Entry) (minutes : Nat) : (deferredBy p e minutes).link = p.link := by
  unfold deferredBy
  split
  · rfl
  · exact setDefer_link _ _ _

theorem deferredBy_entry {p : Part} {e : Entry} (he : p.entry e.filter = some e) (minutes : Nat) :
    (deferredBy p e minutes).entry e.filter =
      some (if minutes = 0 then e else { e with deferUntil := p.deferTime minutes }) := by
  unfold deferredBy
  split
  · exact he
  · exact setDefer_entry _ _ _

theorem deferredBy_entry_ne (p : Part) (e : Entry) (minutes : Nat) {g : FilterId} (hg : g ≠ e.filter) :
    (deferredBy p e minutes).entry g = p.entry g := by
  unfold deferredBy
  split
  · rfl
  · exact setDefer_entry_ne _ _ _ hg

theorem decline_eq (p : Part) (e : Entry) (minutes : Nat) :
    p.decline e minutes = (deferredBy p e minutes).withdraw .declined (p.deferTime minutes) := by
  unfold Part.decline deferredBy Part.deferTime
  by_cases h : minutes = 0 <;> simp only [h, if_true, if_false]

/-! ### ACCEPT on the entry (R83) -/

section Accept
variable {p : Part} {e : Entry}

theorem accept_blocked {q : Part} {b : BlockedReason} (h : p.tests e = (q, some b)) :
    answerAcceptEntry p e = (q.withdraw .blocked none, .blocked, .reason b) := by
  unfold answerAcceptEntry; rw [h]

theorem accept_admitted {q : Part} {l : LaneId} (h : p.tests e = (q, none)) (hl : q.idleLane = some l) :
    answerAcceptEntry p e = (q.emptyProposal.admitEntry e, .ok, .laneOf l) := by
  unfold answerAcceptEntry; rw [h]; dsimp only; rw [hl]; rfl

/-- What an admission leaves holds of every part that agrees with it on the pieces it speaks of. -/
theorem admits_kept {xs : List Piece} {t t' : Part} {rec : FilterRecord} {r : Recipe} {l : LaneId} (k : OnlyChanges xs t t')
    (hx : ∀ x ∈ [Piece.queue, .filters, .lanes, .shares, .lastAdmission], x ∉ xs) (h : Admits p t e rec r l) :
    Admits p t' e rec r l := by
  obtain ⟨gone, washing, others, ⟨w, lane, started⟩, otherLane, shares, last⟩ := h
  have entry := entry_kept k (hx _ (by simp))
  have filter := filter_kept k (hx _ (by simp))
  have lanes := lane_kept k (hx _ (by simp))
  exact ⟨(entry _).trans gone, (filter _).trans washing,
    fun g hg => ⟨(entry g).trans (others g hg).1, (filter g).trans (others g hg).2⟩, ⟨w, (lanes l).trans lane, started⟩,
    fun m hm => (lanes m).trans (otherLane m hm), Eq.trans (k .shares (hx _ (by simp))) shares,
    Eq.trans (k .lastAdmission (hx _ (by simp))) last⟩

/-- ACCEPT ends so: its answer is that the wash goes to lane `l`, and beside the reply nothing more is done. -/
def AcceptedTo (p : Part) (e : Entry) (l : LaneId) (xs : List Piece) (bs : List ReportBody) (now : Part → Prop) : Prop :=
  ∃ q, answerAcceptEntry p e = (q, .ok, .laneOf l) ∧ OnlyChanges ([.proposal] ++ xs) p q ∧ Reports p q bs ∧
    ∀ q', OnlyChanges reporting q q' → now q' ∧ q'.sched.proposal = none

/-- The part that the admission sees: every test passed, the proposal record emptied. -/
def emptiedPassed (p : Part) (e : Entry) (rec : FilterRecord) : Part := (headPassed p e rec).emptyProposal

theorem emptiedPassed_only (p : Part) (e : Entry) (rec : FilterRecord) :
    OnlyChanges ([Piece.flags, .proposal, .events] ++ reporting) p (emptiedPassed p e rec) := by
  have k := onlyChanges_mono (xs := [Piece.flags, .proposal, .events] ++ reporting) (headPassed_only p e rec) (by simp)
  unfold emptiedPassed
  simpa using k

variable {rec : FilterRecord} {r : Recipe} (hf : p.filter e.filter = some rec)
  (hr : p.recipe (e.override.getD rec.cfg.slot) = some r) (he : p.entry e.filter = some e) (hop : p.operating = true)
include hf hr he hop

/-- R83: every test passed, the wash is admitted as the scan would admit it. -/
theorem accept_admits (passes : PassesTests p e rec r) {l : LaneId} (hl : LowestIdle p l) :
    AdmitsByTests p e rec r l (AcceptedTo p e l) := by
  have k := emptiedPassed_only p e rec
  have same := sameAdmission_kept k (by simp)
  have hf' := (filter_kept k (by simp) e.filter).trans hf
  have hr' := (recipe_kept k (by simp) (e.override.getD rec.cfg.slot)).trans hr
  have he' := (entry_kept k (by simp) e.filter).trans he
  have hop' := (operating_kept k (by simp)).trans hop
  have passed : (headPassed p e rec).idleLane = some l :=
    (idleLane_kept (headPassed_only p e rec) (by simp)).trans (idleLane_of hl)
  have ans : answerAcceptEntry p e = (admission (emptiedPassed p e rec) e rec r l, .ok, .laneOf l) := by
    rw [accept_admitted (tests_passes hf hr passes) passed, ← admitEntry_eq hf' hr' l
      ((idleLane_kept k (by simp)).trans (idleLane_of hl))]
    rfl
  obtain ⟨between, after, told, quiet, calcs⟩ := admission_reports hf' hr' l he' hop'
  rw [admissionReports_same same] at told
  have ka := admission_only (emptiedPassed p e rec) e rec r l
  refine ⟨between, after, quiet, calcs, _, ans, ?_, ?_, fun q' kr => ⟨⟨?_, ?_⟩, ?_⟩⟩
  · exact onlyChanges_trans (onlyChanges_mono k (by simp)) (onlyChanges_mono ka (by simp))
  · exact reports_trans (q := emptiedPassed p e rec) (headPassed_reports p e rec) (k .clock (by simp)) told
  · exact admits_kept kr (by simp) (admits_same same (fun g _ => entry_kept k (by simp) g) (admission_admits hf' l he'))
  · exact (kr .scanDue (by simp)).trans (admission_due l hop')
  · exact (kr .proposal (by simp)).trans (ka .proposal (by simp))

end Accept

/-! ### The words of an admission read from another part -/

section Same
variable {p q : Part} (h : SameTests p q) {e : Entry} {rec : FilterRecord} {r : Recipe} {l : LaneId}
include h

theorem passesTests_same : PassesTests q e rec r = PassesTests p e rec r := by
  unfold PassesTests
  rw [readyForLoading_same h, waterFor_same h, roomFor_same h, loadingWithout_same h, h.plant]

theorem lowestIdle_same : LowestIdle q l = LowestIdle p l := by
  unfold LowestIdle
  rw [h.lane]

theorem admitsByTests_same (he : ∀ g, g ≠ e.filter → q.entry g = p.entry g)
    {done done' : List Piece → List ReportBody → (Part → Prop) → Prop}
    (hi : ∀ xs bs (now now' : Part → Prop), (∀ t, now t → now' t) → done xs bs now → done' xs bs now')
    (hq : AdmitsByTests q e rec r l done) : AdmitsByTests p e rec r l done' := by
  obtain ⟨between, after, quiet, calcs, hd⟩ := hq
  rw [testReports_same h, admissionReports_same h.toSameAdmission] at hd
  exact ⟨between, after, quiet, calcs, hi _ _ _ _ (fun t ⟨ha, due⟩ => ⟨admits_same h.toSameAdmission he ha, due⟩) hd⟩

end Same

/-! ### The commands -/

section Commands
variable {s : State} {b : Byte} (hc : CanHandle s) (ht : s.part.startUp.top = .operating) (tag : Byte)
include ht

include hc in
theorem answers_range (hb : filterOf b = none) (m : Half) :
    Refused s (.accept tag b) .range ∧ Refused s (.decline tag b m) .range := by
  have top : s.part.frameAccepted.startUp.top = .operating := (frameAccepted_top _).trans ht
  exact ⟨reads_of hc rfl ((inOperating_of top _).trans (named_none hb)),
    reads_of hc rfl ((inOperating_of top _).trans (named_none hb))⟩

variable {f : FilterId} (hb : filterOf b = some f)
include hb

theorem answer_accept : s.part.frameAccepted.answer (.accept b) =
    match s.part.sched.proposal, s.part.entry f with
    | some pr, some e =>
      if pr.filter = f then answerAcceptEntry s.part.frameAccepted e else refuse s.part.frameAccepted .late
    | _, _ => refuse s.part.frameAccepted .late := by
  rw [← accepted_sched, ← accepted_entry]
  exact (inOperating_of ((frameAccepted_top _).trans ht) _).trans (named_some hb)

theorem answer_decline {m : Half} (hm : m.toNat ≤ 1440) : s.part.frameAccepted.answer (.decline b m) =
    match s.part.sched.proposal, s.part.entry f with
    | some pr, some e =>
      if pr.filter = f then okay (s.part.frameAccepted.decline e m.toNat) else refuse s.part.frameAccepted .late
    | _, _ => refuse s.part.frameAccepted .late := by
  rw [← accepted_sched, ← accepted_entry]
  exact (inOperating_of ((frameAccepted_top _).trans ht) _).trans
    ((named_some hb).trans (unlessFails_ok (decide_eq_true hm)))

include hc in
theorem decline_range {m : Half} (hm : 1440 < m.toNat) : Refused s (.decline tag b m) .range :=
  reads_of hc rfl ((inOperating_of ((frameAccepted_top _).trans ht) _).trans
    ((named_some hb).trans (unlessFails_no (decide_eq_false (by omega)))))

include hc in
/-- R83, R84: no proposal for the filter. -/
theorem answers_late (h : ¬ ProposalFor s.part f) :
    Refused s (.accept tag b) .late ∧ ∀ m : Half, m.toNat ≤ 1440 → Refused s (.decline tag b m) .late := by
  have late : ∀ k : Entry → Answer, (match s.part.sched.proposal, s.part.entry f with
      | some pr, some e => if pr.filter = f then k e else refuse s.part.frameAccepted .late
      | _, _ => refuse s.part.frameAccepted .late) = refuse s.part.frameAccepted .late := by
    intro k
    split
    next pr e hp _ => exact if_neg fun hpf => h ⟨pr, hp, hpf⟩
    next => rfl
  exact ⟨reads_of hc rfl ((answer_accept ht hb).trans (late _)),
    fun m hm => reads_of hc rfl ((answer_decline ht hb hm).trans (late _))⟩

variable {e : Entry} (hp : ProposalFor s.part f) (he : s.part.entry f = some e)
include hp he

theorem answer_accept_entry :
    s.part.frameAccepted.answer (.accept b) = answerAcceptEntry s.part.frameAccepted e := by
  obtain ⟨pr, hp, hpf⟩ := hp
  rw [answer_accept ht hb, hp, he]
  exact if_pos hpf

theorem answer_decline_entry {m : Half} (hm : m.toNat ≤ 1440) :
    s.part.frameAccepted.answer (.decline b m) = okay (s.part.frameAccepted.decline e m.toNat) := by
  obtain ⟨pr, hp, hpf⟩ := hp
  rw [answer_decline ht hb hm, hp, he]
  exact if_pos hpf

include hc

theorem decline_done {m : Half} (hm : m.toNat ≤ 1440) :
    Done s (.decline tag b m) [.queue, .proposal, .scanDue, .events]
      [.proposalWithdrawn f .declined (deferralOf s.part m.toNat)] .ok .none fun q =>
        Withdrawn s.part q f (if m.toNat = 0 then e else { e with deferUntil := deferralOf s.part m.toNat }) := by
  have ans := answer_decline_entry ht hb hp he hm
  obtain rfl := entry_filter he
  obtain ⟨pr, hp, hpf⟩ := hp
  generalize ha : s.part.frameAccepted = a at ans
  have k := deferredBy_only a e m.toNat
  have defer : a.deferTime m.toNat = deferralOf s.part m.toNat := by rw [← ha, deferTime_accepted]
  have entry := deferredBy_entry (p := a) (by rw [← ha]; exact (accepted_entry _ _).trans he) m.toNat
  have proposal : (deferredBy a e m.toNat).sched.proposal = some pr :=
    (k .proposal (by simp)).trans (by rw [← ha, accepted_sched, hp])
  have hop : (deferredBy a e m.toNat).operating = true :=
    (operating_kept k (by simp)).trans (by rw [← ha]; exact accepted_operating ht)
  obtain ⟨-, told, -⟩ := withdraw_of proposal .declined (deferralOf s.part m.toNat)
  rw [decline_eq, defer] at ans
  rw [defer] at entry
  have withdrawn := withdraw_withdrawn (p := a) entry (fun g hg => deferredBy_entry_ne a e m.toNat hg) hop proposal
    .declined (deferralOf s.part m.toNat)
  rw [hpf] at told
  subst ha
  refine done_reports hc rfl ans ?_ ?_ fun q' kr => withdrawn_reply withdrawn kr
  · exact onlyChanges_trans (onlyChanges_mono k (by simp)) (by simp)
  · exact reports_trans (xs := []) (deferredBy_link _ _ _) (k .clock (by simp)) told

/-- R83: the first test that fails withdraws the proposal. -/
theorem accept_stops {xs : List Piece} {bs : List ReportBody} {x : BlockedReason} {now : Part → Prop}
    (h : TestsStop s.part.frameAccepted e xs bs x now) :
    Done s (.accept tag b) ([Piece.proposal, .scanDue, .events] ++ xs) (bs ++ [.proposalWithdrawn f .blocked none]) .blocked
      (.reason x) fun q => Withdrawn s.part q f e ∧ now q := by
  have ans := answer_accept_entry ht hb hp he
  obtain ⟨q, tests, k, toldq, after⟩ := h
  obtain ⟨pr, hp, hpf⟩ := hp
  have kt := tests_only tests
  have proposal : q.sched.proposal = some pr := (kt .proposal (by simp)).trans (by rw [accepted_sched, hp])
  obtain ⟨-, told, -⟩ := withdraw_of proposal .blocked none
  have withdrawn := withdraw_withdrawn (p := s.part.frameAccepted)
    ((entry_kept kt (by simp) f).trans ((accepted_entry _ _).trans he)) (fun g _ => entry_kept kt (by simp) g)
    ((operating_kept kt (by simp)).trans (accepted_operating ht)) proposal .blocked none
  rw [hpf] at told
  refine done_reports hc rfl (ans.trans (accept_blocked tests)) ?_ (reports_trans toldq (kt .clock (by simp)) told)
    fun q' kr => ⟨withdrawn_reply withdrawn kr, after q' ?_⟩
  · exact onlyChanges_trans (onlyChanges_mono k (by grind)) (by simp)
  · exact sameOutcome_trans (withdraw_outcome q .blocked none) (sameOutcome_kept kr (by simp))

variable {rec : FilterRecord} {r : Recipe} (hf : s.part.filter f = some rec)
  (hr : s.part.recipe (e.override.getD rec.cfg.slot) = some r)
include hf hr

theorem accept_blocks : TestsEnd s.part e rec r fun xs bs x now =>
    Done s (.accept tag b) ([Piece.proposal, .scanDue, .events] ++ xs) (bs ++ [.proposalWithdrawn f .blocked none]) .blocked
      (.reason x) fun q => Withdrawn s.part q f e ∧ now q := by
  have k := accepted_only s.part
  have own := entry_filter he
  exact testsEnd_same (sameTests_kept k (by simp)) (canSubstitute_same k (by simp) (by simp))
    (fun xs bs x now _ stop => accept_stops hc ht tag hb hp he stop)
    (tests_stop ((accepted_filter _ _).trans (by rw [own]; exact hf)) ((accepted_recipe _ _).trans hr) (accepted_operating ht))

theorem accept_done (passes : PassesTests s.part e rec r) {l : LaneId} (hl : LowestIdle s.part l) :
    AdmitsByTests s.part e rec r l fun xs bs now =>
      Done s (.accept tag b) ([Piece.proposal] ++ xs) bs .ok (.laneOf l) fun q => now q ∧ q.sched.proposal = none := by
  have k := accepted_only s.part
  have same := sameTests_kept k (by simp)
  have own := entry_filter he
  have admits := accept_admits (p := s.part.frameAccepted) (e := e) ((accepted_filter _ _).trans (by rw [own]; exact hf))
    ((accepted_recipe _ _).trans hr) ((accepted_entry _ _).trans (by rw [own]; exact he)) (accepted_operating ht)
    (by rw [passesTests_same same]; exact passes) (l := l) (by rw [lowestIdle_same same]; exact hl)
  refine admitsByTests_same same (fun g _ => accepted_entry _ g) (fun xs bs now now' hn ⟨q, ans, only, told, after⟩ => ?_)
    admits
  refine done_reports hc rfl ((answer_accept_entry ht hb hp he).trans ans)
    (onlyChanges_mono only (by simp)) told fun q' kr => ?_
  obtain ⟨shown, gone⟩ := after q' kr
  exact ⟨hn _ shown, gone⟩

end Commands

end Sys2Proof.Laws

namespace Sys2Proof

open Machine Laws

/-- Settles O50: DECLINE defers the entry and withdraws; ACCEPT answers by the part that the tests leave. -/
theorem hostAnswersProposals : Obligations.HostAnswersProposals := by
  intro s tag b m hc ht
  refine ⟨fun hb => answers_range hc ht tag hb m, fun f hb => ⟨decline_range hc ht tag hb, fun h => ?_, fun e hp he => ?_⟩⟩
  · obtain ⟨takes, turnsDown⟩ := answers_late hc ht tag hb h
    exact ⟨takes, turnsDown m⟩
  · exact ⟨decline_done hc ht tag hb hp he, fun rec r hf hr => ⟨accept_blocks hc ht tag hb hp he hf hr,
      fun passes l hl => accept_done hc ht tag hb hp he hf hr passes hl⟩⟩

end Sys2Proof
end

section
/-! SUPPORT. The fields of SET_PLANT read as a plant record (R62, Table 4-1). -/

namespace Sys2Proof.Laws

open Sys2Proof.Machine

/-! ### The operand forms -/

theorem zeroOr_eq_some {lo hi n m : Nat} : zeroOr lo hi n = some m ↔ (n = 0 ∨ lo ≤ n ∧ n ≤ hi) ∧ n = m := by
  unfold zeroOr
  by_cases h : n = 0
  · simp [h]
  · rw [if_neg h, within_eq_some, or_iff_right h]

theorem calcSetOf_eq_some {b : Byte} {x : CalcFlags} : calcSetOf b = some x ↔
    b.toNat < 16 ∧ ⟨b.getLsbD 0, b.getLsbD 1, b.getLsbD 2, b.getLsbD 3⟩ = x := by
  unfold calcSetOf
  rw [Option.ite_none_right_eq_some, Option.some.injEq]

theorem yesNoOf_eq_some {b : Byte} {x : Bool} : yesNoOf b = some x ↔ b.toNat ≤ 1 ∧ decide (b = 1) = x := by
  have one : b.toNat ≤ 1 ↔ b = 0 ∨ b = 1 := by bv_omega
  unfold yesNoOf
  rw [one]
  by_cases h0 : b = 0#8
  · simp [h0]
  · by_cases h1 : b = 1#8 <;> simp [h0, h1]

theorem polarityOf_eq_some {b : Byte} {x : Polarity} : polarityOf b = some x ↔ b.toNat ≤ 1 ∧ polarityCoded b = x := by
  have one : b.toNat ≤ 1 ↔ b = 0 ∨ b = 1 := by bv_omega
  unfold polarityOf polarityCoded
  rw [one]
  by_cases h0 : b = 0#8
  · simp [h0]
  · by_cases h1 : b = 1#8 <;> simp [h0, h1]

theorem silenceActionOf_eq_some {b : Byte} {x : SilenceAction} : silenceActionOf b = some x ↔
    b.toNat ≤ 2 ∧ (if b = 0 then .note else if b = 1 then .auto else .pause) = x := by
  have two : b.toNat ≤ 2 ↔ b = 0 ∨ b = 1 ∨ b = 2 := by bv_omega
  unfold silenceActionOf
  rw [two]
  by_cases h0 : b = 0#8
  · simp [h0]
  · by_cases h1 : b = 1#8
    · simp [h1]
    · by_cases h2 : b = 2#8 <;> simp [h0, h1, h2]

/-! ### The record -/

/-- A field read before the rest: it is in its range, and the rest goes on with it. -/
theorem bind_field_eq_some {α β : Type} {m : Option α} {P : Prop} {a : α} (hm : ∀ y, m = some y ↔ P ∧ a = y) {k : α → Option β}
    {x : β} : (m >>= k) = some x ↔ P ∧ k a = some x := by
  rw [Option.bind_eq_bind, Option.bind_eq_some_iff]
  simp only [hm, and_assoc, exists_and_left, exists_eq_left']

/-- The fields make a record exactly where each is in the range of Table 4-1. -/
theorem plantOf_eq_some {r : RawPlant} {x : PlantRecord} : plantOf r = some x ↔ PlantInRange r ∧ plantWritten r = x := by
  unfold plantOf PlantInRange plantWritten
  simp only [bind_field_eq_some fun _ => within_eq_some, bind_field_eq_some fun _ => zeroOr_eq_some,
    bind_field_eq_some fun _ => calcSetOf_eq_some, bind_field_eq_some fun _ => yesNoOf_eq_some,
    bind_field_eq_some fun _ => polarityOf_eq_some, bind_field_eq_some fun _ => silenceActionOf_eq_some,
    Option.some.injEq, List.forall_mem_cons, List.not_mem_nil, false_implies, implies_true, Nat.zero_le, true_and, and_true,
    and_assoc]

theorem plantOf_none {r : RawPlant} (h : ¬ PlantInRange r) : plantOf r = none := by
  refine Option.eq_none_iff_forall_ne_some.2 fun x hx => ?_
  obtain ⟨inRange, -⟩ := plantOf_eq_some.1 hx
  exact h inRange

end Sys2Proof.Laws
end

section
/-! SUPPORT. SET_PLANT (R62, R63): the record stored, the volumes and the loading anew, units and lanes acting on it, the silence
timer and the scan. -/

namespace Sys2Proof.Laws

open Sys2Proof.Machine

/-! ### What the new record's words read -/

theorem onlyChanges_without {x : Piece} {ys : List Piece} {p q : Part} (h : OnlyChanges (x :: ys) p q) (hx : x.kept p q) :
    OnlyChanges ys p q := fun y hy => by
  by_cases hyx : y = x
  · rw [hyx]; exact hx
  · exact h y (by simp [hyx, hy])

theorem loadingFlags_kept {xs : List Piece} {p q : Part} (h : OnlyChanges xs p q) (hm : Piece.points ∉ xs)
    (hp : Piece.plant ∉ xs) : loadingFlags q = loadingFlags p := by
  obtain ⟨-, -, flow, -, -⟩ := h .points hm
  unfold loadingFlags
  rw [flowUsed_kept h hm hp, flow]

theorem calcReports_kept {xs : List Piece} {p q : Part} (h : OnlyChanges xs p q) (hf : Piece.flags ∉ xs)
    (hp : Piece.plant ∉ xs) : calcReports q = calcReports p := by
  have flags : q.sched.flags = p.sched.flags := h .flags hf
  have plant : q.plant = p.plant := h .plant hp
  unfold calcReports flagsWith
  rw [flags, plant]

theorem arb_kept {xs : List Piece} {p q : Part} (h : OnlyChanges xs p q)
    (hx : ∀ x ∈ [Piece.units, .duty, .pumpWait, .blowerWait], x ∉ xs) : q.arb = p.arb := by
  have units : q.arb.units = p.arb.units := h .units (hx _ (by simp))
  have duty : q.arb.duty = p.arb.duty := h .duty (hx _ (by simp))
  have pumps : q.arb.pumpWait = p.arb.pumpWait := h .pumpWait (hx _ (by simp))
  have blowers : q.arb.blowerWait = p.arb.blowerWait := h .blowerWait (hx _ (by simp))
  revert units duty pumps blowers
  cases q.arb
  cases p.arb
  simp only
  rintro rfl rfl rfl rfl
  rfl

theorem valves_kept {xs : List Piece} {p q : Part} (h : OnlyChanges xs p q)
    (hx : ∀ x ∈ [Piece.channels, .map, .selection, .capture, .stop], x ∉ xs) : q.valves = p.valves := by
  have channels : q.valves.channels = p.valves.channels := h .channels (hx _ (by simp))
  have map : q.valves.map = p.valves.map := h .map (hx _ (by simp))
  have selection : q.valves.selection = p.valves.selection := h .selection (hx _ (by simp))
  have capture : q.valves.capture = p.valves.capture := h .capture (hx _ (by simp))
  have stop : q.valves.stop = p.valves.stop := h .stop (hx _ (by simp))
  revert channels map selection capture stop
  cases q.valves
  cases p.valves
  simp only
  rintro rfl rfl rfl rfl rfl
  rfl

/-! ### What units and lanes tell -/

theorem reportEquipment_tells (p : Part) (u : UnitId) (e : EquipmentEvent) (before : UnitState) :
    Tells p (p.reportEquipment u e before) := ⟨rfl, _, reportEquipment_link _ _ _ _⟩

theorem tellNews_tells (p : Part) (u : UnitId) (n : UnitNews) : Tells p (p.tellNews u n) :=
  tells_kept ((tellNews_keeps u n (List.Subset.refl _)).2 (onlyChanges_refl _ _)) (by simp)

theorem tripUnit_tells (p : Part) (u : UnitId) : Tells p (p.tripUnit u) := by
  unfold Part.tripUnit
  split
  · exact tells_trans (tells_trans (tells_trans (tells_setUnit _ _ _) (reportEquipment_tells _ _ _ _)) (tells_quiet rfl rfl))
      (tellNews_tells _ _ _)
  · exact tells_refl p

theorem feedbackActs_tells (p : Part) (u : UnitId) : Tells p (p.feedbackActs u) := by
  unfold Part.feedbackActs
  split
  · exact proveUnit_tells p u
  · exact tells_refl p
  · exact reportEquipment_tells _ _ _ _
  · exact tripUnit_tells p u
  · exact tells_refl p

theorem repolarise_tells (p : Part) (before : PerUnit Feedback) (u : UnitId) : Tells p (p.repolarise before u) := by
  unfold Part.repolarise
  split
  · exact tells_refl p
  · exact feedbackActs_tells p u

theorem resumeIfClear_tells (p : Part) (l : LaneId) : Tells p (p.resumeIfClear l) := by
  unfold Part.resumeIfClear
  split
  · exact tells_refl p
  · split
    · split
      · exact tells_trans (tells_trans ⟨rfl, [], rfl⟩ (tells_report _ _)) (enterPhase_tells _ l none)
      · exact tells_refl p
    · exact tells_refl p

theorem leaveIf_tells (p : Part) (l : LaneId) (c : HoldCause) : Tells p (p.leaveIf l c) :=
  tells_kept ((leaveIf_keeps l c (List.Subset.refl _)).2 (onlyChanges_refl _ _)) (by simp)

theorem modWash_tells (p : Part) (l : LaneId) (g : Wash → Wash) : Tells p (p.modWash l g) :=
  tells_kept ((modWash_keeps l g (List.Subset.refl _)).2 (onlyChanges_refl _ _)) (by simp)

theorem lanePlant_tells (p : Part) (l : LaneId) : Tells p (p.lanePlant l) := by
  unfold Part.lanePlant
  exact tells_trans (tells_trans (tells_trans (tells_trans (tells_trans (joinIf_tells _ _ _) (joinIf_tells _ _ _))
    (leaveIf_tells _ _ _)) (leaveIf_tells _ _ _)) (modWash_tells _ _ _)) (resumeIfClear_tells _ _)

/-! ### An IDLE lane and a unit whose reading stands -/

theorem lanePlant_idle {p : Part} {l : LaneId} (h : p.lane l = none) : p.lanePlant l = p := by
  have join : ∀ c, p.joinIf l c = p := fun c => by unfold Part.joinIf; rw [h]
  have leave : ∀ c, p.leaveIf l c = p := fun c => by unfold Part.leaveIf; rw [h]
  have mod : ∀ g, p.modWash l g = p := fun g => by unfold Part.modWash; rw [h]
  unfold Part.lanePlant Part.resumeIfClear
  simp only [join, leave, mod, h]

theorem repolarise_same {p : Part} {before : PerUnit Feedback} {u : UnitId} (h : p.feedback u = before.get u) :
    p.repolarise before u = p := if_pos h

theorem foldl_stays {α : Type} {g : Part → α → Part} {p : Part} (h : ∀ x, g p x = p) (xs : List α) : xs.foldl g p = p := by
  induction xs with
  | nil => rfl
  | cons x xs ih => rw [List.foldl_cons, h x, ih]

/-! ### The stages of an accepted record -/

/-- The record stored; timings it changes are taken anew. -/
def plantStored (p : Part) (x : PlantRecord) : Part :=
  { p with plant := x, plantReceived := true, events := p.events.filter fun e => !e.isRetimed p.plant x }

/-- The volumes derived and the loading computed. -/
def plantLoaded (p : Part) (x : PlantRecord) : Part := (plantStored p x).deriveTank.deriveBasin.computeLoading

/-- The readings before the record. -/
def readings (p : Part) : PerUnit Feedback := ⟨p.feedback .p1, p.feedback .p2, p.feedback .bl⟩

/-- The units, then the lanes, have acted on it. -/
def plantActed (p : Part) (x : PlantRecord) : Part :=
  allLanes.foldl (fun q l => q.lanePlant l) (allUnits.foldl (fun q u => q.repolarise (readings p) u) (plantLoaded p x))

/-- The silence timer follows. -/
def silenceFollows (p : Part) (x : PlantRecord) : Part :=
  if p.operating then (if x.silenceInterval = 0 then p.setSilence none else p.restartSilence) else p

theorem applyPlant_eq (p : Part) (x : PlantRecord) : p.applyPlant x = (silenceFollows (plantActed p x) x).trigger := rfl

section Stages
variable (p : Part) (x : PlantRecord)

theorem plantStored_only : OnlyChanges [.plant, .plantReceived, .events] p (plantStored p x) := by
  intro y hy
  unfold plantStored
  cases y <;> simp_all [Piece.kept]

theorem derived_only : OnlyChanges [.plant, .plantReceived, .events, .volumes] p (plantStored p x).deriveTank.deriveBasin := by
  have k := onlyChanges_mono (xs := [.plant, .plantReceived, .events, .volumes]) (plantStored_only p x) (by simp)
  simpa using k

theorem loaded_from_derived :
    OnlyChanges ([Piece.flags, .overload, .events] ++ reporting) (plantStored p x).deriveTank.deriveBasin (plantLoaded p x) := by
  unfold plantLoaded; simp

theorem plantLoaded_only :
    OnlyChanges ([Piece.plant, .plantReceived, .volumes, .flags, .overload, .events] ++ reporting) p (plantLoaded p x) :=
  onlyChanges_trans (onlyChanges_mono (derived_only p x) (by simp)) (onlyChanges_mono (loaded_from_derived p x) (by simp))

theorem plantActed_from_loaded : OnlyChanges laneWork (plantLoaded p x) (plantActed p x) := by
  unfold plantActed; simp

theorem silenceFollows_only : OnlyChanges [.silence, .events] p (silenceFollows p x) := by
  unfold silenceFollows
  repeat' split
  all_goals simp

theorem applyPlant_from_acted : OnlyChanges [.silence, .events, .scanDue] (plantActed p x) (p.applyPlant x) := by
  have k := onlyChanges_mono (xs := [.silence, .events, .scanDue]) (silenceFollows_only (plantActed p x) x) (by simp)
  rw [applyPlant_eq]
  simpa using k

theorem applyPlant_from_loaded :
    OnlyChanges (laneWork ++ [Piece.silence, .scanDue]) (plantLoaded p x) (p.applyPlant x) :=
  onlyChanges_trans (onlyChanges_mono (plantActed_from_loaded p x) (by simp))
    (onlyChanges_mono (applyPlant_from_acted p x) (by simp))

/-! ### What the record leaves -/

theorem applyPlant_plant : (p.applyPlant x).plant = x ∧ (p.applyPlant x).plantReceived = true := by
  have k := applyPlant_from_loaded p x
  have kl := loaded_from_derived p x
  exact ⟨(k .plant (by simp)).trans (kl .plant (by simp)), (k .plantReceived (by simp)).trans (kl .plantReceived (by simp))⟩

/-- R32, R33: the volumes of the new record. -/
theorem applyPlant_volumes : (p.applyPlant x).front.tankAvail = (plantStored p x).tankVolume ∧
    (p.applyPlant x).front.basinRoom = (plantStored p x).basinVolume := by
  obtain ⟨tank, basin⟩ := applyPlant_from_loaded p x .volumes (by simp)
  obtain ⟨tank', basin'⟩ := loaded_from_derived p x .volumes (by simp)
  exact ⟨tank.trans tank', basin.trans basin'⟩

theorem applyPlant_silence (hop : p.operating = true) : (p.applyPlant x).startUp.silence =
    if x.silenceInterval = 0 then none else some (min (p.startUp.clock + x.silenceInterval) 4294967295) := by
  have kt : OnlyChanges [.scanDue] (silenceFollows (plantActed p x) x) (p.applyPlant x) := by rw [applyPlant_eq]; simp
  have ka : OnlyChanges (laneWork ++ [Piece.plant, .plantReceived, .volumes, .flags, .overload]) p (plantActed p x) :=
    onlyChanges_trans (onlyChanges_mono (plantLoaded_only p x) (by simp))
      (onlyChanges_mono (plantActed_from_loaded p x) (by simp))
  have operating : (plantActed p x).operating = true := (operating_kept ka (by simp)).trans hop
  have clock : (plantActed p x).clock = p.startUp.clock := ka .clock (by simp)
  have plant : (plantActed p x).plant = x :=
    (plantActed_from_loaded p x .plant (by simp)).trans (loaded_from_derived p x .plant (by simp))
  rw [show (p.applyPlant x).startUp.silence = _ from kt .silence (by simp)]
  unfold silenceFollows
  rw [if_pos operating]
  by_cases off : x.silenceInterval = 0
  · rw [if_pos off, if_pos off]
    rfl
  · rw [if_neg off, if_neg off]
    unfold Part.restartSilence
    rw [plant, clock, if_pos (by simp [operating, off])]
    rfl

theorem applyPlant_due (hop : p.operating = true) : (p.applyPlant x).sched.scanDue = true := by
  rw [applyPlant_eq]
  exact trigger_due _ ((operating_kept (silenceFollows_only _ x) (by simp)).trans
    ((operating_kept (plantActed_from_loaded p x) (by simp)).trans
      ((operating_kept (plantLoaded_only p x) (by simp)).trans hop)))

/-- The part with nothing but the record replaced, which the words of the loading are said of. -/
def withPlant (p : Part) (x : PlantRecord) : Part := { p with plant := x }

theorem withPlant_only : OnlyChanges [.plant] p (withPlant p x) := by
  intro y hy
  unfold withPlant
  cases y <;> simp_all [Piece.kept]

theorem derived_from_withPlant :
    OnlyChanges [.plantReceived, .events, .volumes] (withPlant p x) (plantStored p x).deriveTank.deriveBasin :=
  onlyChanges_without (x := .plant) (onlyChanges_trans (onlyChanges_mono (onlyChanges_symm (withPlant_only p x)) (by simp))
    (derived_only p x)) rfl

/-- R63, R79: the overload timer under the new record. -/
theorem applyPlant_overload (hop : p.operating = true) :
    (p.applyPlant x).sched.overload = overloadAt (withPlant p x) (currentLoading (withPlant p x)) := by
  have k := derived_from_withPlant p x
  rw [← overloadAt_kept k (by simp) (by simp) (by simp), ← currentLoading_kept k (by simp) (by simp) (by simp)]
  exact (applyPlant_from_loaded p x .overload (by simp)).trans
    (computeLoading_overload ((operating_kept (derived_only p x) (by simp)).trans hop))

/-! ### What it reports -/

/-- The CALC reports of the loading computed under the new record. -/
def plantReports : List ReportBody :=
  if p.startUp.top = .operating then calcReports (withPlant p x) (loadingFlags (withPlant p x) p.serviceArea) (.loading none)
  else []

theorem plantLoaded_reports : Reports p (plantLoaded p x) (plantReports p x) := by
  have kd := derived_only p x
  have k := derived_from_withPlant p x
  have same : Reports p (plantStored p x).deriveTank.deriveBasin [] := rfl
  unfold plantReports plantLoaded
  split
  next top =>
    obtain ⟨told, -, -⟩ := computeLoading_parts (p := (plantStored p x).deriveTank.deriveBasin)
      ((operating_kept kd (by simp)).trans (operating_of top))
    rw [calcReports_kept k (by simp) (by simp), loadingFlags_kept k (by simp) (by simp), serviceArea_kept kd (by simp)] at told
    exact reports_trans same rfl told
  next idle =>
    rw [computeLoading_idle ((operating_kept kd (by simp)).trans (beq_eq_false_iff_ne.2 idle))]
    exact same

theorem applyPlant_link : (p.applyPlant x).link = (plantActed p x).link := by
  rw [applyPlant_eq, trigger_link]
  exact link_kept (silenceFollows_only _ x) (by simp)

theorem plantActed_tells : Tells (plantLoaded p x) (plantActed p x) :=
  tells_trans (tells_foldl (fun q u => repolarise_tells q (readings p) u) _ _) (tells_foldl lanePlant_tells _ _)

theorem applyPlant_reports : ∃ bs, Reports p (p.applyPlant x) bs := by
  obtain ⟨-, cs, told⟩ := plantActed_tells p x
  exact ⟨_, (applyPlant_link p x).trans
    (reports_trans (plantLoaded_reports p x) (plantLoaded_only p x .clock (by simp)) told)⟩

/-! ### Both lanes IDLE, the polarity unchanged -/

section Idle
variable {p x} (lanes : ∀ l, p.lane l = none) (polarity : x.polarity = p.plant.polarity)
include lanes polarity

theorem plantActed_idle : plantActed p x = plantLoaded p x := by
  have k := plantLoaded_only p x
  have plant : (plantLoaded p x).plant = x := loaded_from_derived p x .plant (by simp)
  have reading : ∀ u, (plantLoaded p x).feedback u = (readings p).get u := fun u => by
    have same : (plantLoaded p x).feedback u = p.feedback u := by
      unfold Part.feedback
      rw [plant, polarity, unit_kept k (by simp)]
    rw [same]
    cases u <;> rfl
  unfold plantActed
  rw [foldl_stays (fun u => repolarise_same (reading u)), foldl_stays]
  exact fun l => lanePlant_idle ((lane_kept k (by simp) l).trans (lanes l))

theorem applyPlant_idle_only : OnlyChanges
    ([Piece.plant, .plantReceived, .volumes, .silence, .flags, .overload, .scanDue, .events] ++ reporting) p (p.applyPlant x) := by
  have k := applyPlant_from_acted p x
  rw [plantActed_idle lanes polarity] at k
  exact onlyChanges_trans (onlyChanges_mono (plantLoaded_only p x) (by simp)) (onlyChanges_mono k (by simp))

theorem applyPlant_idle_reports : Reports p (p.applyPlant x) (plantReports p x) := by
  unfold Reports
  rw [applyPlant_link, plantActed_idle lanes polarity]
  exact plantLoaded_reports p x

end Idle
end Stages

/-! ### The volumes in the words of the statement -/

theorem tankVolume_written (p : Part) (r : RawPlant) : (plantStored p (plantWritten r)).tankVolume =
    p.front.tank.usableValue.map fun v => (v - r.tankMin.toNat) * r.tankArea.toNat / 1000 := by
  show (p.front.tank.usableValue.bind fun _ => _) = _
  cases p.front.tank.usableValue <;> rfl

theorem basinVolume_written (p : Part) (r : RawPlant) : (plantStored p (plantWritten r)).basinVolume =
    p.front.basin.usableValue.map fun v => (r.basinMax.toNat - v) * r.basinArea.toNat / 1000 := by
  show (p.front.basin.usableValue.bind fun _ => _) = _
  cases p.front.basin.usableValue <;> rfl

/-! ### The command -/

theorem accepted_busyLanes (p : Part) : p.frameAccepted.busyLanes = p.busyLanes := by
  unfold Part.busyLanes
  simp only [accepted_lane]

theorem withPlant_accepted (p : Part) (x : PlantRecord) :
    OnlyChanges [.silence, .lastAccepted, .events] (withPlant p x) (withPlant p.frameAccepted x) :=
  onlyChanges_without (x := .plant)
    (onlyChanges_trans (onlyChanges_mono (onlyChanges_symm (withPlant_only p x)) (by simp))
      (onlyChanges_trans (onlyChanges_mono (accepted_only p) (by simp))
        (onlyChanges_mono (withPlant_only p.frameAccepted x) (by simp)))) rfl

theorem plantReports_accepted (p : Part) (x : PlantRecord) : plantReports p.frameAccepted x = plantReports p x := by
  have k := withPlant_accepted p x
  unfold plantReports
  rw [frameAccepted_top, calcReports_kept k (by simp) (by simp), loadingFlags_kept k (by simp) (by simp), accepted_serviceArea]

section Command
variable {s : State} (tag : Byte) {r : RawPlant} (hc : CanHandle s) (ht : s.part.startUp.top ≠ .surveying)
include ht

theorem answer_setPlant (hr : PlantInRange r) : s.part.frameAccepted.answer (.setPlant r) =
    unlessFails s.part.frameAccepted
      (!s.part.frameAccepted.operating || decide (s.part.frameAccepted.busyLanes.length ≤ r.concurrency.toNat)) .busy
      (okay (s.part.frameAccepted.applyPlant (plantWritten r))) :=
  (unlessSurveying_accepted ht _).trans (named_some (plantOf_eq_some.2 ⟨hr, rfl⟩))

include hc

theorem setPlant_range (hr : ¬ PlantInRange r) : Refused s (.setPlant tag r) .range :=
  reads_of hc rfl ((unlessSurveying_accepted ht _).trans (named_none (plantOf_none hr)))

theorem setPlant_busy (hr : PlantInRange r) (top : s.part.startUp.top = .operating)
    (above : r.concurrency.toNat < s.part.busyLanes.length) : Refused s (.setPlant tag r) .busy := by
  refine reads_of hc rfl ((answer_setPlant ht hr).trans (unlessFails_no ?_))
  rw [accepted_operating top, accepted_busyLanes]
  simpa using above

/-- The accepted record: what holds of the part that has applied it holds once the reply is given. -/
theorem setPlant_done (hr : PlantInRange r)
    (free : ¬ (s.part.startUp.top = .operating ∧ r.concurrency.toNat < s.part.busyLanes.length)) {bs : List ReportBody}
    (told : Reports s.part.frameAccepted (s.part.frameAccepted.applyPlant (plantWritten r)) bs) {now : Part → Prop}
    (hn : ∀ q, OnlyChanges reporting (s.part.frameAccepted.applyPlant (plantWritten r)) q → now q) :
    Done s (.setPlant tag r) replanning bs .ok .none now := by
  have passed : (!s.part.frameAccepted.operating ||
      decide (s.part.frameAccepted.busyLanes.length ≤ r.concurrency.toNat)) = true := by
    unfold Part.operating
    rw [frameAccepted_top, accepted_busyLanes]
    by_cases top : s.part.startUp.top = .operating
    · simpa [top] using fun above => free ⟨top, above⟩
    · simp [top]
  exact done_reports hc rfl ((answer_setPlant ht hr).trans (unlessFails_ok passed)) (by simp) told hn

end Command

/-! ### What the part is once the reply has been given -/

section Replied
variable {p q : Part} {r : RawPlant} (k : OnlyChanges reporting (p.frameAccepted.applyPlant (plantWritten r)) q)
include k

theorem setPlant_volumes :
    q.front.tankAvail = p.front.tank.usableValue.map (fun v => (v - r.tankMin.toNat) * r.tankArea.toNat / 1000) ∧
    q.front.basinRoom = p.front.basin.usableValue.map (fun v => (r.basinMax.toNat - v) * r.basinArea.toNat / 1000) := by
  obtain ⟨tank, basin⟩ := k .volumes (by simp)
  obtain ⟨tank', basin'⟩ := applyPlant_volumes p.frameAccepted (plantWritten r)
  rw [tank, basin, tank', basin', tankVolume_written, basinVolume_written, accepted_front]
  exact ⟨rfl, rfl⟩

theorem setPlant_operating (top : p.startUp.top = .operating) : q.sched.scanDue = true ∧
    q.sched.overload = overloadAt (withPlant p (plantWritten r)) (currentLoading (withPlant p (plantWritten r))) ∧
    q.startUp.silence = if r.silenceInterval.toNat = 0 then none
      else some (min (p.startUp.clock + r.silenceInterval.toNat) 4294967295) := by
  have hop := accepted_operating top
  have kw := withPlant_accepted p (plantWritten r)
  refine ⟨(k .scanDue (by simp)).trans (applyPlant_due _ _ hop), (k .overload (by simp)).trans ?_,
    (k .silence (by simp)).trans ?_⟩
  · rw [applyPlant_overload _ _ hop, overloadAt_kept kw (by simp) (by simp) (by simp),
      currentLoading_kept kw (by simp) (by simp) (by simp)]
  · rw [applyPlant_silence _ _ hop, accepted_clock]
    rfl

theorem setPlant_idle (lanes : ∀ l, p.lane l = none) (polarity : (plantWritten r).polarity = p.plant.polarity) :
    q.lanes = p.lanes ∧ q.arb = p.arb ∧ q.valves = p.valves := by
  have idle := applyPlant_idle_only (p := p.frameAccepted) (x := plantWritten r)
    (fun l => (accepted_lane p l).trans (lanes l)) (by rw [accepted_plant]; exact polarity)
  have whole : OnlyChanges ([Piece.plant, .plantReceived, .volumes, .silence, .lastAccepted, .flags, .overload, .scanDue,
      .events] ++ reporting) p q :=
    onlyChanges_trans (onlyChanges_mono (accepted_only p) (by simp))
      (onlyChanges_trans (onlyChanges_mono idle (by simp)) (onlyChanges_mono k (by simp)))
  exact ⟨whole .lanes (by simp), arb_kept whole (by simp), valves_kept whole (by simp)⟩

end Replied

/-- The reports of the accepted record: those of the loading alone where no lane and no unit acts. -/
theorem setPlant_reports (p : Part) (r : RawPlant) :
    ∃ bs, Reports p.frameAccepted (p.frameAccepted.applyPlant (plantWritten r)) bs ∧
      ((∀ l, p.lane l = none) → (plantWritten r).polarity = p.plant.polarity → bs = plantReports p (plantWritten r)) := by
  by_cases idle : (∀ l, p.lane l = none) ∧ (plantWritten r).polarity = p.plant.polarity
  · obtain ⟨lanes, polarity⟩ := idle
    refine ⟨_, applyPlant_idle_reports (fun l => (accepted_lane p l).trans (lanes l)) ?_,
      fun _ _ => plantReports_accepted p _⟩
    rw [accepted_plant]
    exact polarity
  · obtain ⟨bs, told⟩ := applyPlant_reports p.frameAccepted (plantWritten r)
    exact ⟨bs, told, fun lanes polarity => absurd ⟨lanes, polarity⟩ idle⟩

end Sys2Proof.Laws

namespace Sys2Proof

open Machine Laws

/-- Settles O43: the two refusals by the record's ranges and the lanes at work; else the record's effects one by one, each kept
through the reply. -/
theorem setPlantReplacesTheRecord : Obligations.SetPlantReplacesTheRecord := by
  intro s tag r hc ht
  refine ⟨setPlant_range tag hc ht, fun hr ⟨top, above⟩ => setPlant_busy tag hc ht hr top above, fun hr free => ?_⟩
  obtain ⟨bs, told, quiet⟩ := setPlant_reports s.part r
  refine ⟨bs, setPlant_done tag hc ht hr free told fun q k => ?_⟩
  obtain ⟨plant, received⟩ := applyPlant_plant s.part.frameAccepted (plantWritten r)
  obtain ⟨tank, basin⟩ := setPlant_volumes k
  refine ⟨(k .plant (by simp)).trans plant, (k .plantReceived (by simp)).trans received, fun v hv => ?_, fun hv => ?_,
    fun v hv => ?_, fun hv => ?_, setPlant_operating k, fun lanes polarity => ?_⟩
  · rw [tank, hv]; rfl
  · rw [tank, hv]; rfl
  · rw [basin, hv]; rfl
  · rw [basin, hv]; rfl
  · obtain ⟨sameLanes, sameArb, sameValves⟩ := setPlant_idle k lanes polarity
    exact ⟨sameLanes, sameArb, sameValves, quiet lanes polarity⟩

end Sys2Proof
end

section
/-! SUPPORT. The validation of a staged recipe (R91, R94, R95) in the words of the statements, and the slot that an
installation writes (R90, R100). -/

namespace Sys2Proof.Laws

open Sys2Proof.Machine

/-! ### The records on the link (Table 11-4) -/

theorem rawPhasesOf_rawPhaseBytes (rs : List RawPhase) : rawPhasesOf (rawPhaseBytes rs) = rs := by
  induction rs with
  | nil => rfl
  | cons r rs ih =>
    show (⟨_, _, _, _, _, _⟩ :: rawPhasesOf (rawPhaseBytes rs) : List RawPhase) = _
    rw [ih]
    simp only [joinBytes_halves]

theorem rawPhaseBytes_length (rs : List RawPhase) : (rawPhaseBytes rs).length = 11 * rs.length := by
  induction rs with
  | nil => rfl
  | cons r rs ih =>
    show (rawPhaseBytes rs).length + 11 = 11 * (rs.length + 1)
    rw [ih]
    omega

/-! ### One record (Tables 5-3 and 5-5) -/

theorem phaseKindOf_eq_some {r : RawPhase} {k : PhaseKind} : phaseKindOf r.kind = some k ↔ KindNamed r k := by
  constructor
  · unfold phaseKindOf
    split <;> rintro ⟨⟩ <;> simp [KindNamed, BitVec.toNat_eq, *]
  · rintro (⟨h, rfl⟩ | ⟨h, rfl⟩ | ⟨h, rfl⟩ | ⟨h, rfl⟩ | ⟨h, rfl⟩ | ⟨h, rfl⟩) <;> rw [h] <;> rfl

theorem inRange_iff {lo hi : Nat} {h : Half} : inRange lo hi h = true ↔ lo ≤ h.toNat ∧ h.toNat ≤ hi := by
  simp [inRange]

theorem fieldsOk_iff {k : PhaseKind} {r : RawPhase} : fieldsOk k r = true ↔
    (10 ≤ r.duration.toNat ∧ r.duration.toNat ≤ 3600) ∧
      KindAllows k r.rate.toNat r.depth.toNat r.target.toNat r.confirm.toNat := by
  have zero : ∀ h : Half, (h == 0) = true ↔ h.toNat = 0 := fun h => by
    rw [beq_iff_eq, ← BitVec.toNat_inj]
    rfl
  unfold fieldsOk KindAllows
  cases k <;> simp only [Bool.and_eq_true, inRange_iff, zero, and_assoc, Nat.zero_le, true_and]

theorem blowsAir_iff {k : PhaseKind} : blowsAir k = true ↔ k = .air ∨ k = .airWater := by
  cases k <;> simp [blowsAir]

/-- The phase a record of this kind holds. -/
def phaseOf (k : PhaseKind) (r : RawPhase) : Phase :=
  ⟨k, r.duration.toNat, r.rate.toNat, r.depth.toNat, r.target.toNat, r.confirm.toNat⟩

theorem phaseOf_holds {r : RawPhase} {k : PhaseKind} (h : KindNamed r k) : PhaseOfRecord r (phaseOf k r) :=
  ⟨h, rfl, rfl, rfl, rfl, rfl⟩

theorem checkPhase_eq_some {n i : Nat} {drained : Bool} {r : RawPhase} {ph : Phase} :
    checkPhase n i drained r = some ph ↔ ∃ k, KindNamed r k ∧
      ((10 ≤ r.duration.toNat ∧ r.duration.toNat ≤ 3600) ∧
        KindAllows k r.rate.toNat r.depth.toNat r.target.toNat r.confirm.toNat) ∧
      (k = .ripen → i = n) ∧ (k = .air ∨ k = .airWater → drained = true) ∧ phaseOf k r = ph := by
  simp only [← phaseKindOf_eq_some, ← fieldsOk_iff, ← blowsAir_iff]
  unfold checkPhase
  cases phaseKindOf r.kind with
  | none => simp
  | some k =>
    simp [phaseOf]

/-- R94, check 4: a DRAIN record stands before record number `i` (from 0). -/
def DrainedBefore (rs : List RawPhase) (i : Nat) : Prop := ∃ j x, j < i ∧ rs[j]? = some x ∧ x.kind = 0

theorem drainedBefore_succ {rs : List RawPhase} {i : Nat} {r : RawPhase} (hr : rs[i]? = some r) :
    DrainedBefore rs (i + 1) ↔ DrainedBefore rs i ∨ r.kind = 0 := by
  constructor
  · rintro ⟨j, x, hj, hx, drain⟩
    rcases Nat.lt_succ_iff_lt_or_eq.1 hj with hj | rfl
    · exact .inl ⟨j, x, hj, hx, drain⟩
    · rw [hr, Option.some.injEq] at hx
      exact .inr (hx ▸ drain)
  · rintro (⟨j, x, hj, hx, drain⟩ | drain)
    · exact ⟨j, x, Nat.lt_succ_of_lt hj, hx, drain⟩
    · exact ⟨i, r, Nat.lt_succ_self i, hr, drain⟩

theorem kindNamed_drain {r : RawPhase} {k : PhaseKind} (h : KindNamed r k) : k = .drain ↔ r.kind = 0 := by
  rcases h with ⟨h, rfl⟩ | ⟨h, rfl⟩ | ⟨h, rfl⟩ | ⟨h, rfl⟩ | ⟨h, rfl⟩ | ⟨h, rfl⟩ <;> rw [h] <;> decide

theorem kindNamed_water {r : RawPhase} {k : PhaseKind} (h : KindNamed r k) : k = .water ↔ r.kind = 3 := by
  rcases h with ⟨h, rfl⟩ | ⟨h, rfl⟩ | ⟨h, rfl⟩ | ⟨h, rfl⟩ | ⟨h, rfl⟩ | ⟨h, rfl⟩ <;> rw [h] <;> decide

section Record
variable {rs : List RawPhase} {i : Nat} {r : RawPhase} {drained : Bool} (hr : rs[i]? = some r)
  (hd : drained = true ↔ DrainedBefore rs i)
include hr hd

theorem checkPhase_passes {ph : Phase} (h : checkPhase rs.length (i + 1) drained r = some ph) :
    RecordPasses rs i ∧ PhaseOfRecord r ph := by
  obtain ⟨k, named, ⟨duration, allows⟩, last, air, rfl⟩ := checkPhase_eq_some.1 h
  exact ⟨⟨r, k, hr, named, duration, allows, last, fun ha => hd.1 (air ha)⟩, phaseOf_holds named⟩

theorem checkPhase_fails (h : checkPhase rs.length (i + 1) drained r = none) : ¬ RecordPasses rs i := by
  rintro ⟨r', k, hr', named, duration, allows, last, air⟩
  obtain rfl : r = r' := Option.some.inj (hr.symm.trans hr')
  have passes := checkPhase_eq_some.2 ⟨k, named, ⟨duration, allows⟩, last, fun ha => hd.2 (air ha), rfl⟩
  rw [h] at passes
  cases passes

theorem drained_next {ph : Phase} (h : PhaseOfRecord r ph) :
    (drained || ph.kind == .drain) = true ↔ DrainedBefore rs (i + 1) := by
  obtain ⟨named, -⟩ := h
  rw [Bool.or_eq_true, hd, beq_iff_eq, kindNamed_drain named, drainedBefore_succ hr]

end Record

/-! ### The whole recipe (R94, R95) -/

/-- What the checks of the records from number `i` (from 0) on come to. -/
def ChecksEnd (rs : List RawPhase) (i : Nat) : Except Nat (List Phase) → Prop
  | .ok phs => (∀ j, i ≤ j → j < rs.length → RecordPasses rs j) ∧ List.Forall₂ PhaseOfRecord (rs.drop i) phs
  | .error n => ∃ j, n = j + 1 ∧ i ≤ j ∧ j < rs.length ∧ ¬ RecordPasses rs j ∧ ∀ m, i ≤ m → m < j → RecordPasses rs m

/-- Joins one record with those the recursion has checked. -/
theorem from_succ {P : Nat → Prop} {i : Nat} (here : P i) (later : ∀ m, i + 1 ≤ m → P m) (m : Nat) (h : i ≤ m) : P m := by
  rcases Nat.eq_or_lt_of_le h with rfl | h
  · exact here
  · exact later m h

theorem checkPhases_end {rs : List RawPhase} (rest : List RawPhase) : ∀ (i : Nat) (drained : Bool), rs.drop i = rest →
    (drained = true ↔ DrainedBefore rs i) → ChecksEnd rs i (checkPhases rs.length (i + 1) drained rest) := by
  induction rest with
  | nil =>
    intro i drained hrest _
    refine ⟨fun j hij hj => absurd hj ?_, hrest ▸ .nil⟩
    have := List.drop_eq_nil_iff.1 hrest
    omega
  | cons r rest ih =>
    intro i drained hrest hd
    have hr : rs[i]? = some r := by rw [← List.head?_drop, hrest]; rfl
    have next : rs.drop (i + 1) = rest := by rw [← List.tail_drop, hrest]; rfl
    have inside : i < rs.length := (List.getElem?_eq_some_iff.1 hr).1
    unfold checkPhases
    cases hph : checkPhase rs.length (i + 1) drained r with
    | none => exact ⟨i, rfl, Nat.le_refl i, inside, checkPhase_fails hr hd hph, fun m hm hmi => absurd hmi (by omega)⟩
    | some ph =>
      obtain ⟨passes, holds⟩ := checkPhase_passes hr hd hph
      have later := ih (i + 1) (drained || ph.kind == .drain) next (drained_next hr hd holds)
      dsimp only
      cases hrec : checkPhases rs.length (i + 1 + 1) (drained || ph.kind == .drain) rest with
      | ok phs =>
        rw [hrec] at later
        obtain ⟨all, phases⟩ := later
        refine ⟨from_succ (fun _ => passes) all, ?_⟩
        rw [hrest]
        exact .cons holds (next ▸ phases)
      | error n =>
        rw [hrec] at later
        obtain ⟨j, hn, hij, hj, fails, before⟩ := later
        exact ⟨j, hn, Nat.le_of_succ_le hij, hj, fails, from_succ (fun _ => passes) before⟩

theorem holds_water {rs : List RawPhase} {phs : List Phase} (h : List.Forall₂ PhaseOfRecord rs phs) :
    (phs.any fun ph => ph.kind == .water) = true ↔ ∃ r ∈ rs, r.kind = 3 := by
  induction h with
  | nil => simp
  | cons hph _ ih =>
    obtain ⟨named, -⟩ := hph
    simp only [List.any_cons, Bool.or_eq_true, beq_iff_eq, kindNamed_water named, ih, List.exists_mem_cons_iff]

/-- R94, R95: the recipe is valid and its phases are those of its records, or it has an offending phase. -/
theorem validate_ends (rs : List RawPhase) :
    (∃ phs, validate rs = .ok phs ∧ RecipeValid rs ∧ List.Forall₂ PhaseOfRecord rs phs) ∨
      ∃ i, validate rs = .error i ∧ Offending rs i := by
  have ends := checkPhases_end (rs := rs) rs 0 false rfl ⟨nofun, fun ⟨_, _, h, _⟩ => absurd h (Nat.not_lt_zero _)⟩
  unfold validate
  cases hc : checkPhases rs.length 1 false rs with
  | error n =>
    rw [hc] at ends
    obtain ⟨j, hn, -, hj, fails, before⟩ := ends
    exact .inr ⟨n, rfl, .inl ⟨j, hn, hj, fails, fun m => before m (Nat.zero_le m)⟩⟩
  | ok phs =>
    rw [hc] at ends
    obtain ⟨all, phases⟩ := ends
    have all' : ∀ i, i < rs.length → RecordPasses rs i := fun i => all i (Nat.zero_le i)
    dsimp only
    by_cases water : (phs.any fun ph => ph.kind == .water) = true
    · exact .inl ⟨phs, if_pos water, ⟨all', (holds_water phases).1 water⟩, phases⟩
    · refine .inr ⟨0, if_neg water, .inr ⟨rfl, all', fun r hr hk => water ((holds_water phases).2 ⟨r, hr, hk⟩)⟩⟩

theorem offending_not_valid {rs : List RawPhase} {i : Nat} (h : Offending rs i) : ¬ RecipeValid rs := by
  rintro ⟨all, r, hr, water⟩
  rcases h with ⟨j, -, hj, fails, -⟩ | ⟨-, -, dry⟩
  · exact fails (all j hj)
  · exact dry r hr water

theorem offending_unique {rs : List RawPhase} {i j : Nat} (hi : Offending rs i) (hj : Offending rs j) : i = j := by
  rcases hi with ⟨a, rfl, ha, fa, before_a⟩ | ⟨rfl, all, -⟩ <;> rcases hj with ⟨b, rfl, hb, fb, before_b⟩ | ⟨rfl, all', -⟩
  · have hab : ¬ a < b := fun h => fa (before_b a h)
    have hba : ¬ b < a := fun h => fb (before_a b h)
    omega
  · exact absurd (all' a ha) fa
  · exact absurd (all b hb) fb
  · rfl

theorem validate_offending {rs : List RawPhase} {i : Nat} (h : Offending rs i) : validate rs = .error i := by
  obtain ⟨_, -, valid, -⟩ | ⟨j, hv, hj⟩ := validate_ends rs
  · exact absurd valid (offending_not_valid h)
  · rw [hv, offending_unique h hj]

theorem validate_valid {rs : List RawPhase} (h : RecipeValid rs) :
    ∃ phs, validate rs = .ok phs ∧ List.Forall₂ PhaseOfRecord rs phs := by
  obtain ⟨phs, hv, -, phases⟩ | ⟨_, -, offends⟩ := validate_ends rs
  · exact ⟨phs, hv, phases⟩
  · exact absurd h (offending_not_valid offends)

/-! ### The slot written (R90, R93, R100) -/

theorem waterRate_eq (ph : Phase) : ph.waterRate = waterFlow ph := by
  unfold Phase.waterRate waterFlow
  cases ph.kind <;> rfl

theorem wasteRate_eq (ph : Phase) : ph.wasteRate = wasteFlow ph := by
  unfold Phase.wasteRate wasteFlow
  cases ph.kind <;> rfl

theorem drainDepth_eq (ph : Phase) : ph.drainDepth = drainOf ph := by
  unfold Phase.drainDepth drainOf
  cases ph.kind <;> rfl

theorem phaseKindCode_of {r : RawPhase} {k : PhaseKind} (h : KindNamed r k) : phaseKindCode k = r.kind := by
  rcases h with ⟨h, rfl⟩ | ⟨h, rfl⟩ | ⟨h, rfl⟩ | ⟨h, rfl⟩ | ⟨h, rfl⟩ | ⟨h, rfl⟩ <;> rw [h] <;> rfl

/-- The canonical record of a phase is the record it was received in. -/
theorem raw_of {r : RawPhase} {ph : Phase} (h : PhaseOfRecord r ph) : ph.raw = r := by
  obtain ⟨named, duration, rate, depth, target, confirm⟩ := h
  unfold Phase.raw
  rw [phaseKindCode_of named, duration, rate, depth, target, confirm]
  simp only [BitVec.ofNat_toNat, BitVec.setWidth_eq]

theorem map_raw {rs : List RawPhase} {phs : List Phase} (h : List.Forall₂ PhaseOfRecord rs phs) :
    phs.map Phase.raw = rs := by
  induction h with
  | nil => rfl
  | cons hph _ ih => rw [List.map_cons, raw_of hph, ih]

theorem ofPhases_written {rs : List RawPhase} {phs : List Phase} (h : List.Forall₂ PhaseOfRecord rs phs) :
    RecipeWritten rs (Recipe.ofPhases phs) := by
  refine ⟨h.length_eq.symm, fun i x ph hx hph => ?_, ?_, rfl, ?_, ?_, ?_⟩
  · obtain ⟨hi, rfl⟩ := List.getElem?_eq_some_iff.1 hx
    obtain ⟨hi', rfl⟩ := List.getElem?_eq_some_iff.1 hph
    exact h.get hi hi'
  · show crc16 (BitVec.ofNat 8 phs.length :: rawPhaseBytes (phs.map Phase.raw)) = _
    rw [map_raw h, h.length_eq]
  · show waterSum phs = _
    simp only [waterSum, waterRate_eq]
    rfl
  · show drainSum phs = _
    rw [drainSum, funext drainDepth_eq]
    rfl
  · show wasteSum phs = _
    simp only [wasteSum, wasteRate_eq]
    rfl

end Sys2Proof.Laws
end

section
/-! SUPPORT. RECIPE_BEGIN, RECIPE_PHASES and RECIPE_ERASE (R96 to R98, R103): the recipe store's operations, then each
command's answer. -/

namespace Sys2Proof.Laws

open Sys2Proof.Machine

/-! ### The store -/

theorem recipe_putRecipe_ne (p : Part) {slot other : SlotId} (r : Option Recipe) (h : other ≠ slot) :
    (p.putRecipe slot r).recipe other = p.recipe other := by
  have apart : slot.val ≠ other.val := fun e => h (Fin.ext e.symm)
  simp [Part.putRecipe, Part.recipe, apart]

theorem slotRun_iff {p : Part} {slot : SlotId} : p.slotRun slot = true ↔ LaneRuns p slot := by
  unfold Part.slotRun LaneRuns
  simp only [List.any_eq_true, laneRuns_iff, mem_allLanes, true_and]

theorem accepted_staging (p : Part) : p.frameAccepted.recipes.staging = p.recipes.staging :=
  accepted_only p .staging (by simp)

theorem laneRuns_accepted {p : Part} {slot : SlotId} : LaneRuns p.frameAccepted slot ↔ LaneRuns p slot := by
  unfold LaneRuns
  simp only [accepted_lane]

/-! ### Erasure (R56, R103) -/

theorem overrides_name {es : List Entry} {slot : SlotId} :
    (es.any fun e => e.override == some slot) = true ↔ ∃ e ∈ es, e.override = some slot := by simp

/-- The part once the overrides have been cleared, its scan not yet triggered. -/
def overridesCleared (p : Part) (slot : SlotId) : Part :=
  { p with sched := { p.sched with queue := p.sched.queue.map (Entry.withoutOverride slot) } }

theorem clearOverrides_named {p : Part} {slot : SlotId} (h : ∃ e ∈ p.sched.queue, e.override = some slot) :
    p.clearOverrides slot = (overridesCleared p slot).trigger := if_pos (overrides_name.2 h)

theorem clearOverrides_unnamed {p : Part} {slot : SlotId} (h : ¬ ∃ e ∈ p.sched.queue, e.override = some slot) :
    p.clearOverrides slot = p := if_neg (mt overrides_name.1 h)

theorem clearOverrides_queue (p : Part) (slot : SlotId) :
    (p.clearOverrides slot).sched.queue = p.sched.queue.map (Entry.withoutOverride slot) := by
  by_cases h : ∃ e ∈ p.sched.queue, e.override = some slot
  · have k : OnlyChanges [.scanDue] (overridesCleared p slot) (overridesCleared p slot).trigger := by simp
    rw [clearOverrides_named h]
    exact k .queue (by simp)
  · rw [clearOverrides_unnamed h]
    exact ((List.map_congr_left fun e he => if_neg fun names => h ⟨e, he, names⟩).trans (List.map_id _)).symm

theorem clearOverrides_due {p : Part} {slot : SlotId} (ho : p.operating = true)
    (h : ∃ e ∈ p.sched.queue, e.override = some slot) : (p.clearOverrides slot).sched.scanDue = true := by
  rw [clearOverrides_named h]
  exact trigger_due _ ho

theorem clearOverrides_link (p : Part) (slot : SlotId) : (p.clearOverrides slot).link = p.link := by
  have k : OnlyChanges [.queue, .scanDue] p (p.clearOverrides slot) := by simp
  exact link_kept k (by simp)

theorem eraseSlot_empty {p : Part} {slot : SlotId} (h : p.recipe slot = none) : p.eraseSlot slot = p := by
  unfold Part.eraseSlot
  rw [h]

theorem eraseSlot_installed {p : Part} {slot : SlotId} (h : p.recipe slot ≠ none) :
    p.eraseSlot slot = (p.putRecipe slot none).clearOverrides slot := by
  obtain ⟨r, hr⟩ := Option.ne_none_iff_exists'.1 h
  unfold Part.eraseSlot
  rw [hr]

/-! ### The commands -/

section Commands
variable {s : State} (tag : Byte) (hc : CanHandle s) (ht : s.part.startUp.top ≠ .surveying)
include ht

/-! ### RECIPE_BEGIN (R96) -/

theorem recipeBegin_answer {b n : Byte} {slot : SlotId} (hb : slotOf b = some slot) (hn : 1 ≤ n.toNat ∧ n.toNat ≤ 16) :
    s.part.frameAccepted.answer (.recipeBegin b n) = okay (s.part.frameAccepted.setStaging (some ⟨slot, n.toNat, []⟩)) :=
  (unlessSurveying_accepted ht _).trans ((named_some hb).trans (unlessFails_ok (decide_eq_true hn)))

include hc

theorem recipeBegin_refused {b n : Byte} (h : ¬ (b.toNat ≤ 7 ∧ 1 ≤ n.toNat ∧ n.toNat ≤ 16)) :
    Refused s (.recipeBegin tag b n) .range := by
  refine reads_of hc rfl ((unlessSurveying_accepted ht _).trans ?_)
  cases hb : slotOf b with
  | none => rfl
  | some slot =>
    have small := slotOf_eq_some.1 hb
    exact unlessFails_no (by rw [decide_eq_false_iff_not]; omega)

theorem recipeBegin_done {b n : Byte} {slot : SlotId} (hb : b.toNat = slot.val) (h1 : 1 ≤ n.toNat) (h16 : n.toNat ≤ 16) :
    Done s (.recipeBegin tag b n) [.staging] [] .ok .none fun q => q.recipes.staging = some ⟨slot, n.toNat, []⟩ :=
  done_reports hc rfl (recipeBegin_answer ht (slotOf_eq_some.2 hb) ⟨h1, h16⟩) (by simp) rfl
    fun _ k => k .staging (by simp)

/-! ### RECIPE_PHASES (R97) -/

variable {rs : List RawPhase}

omit ht hc in
theorem count_toNat (h : rs.length < 256) : (BitVec.ofNat 8 rs.length).toNat = rs.length :=
  (BitVec.toNat_ofNat _ _).trans (Nat.mod_eq_of_lt h)

theorem recipePhases_miscounted (short : rs.length < 256) (h : ¬ (1 ≤ rs.length ∧ rs.length ≤ 8)) :
    Reads s (.recipePhases tag rs) .length
      (.picture (s.part.recipes.staging.map fun st => (st.slot, st.count, st.records.length))) := by
  refine reads_of hc rfl ((unlessSurveying_accepted ht _).trans ((if_neg ?_).trans ?_))
  · rw [count_toNat short]
    exact fun ⟨h1, h8, _⟩ => h ⟨h1, h8⟩
  · rw [← accepted_staging]
    rfl

section Counted
variable (h1 : 1 ≤ rs.length) (h8 : rs.length ≤ 8)
include h1 h8

omit hc in
theorem recipePhases_answer :
    s.part.frameAccepted.answer (.recipePhases (BitVec.ofNat 8 rs.length) (rawPhaseBytes rs)) =
      s.part.frameAccepted.stage rs := by
  refine (unlessSurveying_accepted ht _).trans ((if_pos ?_).trans (by rw [rawPhasesOf_rawPhaseBytes]))
  rw [count_toNat (by omega), rawPhaseBytes_length]
  exact ⟨h1, h8, rfl⟩

theorem recipePhases_absent (hx : s.part.recipes.staging = none) : Reads s (.recipePhases tag rs) .state (.picture none) := by
  refine reads_of hc rfl ((recipePhases_answer ht h1 h8).trans ?_)
  unfold Part.stage
  rw [accepted_staging, hx]

section Open
variable {st : Staging} (hx : s.part.recipes.staging = some st)
include hx

omit ht hc h1 h8 in
theorem stage_open : s.part.frameAccepted.stage rs =
    if st.count < (st.records ++ rs).length then (s.part.frameAccepted.setStaging none, .length, .picture none)
    else if (st.records ++ rs).length < st.count then
      (s.part.frameAccepted.setStaging (some { st with records := st.records ++ rs }), .ok,
        .staged st.slot st.count (st.records ++ rs).length)
    else s.part.frameAccepted.install { st with records := st.records ++ rs } := by
  unfold Part.stage
  rw [accepted_staging, hx]

theorem recipePhases_beyond (h : st.count < (st.records ++ rs).length) :
    Done s (.recipePhases tag rs) [.staging] [] .length (.picture none) fun q => q.recipes.staging = none :=
  done_reports hc rfl ((recipePhases_answer ht h1 h8).trans ((stage_open hx).trans (if_pos h))) (by simp) rfl
    fun _ k => k .staging (by simp)

theorem recipePhases_kept (h : (st.records ++ rs).length < st.count) :
    Done s (.recipePhases tag rs) [.staging] [] .ok (.staged st.slot st.count (st.records ++ rs).length) fun q =>
      q.recipes.staging = some { st with records := st.records ++ rs } :=
  done_reports hc rfl
    ((recipePhases_answer ht h1 h8).trans ((stage_open hx).trans ((if_neg (Nat.lt_asymm h)).trans (if_pos h))))
    (by simp) rfl fun _ k => k .staging (by simp)

/-! ### The complete recipe (R98) -/

section Complete
variable (full : (st.records ++ rs).length = st.count)
include full

omit hc in
theorem recipePhases_completes :
    s.part.frameAccepted.answer (.recipePhases (BitVec.ofNat 8 rs.length) (rawPhaseBytes rs)) =
      s.part.frameAccepted.install { st with records := st.records ++ rs } :=
  (recipePhases_answer ht h1 h8).trans
    ((stage_open hx).trans ((if_neg full.not_gt).trans (if_neg full.not_lt)))

theorem recipePhases_invalid {i : Nat} (h : Offending (st.records ++ rs) i) :
    Done s (.recipePhases tag rs) [.staging] [] .range (.offending i) fun q => q.recipes.staging = none := by
  have ans : s.part.frameAccepted.install { st with records := st.records ++ rs } =
      (s.part.frameAccepted.setStaging none, .range, .offending i) := by
    unfold Part.install
    rw [validate_offending h]
  exact done_reports hc rfl ((recipePhases_completes ht h1 h8 hx full).trans ans) (by simp) rfl
    fun _ k => k .staging (by simp)

omit ht hc h1 h8 hx full in
/-- R98: a valid recipe is installed where no lane runs its slot. -/
theorem install_valid {p : Part} {x : Staging} {phs : List Phase} (h : validate x.records = .ok phs) : p.install x =
    if (p.setStaging none).slotRun x.slot then (p.setStaging none, .inUse, .none)
    else ((p.setStaging none).putRecipe x.slot (some (Recipe.ofPhases phs)), .ok,
      .installed x.slot phs.length (Recipe.ofPhases phs).signature (Recipe.ofPhases phs).totalTime) := by
  unfold Part.install
  rw [h]

omit ht hc h1 h8 hx full in
theorem slotRun_discarded {slot : SlotId} :
    (s.part.frameAccepted.setStaging none).slotRun slot = true ↔ LaneRuns s.part slot :=
  (slotRun_iff (p := s.part.frameAccepted)).trans laneRuns_accepted

theorem recipePhases_inUse (valid : RecipeValid (st.records ++ rs)) (runs : LaneRuns s.part st.slot) :
    Done s (.recipePhases tag rs) [.staging] [] .inUse .none fun q => q.recipes.staging = none := by
  obtain ⟨phs, hv, -⟩ := validate_valid valid
  exact done_reports hc rfl ((recipePhases_completes ht h1 h8 hx full).trans
      ((install_valid hv).trans (if_pos (slotRun_discarded.2 runs)))) (by simp) rfl
    fun _ k => k .staging (by simp)

theorem recipePhases_installs (valid : RecipeValid (st.records ++ rs)) (free : ¬ LaneRuns s.part st.slot) :
    ∃ r, RecipeWritten (st.records ++ rs) r ∧
      Done s (.recipePhases tag rs) [.staging, .slots] [] .ok
        (.installed st.slot (st.records ++ rs).length r.signature r.totalTime) fun q =>
          q.recipes.staging = none ∧ q.recipe st.slot = some r ∧
          ∀ other, other ≠ st.slot → q.recipe other = s.part.recipe other := by
  obtain ⟨phs, hv, phases⟩ := validate_valid valid
  refine ⟨_, ofPhases_written phases, ?_⟩
  rw [phases.length_eq]
  exact done_reports hc rfl ((recipePhases_completes ht h1 h8 hx full).trans
      ((install_valid hv).trans (if_neg (mt slotRun_discarded.1 free)))) (by simp) rfl
    fun _ k => ⟨k .staging (by simp), (recipe_kept k (by simp) _).trans (recipe_putRecipe _ _ _),
      fun other ne => (recipe_kept k (by simp) other).trans
        ((recipe_putRecipe_ne _ _ ne).trans (accepted_recipe s.part other))⟩

end Complete
end Open
end Counted

/-! ### RECIPE_ERASE (R103) -/

theorem recipeErase_range {b : Byte} (h : 8 ≤ b.toNat) : Refused s (.recipeErase tag b) .range :=
  reads_of hc rfl ((unlessSurveying_accepted ht _).trans (named_none (dif_neg (by omega))))

section Slot
variable {b : Byte} {slot : SlotId} (hb : b.toNat = slot.val)
include hb

omit hc in
theorem recipeErase_answer : s.part.frameAccepted.answer (.recipeErase b) =
    unlessFails s.part.frameAccepted (!s.part.frameAccepted.slotNamed slot) .inUse
      (unlessFails s.part.frameAccepted (!s.part.frameAccepted.slotRun slot) .inUse
        (okay (s.part.frameAccepted.eraseSlot slot))) :=
  (unlessSurveying_accepted ht _).trans (named_some (slotOf_eq_some.2 hb))

omit ht hc hb in
theorem slotNamed_accepted : s.part.frameAccepted.slotNamed slot = true ↔
    ∃ f rec, s.part.filter f = some rec ∧ rec.cfg.slot = slot := by
  simp only [slotNamed_iff, accepted_filter]

theorem recipeErase_inUse (h : (∃ f rec, s.part.filter f = some rec ∧ rec.cfg.slot = slot) ∨ LaneRuns s.part slot) :
    Refused s (.recipeErase tag b) .inUse := by
  refine reads_of hc rfl ((recipeErase_answer ht hb).trans ?_)
  cases named : s.part.frameAccepted.slotNamed slot with
  | true => exact unlessFails_no rfl
  | false =>
    have runs := h.resolve_left (mt slotNamed_accepted.2 (Bool.eq_false_iff.1 named))
    refine (unlessFails_ok rfl).trans (unlessFails_no ?_)
    rw [slotRun_iff.2 (laneRuns_accepted.2 runs)]
    rfl

section Free
variable (unnamed : ¬ ∃ f rec, s.part.filter f = some rec ∧ rec.cfg.slot = slot) (free : ¬ LaneRuns s.part slot)
include unnamed free

omit hc in
theorem recipeErase_passes : s.part.frameAccepted.answer (.recipeErase b) = okay (s.part.frameAccepted.eraseSlot slot) := by
  refine (recipeErase_answer ht hb).trans ((unlessFails_ok ?_).trans (unlessFails_ok ?_))
  · rw [Bool.eq_false_iff.2 (mt slotNamed_accepted.1 unnamed)]
    rfl
  · rw [Bool.eq_false_iff.2 fun runs => free (laneRuns_accepted.1 (slotRun_iff.1 runs))]
    rfl

theorem recipeErase_empty (h : s.part.recipe slot = none) : Reads s (.recipeErase tag b) .ok .none := by
  refine reads_of hc rfl ((recipeErase_passes ht hb unnamed free).trans ?_)
  rw [eraseSlot_empty ((accepted_recipe _ _).trans h)]
  rfl

theorem recipeErase_done (h : s.part.recipe slot ≠ none) :
    Done s (.recipeErase tag b) [.slots, .queue, .scanDue] [] .ok .none fun q =>
      q.recipe slot = none ∧ (∀ other, other ≠ slot → q.recipe other = s.part.recipe other) ∧
      q.sched.queue =
        s.part.sched.queue.map (fun e => if e.override = some slot then { e with override := none } else e) ∧
      (s.part.startUp.top = .operating → (∃ e ∈ s.part.sched.queue, e.override = some slot) → q.sched.scanDue = true) := by
  have erased := eraseSlot_installed (p := s.part.frameAccepted) (slot := slot) (by rwa [accepted_recipe])
  have ans := recipeErase_passes ht hb unnamed free
  rw [erased] at ans
  have kc : OnlyChanges [.queue, .scanDue] (s.part.frameAccepted.putRecipe slot none)
      ((s.part.frameAccepted.putRecipe slot none).clearOverrides slot) := by simp
  have queue := clearOverrides_queue (s.part.frameAccepted.putRecipe slot none) slot
  rw [putRecipe_sched, accepted_sched] at queue
  refine done_reports hc rfl ans (by simp) (clearOverrides_link _ slot) fun q k =>
    ⟨?_, fun other ne => ?_, (k .queue (by simp)).trans queue, fun top names => (k .scanDue (by simp)).trans ?_⟩
  · exact (recipe_kept k (by simp) slot).trans ((recipe_kept kc (by simp) slot).trans (recipe_putRecipe _ _ _))
  · exact (recipe_kept k (by simp) other).trans ((recipe_kept kc (by simp) other).trans
      ((recipe_putRecipe_ne _ _ ne).trans (accepted_recipe s.part other)))
  · refine clearOverrides_due (accepted_operating top) ?_
    rw [putRecipe_sched, accepted_sched]
    exact names

end Free
end Slot
end Commands

end Sys2Proof.Laws

namespace Sys2Proof

open Machine Laws

theorem recipesAreStagedAndInstalled : RecipesAreStagedAndInstalled := by
  intro s tag b n rs hc ht
  exact ⟨recipeBegin_refused tag hc ht, fun _ hb => recipeBegin_done tag hc ht hb,
    recipePhases_miscounted tag hc ht, fun h1 h8 => ⟨recipePhases_absent tag hc ht h1 h8, fun _ hx =>
      ⟨recipePhases_beyond tag hc ht h1 h8 hx, recipePhases_kept tag hc ht h1 h8 hx, fun full =>
        ⟨fun _ => recipePhases_invalid tag hc ht h1 h8 hx full, recipePhases_inUse tag hc ht h1 h8 hx full,
          recipePhases_installs tag hc ht h1 h8 hx full⟩⟩⟩⟩

theorem recipeEraseEmptiesTheSlot : RecipeEraseEmptiesTheSlot := fun _ tag _ hc ht =>
  ⟨recipeErase_range tag hc ht, fun _ hb => ⟨recipeErase_inUse tag hc ht hb, fun unnamed free =>
    ⟨recipeErase_empty tag hc ht hb unnamed free, recipeErase_done tag hc ht hb unnamed free⟩⟩⟩

/-- Settles O55: the validation of a complete recipe ends as its records say (`validate_ends`); each command by its checks in
order, then what the store does. -/
theorem recipesAreInstalledAndErased : Obligations.RecipesAreInstalledAndErased :=
  ⟨recipesAreStagedAndInstalled, recipeEraseEmptiesTheSlot⟩

end Sys2Proof
end

section
/-! SUPPORT. The seconds of a running phase and the changes of its turbidity point (R111 to R114): the remaining amounts, the
shares, the confirm count, the end of the phase told. -/

namespace Sys2Proof.Laws

open Sys2Proof.Machine

/-! ### The present phase -/

theorem washesBy_phase {p : Part} {l : LaneId} {w : Wash} {rec : FilterRecord} {r : Recipe} {ph : Phase}
    (h : WashesBy p l w rec r ph) : p.phaseNow w = ph := by
  obtain ⟨-, -, recipe, phase⟩ := h
  exact phaseNow_of recipe phase

theorem phaseNow_kept {xs : List Piece} {p q : Part} (h : OnlyChanges xs p q) (hx : Piece.slots ∉ xs) (w : Wash) :
    q.phaseNow w = p.phaseNow w := by
  unfold Part.phaseNow Part.phasesOf
  rw [recipe_kept h hx]

/-- The phase hangs on the slot and the phase index alone. -/
theorem phaseNow_samePhase {w w' : Wash} (h : SamePhase w w') (p : Part) : p.phaseNow w' = p.phaseNow w := by
  obtain ⟨-, slot, phase, -⟩ := h
  unfold Part.phaseNow
  rw [slot, phase]

theorem areaOf_of {p : Part} {f : FilterId} {rec : FilterRecord} (h : p.filter f = some rec) : p.areaOf f = rec.cfg.area := by
  unfold Part.areaOf; rw [h]

/-! ### Remaining amounts (R113, R114) -/

theorem waterSum_eq (ps : List Phase) : waterSum ps = (ps.map fun x => waterFlow x * x.duration).sum := by
  unfold waterSum; simp only [waterRate_eq]

theorem wasteSum_eq (ps : List Phase) : wasteSum ps = (ps.map fun x => wasteFlow x * x.duration).sum := by
  unfold wasteSum; simp only [wasteRate_eq]

theorem drainSum_eq (ps : List Phase) : drainSum ps = (ps.map drainOf).sum := by
  unfold drainSum; rw [funext drainDepth_eq]

theorem remaining_of {ps : List Phase} {c : Nat} {ph : Phase} (h : ps[c - 1]? = some ph) (area e : Nat) :
    remaining area ps c e = ⟨waterLeft area ps c ph e, wasteLeft area ps c ph e⟩ := by
  unfold remaining waterLeft wasteLeft waterOf wasteOf ceilDiv
  dsimp only
  rw [h]
  dsimp only
  rw [waterSum_eq, wasteSum_eq, drainSum_eq, waterRate_eq, wasteRate_eq, drainDepth_eq]

/-- The wash with these remaining amounts. -/
def withAmounts (w : Wash) (s : Share) : Wash := { w with remWater := s.water, remWaste := s.waste }

/-- The lane's record before its shares follow (R114). -/
theorem putAmounts_of {p : Part} {l : LaneId} {w : Wash} (h : p.lane l = some w) (s : Share) :
    p.putAmounts l s = (p.putLane l (some (withAmounts w s))).setShares l s := by
  unfold Part.putAmounts
  rw [modWash_of h]
  rfl

theorem setShares_only (p : Part) (l : LaneId) (s : Share) : OnlyChanges [.shares, .scanDue] p (p.setShares l s) := by simp

/-- R114: the record and the shares with the amounts computed afresh. -/
theorem putAmounts_parts {p : Part} {l : LaneId} {w : Wash} (h : p.lane l = some w) (s : Share) :
    (p.putAmounts l s).lane l = some (withAmounts w s) ∧ OtherLaneKept p (p.putAmounts l s) l ∧
    (p.putAmounts l s).sched.shares = p.sched.shares.set l s := by
  rw [putAmounts_of h]
  have k := setShares_only (p.putLane l (some (withAmounts w s))) l s
  exact ⟨(lane_kept k (by simp) l).trans (lane_putLane p l _),
    fun m hm => (lane_kept k (by simp) m).trans (lane_putLane_ne p hm _), setShares_shares _ l s⟩

/-! ### The end of a phase told (R111, R112) -/

theorem turbidityOk_iff {p : Part} {w : Wash} {ph : Phase} (h : p.phaseNow w = ph) :
    p.turbidityOk w = true ↔ TurbidityMet p w ph := by
  unfold Part.turbidityOk TurbidityMet
  rw [h]
  cases (p.point (.tb w.filter)).usableValue <;> simp

/-- The phase confirms, at this confirm count (R112). -/
def Confirms (p : Part) (w : Wash) (ph : Phase) (count : Nat) : Prop :=
  ph.kind = .ripen ∧ ((ph.confirm = 0 ∧ TurbidityMet p w ph) ∨ (ph.confirm ≠ 0 ∧ ph.confirm ≤ count))

theorem confirmed_iff {p : Part} {w : Wash} {ph : Phase} (h : p.phaseNow w = ph) :
    p.confirmed w = true ↔ Confirms p w ph w.confirm := by
  unfold Part.confirmed Confirms
  dsimp only
  rw [h, Bool.and_eq_true, beq_iff_eq]
  refine and_congr_right fun _ => ?_
  split
  · next zero => simp [zero, turbidityOk_iff h]
  · next some => simp [some]

theorem turbidityMet_kept {xs : List Piece} {p q : Part} (h : OnlyChanges xs p q) (hx : Piece.points ∉ xs) {w w' : Wash}
    (hw : w'.filter = w.filter) (ph : Phase) : TurbidityMet q w' ph ↔ TurbidityMet p w ph := by
  unfold TurbidityMet
  rw [hw, point_kept h hx]

theorem confirms_kept {xs : List Piece} {p q : Part} (h : OnlyChanges xs p q) (hx : Piece.points ∉ xs) {w w' : Wash}
    (hw : w'.filter = w.filter) (ph : Phase) (n : Nat) : Confirms q w' ph n ↔ Confirms p w ph n := by
  unfold Confirms
  rw [turbidityMet_kept h hx hw]

section End
variable {p : Part} {l : LaneId} {w : Wash} {ph : Phase} (hl : p.lane l = some w) (hs : w.state = .running)
  (hph : p.phaseNow w = ph)
include hl hs hph

theorem raiseEnd_confirmed (h : Confirms p w ph w.confirm) : p.raiseEnd l = p.raise (.ripenConfirmed l) := by
  unfold Part.raiseEnd
  rw [hl]
  dsimp only
  rw [if_pos hs, if_pos ((confirmed_iff hph).2 h)]

theorem raiseEnd_time (h : ¬ Confirms p w ph w.confirm) (ht : ph.duration ≤ w.elapsed) :
    p.raiseEnd l = p.raise (.phaseTimeEnd l) := by
  unfold Part.raiseEnd
  rw [hl]
  dsimp only
  rw [if_pos hs, if_neg (mt (confirmed_iff hph).1 h), hph, if_pos ht]

end End

theorem raiseEnd_only (p : Part) (l : LaneId) : OnlyChanges [.events] p (p.raiseEnd l) := by simp

theorem endRaised_iff (p : Part) (l : LaneId) :
    p.endRaised l = true ↔ .phaseTimeEnd l ∈ p.events ∨ .ripenConfirmed l ∈ p.events := by
  unfold Part.endRaised; simp

theorem taking_only (p : Part) (e : Event) : OnlyChanges [.events] p (taking p e) := by simp

/-- What a row's event leaves of the part it is taken from. -/
theorem from_taking {xs : List Piece} {p q : Part} {e : Event} (hx : .events ∈ xs) (k : OnlyChanges xs (taking p e) q) :
    OnlyChanges xs p q := onlyChanges_trans (onlyChanges_mono (taking_only p e) (by simpa using hx)) k

/-- Taking an event leaves every other one. -/
theorem mem_taking {p : Part} {e x : Event} (h : x ≠ e) : x ∈ (taking p e).events ↔ x ∈ p.events :=
  List.mem_erase_of_ne h

/-! ### LANE_SECOND (R111 to R113) -/

/-- The confirm count after one more second (R112). -/
def nextConfirm (p : Part) (w : Wash) (ph : Phase) : Nat :=
  if ph.kind = .ripen then (if p.turbidityOk w then w.confirm + 1 else 0) else w.confirm

/-- The wash after one more second, its amounts still to follow. -/
def secondCounted (p : Part) (w : Wash) (ph : Phase) : Wash :=
  { w with elapsed := w.elapsed + 1, confirm := nextConfirm p w ph }

/-- The part after one more second, its end still to be told. -/
def afterSecond (p : Part) (l : LaneId) (w : Wash) (rec : FilterRecord) (r : Recipe) (ph : Phase) : Part :=
  (p.putLane l (some (secondCounted p w ph))).putAmounts l
    ⟨waterLeft rec.cfg.area r.phases w.phase ph (w.elapsed + 1), wasteLeft rec.cfg.area r.phases w.phase ph (w.elapsed + 1)⟩

theorem afterSecond_only (p : Part) (l : LaneId) (w : Wash) (rec : FilterRecord) (r : Recipe) (ph : Phase) :
    OnlyChanges [.lanes, .shares, .scanDue] p (afterSecond p l w rec r ph) := by
  unfold afterSecond; simp

theorem countSecond_of {p : Part} {l : LaneId} {w : Wash} {rec : FilterRecord} {r : Recipe} {ph : Phase}
    (h : WashesBy p l w rec r ph) (hs : w.state = .running) (he : p.endRaised l = false) :
    p.countSecond l = (afterSecond p l w rec r ph).raiseEnd l := by
  have phase := washesBy_phase h
  obtain ⟨lane, filter, recipe, index⟩ := h
  unfold Part.countSecond
  rw [lane]
  dsimp only
  rw [if_pos (by simp [hs, he]), phase, areaOf_of filter, phasesOf_of recipe, remaining_of index]
  unfold afterSecond secondCounted nextConfirm
  simp only [beq_iff_eq]

section Second
variable {p : Part} {l : LaneId} {w : Wash} {rec : FilterRecord} {r : Recipe} {ph : Phase} (h : WashesBy p l w rec r ph)
include h

/-- The wash after one more second (R111 to R113). -/
def secondWash (p : Part) (w : Wash) (rec : FilterRecord) (r : Recipe) (ph : Phase) : Wash :=
  withAmounts (secondCounted p w ph) ⟨waterLeft rec.cfg.area r.phases w.phase ph (w.elapsed + 1),
    wasteLeft rec.cfg.area r.phases w.phase ph (w.elapsed + 1)⟩

omit h in
theorem afterSecond_parts : (afterSecond p l w rec r ph).lane l = some (secondWash p w rec r ph) ∧
    OtherLaneKept p (afterSecond p l w rec r ph) l ∧
    (afterSecond p l w rec r ph).sched.shares = p.sched.shares.set l
      ⟨waterLeft rec.cfg.area r.phases w.phase ph (w.elapsed + 1),
        wasteLeft rec.cfg.area r.phases w.phase ph (w.elapsed + 1)⟩ := by
  obtain ⟨lane, others, shares⟩ := putAmounts_parts (lane_putLane p l (some (secondCounted p w ph)))
    ⟨waterLeft rec.cfg.area r.phases w.phase ph (w.elapsed + 1), wasteLeft rec.cfg.area r.phases w.phase ph (w.elapsed + 1)⟩
  exact ⟨lane, fun m hm => (others m hm).trans (lane_putLane_ne p hm _), shares⟩

theorem nextConfirm_parts : (ph.kind ≠ .ripen → nextConfirm p w ph = w.confirm) ∧
    (ph.kind = .ripen → TurbidityMet p w ph → nextConfirm p w ph = w.confirm + 1) ∧
    (ph.kind = .ripen → ¬ TurbidityMet p w ph → nextConfirm p w ph = 0) := by
  have met := turbidityOk_iff (washesBy_phase h)
  unfold nextConfirm
  exact ⟨fun hk => if_neg hk, fun hk hm => by rw [if_pos hk, if_pos (met.2 hm)],
    fun hk hm => by rw [if_pos hk, if_neg (mt met.1 hm)]⟩

/-- R112: what the second that has been counted tells. -/
theorem afterSecond_tells (hs : w.state = .running) :
    (Confirms p w ph (nextConfirm p w ph) → .ripenConfirmed l ∈ ((afterSecond p l w rec r ph).raiseEnd l).events) ∧
    (¬ Confirms p w ph (nextConfirm p w ph) → ph.duration ≤ w.elapsed + 1 →
      .phaseTimeEnd l ∈ ((afterSecond p l w rec r ph).raiseEnd l).events) := by
  have k := afterSecond_only p l w rec r ph
  obtain ⟨lane, -⟩ := afterSecond_parts (p := p) (l := l) (w := w) (rec := rec) (r := r) (ph := ph)
  have before : p.phaseNow w = ph := washesBy_phase h
  have phase : (afterSecond p l w rec r ph).phaseNow (secondWash p w rec r ph) = ph :=
    (phaseNow_kept k (by simp) _).trans before
  have same := confirms_kept k (by simp) (w := w) (w' := secondWash p w rec r ph) rfl ph (nextConfirm p w ph)
  refine ⟨fun confirms => ?_, fun none ends => ?_⟩
  · rw [raiseEnd_confirmed lane hs phase (same.2 confirms)]; simp
  · rw [raiseEnd_time lane hs phase (mt same.1 none) ends]; simp

end Second

theorem laneSecond_counts : LaneSecondCountsASecond := by
  intro s l w rec r ph ho hw hs htime hconf
  have unended : (taking s.part (.laneSecond l)).endRaised l = false := by
    rw [Bool.eq_false_iff, ne_eq, endRaised_iff, mem_taking (by simp), mem_taking (by simp)]
    exact not_or.2 ⟨htime, hconf⟩
  have ka := afterSecond_only (taking s.part (.laneSecond l)) l w rec r ph
  have ke := raiseEnd_only (afterSecond (taking s.part (.laneSecond l)) l w rec r ph) l
  obtain ⟨lane, others, shares⟩ := afterSecond_parts (p := taking s.part (.laneSecond l)) (l := l) (w := w) (rec := rec)
    (r := r) (ph := ph)
  obtain ⟨still, met, unmet⟩ := nextConfirm_parts hw
  obtain ⟨confirmed, ended⟩ := afterSecond_tells (p := taking s.part (.laneSecond l)) hw hs
  refine ⟨_, nextConfirm s.part w ph, (exec_laneSecond l s).trans (takeEvent_outstanding _ ho), rfl, ?_⟩
  dsimp only
  rw [countSecond_of (p := taking s.part _) hw hs unended]
  exact ⟨from_taking (by simp) (onlyChanges_trans (onlyChanges_mono ka (by simp)) (onlyChanges_mono ke (by simp))),
    fun m hm => (lane_kept ke (by simp) m).trans (others m hm),
    ⟨(lane_kept ke (by simp) l).trans lane, (ke .shares (by simp)).trans shares⟩, still, met, unmet, confirmed, ended⟩

/-! ### LANE_POINT_CHANGE of the turbidity point (R112) -/

section Turbidity
variable {p : Part} {l : LaneId} {w : Wash} {ph : Phase} (hl : p.lane l = some w)
include hl

/-- With an end of the phase outstanding a change of the point has no effect (log 19). -/
theorem laneTurbidity_ended (he : p.endRaised l = true) : p.laneTurbidity l w.filter = p := by
  unfold Part.laneTurbidity
  rw [hl]
  simp [he]

variable (hs : w.state = .running) (hph : p.phaseNow w = ph) (hk : ph.kind = .ripen) (he : p.endRaised l = false)
include hs hph hk he

theorem laneTurbidity_unmet (h : ¬ TurbidityMet p w ph) :
    p.laneTurbidity l w.filter = p.putLane l (some { w with confirm := 0 }) := by
  unfold Part.laneTurbidity
  rw [hl]
  dsimp only
  rw [if_pos (by simp [hs, hph, hk, he]), if_neg (mt (turbidityOk_iff hph).1 h)]

theorem laneTurbidity_met (h : TurbidityMet p w ph) :
    p.laneTurbidity l w.filter = if ph.confirm = 0 then p.raise (.ripenConfirmed l) else p := by
  unfold Part.laneTurbidity
  rw [hl]
  dsimp only
  rw [if_pos (by simp [hs, hph, hk, he]), if_pos ((turbidityOk_iff hph).2 h), hph]
  split
  next zero => exact raiseEnd_confirmed hl hs hph ⟨hk, .inl ⟨zero, h⟩⟩
  next => rfl

end Turbidity

theorem turbidityChanges_count : TurbidityChangesCount := by
  intro s l w rec r ph hw ho hs hk
  have phase := washesBy_phase hw
  obtain ⟨lane, -⟩ := hw
  have k : OnlyChanges [.lanes, .events] (taking s.part (.lanePoint l (.tb w.filter)))
      ((taking s.part (.lanePoint l (.tb w.filter))).laneTurbidity l w.filter) := by simp
  have ended : (taking s.part (.lanePoint l (.tb w.filter))).endRaised l = true ↔
      .phaseTimeEnd l ∈ s.part.events ∨ .ripenConfirmed l ∈ s.part.events := by
    rw [endRaised_iff, mem_taking (by simp), mem_taking (by simp)]
  refine ⟨_, (exec_lanePointChange l _ s).trans (takeEvent_outstanding _ ho), rfl, from_taking (by simp) k, ?_⟩
  show OtherLaneKept _ (Part.laneTurbidity _ _ _) l ∧ (_ → _ → (Part.laneTurbidity _ _ _).lane l = _) ∧
    (_ → (Part.laneTurbidity _ _ _).lane l = _) ∧ (_ → _ → _ → _ ∈ (Part.laneTurbidity _ _ _).events)
  by_cases he : .phaseTimeEnd l ∈ s.part.events ∨ .ripenConfirmed l ∈ s.part.events
  · rw [laneTurbidity_ended (p := taking s.part (.lanePoint l (.tb w.filter))) lane (ended.2 he)]
    exact ⟨fun _ _ => rfl, fun hn => absurd he hn, fun _ => lane, fun hn => absurd he hn⟩
  · have unended := Bool.eq_false_iff.2 (mt ended.1 he)
    by_cases met : TurbidityMet s.part w ph
    · rw [laneTurbidity_met (p := taking s.part (.lanePoint l (.tb w.filter))) lane hs phase hk unended met]
      refine ⟨fun m _ => ?_, fun _ unmet => absurd met unmet, fun _ => ?_, fun _ _ zero => ?_⟩
      · split <;> rfl
      · split <;> exact lane
      · rw [if_pos zero]; simp
    · rw [laneTurbidity_unmet (p := taking s.part (.lanePoint l (.tb w.filter))) lane hs phase hk unended met]
      exact ⟨fun m hm => lane_putLane_ne _ hm _, fun _ _ => lane_putLane _ l _, fun h => absurd h (not_or.2 ⟨he, met⟩),
        fun _ h => absurd h met⟩

end Sys2Proof.Laws

namespace Sys2Proof

open Laws

/-- Settles O21: a second moves the counts, then the amounts, and tells the end reached; a change of the point by the three
cases of an end outstanding, a target met, a target missed. -/
theorem laneSecondCounts : Obligations.LaneSecondCounts := ⟨laneSecond_counts, turbidityChanges_count⟩

end Sys2Proof
end

section
/-! SUPPORT. An arrival at a lane: what it does where the role had not drifted, and to an aborting lane. -/

namespace Sys2Proof.Laws

open Sys2Proof.Machine

/-! ### LANE_ROLE_ARRIVAL of a role that has not drifted -/

theorem settleDrift_undrifted {p : Part} {l : LaneId} {w : Wash} {r : Role} (h : p.lane l = some w)
    (hd : w.drifted.get r = false) : p.settleDrift l r = p := by
  unfold Part.settleDrift
  rw [h]
  simp [hd]

theorem laneArrival_undrifted {p : Part} {l : LaneId} {w : Wash} {r : Role} (h : p.lane l = some w)
    (hd : w.drifted.get r = false) : p.laneArrival l r = p.advanceLane l := by
  unfold Part.laneArrival
  rw [settleDrift_undrifted h hd]

theorem advanceLane_aborting {p : Part} {l : LaneId} {w : Wash} {c : AbortCause} (h : p.lane l = some w)
    (hs : w.state = .aborting c) : p.advanceLane l = p.checkAborted l := by
  unfold Part.advanceLane
  rw [h]
  dsimp only
  rw [hs]

/-- A lane that aborts is ready where nothing has moved. -/
theorem abortReady_refl {p : Part} {l : LaneId} {w : Wash} {c : AbortCause} (h : p.lane l = some w)
    (hs : w.state = .aborting c) : AbortReady p p l w c where
  frame := onlyChanges_refl _ p
  others := fun _ _ => rfl
  lane := ⟨w, h, samePhase_refl w, rfl, hs⟩
  rests := fun _ => id
  faults := fun _ => id

end Sys2Proof.Laws

namespace Sys2Proof

open Machine Laws

/-- Settles O25: the arrival leaves the abort to be checked, and the abort ends as it would at its beginning. -/
theorem arrivalEndsAnAbort : Obligations.ArrivalEndsAnAbort := by
  intro s l role w rec cause ho hp hs hd
  obtain ⟨-, lane, -⟩ := id hp
  have arrival : (taking s.part (.roleArrival l role)).laneArrival l role =
      (taking s.part (.roleArrival l role)).checkAborted l :=
    (laneArrival_undrifted (p := taking s.part _) lane hd).trans (advanceLane_aborting (p := taking s.part _) lane hs)
  obtain ⟨k, -, bs, told, ended⟩ :=
    checkAborted_ended (p := taking s.part (.roleArrival l role)) hp (abortReady_refl (p := taking s.part _) lane hs)
  rw [← arrival] at k told ended
  exact ⟨_, bs, (exec_laneRoleArrival l role s).trans (takeEvent_outstanding _ ho), rfl, from_taking (by simp) k, told, ended⟩

end Sys2Proof
end

section
/-! SUPPORT. A lane's course through its phase, from ACQUIRING to RUNNING (R108 to R110). -/

namespace Sys2Proof.Laws

open Sys2Proof.Machine

/-! ### How far a lane has come -/

/-- The states of a phase in their order; those beside the cycle count as past it. -/
def stageOf : LaneState → Nat
  | .acquiring => 0
  | .positioning .close => 1
  | .positioning .openUp => 2
  | .starting => 3
  | .running => 4
  | _ => 5

/-- The lane is at work and has come at least so far. -/
def HasCome (n : Nat) (l : LaneId) (p : Part) : Prop := ∃ w, p.lane l = some w ∧ n ≤ stageOf w.state

theorem hasCome_mono {m n : Nat} {l : LaneId} {p : Part} (h : HasCome n l p) (hm : m ≤ n) : HasCome m l p := by
  obtain ⟨w, lane, stage⟩ := h
  exact ⟨w, lane, hm.trans stage⟩

theorem hasCome_lanes {n : Nat} {l : LaneId} {p q : Part} (h : HasCome n l p) (k : q.lanes = p.lanes) : HasCome n l q := by
  unfold HasCome Part.lane at *
  rwa [k]

theorem hasCome_putLane {n : Nat} (l : LaneId) (p : Part) {w : Wash} (x : LaneState) (hw : w.state = x) (h : n ≤ stageOf x) :
    HasCome n l (p.putLane l (some w)) := ⟨w, lane_putLane p l _, hw ▸ h⟩

theorem orderRoles_hasCome {n : Nat} {l : LaneId} {p : Part} (h : HasCome n l p) (f : FilterId) (roles : List Role)
    (pos : Position) : HasCome n l (p.orderRoles l f roles pos) := by
  obtain ⟨w, lane, stage⟩ := h
  exact ⟨_, orderRoles_lane lane f roles pos, stage⟩

theorem startAll_lanes (l : LaneId) (us : List UnitId) :
    ∀ p : Part, (us.foldl (fun p u => p.startUnit l u) p).lanes = p.lanes := by
  induction us with
  | nil => exact fun _ => rfl
  | cons u us ih => exact fun p => (ih _).trans (startUnit_lanes p l u)

theorem checkStarted_hasCome {n : Nat} {l : LaneId} {p : Part} (h : HasCome n l p) : HasCome n l (p.checkStarted l) := by
  obtain ⟨w, lane, stage⟩ := id h
  unfold Part.checkStarted
  rw [lane]
  dsimp only
  split
  next starts =>
    rw [starts.1] at stage
    exact hasCome_lanes (hasCome_putLane l p (w := { w with state := .running }) .running rfl (stage.trans (by decide)))
      (raiseEnd_lanes _ l)
  next => exact h

theorem enterStarting_hasCome (p : Part) (l : LaneId) (w : Wash) : HasCome 3 l (p.enterStarting l w) :=
  checkStarted_hasCome (hasCome_lanes (hasCome_putLane l p (w := { w with state := .starting }) .starting rfl (by decide))
    (startAll_lanes l _ _))

theorem checkOpened_hasCome {n : Nat} {l : LaneId} {p : Part} (h : HasCome n l p) : HasCome n l (p.checkOpened l) := by
  obtain ⟨w, lane, stage⟩ := id h
  unfold Part.checkOpened
  rw [lane]
  dsimp only
  split
  next opened =>
    rw [opened.1] at stage
    exact hasCome_mono (enterStarting_hasCome p l w) (stage.trans (by decide))
  next => exact h

/-- The OPEN step begun, and whatever follows at once. -/
theorem openStep_hasCome (p : Part) (l : LaneId) (w : Wash) (roles : List Role) :
    HasCome 2 l (((p.putLane l (some { w with state := .positioning .openUp })).orderRoles l w.filter roles .opened).checkOpened
      l) :=
  checkOpened_hasCome (orderRoles_hasCome (hasCome_putLane l p (.positioning .openUp) rfl (by decide)) _ _ _)

theorem checkClosed_hasCome {n : Nat} {l : LaneId} {p : Part} (h : HasCome n l p) : HasCome n l (p.checkClosed l) := by
  obtain ⟨w, lane, stage⟩ := id h
  unfold Part.checkClosed
  rw [lane]
  dsimp only
  split
  next closing =>
    rw [closing] at stage
    split
    · exact hasCome_mono (openStep_hasCome p l w _) (stage.trans (by decide))
    · exact h
  next => exact h

theorem enterPositioning_hasCome (p : Part) (l : LaneId) (w : Wash) : HasCome 1 l (p.enterPositioning l w) :=
  checkClosed_hasCome (orderRoles_hasCome (hasCome_putLane l p (.positioning .close) rfl (by decide)) _ _ _)

/-! ### What each state waits for -/

theorem hasKinds_iff (w : Wash) (ph : Phase) : (neededKinds ph.kind).all w.hasKind = true ↔ HasKinds w ph := by
  have pump := pump_needed ph.kind
  have blower := blower_needed ph.kind
  have some : w.pump ≠ none ↔ w.hasKind .pump = true := by rw [← Option.isSome_iff_ne_none]; rfl
  unfold HasKinds
  rw [List.all_eq_true, some]
  constructor
  · exact fun h => ⟨fun hk => h _ (pump.2 hk), fun hk => h _ (blower.2 hk.symm)⟩
  · rintro ⟨onPump, onBlower⟩ k hk
    cases k with
    | pump => exact onPump (pump.1 hk)
    | blower => exact onBlower (blower.1 hk).symm

theorem unitsRun_iff {p : Part} {w : Wash} {ph : Phase} (hph : p.phaseNow w = ph) (l : LaneId) : p.unitsRun l w = true ↔
    HasKinds w ph ∧ ∀ v, w.holdsUnit v = true → (p.unit v).state = .running l := by
  have every : ∀ v, v ∈ allUnits := by intro v; cases v <;> decide
  unfold Part.unitsRun Wash.units
  rw [Bool.and_eq_true, hph, hasKinds_iff, List.all_eq_true]
  simp [every]

section Steps
variable {p : Part} {l : LaneId} {w : Wash} {ph : Phase} (hl : p.lane l = some w) (hph : p.phaseNow w = ph)
include hl hph

/-- R108: ACQUIRING passes with every kind held. -/
theorem checkAcquired_passes (hs : w.state = .acquiring) (h : HasKinds w ph) :
    p.checkAcquired l = p.enterPositioning l w := by
  unfold Part.checkAcquired
  rw [hl]
  dsimp only
  rw [hph, if_pos ⟨hs, (hasKinds_iff w ph).2 h⟩]

theorem checkAcquired_lacks (h : ¬ HasKinds w ph) : p.checkAcquired l = p := by
  unfold Part.checkAcquired
  rw [hl]
  dsimp only
  rw [hph, if_neg fun c => h ((hasKinds_iff w ph).1 c.2)]

/-- R109: the CLOSE step passes, STOP released. -/
theorem checkClosed_passes (hs : w.state = .positioning .close) (hstop : p.stopAsserted = false)
    (h : ∀ x ∈ closedRoles ph.kind, RestsAt p w.filter x .closed) : HasCome 2 l (p.checkClosed l) := by
  unfold Part.checkClosed
  rw [hl]
  dsimp only
  rw [if_pos hs, hph, if_pos]
  · exact openStep_hasCome p l w _
  · rw [Bool.and_eq_true, List.all_eq_true, hstop]
    exact ⟨fun x hx => (inPosition_iff ..).2 (h x hx), rfl⟩

/-- R109: the OPEN step passes. -/
theorem checkOpened_passes (hs : w.state = .positioning .openUp) (h : ∀ x ∈ openRoles ph.kind, RestsAt p w.filter x .opened) :
    HasCome 3 l (p.checkOpened l) := by
  unfold Part.checkOpened
  rw [hl]
  dsimp only
  rw [hph, if_pos ⟨hs, List.all_eq_true.2 fun x hx => (inPosition_iff ..).2 (h x hx)⟩]
  exact enterStarting_hasCome p l w

/-- R110: STARTING passes with every unit running. -/
theorem checkStarted_passes (hs : w.state = .starting) (hk : HasKinds w ph)
    (h : ∀ v, w.holdsUnit v = true → (p.unit v).state = .running l) :
    p.checkStarted l = (p.putLane l (some { w with state := .running })).raiseEnd l := by
  unfold Part.checkStarted
  rw [hl]
  dsimp only
  rw [if_pos ⟨hs, (unitsRun_iff hph l).2 ⟨hk, h⟩⟩]

theorem checkStarted_waits (h : ∃ v, w.holdsUnit v = true ∧ (p.unit v).state ≠ .running l) : p.checkStarted l = p := by
  obtain ⟨v, holds, idle⟩ := h
  unfold Part.checkStarted
  rw [hl]
  dsimp only
  rw [if_neg fun c => idle (((unitsRun_iff hph l).1 c.2).2 v holds)]

end Steps

/-! ### The rows -/

theorem takeUnit_samePhase (w : Wash) (u : UnitId) : SamePhase w (w.takeUnit u) := by
  cases u <;> exact ⟨rfl, rfl, rfl, rfl, rfl, rfl, rfl, rfl⟩

@[simp] theorem takeUnit_state (w : Wash) (u : UnitId) : (w.takeUnit u).state = w.state := by cases u <;> rfl

theorem laneGrant_of {p : Part} {l : LaneId} {u : UnitId} {w : Wash} (h : p.lane l = some w)
    (hu : (p.unit u).state.lane = some l) :
    p.laneGrant l u = (p.putLane l (some (w.takeUnit u))).checkAcquired l := by
  unfold Part.laneGrant
  rw [if_pos hu, modWash_of h]

theorem advanceLane_closing {p : Part} {l : LaneId} {w : Wash} (h : p.lane l = some w)
    (hs : w.state = .positioning .close) : p.advanceLane l = p.checkClosed l := by
  unfold Part.advanceLane
  rw [h]
  dsimp only
  rw [hs]

theorem advanceLane_opening {p : Part} {l : LaneId} {w : Wash} (h : p.lane l = some w)
    (hs : w.state = .positioning .openUp) : p.advanceLane l = p.checkOpened l := by
  unfold Part.advanceLane
  rw [h]
  dsimp only
  rw [hs]

/-- A row that keeps the lane at work and brings it further. -/
theorem movesOn_of {p q : Part} {l : LaneId} {w : Wash} {e : Event} {n : Nat} (h : p.lane l = some w)
    (hw : w.state.holdable = true) (k : OnlyChanges laneWork (taking p e) q) (working : Working l (taking p e) q)
    (come : HasCome n l q) (hn : stageOf w.state < n) : MovesOn p q l w := by
  obtain ⟨others, mine⟩ := working
  obtain ⟨w', lane, same, holdable⟩ := mine w h
  obtain ⟨w'', lane', stage⟩ := come
  obtain rfl : w' = w'' := Option.some.inj (lane.symm.trans lane')
  refine ⟨from_taking (by simp) k, others, w', lane, same, holdable hw, fun same => ?_⟩
  rw [same] at stage
  omega

section Rows
variable {s : State} {l : LaneId} {w : Wash} {rec : FilterRecord} {r : Recipe} {ph : Phase} (hw : WashesBy s.part l w rec r ph)
include hw

theorem grantRow_movesOn {u : UnitId} (ho : Outstanding s (.grant l u)) (hu : (s.part.unit u).state.lane = some l)
    (hs : w.state = .acquiring) :
    (¬ HasKinds (w.takeUnit u) ph →
      ∃ t, exec (.laneGrant l u) s = .next t ∧ t.pending = s.pending ∧ OnlyChanges [.lanes, .events] s.part t.part ∧
        OtherLaneKept s.part t.part l ∧ t.part.lane l = some (w.takeUnit u)) ∧
    (HasKinds (w.takeUnit u) ph →
      ∃ t, exec (.laneGrant l u) s = .next t ∧ t.pending = s.pending ∧ MovesOn s.part t.part l w) := by
  have phase0 : s.part.phaseNow w = ph := washesBy_phase hw
  obtain ⟨lane, -⟩ := hw
  have taken := lane_putLane (taking s.part (.grant l u)) l (some (w.takeUnit u))
  have phase : ((taking s.part (.grant l u)).putLane l (some (w.takeUnit u))).phaseNow (w.takeUnit u) = ph :=
    (phaseNow_samePhase (takeUnit_samePhase w u) _).trans phase0
  have grant := laneGrant_of (p := taking s.part (.grant l u)) lane hu
  have next := (exec_laneGrant l u s).trans (takeEvent_outstanding (fun p => p.laneGrant l u) ho)
  have working := working_putLane (p := taking s.part (.grant l u)) lane (takeUnit_samePhase w u) (by simp)
  refine ⟨fun lacks => ⟨_, next, rfl, ?_⟩, fun has => ⟨_, next, rfl, ?_⟩⟩
  · dsimp only
    rw [grant, checkAcquired_lacks taken phase lacks]
    exact ⟨from_taking (e := .grant l u) (by simp) (by simp), working.1, taken⟩
  · refine movesOn_of (e := .grant l u) (n := 1) lane (by rw [hs]; rfl) (by simp) ?_ ?_ (by rw [hs]; decide)
    · rw [grant]
      exact working_trans working (checkAcquired_working _ l)
    · dsimp only
      rw [grant, checkAcquired_passes taken phase (by rw [takeUnit_state, hs]) has]
      exact enterPositioning_hasCome _ l _

theorem arrivalRow_movesOn {role : Role} (ho : Outstanding s (.roleArrival l role)) (hd : w.drifted.get role = false) :
    (w.state = .positioning .close → s.part.stopAsserted = false →
      (∀ x ∈ closedRoles ph.kind, RestsAt s.part w.filter x .closed) →
      ∃ t, exec (.laneRoleArrival l role) s = .next t ∧ t.pending = s.pending ∧ MovesOn s.part t.part l w) ∧
    (w.state = .positioning .openUp → (∀ x ∈ openRoles ph.kind, RestsAt s.part w.filter x .opened) →
      ∃ t, exec (.laneRoleArrival l role) s = .next t ∧ t.pending = s.pending ∧ MovesOn s.part t.part l w) := by
  have phase : s.part.phaseNow w = ph := washesBy_phase hw
  obtain ⟨lane, -⟩ := hw
  have arrival := laneArrival_undrifted (p := taking s.part (.roleArrival l role)) lane hd
  have next := (exec_laneRoleArrival l role s).trans (takeEvent_outstanding (fun p => p.laneArrival l role) ho)
  refine ⟨fun hs stop rests => ⟨_, next, rfl, ?_⟩, fun hs rests => ⟨_, next, rfl, ?_⟩⟩
  · dsimp only
    rw [arrival, advanceLane_closing (p := taking s.part _) lane hs]
    exact movesOn_of (e := .roleArrival l role) lane (by rw [hs]; rfl) (by simp) (checkClosed_working _ l)
      (checkClosed_passes (p := taking s.part _) lane phase hs stop rests) (by rw [hs]; decide)
  · dsimp only
    rw [arrival, advanceLane_opening (p := taking s.part _) lane hs]
    exact movesOn_of (e := .roleArrival l role) lane (by rw [hs]; rfl) (by simp) (checkOpened_working _ l)
      (checkOpened_passes (p := taking s.part _) lane phase hs rests) (by rw [hs]; decide)

theorem provenRow_runs {u : UnitId} (ho : Outstanding s (.proven l u)) (hs : w.state = .starting) :
    (HasKinds w ph → (∀ v, w.holdsUnit v = true → (s.part.unit v).state = .running l) →
      ∃ t, exec (.laneUnitProven l u) s = .next t ∧ t.pending = s.pending ∧
        OnlyChanges [.lanes, .events] s.part t.part ∧ OtherLaneKept s.part t.part l ∧
        t.part.lane l = some { w with state := .running }) ∧
    ((∃ v, w.holdsUnit v = true ∧ (s.part.unit v).state ≠ .running l) →
      ∃ t, exec (.laneUnitProven l u) s = .next t ∧ t.pending = s.pending ∧ OnlyChanges [.events] s.part t.part) := by
  have phase : s.part.phaseNow w = ph := washesBy_phase hw
  obtain ⟨lane, -⟩ := hw
  have next := (exec_laneUnitProven l u s).trans (takeEvent_outstanding (fun p => p.checkStarted l) ho)
  refine ⟨fun kinds run => ⟨_, next, rfl, ?_⟩, fun waits => ⟨_, next, rfl, ?_⟩⟩
  · dsimp only
    rw [checkStarted_passes (p := taking s.part _) lane phase hs kinds run]
    have k := raiseEnd_only ((taking s.part (.proven l u)).putLane l (some { w with state := .running })) l
    exact ⟨from_taking (e := .proven l u) (by simp) (by simp),
      fun m hm => (lane_kept k (by simp) m).trans (lane_putLane_ne _ hm _),
      (lane_kept k (by simp) l).trans (lane_putLane _ l _)⟩
  · dsimp only
    rw [checkStarted_waits (p := taking s.part _) lane phase waits]
    exact taking_only s.part _

end Rows

end Sys2Proof.Laws

namespace Sys2Proof

open Laws

/-- Settles O27: each state of the phase passes when what it waits for is there, and whatever follows at once brings the
lane only further (`HasCome`). -/
theorem laneMovesThroughItsPhase : Obligations.LaneMovesThroughItsPhase := fun _ _ _ _ _ _ hw =>
  ⟨fun _ => grantRow_movesOn hw, fun _ => arrivalRow_movesOn hw, fun _ => provenRow_runs hw⟩

end Sys2Proof
end

section
/-! SUPPORT. The holds of a lane: when a cause joins, what a hold leaves of the lane and reports, one cause after the other
(R115 to R118). -/

namespace Sys2Proof.Laws

open Sys2Proof.Machine

/-! ### Units stay usable or not, whoever holds them -/

def SameUsable (p q : Part) : Prop := ∀ u, (q.unit u).state.usable = (p.unit u).state.usable

theorem sameUsable_refl (p : Part) : SameUsable p p := fun _ => rfl

theorem sameUsable_trans {p q r : Part} (h : SameUsable p q) (k : SameUsable q r) : SameUsable p r :=
  fun u => (k u).trans (h u)

theorem sameUsable_kept {xs : List Piece} {p q : Part} (k : OnlyChanges xs p q) (hx : Piece.units ∉ xs) : SameUsable p q :=
  fun u => by rw [unit_kept k hx]

theorem sameUsable_foldl {α : Type} {g : Part → α → Part} (h : ∀ p x, SameUsable p (g p x)) (xs : List α) :
    ∀ p, SameUsable p (xs.foldl g p) := by
  induction xs with
  | nil => exact sameUsable_refl
  | cons x xs ih => exact fun p => sameUsable_trans (h p x) (ih _)

theorem setUnit_usable {p : Part} {u : UnitId} {x : UnitState} (h : x.usable = (p.unit u).state.usable) :
    SameUsable p (p.setUnit u x) := by
  intro v
  by_cases hv : v = u
  · subst hv; rw [setUnit_unit]; exact h
  · rw [setUnit_unit_ne _ hv]

theorem grant_usable {p : Part} {u : UnitId} (h : (p.unit u).state.usable = true) (l : LaneId) : SameUsable p (p.grant u l) := by
  intro v
  by_cases hv : v = u
  · subst hv; rw [grant_unit]; exact h.symm
  · rw [grant_unit_ne _ hv]

theorem serveWait_usable {p : Part} {u : UnitId} (h : (p.unit u).state.usable = true) : SameUsable p (p.serveWait u) := by
  unfold Part.serveWait
  split
  next m rest _ =>
    have waits : SameUsable p (p.setWaiting (unitKind u) rest) := fun v => by rw [setWaiting_unit]
    exact sameUsable_trans waits (grant_usable ((waits u).trans h) m)
  next => exact sameUsable_refl p

theorem freeUnit_usable {p : Part} {u : UnitId} (h : (p.unit u).state.usable = true) : SameUsable p (p.freeUnit u) := by
  have freed : SameUsable p (p.setUnit u .available) := setUnit_usable h.symm
  exact sameUsable_trans freed (serveWait_usable ((freed u).trans h))

theorem stopUnit_usable {p : Part} {u : UnitId} (h : (p.unit u).state.usable = true) : SameUsable p (p.stopUnit u) := by
  unfold Part.stopUnit
  dsimp only
  split
  · exact freeUnit_usable h
  · exact setUnit_usable h.symm

theorem releaseUnit_usable (p : Part) (l : LaneId) (u : UnitId) : SameUsable p (p.releaseUnit l u) := by
  have same : SameUsable p (p.cancel (.grant l u)) := fun _ => rfl
  unfold Part.releaseUnit
  dsimp only
  refine sameUsable_trans same ?_
  split
  next m allocated =>
    split
    · exact freeUnit_usable (by rw [allocated]; rfl)
    · exact sameUsable_refl _
  next m e proving =>
    split
    · exact stopUnit_usable (by rw [proving]; rfl)
    · exact sameUsable_refl _
  next m running =>
    split
    · exact stopUnit_usable (by rw [running]; rfl)
    · exact sameUsable_refl _
  next => exact sameUsable_refl _

theorem releaseKind_usable (p : Part) (l : LaneId) (k : UnitKind) : SameUsable p (p.releaseKind l k) := by
  unfold Part.releaseKind
  refine sameUsable_foldl (fun p u => sameUsable_trans (releaseUnit_usable p l u) ?_) _ p
  exact sameUsable_kept (xs := [.lanes]) (by simp) (by simp)

theorem releaseAll_usable (p : Part) (l : LaneId) : SameUsable p (p.releaseAll l) := by
  have same : SameUsable p ((p.withdrawRequest l .pump).withdrawRequest l .blower) := fun _ => rfl
  exact sameUsable_trans same (sameUsable_trans (releaseKind_usable _ l .pump) (releaseKind_usable _ l .blower))

theorem releaseUnneeded_usable (p : Part) (l : LaneId) (k : PhaseKind) : SameUsable p (p.releaseUnneeded l k) :=
  sameUsable_foldl (fun p u => releaseKind_usable p l u) _ p

/-! ### What hold conditions rest on -/

/-- The pieces that R115 tests, beside the units. -/
abbrev ground : List Piece := [.clock, .plant, .points, .slots, .stop]

/-- Nothing has moved that a hold condition rests on. -/
structure SameGround (p q : Part) : Prop where
  frame : ∀ x ∈ ground, x.kept p q
  usable : SameUsable p q

theorem sameGround_of {xs : List Piece} {p q : Part} (k : OnlyChanges xs p q) (hx : ∀ x ∈ ground, x ∉ xs)
    (u : SameUsable p q) : SameGround p q := ⟨fun x hg => k x (hx x hg), u⟩

theorem sameGround_kept {xs : List Piece} {p q : Part} (k : OnlyChanges xs p q) (hx : ∀ x ∈ Piece.units :: ground, x ∉ xs) :
    SameGround p q :=
  sameGround_of k (fun x hg => hx x (by simp at hg ⊢; exact .inr hg)) (sameUsable_kept k (hx _ (by simp)))

theorem sameGround_refl (p : Part) : SameGround p p := sameGround_kept (onlyChanges_nil.2 rfl) (by simp)

section Ground
variable {p q : Part} (g : SameGround p q)
include g

theorem sameGround_trans {r : Part} (k : SameGround q r) : SameGround p r where
  frame x hx := by
    have pq := g.frame x hx
    have qr := k.frame x hx
    revert pq qr
    fin_cases hx <;> simp +contextual [Piece.kept]
  usable := sameUsable_trans g.usable k.usable

theorem clock_same : q.startUp.clock = p.startUp.clock := g.frame .clock (by simp)

theorem stop_same : q.stopAsserted = p.stopAsserted := by
  unfold Part.stopAsserted
  rw [show q.valves.stop = p.valves.stop from g.frame .stop (by simp)]

theorem plant_same : q.plant = p.plant := g.frame .plant (by simp)

theorem levels_same : q.front.tank = p.front.tank ∧ q.front.basin = p.front.basin := by
  obtain ⟨-, -, -, levels⟩ := g.frame .points (by simp)
  exact levels

theorem phaseNow_same (w : Wash) : q.phaseNow w = p.phaseNow w := by
  unfold Part.phaseNow Part.phasesOf Part.recipe
  rw [show q.recipes.slots = p.recipes.slots from g.frame .slots (by simp)]

theorem usableUnit_same (u : UnitId) : UsableUnit q u ↔ UsableUnit p u := by
  rw [← usable_iff, ← usable_iff, g.usable u]

theorem kindUsable_same (k : UnitKind) : q.kindUsable k = p.kindUsable k := by
  unfold Part.kindUsable
  rw [funext g.usable]

theorem kindLost_same (ph : Phase) (u : UnitId) : KindLost q ph u ↔ KindLost p ph u := by
  unfold KindLost
  simp only [usableUnit_same g]

theorem causeHolds_same (ph : Phase) (c : HoldCause) : CauseHolds q ph c ↔ CauseHolds p ph c := by
  obtain ⟨tank, basin⟩ := levels_same g
  unfold CauseHolds
  rw [stop_same g, plant_same g, tank, basin, kindLost_same g, kindLost_same g]

theorem levelClears_same (c : HoldCause) : LevelClears q c ↔ LevelClears p c := by
  obtain ⟨tank, basin⟩ := levels_same g
  unfold LevelClears
  rw [plant_same g, tank, basin]

end Ground

/-! ### Joining and clearing, as the statements have them (R115) -/

theorem usesWater_iff (k : PhaseKind) : usesWater k = true ↔ k = .airWater ∨ k = .water := by
  cases k <;> simp [usesWater]

theorem makesWaste_iff (k : PhaseKind) :
    makesWaste k = true ↔ k = .drain ∨ k = .airWater ∨ k = .water ∨ k = .ripen := by
  cases k <;> simp [makesWaste]

theorem kindsUsable_iff {p : Part} {w : Wash} {ph : Phase} (h : p.phaseNow w = ph) :
    p.kindsUsable w = true ↔ ¬ (KindLost p ph .p1 ∨ KindLost p ph .bl) := by
  have pump := pump_needed ph.kind
  have blower := blower_needed ph.kind
  unfold Part.kindsUsable KindLost
  rw [h, List.all_eq_true]
  constructor
  · rintro all (⟨needs, lost⟩ | ⟨needs, lost⟩)
    · exact not_or.2 lost ((pumpUsable_iff p).1 (all _ (pump.2 needs)))
    · exact lost ((blowerUsable_iff p).1 (all _ (blower.2 needs.symm)))
  · intro kept k hk
    by_contra lost
    cases k with
    | pump => exact kept (.inl ⟨pump.1 hk, not_or.1 (mt (pumpUsable_iff p).2 lost)⟩)
    | blower => exact kept (.inr ⟨(blower.1 hk).symm, mt (blowerUsable_iff p).2 lost⟩)

theorem joins_iff {p : Part} {w : Wash} {ph : Phase} (h : p.phaseNow w = ph) (c : HoldCause) :
    p.joins w c = true ↔ CauseHolds p ph c := by
  cases c with
  | host => simp [Part.joins, CauseHolds]
  | valve => simp [Part.joins, CauseHolds]
  | inhibit => exact Iff.rfl
  | water =>
    unfold Part.joins CauseHolds
    dsimp only
    rw [h, Bool.and_eq_true, usesWater_iff]
    refine and_congr_right fun _ => ?_
    cases p.front.tank.usableValue <;> cases p.plant.tankMin <;> simp
  | waste =>
    unfold Part.joins CauseHolds
    dsimp only
    rw [h, Bool.and_eq_true, makesWaste_iff]
    refine and_congr_right fun _ => ?_
    cases p.front.basin.usableValue <;> cases p.plant.basinMax <;> simp
  | equipment =>
    unfold Part.joins CauseHolds
    dsimp only
    rw [Bool.not_eq_true', ← Bool.not_eq_true, kindsUsable_iff h, not_not]

end Sys2Proof.Laws
end

section
/-! SUPPORT. The entry into HELD by one cause, and by several that join one after the other (R116 to R118). -/

namespace Sys2Proof.Laws

open Sys2Proof.Machine

/-! ### Sets of causes -/

theorem get_set (h : HoldSet) (c d : HoldCause) (v : Bool) : (h.set c v).get d = if d = c then v else h.get d := by
  cases c <;> cases d <;> rfl

theorem joined_append (h : HoldSet) (xs ys : List HoldCause) : joined h (xs ++ ys) = joined (joined h xs) ys :=
  List.foldl_append

theorem get_joined (c : HoldCause) (xs : List HoldCause) : ∀ h : HoldSet, (joined h xs).get c = (h.get c || decide (c ∈ xs)) := by
  induction xs with
  | nil => intro h; simp [joined]
  | cons x xs ih =>
    intro h
    refine (ih (h.set x true)).trans ?_
    rw [get_set]
    by_cases hc : c = x <;> simp [hc]

@[simp] theorem get_empty (c : HoldCause) : HoldSet.empty.get c = false := by cases c <;> rfl

theorem isEmpty_iff (h : HoldSet) : h.isEmpty = true ↔ h = HoldSet.empty := by
  obtain ⟨host, inhibit, water, waste, equipment, valve⟩ := h
  simp [HoldSet.isEmpty, HoldSet.empty]
  tauto

theorem isEmpty_of_get {h : HoldSet} {c : HoldCause} (hc : h.get c = true) : h.isEmpty = false := by
  rw [Bool.eq_false_iff, ne_eq, isEmpty_iff]
  rintro rfl
  simp at hc

/-! ### The reports of a hold -/

theorem heldReports_cons (p : Part) (l : LaneId) (w : Wash) (h : HoldSet) (began : Bool) (c : HoldCause)
    (rest : List HoldCause) : heldReports p l w h began (c :: rest) =
      .laneHeld l w.filter w.phase w.elapsed c (h.set c true) began (min (w.holdCount + 1) 255) p.startUp.clock ::
        heldReports p l w (h.set c true) false rest := rfl

theorem heldReports_append (p : Part) (l : LaneId) (w : Wash) (xs ys : List HoldCause) : ∀ (h : HoldSet) (began : Bool),
    heldReports p l w h began (xs ++ ys) =
      heldReports p l w h began xs ++ heldReports p l w (joined h xs) (began && xs.isEmpty) ys := by
  induction xs with
  | nil => intro h began; simp [heldReports, joined]
  | cons x xs ih =>
    intro h began
    rw [List.cons_append, heldReports_cons, heldReports_cons, ih]
    simp [joined]

theorem bump_eq (m n : Nat) : bump m n = min (n + 1) m := by
  unfold bump
  split <;> omega

theorem reportHeld_of {p : Part} {l : LaneId} {w : Wash} {t : Nat} (h : p.lane l = some w) (hs : w.state = .held t)
    (c : HoldCause) (began : Bool) :
    p.reportHeld l c began = p.report (.laneHeld l w.filter w.phase w.elapsed c w.holds began w.holdCount t) := by
  unfold Part.reportHeld
  rw [h]
  dsimp only
  rw [hs]

/-! ### The record of a lane that is held -/

/-- The lane's record once it is HELD by these causes (R117). -/
def heldWash (w : Wash) (clock : Nat) (causes : List HoldCause) : Wash :=
  { w with
    state := .held clock
    holds := joined w.holds causes
    releaseSeen := false
    holdCount := min (w.holdCount + 1) 255
    pump := none
    blower := false
    targets := orderedTargets w.targets [.air, .bww] .closed }

theorem heldWash_samePhase (w : Wash) (clock : Nat) (causes : List HoldCause) : SamePhase w (heldWash w clock causes) :=
  ⟨rfl, rfl, rfl, rfl, rfl, rfl, rfl, rfl⟩

/-- From `p` to `q` the lane has entered HELD by these causes and has reported so; nothing a hold condition rests on has
moved. -/
structure HoldBeganBy (p q : Part) (l : LaneId) (w : Wash) (causes : List HoldCause) : Prop where
  frame : OnlyChanges laneWork p q
  others : OtherLaneKept p q l
  lane : q.lane l = some (heldWash w p.startUp.clock causes)
  units : HoldsNoUnit q l
  ground : SameGround p q
  told : Reports p q (heldReports p l w w.holds true causes)

theorem heldBy_of {p q : Part} {l : LaneId} {w : Wash} {causes : List HoldCause} (h : HoldBeganBy p q l w causes) :
    HeldBy p q l w causes :=
  ⟨h.others, ⟨_, h.lane, heldWash_samePhase w _ _, rfl, rfl, rfl, rfl, rfl, rfl, rfl⟩, h.units⟩

theorem holdBegan_of {p q : Part} {l : LaneId} {w : Wash} {cause : HoldCause} (h : HoldBeganBy p q l w [cause]) :
    HoldBegan p q l w cause := ⟨h.frame, heldBy_of h, h.told⟩

/-! ### The first cause -/

/-- R117: the record with the hold noted. -/
def notedWash (w : Wash) (clock : Nat) (c : HoldCause) : Wash :=
  { w with state := .held clock, holds := w.holds.set c true, releaseSeen := false, holdCount := bump 255 w.holdCount }

/-- R117: the hold noted. -/
def holdNoted (p : Part) (l : LaneId) (w : Wash) (c : HoldCause) : Part :=
  ((p.dropRun l).cancel (.holdLimit l)).putLane l (some (notedWash w p.startUp.clock c))

theorem holdNoted_lane (p : Part) (l : LaneId) (w : Wash) (c : HoldCause) :
    (holdNoted p l w c).lane l = some (notedWash w p.startUp.clock c) := lane_putLane _ l _

/-- R117 before the report. -/
def heldQuiet (p : Part) (l : LaneId) (w : Wash) (c : HoldCause) : Part :=
  ((holdNoted p l w c).releaseAll l).orderRoles l w.filter [.air, .bww] .closed

theorem enterHeld_eq (p : Part) (l : LaneId) (w : Wash) (c : HoldCause) :
    p.enterHeld l w c = (heldQuiet p l w c).reportHeld l c true := rfl

theorem heldQuiet_only (p : Part) (l : LaneId) (w : Wash) (c : HoldCause) :
    OnlyChanges ([Piece.lanes, .channels] ++ handing) p (heldQuiet p l w c) := by
  unfold heldQuiet holdNoted
  simp

theorem heldQuiet_lane (p : Part) (l : LaneId) (w : Wash) (c : HoldCause) :
    (heldQuiet p l w c).lane l = some (heldWash w p.startUp.clock [c]) := by
  unfold heldQuiet
  rw [orderRoles_lane (releaseAll_lane (holdNoted_lane p l w c))]
  unfold notedWash
  rw [bump_eq]
  rfl

theorem heldQuiet_others (p : Part) (l : LaneId) (w : Wash) (c : HoldCause) : OtherLaneKept p (heldQuiet p l w c) l := by
  intro m hm
  unfold heldQuiet
  rw [orderRoles_other _ _ _ _ _ m hm, releaseAll_other _ hm]
  exact lane_putLane_ne _ hm _

/-- The commands to AIR and BWW leave the units alone. -/
theorem heldQuiet_orders (p : Part) (l : LaneId) (w : Wash) (c : HoldCause) :
    OnlyChanges [.lanes, .channels, .events] ((holdNoted p l w c).releaseAll l) (heldQuiet p l w c) := by
  unfold heldQuiet
  simp

theorem heldQuiet_units (p : Part) (l : LaneId) (w : Wash) (c : HoldCause) : HoldsNoUnit (heldQuiet p l w c) l :=
  holdsNoUnit_kept (heldQuiet_orders p l w c) (by simp) (by simp) (by simp) (releaseAll_holdsNoUnit _ l)

theorem heldQuiet_ground (p : Part) (l : LaneId) (w : Wash) (c : HoldCause) : SameGround p (heldQuiet p l w c) := by
  have noted : SameUsable p (holdNoted p l w c) := fun _ => rfl
  exact sameGround_of (heldQuiet_only p l w c) (by simp) <| sameUsable_trans noted <|
    sameUsable_trans (releaseAll_usable _ l) (sameUsable_kept (heldQuiet_orders p l w c) (by simp))

theorem enterHeld_began (p : Part) (l : LaneId) (w : Wash) (c : HoldCause) : HoldBeganBy p (p.enterHeld l w c) l w [c] := by
  have k := heldQuiet_only p l w c
  have link : (heldQuiet p l w c).link = p.link := link_kept k (by simp)
  have clock : (heldQuiet p l w c).clock = p.clock := k .clock (by simp)
  have kr : OnlyChanges reporting (heldQuiet p l w c) (p.enterHeld l w c) := by rw [enterHeld_eq]; simp
  have told := reports_more (reports_none link) clock (ReportBody.laneHeld l w.filter w.phase w.elapsed c
    (w.holds.set c true) true (min (w.holdCount + 1) 255) p.startUp.clock)
  refine ⟨onlyChanges_trans (onlyChanges_mono k (by simp)) (onlyChanges_mono kr (by simp)),
    fun m hm => (lane_kept kr (by simp) m).trans (heldQuiet_others p l w c m hm),
    (lane_kept kr (by simp) l).trans (heldQuiet_lane p l w c), ?_,
    sameGround_trans (heldQuiet_ground p l w c) (sameGround_kept kr (by simp)), ?_⟩
  · exact holdsNoUnit_kept kr (by simp) (by simp) (by simp) (heldQuiet_units p l w c)
  · rw [enterHeld_eq, reportHeld_of (heldQuiet_lane p l w c) rfl]
    exact told

/-- The record of a HELD lane that a cause joins. -/
def causeAdded (w : Wash) (c : HoldCause) : Wash :=
  { w with holds := w.holds.set c true, releaseSeen := if c = .inhibit then false else w.releaseSeen }

section Join
variable {p : Part} {l : LaneId} {w : Wash} (hl : p.lane l = some w)
include hl

theorem join_in {c : HoldCause} (h : w.state.holdable = false ∨ w.holds.get c = true) : p.join l c = p := by
  unfold Part.join
  rw [hl]
  dsimp only
  rw [if_pos (by rcases h with h | h <;> simp [h])]

theorem join_first {c : HoldCause} (hs : w.state.holdable = true) (hn : w.state.isHeld = false) (hc : w.holds.get c = false) :
    p.join l c = p.enterHeld l w c := by
  unfold Part.join
  rw [hl]
  dsimp only
  rw [if_neg (by simp [hs, hc]), if_neg (by simp [hn])]

/-- R116: a cause joins those of a lane that is HELD. -/
theorem join_further {c : HoldCause} {t : Nat} (hs : w.state = .held t) (hc : w.holds.get c = false) :
    p.join l c = (p.putLane l (some (causeAdded w c))).report
      (.laneHeld l w.filter w.phase w.elapsed c (w.holds.set c true) false w.holdCount t) := by
  unfold Part.join
  rw [hl]
  dsimp only
  rw [if_neg (by simp [hs, hc, LaneState.holdable]), if_pos (by rw [hs]; rfl)]
  exact reportHeld_of (w := causeAdded w c) (lane_putLane p l _) hs c false

theorem joinIf_joins {c : HoldCause} (h : p.joins w c = true) : p.joinIf l c = p.join l c := by
  unfold Part.joinIf
  rw [hl]
  exact if_pos h

theorem joinIf_waits {c : HoldCause} (h : p.joins w c = false) : p.joinIf l c = p := by
  unfold Part.joinIf
  rw [hl]
  exact if_neg (by simp [h])

end Join

theorem join_began {p : Part} {l : LaneId} {w : Wash} {c : HoldCause} (h : CanHold p l w c) :
    HoldBeganBy p (p.join l c) l w [c] := by
  obtain ⟨lane, holdable, unheld, out⟩ := h
  rw [join_first lane holdable unheld out]
  exact enterHeld_began p l w c

/-! ### Further causes -/

theorem heldWash_append (w : Wash) (clock : Nat) (causes : List HoldCause) (c : HoldCause) :
    heldWash w clock (causes ++ [c]) = causeAdded (heldWash w clock causes) c := by
  unfold causeAdded heldWash
  rw [joined_append]
  simp only [ite_self]
  rfl

theorem join_more {p q : Part} {l : LaneId} {w : Wash} {causes : List HoldCause} {c : HoldCause}
    (h : HoldBeganBy p q l w causes) (hne : causes ≠ []) (hc : (joined w.holds causes).get c = false) :
    HoldBeganBy p (q.join l c) l w (causes ++ [c]) := by
  have clock : q.clock = p.clock := h.frame .clock (by simp)
  have k : OnlyChanges ([Piece.lanes] ++ reporting) q (q.join l c) := by
    rw [join_further h.lane rfl hc]; simp
  have further : q.join l c = (q.putLane l (some (heldWash w p.startUp.clock (causes ++ [c])))).report
      (.laneHeld l w.filter w.phase w.elapsed c ((joined w.holds causes).set c true) false (min (w.holdCount + 1) 255)
        p.startUp.clock) := by
    rw [heldWash_append]
    exact join_further h.lane rfl hc
  refine ⟨onlyChanges_trans h.frame (onlyChanges_mono k (by simp)), fun m hm => ?_, ?_, ?_,
    sameGround_trans h.ground (sameGround_kept k (by simp)), ?_⟩
  · rw [further]; exact (lane_putLane_ne q hm _).trans (h.others m hm)
  · rw [further]; exact lane_putLane q l _
  · exact holdsNoUnit_kept k (by simp) (by simp) (by simp) h.units
  · rw [heldReports_append, further]
    have first : (true && causes.isEmpty) = false := by simp [hne]
    rw [first]
    exact reports_more h.told clock _

/-! ### Several causes tested -/

/-- Of the causes tested so far these hold: none, and nothing has moved; or the lane is HELD by them. -/
def TestedSo (p q : Part) (l : LaneId) (w : Wash) (causes : List HoldCause) : Prop :=
  (causes = [] ∧ q = p) ∨ (causes ≠ [] ∧ HoldBeganBy p q l w causes)

theorem testedSo_lane {p q : Part} {l : LaneId} {w : Wash} {causes : List HoldCause} (hl : p.lane l = some w)
    (h : TestedSo p q l w causes) : SameGround p q ∧ ∃ w', q.lane l = some w' ∧ SamePhase w w' := by
  rcases h with ⟨-, rfl⟩ | ⟨-, began⟩
  · exact ⟨sameGround_refl q, w, hl, samePhase_refl w⟩
  · exact ⟨began.ground, _, began.lane, heldWash_samePhase w _ _⟩

theorem joins_same {p q : Part} (g : SameGround p q) {w w' : Wash} (h : SamePhase w w') (c : HoldCause) :
    q.joins w' c = p.joins w c := by
  have phase : q.phaseNow w' = p.phaseNow w := (phaseNow_same g w').trans (phaseNow_samePhase h p)
  rw [Bool.eq_iff_iff, joins_iff rfl, joins_iff rfl, phase, causeHolds_same g]

/-- R116: the tested causes whose condition holds join in the order of the tests. -/
theorem testAll_testedSo {p : Part} {l : LaneId} {w : Wash} (hl : p.lane l = some w) (hs : w.state.holdable = true)
    (hn : w.state.isHeld = false) (tested : List HoldCause) :
    ∀ (q : Part) (causes : List HoldCause), TestedSo p q l w causes → tested.Nodup →
      (∀ c ∈ tested, (joined w.holds causes).get c = false) →
      TestedSo p (tested.foldl (fun p c => p.joinIf l c) q) l w (causes ++ tested.filter (p.joins w)) := by
  induction tested with
  | nil => intro q causes h _ _; simpa using h
  | cons c rest ih =>
    intro q causes h nodup out
    obtain ⟨new, nodup⟩ := List.nodup_cons.1 nodup
    obtain ⟨ground, w', lane, same⟩ := testedSo_lane hl h
    have joins := joins_same ground same c
    rw [List.foldl_cons]
    cases holds : p.joins w c with
    | false =>
      rw [joinIf_waits lane (joins.trans holds), List.filter_cons_of_neg (by simp [holds])]
      exact ih q causes h nodup fun d hd => out d (List.mem_cons_of_mem c hd)
    | true =>
      have began : TestedSo p (q.join l c) l w (causes ++ [c]) := by
        refine .inr ⟨by simp, ?_⟩
        rcases h with ⟨rfl, rfl⟩ | ⟨some, began⟩
        · exact join_began ⟨hl, hs, hn, out c (by simp)⟩
        · exact join_more began some (out c (by simp))
      rw [joinIf_joins lane (joins.trans holds), List.filter_cons_of_pos holds, ← List.singleton_append, ← List.append_assoc]
      refine ih _ _ began nodup fun d hd => ?_
      have before := out d (List.mem_cons_of_mem c hd)
      have other : d ≠ c := fun e => new (e ▸ hd)
      rw [get_joined] at before ⊢
      simpa [other] using before

/-- The causes of a lane whose conditions hold are those that the tests let join. -/
theorem causesAre_eq {p : Part} {ph : Phase} {tested causes : List HoldCause} (f : HoldCause → Bool)
    (hf : ∀ c, f c = true ↔ CauseHolds p ph c) (nodup : tested.Nodup) (h : CausesAre p ph tested causes) :
    tested.filter f = causes := by
  obtain ⟨sub, holds⟩ := h
  induction sub with
  | slnil => rfl
  | @cons xs ys c sub ih =>
    obtain ⟨new, nodup⟩ := List.nodup_cons.1 nodup
    have out : ¬ f c = true := fun hc => new (sub.subset ((holds c (by simp)).2 ((hf c).1 hc)))
    rw [List.filter_cons_of_neg out]
    exact ih nodup fun d hd => holds d (List.mem_cons_of_mem c hd)
  | @cons_cons xs ys c sub ih =>
    obtain ⟨new, nodup⟩ := List.nodup_cons.1 nodup
    rw [List.filter_cons_of_pos ((hf c).2 ((holds c (by simp)).1 (by simp)))]
    congr 1
    refine ih nodup fun d hd => ?_
    have other : d ≠ c := fun e => new (e ▸ hd)
    rw [← holds d (List.mem_cons_of_mem c hd)]
    simp [other]

/-- R107, R116: a lane without causes is HELD by those of the tested causes that hold. -/
theorem testAll_began {p : Part} {l : LaneId} {w : Wash} {ph : Phase} {tested causes : List HoldCause}
    (hl : p.lane l = some w) (hph : p.phaseNow w = ph) (hs : w.state.holdable = true) (hn : w.state.isHeld = false)
    (hw : w.holds = HoldSet.empty) (nodup : tested.Nodup) (h : CausesAre p ph tested causes) (hne : causes ≠ []) :
    HoldBeganBy p (tested.foldl (fun p c => p.joinIf l c) p) l w causes := by
  have tests := testAll_testedSo hl hs hn tested p [] (.inl ⟨rfl, rfl⟩) nodup fun c _ => by
    rw [hw, get_joined]; simp
  rw [List.nil_append, causesAre_eq _ (joins_iff hph) nodup h] at tests
  rcases tests with ⟨none, -⟩ | ⟨-, began⟩
  · exact absurd none hne
  · exact began

end Sys2Proof.Laws
end

section
/-! SUPPORT. The end of a hold (R119), and the host commands HOLD, RESUME and ABORT on a lane (R130 to R133). -/

namespace Sys2Proof.Laws

open Sys2Proof.Machine

/-! ### The resume of a lane whose last cause has gone (R119) -/

/-- The record of a lane that resumes, its phase still to be entered. -/
def resumedWash (w : Wash) : Wash := { w with state := .acquiring, confirm := 0, releaseSeen := false }

/-- R119 before the phase is entered. -/
def resumeTold (p : Part) (l : LaneId) (w : Wash) (heldAt : Nat) : Part :=
  ((p.putLane l (some (resumedWash w))).cancel (.holdLimit l)).report
    (.laneResumed l w.filter w.phase w.elapsed (p.startUp.clock - heldAt) w.holdCount)

section Resume
variable {p : Part} {l : LaneId} {w : Wash} (hl : p.lane l = some w)
include hl

theorem resumeIfClear_clear {t : Nat} (hs : w.state = .held t) (hw : w.holds = HoldSet.empty) :
    p.resumeIfClear l = (resumeTold p l w t).enterPhase l none := by
  unfold Part.resumeIfClear
  rw [hl]
  dsimp only
  rw [hs]
  dsimp only
  rw [if_pos ((isEmpty_iff _).2 hw)]
  rfl

theorem resumeIfClear_held {c : HoldCause} (hc : w.holds.get c = true) : p.resumeIfClear l = p := by
  unfold Part.resumeIfClear
  rw [hl]
  dsimp only
  split
  · rw [isEmpty_of_get hc]; rfl
  · rfl

theorem resumeIfClear_unclear (hw : w.holds ≠ HoldSet.empty) : p.resumeIfClear l = p := by
  unfold Part.resumeIfClear
  rw [hl]
  dsimp only
  split
  · rw [if_neg (mt (isEmpty_iff _).1 hw)]
  · rfl

end Resume

theorem resumeIfClear_resumes {p : Part} {l : LaneId} {w : Wash} {t : Nat} (hl : p.lane l = some w) (hs : w.state = .held t)
    (hw : w.holds = HoldSet.empty) : Resumed p (p.resumeIfClear l) l w t := by
  have k : OnlyChanges ([Piece.lanes, .events] ++ reporting) p (resumeTold p l w t) := by unfold resumeTold; simp
  have lane : (resumeTold p l w t).lane l = some (resumedWash w) := lane_putLane p l _
  have told : Reports p (resumeTold p l w t)
      [.laneResumed l w.filter w.phase w.elapsed (p.startUp.clock - t) w.holdCount] := rfl
  obtain ⟨w', lane', same, holdable⟩ := enterPhase_lane lane none
  obtain ⟨-, bs, after⟩ := enterPhase_tells (resumeTold p l w t) l none
  rw [resumeIfClear_clear hl hs hw]
  refine ⟨fun m hm => (enterPhase_other _ l none m hm).trans (lane_putLane_ne p hm _), ⟨w', lane', ?_, holdable⟩, bs,
    reports_trans told (k .clock (by simp)) after⟩
  exact samePhase_trans ⟨rfl, rfl, rfl, rfl, rfl, rfl, rfl, rfl⟩ same

/-- A resume is the same from an earlier part, the other lane's record, the place in the phase and the link unmoved. -/
theorem resumed_before {p q r : Part} {l : LaneId} {w w' : Wash} {t : Nat} (h : Resumed q r l w' t)
    (others : OtherLaneKept p q l) (same : SamePhase w w') (count : w'.holdCount = w.holdCount)
    (clock : q.startUp.clock = p.startUp.clock) (link : q.link = p.link) : Resumed p r l w t := by
  obtain ⟨others', ⟨w'', lane, same', holdable⟩, bs, told⟩ := h
  obtain ⟨filter, -, phase, elapsed, -⟩ := id same
  rw [filter, phase, elapsed, count, clock] at told
  exact ⟨fun m hm => (others' m hm).trans (others m hm), ⟨w'', lane, samePhase_trans same same', holdable⟩, bs,
    reports_trans (xs := []) (reports_none link) clock told⟩

/-! ### RESUME (R132) -/

/-- The record after RESUME has taken its causes. -/
def resumeTakes (p : Part) (w : Wash) : Wash :=
  { w with
    holds := afterResume p w
    drifted := PerRole.all false
    releaseSeen := w.releaseSeen && !(w.holds.inhibit && !p.stopAsserted) }

theorem laneResume_of {p : Part} {l : LaneId} {w : Wash} (h : p.lane l = some w) :
    p.laneResume l = (p.putLane l (some (resumeTakes p w))).resumeIfClear l := by
  unfold Part.laneResume
  dsimp only
  rw [modWash_of h]
  congr 3
  unfold resumeTakes afterResume
  dsimp only
  cases hi : w.holds.inhibit <;> cases hr : w.releaseSeen <;> cases hp : p.stopAsserted <;> simp [HoldSet.set, hi]

/-! ### Answers of lane commands -/

/-- After the answer the reply alone moves. -/
theorem handle_only {p q : Part} {c : HostCommand} {tag : Byte} {r : Result} {fields : ReplyFields}
    (h : p.answer c = (q, r, fields)) : OnlyChanges reporting q (p.handle tag c) := by
  rw [handle_of h]; simp

theorem reports_accepted {p q : Part} {bs : List ReportBody} (h : Reports p.frameAccepted q bs) : Reports p q bs := by
  unfold Reports at h ⊢
  rw [h, frameAccepted_clock, frameAccepted_link]

section Answers
variable {p : Part} {b : Byte} (ht : p.startUp.top = .operating)
include ht

theorem answer_hold {l : LaneId} {w : Wash} (hb : laneOfByte b = some l) (hl : p.lane l = some w)
    (hs : w.state.holdable = true) : p.answer (.hold b) = (p.join l .host).answerLane l := by
  refine (inOperating_of ht _).trans ((named_some hb).trans (unlessFails_ok ?_))
  unfold Part.laneHoldable
  rw [hl]
  exact hs

theorem answer_resume {l : LaneId} {w : Wash} {t : Nat} (hb : laneOfByte b = some l) (hl : p.lane l = some w)
    (hs : w.state = .held t) : p.answer (.resume b) = (p.laneResume l).answerLane l := by
  refine (inOperating_of ht _).trans ((named_some hb).trans (unlessFails_ok ?_))
  rw [hl]
  show w.state.isHeld = true
  rw [hs]
  rfl

/-- A byte that names no lane is RANGE. -/
theorem answer_noLane (hb : laneOfByte b = none) :
    p.answer (.hold b) = refuse p .range ∧ p.answer (.resume b) = refuse p .range ∧
    p.answer (.abort 0 b) = refuse p .range :=
  ⟨(inOperating_of ht _).trans (named_none hb), (inOperating_of ht _).trans (named_none hb),
    (inOperating_of ht _).trans ((if_pos rfl).trans (named_none hb))⟩

theorem answer_noFilter (hb : filterOf b = none) : p.answer (.abort 1 b) = refuse p .range :=
  (inOperating_of ht _).trans ((if_neg (by decide)).trans ((if_pos rfl).trans (named_none hb)))

/-- An ABORT form of neither kind is RANGE (log 31). -/
theorem answer_noForm {form : Byte} (hf : 2 ≤ form.toNat) : p.answer (.abort form b) = refuse p .range := by
  have lane : form ≠ 0 := by rintro rfl; simp at hf
  have filter : form ≠ 1 := by rintro rfl; simp at hf
  exact (inOperating_of ht _).trans ((if_neg lane).trans (if_neg filter))

/-- A lane that is not from ACQUIRING to HELD is STATE. -/
theorem answer_notHoldable {l : LaneId} (hb : laneOfByte b = some l)
    (h : ∀ w, p.lane l = some w → w.state.holdable = false) :
    p.answer (.hold b) = refuse p .state ∧ p.answer (.abort 0 b) = refuse p .state := by
  have past : p.laneHoldable l = false := by
    unfold Part.laneHoldable
    cases hl : p.lane l with
    | none => rfl
    | some w => exact h w hl
  exact ⟨(inOperating_of ht _).trans ((named_some hb).trans (unlessFails_no past)),
    (inOperating_of ht _).trans ((if_pos rfl).trans ((named_some hb).trans (unlessFails_no past)))⟩

theorem answer_notHeld {l : LaneId} (hb : laneOfByte b = some l) (h : ∀ w t, p.lane l = some w → w.state ≠ .held t) :
    p.answer (.resume b) = refuse p .state := by
  refine (inOperating_of ht _).trans ((named_some hb).trans (unlessFails_no ?_))
  cases hl : p.lane l with
  | none => rfl
  | some w =>
    have other := fun t => h w t hl
    show w.state.isHeld = false
    revert other
    cases w.state <;> simp [LaneState.isHeld]

/-- A filter that no lane washes is STATE. -/
theorem answer_notWashing {f : FilterId} (hb : filterOf b = some f)
    (h : ∀ rec l, p.filter f = some rec → rec.state ≠ .washing l) : p.answer (.abort 1 b) = refuse p .state := by
  have none : p.laneWashing f = none := by
    unfold Part.laneWashing
    cases hf : p.filter f with
    | none => rfl
    | some rec =>
      have other := fun l => h rec l hf
      dsimp only
      revert other
      cases rec.state <;> simp
  refine (inOperating_of ht _).trans ((if_neg (by decide)).trans ((if_pos rfl).trans ((named_some hb).trans ?_)))
  rw [none]

end Answers

/-! ### HOLD and RESUME as rows -/

section Rows
variable {s : State} {tag b : Byte} {l : LaneId} {w : Wash} (hc : CanHandle s) (ht : s.part.startUp.top = .operating)
  (hb : laneOfByte b = some l) (hl : s.part.lane l = some w)
include hc ht hb hl

theorem holdRow_begins (h : CanHold s.part l w .host) :
    ∃ t, exec (.hold tag b) s = .next t ∧
      Answers s t (.hold b) tag
        [.laneHeld l w.filter w.phase w.elapsed .host (w.holds.set .host true) true (min (w.holdCount + 1) 255)
          s.part.startUp.clock] .ok
        (.laneNow (some (.held s.part.startUp.clock)) (w.holds.set .host true)) ∧
      OnlyChanges laneWork s.part.frameAccepted t.part ∧ OtherLaneKept s.part t.part l ∧
      HoldsNoUnit t.part l ∧
      ∃ w', t.part.lane l = some w' ∧ SamePhase w w' ∧ w'.state = .held s.part.startUp.clock ∧
        w'.holds = w.holds.set .host true ∧ w'.holdCount = min (w.holdCount + 1) 255 ∧ w'.pump = none ∧
        w'.blower = false ∧ w'.targets.get .air = some .closed ∧ w'.targets.get .bww = some .closed := by
  obtain ⟨-, holdable, unheld, out⟩ := h
  have hl' := (accepted_lane s.part l).trans hl
  have began := join_began (c := .host) ⟨hl', holdable, unheld, out⟩
  have lane := began.lane
  have told := reports_accepted began.told
  rw [accepted_clock] at lane
  rw [heldReports_cons, accepted_clock] at told
  have ans := (answer_hold ((frameAccepted_top _).trans ht) hb hl' holdable).trans (answerLane_some lane)
  have kr := handle_only (tag := tag) ans
  exact ⟨_, (exec_hold tag b s).trans (submit_handled tag _ hc), answers_of ans told,
    onlyChanges_trans began.frame (onlyChanges_mono kr (by simp)),
    fun m hm => (lane_kept kr (by simp) m).trans ((began.others m hm).trans (accepted_lane s.part m)),
    holdsNoUnit_kept kr (by simp) (by simp) (by simp) began.units, _, (lane_kept kr (by simp) l).trans lane,
    heldWash_samePhase w _ _, rfl, rfl, rfl, rfl, rfl, rfl, rfl⟩

theorem holdRow_joins {h : Nat} (hs : w.state = .held h) (out : w.holds.host = false) :
    ∃ t, exec (.hold tag b) s = .next t ∧
      Answers s t (.hold b) tag
        [.laneHeld l w.filter w.phase w.elapsed .host (w.holds.set .host true) false w.holdCount h] .ok
        (.laneNow (some (.held h)) (w.holds.set .host true)) ∧
      OnlyChanges ([Piece.lanes] ++ reporting) s.part.frameAccepted t.part ∧ OtherLaneKept s.part t.part l ∧
      t.part.lane l = some { w with holds := w.holds.set .host true } := by
  have hl' := (accepted_lane s.part l).trans hl
  have further := join_further (c := .host) hl' hs out
  have lane : (s.part.frameAccepted.join l .host).lane l = some (causeAdded w .host) := by
    rw [further]; exact lane_putLane _ l _
  have others : OtherLaneKept s.part.frameAccepted (s.part.frameAccepted.join l .host) l := fun m hm => by
    rw [further]; exact lane_putLane_ne _ hm _
  have k : OnlyChanges ([Piece.lanes] ++ reporting) s.part.frameAccepted (s.part.frameAccepted.join l .host) := by
    rw [further]; simp
  have told : Reports s.part.frameAccepted (s.part.frameAccepted.join l .host)
      [.laneHeld l w.filter w.phase w.elapsed .host (w.holds.set .host true) false w.holdCount h] := by
    rw [further]; rfl
  have ans := (answer_hold ((frameAccepted_top _).trans ht) hb hl' (by rw [hs]; rfl)).trans (answerLane_some lane)
  rw [show (causeAdded w .host).state = .held h from hs] at ans
  have kr := handle_only (tag := tag) ans
  exact ⟨_, (exec_hold tag b s).trans (submit_handled tag _ hc), answers_of ans (reports_accepted told),
    onlyChanges_trans k (onlyChanges_mono kr (by simp)),
    fun m hm => (lane_kept kr (by simp) m).trans ((others m hm).trans (accepted_lane s.part m)),
    (lane_kept kr (by simp) l).trans lane⟩

/-- R131: HOST in the set already. -/
theorem holdRow_in (holdable : w.state.holdable = true) (host : w.holds.host = true) :
    Reads s (.hold tag b) .ok (.laneNow (some w.state) w.holds) := by
  have hl' := (accepted_lane s.part l).trans hl
  have ans := answer_hold ((frameAccepted_top _).trans ht) hb hl' holdable
  rw [join_in (c := .host) hl' (.inr host), answerLane_some hl'] at ans
  exact reads_of hc rfl ans

theorem resumeRow_resumes {h : Nat} (hs : w.state = .held h) (clear : afterResume s.part w = HoldSet.empty) :
    ∃ t bs w', exec (.resume tag b) s = .next t ∧
      Answers s t (.resume b) tag
        (.laneResumed l w.filter w.phase w.elapsed (s.part.startUp.clock - h) w.holdCount :: bs) .ok
        (.laneNow (some w'.state) w'.holds) ∧
      OnlyChanges laneWork s.part.frameAccepted t.part ∧ OtherLaneKept s.part t.part l ∧
      t.part.lane l = some w' ∧ SamePhase w w' ∧ w'.state.holdable = true := by
  have hl' := (accepted_lane s.part l).trans hl
  have stop : s.part.frameAccepted.stopAsserted = s.part.stopAsserted := stopAsserted_kept (accepted_only _) (by simp)
  have clear' : (resumeTakes s.part.frameAccepted w).holds = HoldSet.empty := by
    show afterResume s.part.frameAccepted w = _
    rw [← clear]
    unfold afterResume
    rw [stop]
  have k : OnlyChanges laneWork s.part.frameAccepted (s.part.frameAccepted.laneResume l) := by simp
  have resumed : Resumed s.part (s.part.frameAccepted.laneResume l) l w h := by
    rw [laneResume_of hl']
    exact resumed_before (resumeIfClear_resumes (lane_putLane _ l _) hs clear')
      (fun m hm => (lane_putLane_ne _ hm _).trans (accepted_lane s.part m)) ⟨rfl, rfl, rfl, rfl, rfl, rfl, rfl, rfl⟩ rfl
      (accepted_clock s.part) (frameAccepted_link s.part)
  obtain ⟨others, ⟨w', lane, same, holdable⟩, bs, told⟩ := resumed
  have ans := (answer_resume ((frameAccepted_top _).trans ht) hb hl' hs).trans (answerLane_some lane)
  have kr := handle_only (tag := tag) ans
  exact ⟨_, bs, w', (exec_resume tag b s).trans (submit_handled tag _ hc), answers_of ans told,
    onlyChanges_trans k (onlyChanges_mono kr (by simp)), fun m hm => (lane_kept kr (by simp) m).trans (others m hm),
    (lane_kept kr (by simp) l).trans lane, same, holdable⟩

theorem resumeRow_waits {h : Nat} (hs : w.state = .held h) (unclear : afterResume s.part w ≠ HoldSet.empty) :
    ∃ t seen, exec (.resume tag b) s = .next t ∧
      Answers s t (.resume b) tag [] .ok (.laneNow (some (.held h)) (afterResume s.part w)) ∧
      OnlyChanges ([Piece.lanes] ++ reporting) s.part.frameAccepted t.part ∧ OtherLaneKept s.part t.part l ∧
      t.part.lane l = some { w with holds := afterResume s.part w, drifted := PerRole.all false, releaseSeen := seen } := by
  have hl' := (accepted_lane s.part l).trans hl
  have stop : s.part.frameAccepted.stopAsserted = s.part.stopAsserted := stopAsserted_kept (accepted_only _) (by simp)
  have takes : resumeTakes s.part.frameAccepted w = resumeTakes s.part w := by
    unfold resumeTakes afterResume
    rw [stop]
  have lane := lane_putLane s.part.frameAccepted l (some (resumeTakes s.part w))
  have stays : s.part.frameAccepted.laneResume l = s.part.frameAccepted.putLane l (some (resumeTakes s.part w)) := by
    rw [laneResume_of hl', takes]
    exact resumeIfClear_unclear lane unclear
  have ans := answer_resume ((frameAccepted_top _).trans ht) hb hl' hs
  rw [stays, answerLane_some lane, show (resumeTakes s.part w).state = .held h from hs] at ans
  have k : OnlyChanges ([Piece.lanes] ++ reporting) s.part.frameAccepted
      (s.part.frameAccepted.putLane l (some (resumeTakes s.part w))) := by simp
  have kr := handle_only (tag := tag) ans
  exact ⟨_, _, (exec_resume tag b s).trans (submit_handled tag _ hc), answers_of ans (frameAccepted_link s.part),
    onlyChanges_trans k (onlyChanges_mono kr (by simp)),
    fun m hm => (lane_kept kr (by simp) m).trans ((lane_putLane_ne _ hm _).trans (accepted_lane s.part m)),
    (lane_kept kr (by simp) l).trans lane⟩

end Rows

theorem holdAndResume_moveTheLane : HoldAndResumeMoveTheLane := fun _ _ _ _ _ hc ht hb hl =>
  ⟨holdRow_begins hc ht hb hl, fun _ => holdRow_joins hc ht hb hl, fun _ => resumeRow_resumes hc ht hb hl,
    fun _ => resumeRow_waits hc ht hb hl⟩

theorem laneCommands_checkTheLane : LaneCommandsCheckTheLane := by
  intro s tag b form hc top
  have ht : s.part.frameAccepted.startUp.top = .operating := (frameAccepted_top _).trans top
  refine ⟨fun hb => ?_, fun hb => reads_of hc rfl (answer_noFilter ht hb), fun hf => reads_of hc rfl (answer_noForm ht hf),
    fun l hb => ⟨fun h => ?_, fun h => ?_, fun w hl holdable host => holdRow_in hc top hb hl holdable host⟩,
    fun f hb h => ?_⟩
  · obtain ⟨hold, resume, abort⟩ := answer_noLane ht hb
    exact ⟨reads_of hc rfl hold, reads_of hc rfl resume, reads_of hc rfl abort⟩
  · obtain ⟨hold, abort⟩ := answer_notHoldable ht hb (by rw [accepted_lane]; exact h)
    exact ⟨reads_of hc rfl hold, reads_of hc rfl abort⟩
  · exact reads_of hc rfl (answer_notHeld ht hb (by rw [accepted_lane]; exact h))
  · exact reads_of hc rfl (answer_notWashing ht hb (by rw [accepted_filter]; exact h))

end Sys2Proof.Laws

namespace Sys2Proof

open Laws

/-- Settles O30: HOST is one more cause that joins; RESUME takes its causes and leaves the rest to the resume of a lane
without any. -/
theorem hostHoldsAndResumesLanes : Obligations.HostHoldsAndResumesLanes :=
  ⟨holdAndResume_moveTheLane, laneCommands_checkTheLane⟩

end Sys2Proof
end

section
/-! SUPPORT. The notices that bring a first hold cause (R115 to R117, R121, R123, R124). -/

namespace Sys2Proof.Laws

open Sys2Proof.Machine

/-! ### A hold told from an earlier part -/

/-- From `p` to `q` nothing has moved that a hold of the lane takes over or tells. -/
structure BeforeHold (p q : Part) (l : LaneId) (w w' : Wash) : Prop where
  others : OtherLaneKept p q l
  same : SamePhase w w'
  holds : w'.holds = w.holds
  count : w'.holdCount = w.holdCount
  clock : q.startUp.clock = p.startUp.clock

section Before
variable {p q : Part} {l : LaneId} {w w' : Wash} (b : BeforeHold p q l w w')
include b

theorem heldReports_before (causes : List HoldCause) : ∀ (h : HoldSet) (began : Bool),
    heldReports q l w' h began causes = heldReports p l w h began causes := by
  obtain ⟨filter, -, phase, elapsed, -⟩ := b.same
  induction causes with
  | nil => exact fun _ _ => rfl
  | cons c rest ih =>
    intro h began
    rw [heldReports_cons, heldReports_cons, ih, filter, phase, elapsed, b.count, b.clock]

theorem heldBy_before {r : Part} {causes : List HoldCause} (h : HoldBeganBy q r l w' causes) : HeldBy p r l w causes := by
  refine ⟨fun m hm => (h.others m hm).trans (b.others m hm),
    ⟨_, h.lane, samePhase_trans b.same (heldWash_samePhase w' _ _), ?_, ?_, ?_, rfl, rfl, rfl, rfl⟩, h.units⟩
  · rw [← b.clock]; rfl
  · rw [← b.holds]; rfl
  · rw [← b.count]; rfl

theorem holdBegan_before {r : Part} {c : HoldCause} (h : HoldBeganBy q r l w' [c])
    (k : OnlyChanges [.lanes, .events] p q) : HoldBegan p r l w c := by
  have clock : q.clock = p.clock := b.clock
  have link : q.link = p.link := link_kept k (by simp)
  refine ⟨onlyChanges_trans (onlyChanges_mono k (by simp)) h.frame, heldBy_before b h, ?_⟩
  have told := reports_trans (reports_none link) clock h.told
  rw [heldReports_before b, b.holds] at told
  exact told

end Before

/-- An event taken is nothing to a hold. -/
theorem beforeHold_taking (p : Part) (e : Event) (l : LaneId) (w : Wash) : BeforeHold p (taking p e) l w w :=
  ⟨fun _ _ => rfl, samePhase_refl w, rfl, rfl, rfl⟩

theorem holdBegan_taking {p r : Part} {e : Event} {l : LaneId} {w : Wash} {c : HoldCause}
    (h : HoldBeganBy (taking p e) r l w [c]) : HoldBegan p r l w c :=
  holdBegan_before (beforeHold_taking p e l w) h (by simp)

/-- An event taken and the lane's record replaced. -/
theorem beforeHold_putLane (p : Part) (e : Event) (l : LaneId) {w w' : Wash} (same : SamePhase w w')
    (holds : w'.holds = w.holds) (count : w'.holdCount = w.holdCount) :
    BeforeHold p ((taking p e).putLane l (some w')) l w w' :=
  ⟨fun _ hm => lane_putLane_ne _ hm _, same, holds, count, rfl⟩

/-! ### Clearing, as the statements have it (R115) -/

theorem clears_water (p : Part) (w : Wash) : p.clears w .water = true ↔ LevelClears p .water := by
  unfold Part.clears LevelClears
  cases p.front.tank.usableValue <;> cases p.plant.tankMin <;> simp

theorem clears_waste (p : Part) (w : Wash) : p.clears w .waste = true ↔ LevelClears p .waste := by
  unfold Part.clears LevelClears
  cases p.front.basin.usableValue <;> cases p.plant.basinMax <;> simp

/-- The span between joining and clearing. -/
theorem not_clears_of_holds {p : Part} {w : Wash} {ph : Phase} {c : HoldCause} (hph : p.phaseNow w = ph)
    (h : CauseHolds p ph c) : p.clears w c = false := by
  rw [Bool.eq_false_iff]
  intro clears
  cases c with
  | water =>
    obtain ⟨-, v, low, tank, min, below⟩ := h
    obtain ⟨v', low', tank', min', above⟩ := (clears_water p w).1 clears
    rw [tank, Option.some.injEq] at tank'
    rw [min, Option.some.injEq] at min'
    omega
  | waste =>
    obtain ⟨-, v, high, basin, max, above⟩ := h
    obtain ⟨v', high', basin', max', below⟩ := (clears_waste p w).1 clears
    rw [basin, Option.some.injEq] at basin'
    rw [max, Option.some.injEq] at max'
    omega
  | equipment => exact (kindsUsable_iff hph).1 clears h
  | host => exact absurd clears (by simp [Part.clears])
  | inhibit => exact absurd clears (by simp [Part.clears])
  | valve => exact absurd clears (by simp [Part.clears])

section Leave
variable {p : Part} {l : LaneId} {w : Wash} {c : HoldCause} (hl : p.lane l = some w)
include hl

theorem leaveIf_stays (h : w.holds.get c = false ∨ p.clears w c = false) : p.leaveIf l c = p := by
  unfold Part.leaveIf
  rw [hl]
  dsimp only
  rw [if_neg (by rcases h with h | h <;> simp [h])]

theorem leave_of : p.leave l c = p.putLane l (some { w with holds := w.holds.set c false }) := by
  unfold Part.leave
  exact modWash_of hl _

theorem leaveIf_leaves (hc : w.holds.get c = true) (h : p.clears w c = true) :
    p.leaveIf l c = p.putLane l (some { w with holds := w.holds.set c false }) := by
  unfold Part.leaveIf
  rw [hl]
  dsimp only
  rw [if_pos (by simp [hc, h]), leave_of hl]

end Leave

/-- A cause that holds stays in the set of a lane that it has held. -/
theorem leaveIf_began {p q : Part} {l : LaneId} {w : Wash} {ph : Phase} {causes : List HoldCause} {c : HoldCause}
    (h : HoldBeganBy p q l w causes) (hph : p.phaseNow w = ph) (hc : CauseHolds p ph c) : q.leaveIf l c = q := by
  have phase := (phaseNow_same h.ground _).trans
    ((phaseNow_samePhase (heldWash_samePhase w p.startUp.clock causes) p).trans hph)
  exact leaveIf_stays h.lane (.inr (not_clears_of_holds phase ((causeHolds_same h.ground ph c).2 hc)))

theorem resumeIfClear_began {p q : Part} {l : LaneId} {w : Wash} {causes : List HoldCause} {c : HoldCause}
    (h : HoldBeganBy p q l w causes) (hc : c ∈ causes) : q.resumeIfClear l = q := by
  have into : (heldWash w p.startUp.clock causes).holds.get c = true := by
    show (joined w.holds causes).get c = true
    rw [get_joined]
    simp [hc]
  exact resumeIfClear_held h.lane into

/-- R116: a cause tested that holds. -/
theorem testCause_began {p : Part} {l : LaneId} {w : Wash} {ph : Phase} {c : HoldCause} (h : CanHold p l w c)
    (hph : p.phaseNow w = ph) (hc : CauseHolds p ph c) : HoldBeganBy p (p.testCause l c) l w [c] := by
  have began := join_began h
  obtain ⟨lane, -⟩ := h
  unfold Part.testCause
  rw [joinIf_joins lane ((joins_iff hph c).2 hc), leaveIf_began began hph hc, resumeIfClear_began began (List.mem_singleton_self _)]
  exact began

/-! ### The lane's units (R116, R124) -/

theorem causeHolds_equipment {p : Part} {ph : Phase} {u : UnitId} (h : KindLost p ph u) : CauseHolds p ph .equipment := by
  cases u with
  | p1 => exact .inl h
  | p2 => exact .inl h
  | bl => exact .inr h

theorem kindLost_unusable {p : Part} {ph : Phase} {u : UnitId} (h : KindLost p ph u) : p.kindUsable (unitKind u) = false := by
  have pump : ¬ UsableUnit p .p1 ∧ ¬ UsableUnit p .p2 → p.kindUsable .pump = false := fun lost =>
    Bool.eq_false_iff.2 (mt (pumpUsable_iff p).1 (not_or.2 lost))
  cases u with
  | p1 => exact pump h.2
  | p2 => exact pump h.2
  | bl => exact Bool.eq_false_iff.2 (mt (blowerUsable_iff p).1 h.2)

@[simp] theorem dropUnit_holds (w : Wash) (u : UnitId) : (w.dropUnit u).holds = w.holds := by
  cases u <;> unfold Wash.dropUnit <;> dsimp only <;> (try split) <;> rfl

@[simp] theorem dropUnit_holdCount (w : Wash) (u : UnitId) : (w.dropUnit u).holdCount = w.holdCount := by
  cases u <;> unfold Wash.dropUnit <;> dsimp only <;> (try split) <;> rfl

theorem laneTripped_of {p : Part} {l : LaneId} {w : Wash} {u : UnitId} (hl : p.lane l = some w)
    (hu : w.holdsUnit u = true) (hs : w.state.holdable = true) : p.laneTripped l u =
      (((p.putLane l (some (w.dropUnit u))).join l .equipment).leaveIf l .equipment).resumeIfClear l := by
  unfold Part.laneTripped
  rw [hl]
  dsimp only
  rw [if_pos (by simp [hu, hs])]

theorem laneProveFailed_lost {p : Part} {l : LaneId} {w : Wash} {u : UnitId} (hl : p.lane l = some w)
    (hu : w.holdsUnit u = true) (hs : w.state.holdable = true) (h : p.kindUsable (unitKind u) = false) :
    p.laneProveFailed l u = (p.putLane l (some (w.dropUnit u))).join l .equipment := by
  have same : (p.putLane l (some (w.dropUnit u))).kindUsable (unitKind u) = false := h
  unfold Part.laneProveFailed
  rw [hl]
  dsimp only
  rw [if_pos (by simp [hu, hs]), if_neg (by simp [same])]

/-- The unit dropped, the lane can still be held. -/
theorem canHold_dropUnit {p : Part} {l : LaneId} {w : Wash} {c : HoldCause} (h : CanHold p l w c) (u : UnitId) :
    CanHold (p.putLane l (some (w.dropUnit u))) l (w.dropUnit u) c := by
  obtain ⟨-, holdable, unheld, out⟩ := h
  exact ⟨lane_putLane p l _, by rwa [dropUnit_state], by rwa [dropUnit_state], by rwa [dropUnit_holds]⟩

/-! ### STOP notices -/

theorem takeStopNotice_first {s : State} {l : LaneId} {e : Event} (g : Part → Part) (hl : s.part.live = true)
    (h : s.part.events.find? (Event.isStopOf l) = some e) :
    takeStopNotice l e g s = .next { s with part := g (taking s.part e) } := by
  unfold takeStopNotice
  rw [act_live _ hl, if_pos h]
  rfl

theorem laneStopped_joins {p : Part} {l : LaneId} {w : Wash} (hl : p.lane l = some w) (h : w.holds.get .inhibit = false) :
    p.laneStopped l = p.join l .inhibit := by
  have out : w.holds.inhibit = false := h
  unfold Part.laneStopped
  rw [hl]
  dsimp only
  rw [out]
  rfl

/-! ### Channels on their way, whatever they are commanded (R123) -/

/-- The channel rests nowhere: UNKNOWN or in travel. -/
def OnItsWay (x : ChannelState) : Prop := x = .unknown ∨ x.inTravel = true

theorem startTravel_onItsWay {p : Part} {ch d : ChannelId} (pos : Position) (h : OnItsWay (p.channel d).state) :
    OnItsWay ((p.startTravel ch pos).channel d).state := by
  by_cases hd : d = ch
  · subst hd
    rw [startTravel_channel]
    right
    cases pos <;> rfl
  · rwa [startTravel_channel_ne p hd]

theorem completeAt_onItsWay {p : Part} {ch d : ChannelId} (pos : Position) {x : ChannelState}
    (hx : OnItsWay (p.channel ch).state → OnItsWay x) (h : OnItsWay (p.channel d).state) :
    OnItsWay ((p.completeAt ch pos x).channel d).state := by
  unfold Part.completeAt
  by_cases hd : d = ch
  · subst hd
    rw [channel_putChannel]
    exact hx h
  · rwa [channel_putChannel_ne p hd]

theorem command_onItsWay {p : Part} {d : ChannelId} (ch : ChannelId) (pos : Position) (h : OnItsWay (p.channel d).state) :
    OnItsWay ((p.command ch pos).1.channel d).state := by
  have rests : ∀ {x : ChannelState} (y : ChannelState), x ≠ .unknown → x.inTravel = false → OnItsWay x → OnItsWay y :=
    fun _ known still way => way.elim (fun e => absurd e known) fun e => absurd e (by simp [still])
  have travels := startTravel_onItsWay (ch := ch) pos h
  unfold Part.command
  dsimp only
  cases hs : (p.channel ch).state with
  | fault c => exact h
  | unknown => exact travels
  | closed =>
    cases pos with
    | opened => exact travels
    | closed => exact completeAt_onItsWay _ (by rw [hs]; exact id) h
  | opened =>
    cases pos with
    | opened => exact completeAt_onItsWay _ (by rw [hs]; exact id) h
    | closed => exact travels
  | opening e t =>
    cases pos with
    | opened => exact completeAt_onItsWay _ (by rw [hs]; exact id) h
    | closed => exact travels
  | closing e t =>
    cases pos with
    | opened => exact travels
    | closed => exact completeAt_onItsWay _ (by rw [hs]; exact id) h
  | stopped =>
    have still := fun y => rests (x := .stopped) y (by simp) rfl
    cases pos <;> dsimp only <;> split
    · exact completeAt_onItsWay _ (by rw [hs]; exact still _) h
    · exact travels
    · exact completeAt_onItsWay _ (by rw [hs]; exact still _) h
    · exact travels

theorem commandRole_onItsWay {p : Part} {d : ChannelId} (f : FilterId) (r : Role) (pos : Position)
    (h : OnItsWay (p.channel d).state) : OnItsWay ((p.commandRole f r pos).1.channel d).state := by
  unfold Part.commandRole
  split
  · exact command_onItsWay _ pos h
  · exact h

theorem commandAll_onItsWay (l : LaneId) (f : FilterId) (pos : Position) (d : ChannelId) (roles : List Role) :
    ∀ p : Part, OnItsWay (p.channel d).state → OnItsWay ((commandAll p l f roles pos).channel d).state := by
  unfold commandAll
  induction roles with
  | nil => exact fun _ h => h
  | cons r roles ih =>
    intro p h
    have step := commandRole_onItsWay f r pos h
    rw [List.foldl_cons]
    refine ih _ ?_
    dsimp only
    split
    · have ke : OnlyChanges [.events] (p.commandRole f r pos).1
          ((p.commandRole f r pos).1.raiseOnce (.roleFault l r)) := by simp
      rw [channel_kept ke (by simp)]
      exact step
    · exact step

theorem orderRoles_onItsWay {p : Part} {d : ChannelId} (l : LaneId) (f : FilterId) (roles : List Role) (pos : Position)
    (h : OnItsWay (p.channel d).state) : OnItsWay ((p.orderRoles l f roles pos).channel d).state := by
  have noted : OnlyChanges [.lanes] p (p.modWash l fun w => { w with targets := orderedTargets w.targets roles pos }) := by
    simp
  rw [← channel_kept noted (by simp)] at h
  rw [orderRoles_eq]
  dsimp only
  split
  · exact h
  · exact commandAll_onItsWay l f pos d roles _ h

theorem join_onItsWay {p : Part} {l : LaneId} {w : Wash} {c : HoldCause} (hc : CanHold p l w c) {d : ChannelId}
    (h : OnItsWay (p.channel d).state) : OnItsWay ((p.join l c).channel d).state := by
  obtain ⟨lane, holdable, unheld, out⟩ := hc
  have released : OnlyChanges ([Piece.lanes] ++ handing) p ((holdNoted p l w c).releaseAll l) := by unfold holdNoted; simp
  have told : OnlyChanges reporting (heldQuiet p l w c) (p.enterHeld l w c) := by rw [enterHeld_eq]; simp
  rw [join_first lane holdable unheld out, channel_kept told (by simp)]
  rw [← channel_kept released (by simp)] at h
  exact orderRoles_onItsWay l w.filter _ _ h

/-! ### A drift (R123) -/

theorem reorderRole_of {p : Part} {l : LaneId} {w : Wash} {r : Role} {pos : Position} (hl : p.lane l = some w)
    (ht : w.targets.get r = some pos) (f : FilterId) : p.reorderRole l f r = p.orderRoles l f [r] pos := by
  unfold Part.reorderRole
  rw [hl, Option.bind_some, ht]

theorem perRole_set_get {α : Type} (x : PerRole α) (r : Role) : x.set r (x.get r) = x := by cases r <;> rfl

/-- A role commanded to its target again: the record stands. -/
theorem reorderRole_lane {p : Part} {l : LaneId} {w : Wash} {r : Role} {pos : Position} (hl : p.lane l = some w)
    (ht : w.targets.get r = some pos) (f : FilterId) : (p.reorderRole l f r).lane l = some w := by
  have same : orderedTargets w.targets [r] pos = w.targets := by
    unfold orderedTargets
    rw [List.foldl_cons, List.foldl_nil, ← ht, perRole_set_get]
  rw [reorderRole_of hl ht, orderRoles_lane hl, same]

theorem roleHome_onItsWay {p : Part} {w : Wash} {r : Role} {ch : ChannelId} (hm : p.mapped w.filter r = some ch)
    (h : OnItsWay (p.channel ch).state) : p.roleHome w r = false := by
  unfold Part.roleHome
  split
  next pos _ =>
    rw [Bool.eq_false_iff, ne_eq, inPosition_iff]
    rintro ⟨d, hd, rests⟩
    rw [hm, Option.some.injEq] at hd
    subst hd
    rcases rests with ⟨-, e⟩ | ⟨-, e⟩ <;> rw [e] at h <;> rcases h with h | h <;> cases h
  next => rfl

theorem settleDrift_away {p : Part} {l : LaneId} {w : Wash} {r : Role} (hl : p.lane l = some w)
    (h : p.roleHome w r = false) : p.settleDrift l r = p := by
  unfold Part.settleDrift
  rw [hl]
  dsimp only
  rw [if_neg (by simp [h])]

/-- The record of a lane with one more drifted role. -/
def driftedWash (w : Wash) (r : Role) : Wash := { w with drifted := w.drifted.set r true }

theorem laneDrift_of {p : Part} {l : LaneId} {w : Wash} {r : Role} {pos : Position} (hl : p.lane l = some w)
    (ht : w.targets.get r = some pos) (hs : w.state.holdable = true) : p.laneDrift l r =
      (((p.putLane l (some (driftedWash w r))).join l .valve).reorderRole l w.filter r).settleDrift l r := by
  unfold Part.laneDrift
  rw [hl]
  dsimp only
  rw [ht, if_neg (by simp), if_pos hs]
  rfl

/-- A role of a held lane keeps a target when AIR and BWW are to be closed. -/
theorem heldWash_target (w : Wash) (clock : Nat) (causes : List HoldCause) {r : Role} {pos : Position}
    (h : w.targets.get r = some pos) : ∃ pos', (heldWash w clock causes).targets.get r = some pos' := by
  have others : r ≠ .air → r ≠ .bww → (heldWash w clock causes).targets.get r = w.targets.get r := fun air bww => by
    show ((w.targets.set .air (some .closed)).set .bww (some .closed)).get r = _
    rw [perRole_get_set_ne _ bww, perRole_get_set_ne _ air]
  by_cases air : r = .air
  · exact ⟨.closed, by subst air; rfl⟩
  by_cases bww : r = .bww
  · exact ⟨.closed, by subst bww; rfl⟩
  exact ⟨pos, (others air bww).trans h⟩

/-- More of the same hold: the lane's record stands, and only valves have moved. -/
theorem holdBeganBy_after {p q r : Part} {l : LaneId} {w : Wash} {causes : List HoldCause}
    (h : HoldBeganBy p q l w causes) (k : OnlyChanges [.lanes, .channels, .events] q r) (others : OtherLaneKept q r l)
    (lane : r.lane l = q.lane l) : HoldBeganBy p r l w causes where
  frame := onlyChanges_trans h.frame (onlyChanges_mono k (by simp))
  others m hm := (others m hm).trans (h.others m hm)
  lane := lane.trans h.lane
  units := holdsNoUnit_kept k (by simp) (by simp) (by simp) h.units
  ground := sameGround_trans h.ground (sameGround_kept k (by simp))
  told := (link_kept k (by simp)).trans h.told

theorem laneDrift_began {p : Part} {l : LaneId} {w : Wash} {r : Role} {pos : Position} {ch : ChannelId}
    (h : CanHold p l w .valve) (ht : w.targets.get r = some pos) (hm : p.mapped w.filter r = some ch)
    (hs : (p.channel ch).state = .unknown) :
    HoldBeganBy (p.putLane l (some (driftedWash w r))) (p.laneDrift l r) l (driftedWash w r) [.valve] := by
  obtain ⟨lane, holdable, unheld, out⟩ := h
  have can : CanHold (p.putLane l (some (driftedWash w r))) l (driftedWash w r) .valve :=
    ⟨lane_putLane p l _, holdable, unheld, out⟩
  have way : OnItsWay (((p.putLane l (some (driftedWash w r))).join l .valve).channel ch).state := join_onItsWay can (.inl hs)
  have began := join_began can
  obtain ⟨pos', target⟩ := heldWash_target (driftedWash w r) (p.putLane l (some (driftedWash w r))).startUp.clock [.valve]
    (r := r) ht
  have orders := orderRoles_onItsWay l w.filter [r] pos' way
  rw [← reorderRole_of began.lane target] at orders
  have k : OnlyChanges [.lanes, .channels, .events] ((p.putLane l (some (driftedWash w r))).join l .valve)
      (((p.putLane l (some (driftedWash w r))).join l .valve).reorderRole l w.filter r) := by simp
  have whole := holdBeganBy_after began k (by rw [reorderRole_of began.lane target]; exact orderRoles_other _ _ _ _ _)
    ((reorderRole_lane began.lane target _).trans began.lane.symm)
  have mapped : (((p.putLane l (some (driftedWash w r))).join l .valve).reorderRole l w.filter r).mapped w.filter r =
      some ch := (mapped_kept whole.frame (by simp) _ _).trans hm
  rw [laneDrift_of lane ht holdable, settleDrift_away whole.lane (roleHome_onItsWay mapped orders)]
  exact whole

/-! ### The rows -/

theorem notices_enterHeld : NoticesEnterHeld := by
  intro s l w rec r ph hw
  have phase : s.part.phaseNow w = ph := washesBy_phase hw
  refine ⟨fun ho can holds => ?_, fun ho can holds => ?_, fun u n news ho can lost => ?_, fun u ho can unit lost => ?_,
    fun u ho can unit lost => ?_, fun live first can => ?_, fun role ch pos ho can target mapped unknown => ?_⟩
  · exact ⟨_, (exec_lanePointChange l .tank s).trans (takeEvent_outstanding _ ho), rfl,
      holdBegan_taking (testCause_began (p := taking s.part _) can phase holds)⟩
  · exact ⟨_, (exec_lanePointChange l .basin s).trans (takeEvent_outstanding _ ho), rfl,
      holdBegan_taking (testCause_began (p := taking s.part _) can phase holds)⟩
  · have joins : (taking s.part (.laneUnitNews l u n)).laneNews l n =
        (taking s.part (.laneUnitNews l u n)).join l .equipment := by
      obtain ⟨lane, -⟩ := can
      have tests := joinIf_joins (p := taking s.part (.laneUnitNews l u n)) lane
        ((joins_iff (p := taking s.part _) phase .equipment).2 (causeHolds_equipment lost))
      cases n with
      | available => exact absurd rfl news
      | failed => exact tests
      | locked => exact tests
    refine ⟨_, (exec_laneUnitNotice l u n s).trans (takeEvent_outstanding _ ho), rfl, ?_⟩
    dsimp only
    rw [joins]
    exact holdBegan_taking (join_began (p := taking s.part _) can)
  · obtain ⟨lane, holdable, -⟩ := id can
    have drops := beforeHold_putLane s.part (.tripped l u) l (samePhase_dropUnit w u) (dropUnit_holds w u)
      (dropUnit_holdCount w u)
    have began := join_began (canHold_dropUnit (p := taking s.part (.tripped l u)) can u)
    have phase' : ((taking s.part (.tripped l u)).putLane l (some (w.dropUnit u))).phaseNow (w.dropUnit u) = ph :=
      (phaseNow_samePhase (samePhase_dropUnit w u) _).trans phase
    refine ⟨_, (exec_laneUnitTripped l u s).trans (takeEvent_outstanding _ ho), rfl, ?_⟩
    dsimp only
    rw [laneTripped_of (p := taking s.part _) lane unit holdable,
      leaveIf_began began phase' (causeHolds_equipment lost), resumeIfClear_began began (List.mem_singleton_self _)]
    exact holdBegan_before drops began (by simp)
  · obtain ⟨lane, holdable, -⟩ := id can
    have drops := beforeHold_putLane s.part (.proveFailed l u) l (samePhase_dropUnit w u) (dropUnit_holds w u)
      (dropUnit_holdCount w u)
    refine ⟨_, (exec_laneProveFailed l u s).trans (takeEvent_outstanding _ ho), rfl, ?_⟩
    dsimp only
    rw [laneProveFailed_lost (p := taking s.part _) lane unit holdable (kindLost_unusable lost)]
    exact holdBegan_before drops (join_began (canHold_dropUnit (p := taking s.part _) can u)) (by simp)
  · obtain ⟨lane, -, -, out⟩ := id can
    refine ⟨_, (exec_laneStopAsserted l s).trans (takeStopNotice_first _ live first), rfl, ?_⟩
    dsimp only
    rw [laneStopped_joins (p := taking s.part _) lane out]
    exact holdBegan_taking (join_began (p := taking s.part _) can)
  · have drifts := beforeHold_putLane s.part (.roleDrift l role) l (w := w) (w' := driftedWash w role)
      ⟨rfl, rfl, rfl, rfl, rfl, rfl, rfl, rfl⟩ rfl rfl
    have began := laneDrift_began (p := taking s.part (.roleDrift l role)) can target mapped unknown
    exact ⟨_, (exec_laneRoleDrift l role s).trans (takeEvent_outstanding _ ho), rfl,
      holdBegan_before drifts began (by simp), _, began.lane, perRole_get_set _ _ _⟩

end Sys2Proof.Laws
end

section
/-! SUPPORT. The end of a phase before the last, the entry of the next (R107, R111), and a hold at its entry (R116). -/

namespace Sys2Proof.Laws

open Sys2Proof.Machine

/-! ### The next phase taken up (R111) -/

/-- The ripen-timeout flag after a phase that has ended so (R112). -/
def timedOut (w : Wash) (ph : Phase) (how : PhaseEnd) : Bool := w.ripenTimeout || (ph.kind == .ripen && how == .time)

theorem timedOut_time (w : Wash) (ph : Phase) : timedOut w ph .time = (w.ripenTimeout || decide (ph.kind = .ripen)) := by
  unfold timedOut
  rw [show (PhaseEnd.time == PhaseEnd.time) = true from rfl, Bool.and_true]
  rfl

theorem timedOut_confirmed (w : Wash) (ph : Phase) : timedOut w ph .confirmed = w.ripenTimeout := by
  unfold timedOut
  rw [show (PhaseEnd.confirmed == PhaseEnd.time) = false from rfl, Bool.and_false, Bool.or_false]

/-- The amounts at the start of the phase after the present one (R113). -/
def amountsNext (w : Wash) (rec : FilterRecord) (r : Recipe) (ph' : Phase) : Share :=
  ⟨waterLeft rec.cfg.area r.phases (w.phase + 1) ph' 0, wasteLeft rec.cfg.area r.phases (w.phase + 1) ph' 0⟩

/-- The record at the start of the phase after the present one, its amounts still to follow. -/
def nextWash (w : Wash) (timeout : Bool) : Wash :=
  { w with phase := w.phase + 1, elapsed := 0, confirm := 0, ripenTimeout := timeout }

/-- The part with the next phase taken up, still to be entered. -/
def nextTaken (p : Part) (l : LaneId) (w : Wash) (rec : FilterRecord) (r : Recipe) (ph' : Phase) (timeout : Bool) : Part :=
  ((p.dropRun l).putLane l (some (nextWash w timeout))).putAmounts l (amountsNext w rec r ph')

/-- The record once the next phase is taken up. -/
def takenWash (w : Wash) (rec : FilterRecord) (r : Recipe) (ph' : Phase) (timeout : Bool) : Wash :=
  withAmounts (nextWash w timeout) (amountsNext w rec r ph')

theorem nextTaken_only (p : Part) (l : LaneId) (w : Wash) (rec : FilterRecord) (r : Recipe) (ph' : Phase) (timeout : Bool) :
    OnlyChanges [.lanes, .events, .shares, .scanDue] p (nextTaken p l w rec r ph' timeout) := by
  unfold nextTaken; simp

theorem nextTaken_parts (p : Part) (l : LaneId) (w : Wash) (rec : FilterRecord) (r : Recipe) (ph' : Phase) (timeout : Bool) :
    (nextTaken p l w rec r ph' timeout).lane l = some (takenWash w rec r ph' timeout) ∧
    OtherLaneKept p (nextTaken p l w rec r ph' timeout) l ∧
    (nextTaken p l w rec r ph' timeout).sched.shares = p.sched.shares.set l (amountsNext w rec r ph') := by
  obtain ⟨lane, others, shares⟩ :=
    putAmounts_parts (lane_putLane (p.dropRun l) l (some (nextWash w timeout))) (amountsNext w rec r ph')
  exact ⟨lane, fun m hm => (others m hm).trans (lane_putLane_ne _ hm _), shares⟩

section Next
variable {p : Part} {l : LaneId} {w : Wash} {rec : FilterRecord} {r : Recipe} {ph ph' : Phase} (hw : WashesBy p l w rec r ph)
include hw

theorem endRunning_of (hs : w.state = .running) (how : PhaseEnd) : p.endRunning l how = p.endPhase l how := by
  obtain ⟨lane, -⟩ := hw
  unfold Part.endRunning
  rw [lane]
  exact if_pos hs

theorem endPhase_next (hn : w.phase < r.phases.length) (hph : r.phases[w.phase]? = some ph') (how : PhaseEnd) :
    p.endPhase l how = (nextTaken p l w rec r ph' (timedOut w ph how)).enterPhase l (some (some how)) := by
  have phase : (p.dropRun l).phaseNow w = ph := washesBy_phase hw
  obtain ⟨lane, filter, recipe, -⟩ := hw
  have phases : (p.dropRun l).phasesOf w.slot = r.phases := phasesOf_of recipe
  have area : (p.dropRun l).areaOf w.filter = rec.cfg.area := areaOf_of filter
  unfold Part.endPhase
  rw [lane]
  dsimp only
  rw [phase, phases, area, if_pos hn, remaining_of (ps := r.phases) (c := w.phase + 1) hph]
  rfl

/-- The next phase is the present one of the part that has taken it up. -/
theorem nextTaken_phase (hph : r.phases[w.phase]? = some ph') (timeout : Bool) :
    (nextTaken p l w rec r ph' timeout).phaseNow (takenWash w rec r ph' timeout) = ph' := by
  obtain ⟨-, -, recipe, -⟩ := hw
  exact phaseNow_of ((recipe_kept (nextTaken_only p l w rec r ph' timeout) (by simp) _).trans recipe) hph

end Next

/-! ### The head of phase entry (R107 steps 1 and 2) -/

/-- The record without the units of kinds that the phase does not need. -/
def keepNeeded (k : PhaseKind) (w : Wash) : Wash :=
  { w with
    pump := if (neededKinds k).contains .pump then w.pump else none
    blower := (neededKinds k).contains .blower && w.blower }

/-- The record of a lane at phase entry, when the causes are tested. -/
def headWash (k : PhaseKind) (w : Wash) : Wash := keepNeeded k { w with state := .acquiring, confirm := 0 }

theorem headWash_samePhase (k : PhaseKind) (w : Wash) : SamePhase w (headWash k w) := ⟨rfl, rfl, rfl, rfl, rfl, rfl, rfl, rfl⟩

theorem dropUnits_pump (w : Wash) : (w.dropUnit .p1).dropUnit .p2 = { w with pump := none } := by
  cases hp : w.pump with
  | none =>
    simp only [Wash.dropUnit, hp, reduceCtorEq, if_false]
    rw [← hp]
  | some x => cases x <;> simp [Wash.dropUnit, hp]

theorem releaseUnit_dropped {p : Part} {l : LaneId} {w : Wash} (h : p.lane l = some w) (u : UnitId) :
    ((p.releaseUnit l u).modWash l fun w => w.dropUnit u).lane l = some (w.dropUnit u) := by
  have same : (p.releaseUnit l u).lane l = some w := by
    unfold Part.lane
    rw [releaseUnit_lanes]
    exact h
  rw [modWash_of same]
  exact lane_putLane _ l _

theorem releasePumps_lane {p : Part} {l : LaneId} {w : Wash} (h : p.lane l = some w) :
    (p.releaseKind l .pump).lane l = some { w with pump := none } := by
  rw [← dropUnits_pump]
  exact releaseUnit_dropped (releaseUnit_dropped h .p1) .p2

theorem releaseBlower_lane {p : Part} {l : LaneId} {w : Wash} (h : p.lane l = some w) :
    (p.releaseKind l .blower).lane l = some { w with blower := false } := releaseUnit_dropped h .bl

theorem releaseUnneeded_lane {p : Part} {l : LaneId} {w : Wash} (h : p.lane l = some w) (k : PhaseKind) :
    (p.releaseUnneeded l k).lane l = some (keepNeeded k w) := by
  cases k with
  | drain => exact releaseBlower_lane (releasePumps_lane h)
  | air => exact releasePumps_lane h
  | airWater => exact h
  | water => exact releaseBlower_lane h
  | rest => exact releaseBlower_lane (releasePumps_lane h)
  | ripen => exact releaseBlower_lane (releasePumps_lane h)

section Head
variable {p : Part} {l : LaneId} {w : Wash} {ph : Phase}

/-- The report of phase entry, at the two moments that have one. -/
def entryReports (l : LaneId) (w : Wash) (ph : Phase) : Option (Option PhaseEnd) → List ReportBody
  | some prev => [.phase l w.filter w.phase ph.kind ph.duration prev w.remWater w.remWaste]
  | none => []

/-- R107 step 1: the phase noted, and reported at the two moments that report it. -/
def headTold (p : Part) (l : LaneId) (w : Wash) (report : Option (Option PhaseEnd)) : Part :=
  match report with
  | some prev => (p.putLane l (some { w with state := .acquiring, confirm := 0 })).report
      (.phase l w.filter w.phase (p.phaseNow w).kind (p.phaseNow w).duration prev w.remWater w.remWaste)
  | none => p.putLane l (some { w with state := .acquiring, confirm := 0 })

theorem enterHead_eq (report : Option (Option PhaseEnd)) :
    enterHead p l w report = (headTold p l w report).releaseUnneeded l (p.phaseNow w).kind := by
  cases report <;> rfl

theorem headTold_lanes (report : Option (Option PhaseEnd)) :
    (headTold p l w report).lane l = some { w with state := .acquiring, confirm := 0 } ∧
    OtherLaneKept p (headTold p l w report) l := by
  cases report <;> exact ⟨lane_putLane p l _, fun _ hm => lane_putLane_ne p hm _⟩

theorem headTold_only (report : Option (Option PhaseEnd)) :
    OnlyChanges ([Piece.lanes] ++ reporting) p (headTold p l w report) := by
  unfold headTold
  cases report <;> simp

theorem headTold_told (report : Option (Option PhaseEnd)) :
    Reports p (headTold p l w report) (entryReports l w (p.phaseNow w) report) := by
  cases report <;> rfl

theorem releaseUnneeded_only (p : Part) (l : LaneId) (k : PhaseKind) :
    OnlyChanges ([Piece.lanes] ++ handing) p (p.releaseUnneeded l k) := by simp

theorem enterHead_only (report : Option (Option PhaseEnd)) : OnlyChanges laneWork p (enterHead p l w report) := by
  rw [enterHead_eq]
  exact onlyChanges_trans (onlyChanges_mono (headTold_only report) (by simp))
    (onlyChanges_mono (releaseUnneeded_only _ _ _) (by simp))

theorem enterHead_lane (hph : p.phaseNow w = ph) (report : Option (Option PhaseEnd)) :
    (enterHead p l w report).lane l = some (headWash ph.kind w) := by
  rw [enterHead_eq, hph]
  exact releaseUnneeded_lane (headTold_lanes report).1 _

theorem enterHead_others (report : Option (Option PhaseEnd)) : OtherLaneKept p (enterHead p l w report) l := by
  intro m hm
  rw [enterHead_eq]
  exact ((releaseUnneeded_working _ l _).1 m hm).trans ((headTold_lanes report).2 m hm)

theorem enterHead_ground (report : Option (Option PhaseEnd)) : SameGround p (enterHead p l w report) := by
  refine sameGround_of (enterHead_only report) (by simp) ?_
  rw [enterHead_eq]
  exact sameUsable_trans (sameUsable_kept (headTold_only report) (by simp)) (releaseUnneeded_usable _ l _)

theorem enterHead_told (hph : p.phaseNow w = ph) (report : Option (Option PhaseEnd)) :
    Reports p (enterHead p l w report) (entryReports l w ph report) := by
  rw [enterHead_eq, ← hph]
  exact (link_kept (releaseUnneeded_only _ _ _) (by simp)).trans (headTold_told report)

theorem enterHead_before (k : PhaseKind) (report : Option (Option PhaseEnd)) :
    BeforeHold p (enterHead p l w report) l w (headWash k w) :=
  ⟨enterHead_others report, headWash_samePhase k w, rfl, rfl, clock_same (enterHead_ground report)⟩

end Head

/-! ### A hold at phase entry (R107 step 3) -/

/-- The causes tested at phase entry, in their order. -/
abbrev entryCauses : List HoldCause := [.inhibit, .water, .waste, .equipment]

theorem enterTail_held {p : Part} {l : LaneId} {w : Wash} {causes : List HoldCause}
    (h : HoldBeganBy p (entryCauses.foldl (fun p c => p.joinIf l c) p) l w causes) :
    enterTail p l = entryCauses.foldl (fun p c => p.joinIf l c) p := by
  have lane : ((((p.joinIf l .inhibit).joinIf l .water).joinIf l .waste).joinIf l .equipment).lane l =
      some (heldWash w p.startUp.clock causes) := h.lane
  unfold enterTail
  dsimp only
  rw [lane]
  dsimp only
  rw [if_neg (by simp [heldWash])]
  rfl

theorem enterPhase_began {p : Part} {l : LaneId} {w : Wash} {ph : Phase} {causes : List HoldCause} (hl : p.lane l = some w)
    (hph : p.phaseNow w = ph) (hw : w.holds = HoldSet.empty) (hc : CausesAre p ph entryCauses causes) (hne : causes ≠ [])
    (report : Option (Option PhaseEnd)) :
    HoldBeganBy (enterHead p l w report) (p.enterPhase l report) l (headWash ph.kind w) causes := by
  have ground : SameGround p (enterHead p l w report) := enterHead_ground report
  have phase : (enterHead p l w report).phaseNow (headWash ph.kind w) = ph :=
    (phaseNow_same ground _).trans ((phaseNow_samePhase (headWash_samePhase ph.kind w) p).trans hph)
  have causes' : CausesAre (enterHead p l w report) ph entryCauses causes :=
    ⟨hc.1, fun c h => (hc.2 c h).trans (causeHolds_same ground ph c).symm⟩
  have began := testAll_began (enterHead_lane hph report) phase rfl rfl hw (by decide) causes' hne
  rw [enterPhase_of hl, enterTail_held began]
  exact began

/-- R111, R116: the next phase is taken up, reported, and held at its entry. -/
theorem endRunning_held {p : Part} {l : LaneId} {w : Wash} {rec : FilterRecord} {r : Recipe} {ph ph' : Phase}
    {causes : List HoldCause} (hw : WashesBy p l w rec r ph) (hs : w.state = .running) (hh : w.holds = HoldSet.empty)
    (hn : w.phase < r.phases.length) (hph : r.phases[w.phase]? = some ph') (hc : CausesAre p ph' entryCauses causes)
    (hne : causes ≠ []) (how : PhaseEnd) {w' : Wash} (same : SamePhase w' (takenWash w rec r ph' (timedOut w ph how)))
    (holds : w'.holds = HoldSet.empty) (count : w'.holdCount = w.holdCount) :
    OnlyChanges phaseEnding p (p.endRunning l how) ∧ HeldBy p (p.endRunning l how) l w' causes ∧
    Reports p (p.endRunning l how) (.phase l w'.filter w'.phase ph'.kind ph'.duration (some how) w'.remWater w'.remWaste ::
      heldReports p l w' HoldSet.empty true causes) := by
  have k := nextTaken_only p l w rec r ph' (timedOut w ph how)
  obtain ⟨lane, others, -⟩ := nextTaken_parts p l w rec r ph' (timedOut w ph how)
  have phase := nextTaken_phase hw hph (timedOut w ph how)
  have ground : SameGround p (nextTaken p l w rec r ph' (timedOut w ph how)) := sameGround_kept k (by simp)
  have causes' : CausesAre (nextTaken p l w rec r ph' (timedOut w ph how)) ph' entryCauses causes :=
    ⟨hc.1, fun c h => (hc.2 c h).trans (causeHolds_same ground ph' c).symm⟩
  have began := enterPhase_began lane phase hh causes' hne (some (some how))
  have head := enterHead_before (p := nextTaken p l w rec r ph' (timedOut w ph how)) (l := l)
    (w := takenWash w rec r ph' (timedOut w ph how)) ph'.kind (some (some how))
  have before : BeforeHold p (enterHead (nextTaken p l w rec r ph' (timedOut w ph how)) l
      (takenWash w rec r ph' (timedOut w ph how)) (some (some how))) l w'
      (headWash ph'.kind (takenWash w rec r ph' (timedOut w ph how))) :=
    ⟨fun m hm => (head.others m hm).trans (others m hm), samePhase_trans same head.same, hh.trans holds.symm,
      count.symm, head.clock.trans (clock_same ground)⟩
  have entry := enterHead_told (l := l) phase (some (some how))
  have told := reports_trans (reports_trans (reports_none (link_kept k (by simp))) (k .clock (by simp)) entry) before.clock
    began.told
  rw [heldReports_before before] at told
  obtain ⟨filter, -, index, -, water, waste, -⟩ := same
  refine ⟨by simp, ?_, ?_⟩
  · rw [endRunning_of hw hs, endPhase_next hw hn hph]
    exact heldBy_before before began
  · rw [endRunning_of hw hs, endPhase_next hw hn hph, ← filter, ← index, ← water, ← waste]
    rw [show (headWash ph'.kind (takenWash w rec r ph' (timedOut w ph how))).holds = HoldSet.empty from hh] at told
    exact told

theorem phaseEntry_entersHeld : PhaseEntryEntersHeld := by
  intro s l w rec r ph ph' causes hw hs hh hn hph hc hne
  refine ⟨fun ho => ⟨_, (exec_phaseTimeEnd l s).trans (takeEvent_outstanding _ ho), rfl, ?_⟩,
    fun ho => ⟨_, (exec_ripenConfirmed l s).trans (takeEvent_outstanding _ ho), rfl, ?_⟩⟩
  · obtain ⟨k, held, told⟩ := endRunning_held (p := taking s.part (.phaseTimeEnd l)) hw hs hh hn hph hc hne .time
      (w' := { w with
        phase := w.phase + 1
        elapsed := 0
        remWater := waterLeft rec.cfg.area r.phases (w.phase + 1) ph' 0
        remWaste := wasteLeft rec.cfg.area r.phases (w.phase + 1) ph' 0
        ripenTimeout := w.ripenTimeout || decide (ph.kind = .ripen) })
      ⟨rfl, rfl, rfl, rfl, rfl, rfl, rfl, timedOut_time w ph⟩ hh rfl
    rw [heldReports_before (beforeHold_taking s.part _ l _)] at told
    exact ⟨from_taking (by simp) k, held, told⟩
  · obtain ⟨k, held, told⟩ := endRunning_held (p := taking s.part (.ripenConfirmed l)) hw hs hh hn hph hc hne .confirmed
      (w' := { w with
        phase := w.phase + 1
        elapsed := 0
        remWater := waterLeft rec.cfg.area r.phases (w.phase + 1) ph' 0
        remWaste := wasteLeft rec.cfg.area r.phases (w.phase + 1) ph' 0
        ripenTimeout := w.ripenTimeout })
      ⟨rfl, rfl, rfl, rfl, rfl, rfl, rfl, timedOut_confirmed w ph⟩ hh rfl
    rw [heldReports_before (beforeHold_taking s.part _ l _)] at told
    exact ⟨from_taking (by simp) k, held, told⟩

end Sys2Proof.Laws
end

section
/-! SUPPORT. An accepted plant record beside one lane at work, and the hold that it can bring (R116). -/

namespace Sys2Proof.Laws

open Sys2Proof.Machine

/-! ### The lane's part in the record -/

/-- INHIBIT leaves at a release of STOP that was seen, with automatic resume (R118). -/
def inhibitLeaves (p : Part) (w : Wash) : Wash :=
  if w.holds.inhibit && w.releaseSeen && p.plant.autoResume && !p.stopAsserted then
    { w with holds := w.holds.set .inhibit false, releaseSeen := false }
  else w

theorem inhibitLeaves_unseen {w : Wash} (h : w.releaseSeen = false) (p : Part) : inhibitLeaves p w = w := by
  unfold inhibitLeaves
  rw [if_neg (by simp [h])]

theorem lanePlant_eq (p : Part) (l : LaneId) : p.lanePlant l =
    let q := ((((p.joinIf l .water).joinIf l .waste).leaveIf l .water).leaveIf l .waste)
    (q.modWash l (inhibitLeaves q)).resumeIfClear l := rfl

theorem leaveIf_other (p : Part) (l : LaneId) (c : HoldCause) : OtherLaneKept p (p.leaveIf l c) l := by
  cases h : p.lane l with
  | none => unfold Part.leaveIf; rw [h]; exact fun _ _ => rfl
  | some w =>
    by_cases leaves : w.holds.get c = true ∧ p.clears w c = true
    · rw [leaveIf_leaves h leaves.1 leaves.2]; exact fun m hm => lane_putLane_ne p hm _
    · rw [leaveIf_stays h (by simpa [← Bool.not_eq_true, ← not_and_or] using leaves)]; exact fun _ _ => rfl

theorem modWash_other (p : Part) (l : LaneId) (g : Wash → Wash) : OtherLaneKept p (p.modWash l g) l := by
  intro m hm
  unfold Part.modWash
  split
  · exact lane_putLane_ne p hm _
  · rfl

theorem resumeIfClear_other (p : Part) (l : LaneId) : OtherLaneKept p (p.resumeIfClear l) l := by
  unfold Part.resumeIfClear
  split
  · exact fun _ _ => rfl
  · split
    · split
      · exact fun m hm => (enterPhase_other _ l none m hm).trans (lane_putLane_ne p hm _)
      · exact fun _ _ => rfl
    · exact fun _ _ => rfl

theorem lanePlant_other (p : Part) (l : LaneId) : OtherLaneKept p (p.lanePlant l) l := by
  intro m hm
  rw [lanePlant_eq]
  dsimp only
  rw [resumeIfClear_other _ l m hm, modWash_other _ l _ m hm, leaveIf_other _ l _ m hm, leaveIf_other _ l _ m hm,
    (joinIf_working _ l _).1 m hm, (joinIf_working _ l _).1 m hm]

/-! ### One lane at work -/

section OneLane
variable {p : Part} {x : PlantRecord} (polarity : x.polarity = p.plant.polarity)
include polarity

/-- No reading changes where the polarity stands. -/
theorem repolarised_same :
    allUnits.foldl (fun q u => q.repolarise (readings p) u) (plantLoaded p x) = plantLoaded p x := by
  have plant : (plantLoaded p x).plant = x := loaded_from_derived p x .plant (by simp)
  refine foldl_stays (fun u => repolarise_same ?_) _
  have same : (plantLoaded p x).feedback u = p.feedback u := by
    unfold Part.feedback
    rw [plant, polarity, unit_kept (plantLoaded_only p x) (by simp)]
  rw [same]
  cases u <;> rfl

theorem plantActed_oneLane {l : LaneId} (idle : ∀ m, m ≠ l → p.lane m = none) :
    plantActed p x = (plantLoaded p x).lanePlant l := by
  have loaded : ∀ m, m ≠ l → (plantLoaded p x).lane m = none := fun m hm =>
    (lane_kept (plantLoaded_only p x) (by simp) m).trans (idle m hm)
  unfold plantActed
  rw [repolarised_same polarity]
  show (((plantLoaded p x).lanePlant .a).lanePlant .b) = _
  cases l with
  | a => exact lanePlant_idle ((lanePlant_other _ .a .b (by decide)).trans (loaded .b (by decide)))
  | b => rw [lanePlant_idle (loaded .a (by decide))]

end OneLane

/-- The part of a command's handling at which the lanes look at the new record. -/
abbrev plantTaken (p : Part) (raw : RawPlant) : Part := plantLoaded p.frameAccepted (plantWritten raw)

theorem plantTaken_ground (p : Part) (raw : RawPlant) :
    SameGround { p with plant := plantWritten raw } (plantTaken p raw) := by
  have k : OnlyChanges ([Piece.silence, .lastAccepted, .events, .plantReceived, .volumes, .flags, .overload] ++ reporting)
      (withPlant p (plantWritten raw)) (plantTaken p raw) :=
    onlyChanges_trans (onlyChanges_mono (withPlant_accepted p _) (by simp))
      (onlyChanges_trans (onlyChanges_mono (derived_from_withPlant _ _) (by simp))
        (onlyChanges_mono (loaded_from_derived _ _) (by simp)))
  exact sameGround_kept k (by simp)

theorem plantTaken_lane (p : Part) (raw : RawPlant) (m : LaneId) : (plantTaken p raw).lane m = p.lane m :=
  (lane_kept (plantLoaded_only _ _) (by simp) m).trans (accepted_lane p m)

theorem plantTaken_clock (p : Part) (raw : RawPlant) : (plantTaken p raw).startUp.clock = p.startUp.clock :=
  (plantLoaded_only _ _ .clock (by simp)).trans (accepted_clock p)

/-- The accepted record beside one lane: what the lane does and reports from the loading computed. -/
theorem setPlant_oneLane {s : State} {raw : RawPlant} {l : LaneId} (h : PlantMeetsLane s raw l) (tag : Byte)
    {bs : List ReportBody} (told : Reports (plantTaken s.part raw) ((plantTaken s.part raw).lanePlant l) bs)
    {now : Part → Prop} (hn : ∀ q, q.plant = plantWritten raw → q.lanes = ((plantTaken s.part raw).lanePlant l).lanes →
      (HoldsNoUnit ((plantTaken s.part raw).lanePlant l) l → HoldsNoUnit q l) → now q) :
    Done s (.setPlant tag raw) replanning (Sys2Proof.plantReports s.part raw ++ bs) .ok .none now := by
  obtain ⟨hc, top, range, free, polarity, idle⟩ := h
  have acted : plantActed s.part.frameAccepted (plantWritten raw) = (plantTaken s.part raw).lanePlant l :=
    plantActed_oneLane (by rw [accepted_plant]; exact polarity) fun m hm => (accepted_lane s.part m).trans (idle m hm)
  have ka := applyPlant_from_acted s.part.frameAccepted (plantWritten raw)
  rw [acted] at ka
  have loading : plantReports s.part.frameAccepted (plantWritten raw) = Sys2Proof.plantReports s.part raw := by
    rw [plantReports_accepted]
    exact if_pos top
  have reports := reports_trans (plantLoaded_reports s.part.frameAccepted (plantWritten raw))
    (plantLoaded_only _ _ .clock (by simp)) told
  rw [loading] at reports
  refine setPlant_done tag hc (by rw [top]; decide) range (fun above => free above.2) ?_ fun q kr => ?_
  · unfold Reports
    rw [applyPlant_link, acted]
    exact reports
  · have k : OnlyChanges ([Piece.silence, .events, .scanDue] ++ reporting) ((plantTaken s.part raw).lanePlant l) q :=
      onlyChanges_trans (onlyChanges_mono ka (by simp)) (onlyChanges_mono kr (by simp))
    exact hn q ((kr .plant (by simp)).trans (applyPlant_plant _ _).1) (k .lanes (by simp))
      (holdsNoUnit_kept k (by simp) (by simp) (by simp))

/-! ### A hold by WATER or WASTE under the new record (R116) -/

theorem modWash_same {p : Part} {l : LaneId} {w : Wash} (hl : p.lane l = some w) {g : Wash → Wash} (hg : g w = w) :
    p.modWash l g = p := by
  rw [modWash_of hl, hg, ← hl]
  unfold Part.putLane Part.lane
  rw [perLane_set_get]

theorem lanePlant_began {p : Part} {l : LaneId} {w : Wash} {ph : Phase} {causes : List HoldCause} (hl : p.lane l = some w)
    (hph : p.phaseNow w = ph) (hs : w.state.holdable = true) (hn : w.state.isHeld = false) (hw : w.holds = HoldSet.empty)
    (hc : CausesAre p ph [.water, .waste] causes) (hne : causes ≠ []) : HoldBeganBy p (p.lanePlant l) l w causes := by
  have began : HoldBeganBy p ((p.joinIf l .water).joinIf l .waste) l w causes :=
    testAll_began (tested := [.water, .waste]) hl hph hs hn hw (by decide) hc hne
  obtain ⟨sub, holds⟩ := hc
  have stays : ∀ c ∈ [HoldCause.water, .waste],
      ((p.joinIf l .water).joinIf l .waste).leaveIf l c = (p.joinIf l .water).joinIf l .waste := by
    intro c hc
    by_cases into : c ∈ causes
    · exact leaveIf_began began hph ((holds c hc).1 into)
    · refine leaveIf_stays began.lane (.inl ?_)
      show (joined w.holds causes).get c = false
      rw [get_joined, hw]
      simp [into]
  obtain ⟨c, some⟩ := List.exists_mem_of_ne_nil _ hne
  rw [lanePlant_eq]
  dsimp only
  rw [stays .water (by simp), stays .waste (by simp), modWash_same began.lane (inhibitLeaves_unseen rfl _),
    resumeIfClear_began began some]
  exact began

theorem plantRecord_entersHeld : PlantRecordEntersHeld := by
  intro s tag raw l w rec r ph causes hp hw hs hn hh hc hne
  have ground := plantTaken_ground s.part raw
  have phase0 : ({ s.part with plant := plantWritten raw } : Part).phaseNow w = ph := washesBy_phase hw
  obtain ⟨lane, -⟩ := hw
  have causes' : CausesAre (plantTaken s.part raw) ph [.water, .waste] causes :=
    ⟨hc.1, fun c h => (hc.2 c h).trans (causeHolds_same ground ph c).symm⟩
  have began := lanePlant_began ((plantTaken_lane s.part raw l).trans lane) ((phaseNow_same ground w).trans phase0) hs hn hh
    causes' hne
  have before : BeforeHold s.part (plantTaken s.part raw) l w w :=
    ⟨fun m _ => plantTaken_lane s.part raw m, samePhase_refl w, rfl, rfl, plantTaken_clock s.part raw⟩
  have told := began.told
  rw [heldReports_before before, hh] at told
  refine setPlant_oneLane hp tag told fun q plant lanes units => ⟨plant, ?_⟩
  obtain ⟨others, ⟨w', lane', held⟩, free⟩ := heldBy_before before began
  have same : ∀ m, q.lane m = ((plantTaken s.part raw).lanePlant l).lane m := fun m => by unfold Part.lane; rw [lanes]
  exact ⟨fun m hm => (same m).trans (others m hm), ⟨w', (same l).trans lane', held⟩, units free⟩

end Sys2Proof.Laws

namespace Sys2Proof

open Laws

/-- Settles O23: each row lets its causes join a lane that no cause holds yet, and none of them clears at once. -/
theorem holdRowsEnterHeld : Obligations.HoldRowsEnterHeld :=
  ⟨notices_enterHeld, phaseEntry_entersHeld, plantRecord_entersHeld⟩

end Sys2Proof
end

section
/-! SUPPORT. The rows that take the last cause from a lane that is HELD, and the resume that follows (R115, R116, R118, R119,
R122, R123). -/

namespace Sys2Proof.Laws

open Sys2Proof.Machine

/-! ### The last cause leaves -/

/-- The record without a cause. -/
def causeGone (w : Wash) (c : HoldCause) : Wash := { w with holds := w.holds.set c false }

theorem causeGone_samePhase (w : Wash) (c : HoldCause) : SamePhase w (causeGone w c) := ⟨rfl, rfl, rfl, rfl, rfl, rfl, rfl, rfl⟩

/-- The lane is HELD by this cause alone. -/
def HeldOnlyBy (w : Wash) (t : Nat) (c : HoldCause) : Prop := w.state = .held t ∧ w.holds = HoldSet.empty.set c true

section Only
variable {w : Wash} {t : Nat} {c : HoldCause} (h : HeldOnlyBy w t c)
include h

theorem heldOnlyBy_get (d : HoldCause) : w.holds.get d = decide (d = c) := by
  obtain ⟨-, holds⟩ := h
  rw [holds, get_set]
  by_cases e : d = c <;> simp [e]

theorem causeGone_empty : (causeGone w c).holds = HoldSet.empty := by
  obtain ⟨-, holds⟩ := h
  show w.holds.set c false = HoldSet.empty
  rw [holds]
  cases c <;> rfl

/-- With its last cause gone, whatever else of the record has moved, the lane resumes. -/
theorem lastGone_resumes {p q : Part} {l : LaneId} {w' : Wash} (lane : q.lane l = some w') (others : OtherLaneKept p q l)
    (same : SamePhase w w') (state : w'.state = w.state) (holds : w'.holds = (causeGone w c).holds)
    (count : w'.holdCount = w.holdCount) (clock : q.startUp.clock = p.startUp.clock) (link : q.link = p.link) :
    Resumed p (q.resumeIfClear l) l w t :=
  resumed_before (resumeIfClear_resumes lane (state.trans h.1) (holds.trans (causeGone_empty h))) others same count clock link

theorem causeGone_resumes {p : Part} {l : LaneId} :
    Resumed p ((p.putLane l (some (causeGone w c))).resumeIfClear l) l w t :=
  lastGone_resumes h (lane_putLane p l _) (fun _ hm => lane_putLane_ne p hm _) (causeGone_samePhase w c) rfl rfl rfl rfl rfl

end Only

theorem joinIf_stays {p : Part} {l : LaneId} {w : Wash} {c : HoldCause} (hl : p.lane l = some w)
    (h : w.holds.get c = true ∨ p.joins w c = false) : p.joinIf l c = p := by
  cases joins : p.joins w c with
  | false => exact joinIf_waits hl joins
  | true =>
    rw [joinIf_joins hl joins]
    exact join_in hl (.inr (h.resolve_right (by simp [joins])))

/-- R116: the only cause clears. -/
theorem testCause_resumes {p : Part} {l : LaneId} {w : Wash} {t : Nat} {c : HoldCause} (hl : p.lane l = some w)
    (h : HeldOnlyBy w t c) (clears : p.clears w c = true) : Resumed p (p.testCause l c) l w t := by
  have into : w.holds.get c = true := by rw [heldOnlyBy_get h]; simp
  unfold Part.testCause
  rw [joinIf_stays hl (.inl into), leaveIf_leaves hl into clears]
  exact causeGone_resumes h

theorem laneNews_resumes {p : Part} {l : LaneId} {w : Wash} {t : Nat} (hl : p.lane l = some w)
    (h : HeldOnlyBy w t .equipment) (usable : ∀ k, p.kindUsable k = true) : Resumed p (p.laneNews l .available) l w t := by
  have into : w.holds.get .equipment = true := by rw [heldOnlyBy_get h]; simp
  have clears : p.clears w .equipment = true := List.all_eq_true.2 fun k _ => usable k
  show Resumed p ((p.leaveIf l .equipment).resumeIfClear l) l w t
  rw [leaveIf_leaves hl into clears]
  exact causeGone_resumes h

/-! ### The last drifted role arrives (R123) -/

theorem anyRole_iff (x : PerRole Bool) : anyRole x = true ↔ ∃ r, x.get r = true := by
  constructor
  · intro h
    unfold anyRole at h
    simp only [Bool.or_eq_true] at h
    rcases h with ((((h | h) | h) | h) | h) | h
    · exact ⟨.inf, h⟩
    · exact ⟨.eff, h⟩
    · exact ⟨.bww, h⟩
    · exact ⟨.air, h⟩
    · exact ⟨.wst, h⟩
    · exact ⟨.ftw, h⟩
  · rintro ⟨r, h⟩
    unfold anyRole
    cases r <;> simp_all [PerRole.get]

theorem roleHome_rests {p : Part} {w : Wash} {r : Role} {pos : Position} (ht : w.targets.get r = some pos)
    (h : RestsAt p w.filter r pos) : p.roleHome w r = true := by
  unfold Part.roleHome
  rw [ht]
  exact (inPosition_iff ..).2 h

/-- The record with a role's drift settled and VALVE gone. -/
def settledWash (w : Wash) (r : Role) : Wash :=
  { w with drifted := w.drifted.set r false, holds := w.holds.set .valve false }

theorem settleDrift_last {p : Part} {l : LaneId} {w : Wash} {r : Role} (hl : p.lane l = some w)
    (hd : ∀ x, w.drifted.get x = true ↔ x = r) (home : p.roleHome w r = true) : p.settleDrift l r =
      ((p.putLane l (some { w with drifted := w.drifted.set r false })).putLane l (some (settledWash w r))).resumeIfClear l := by
  have none : anyRole (w.drifted.set r false) = false := by
    rw [Bool.eq_false_iff, ne_eq, anyRole_iff]
    rintro ⟨x, drifted⟩
    by_cases e : x = r
    · subst e; simp at drifted
    · rw [perRole_get_set_ne _ e] at drifted
      exact e ((hd x).1 drifted)
  unfold Part.settleDrift
  rw [hl]
  dsimp only
  rw [if_pos (by simp [(hd r).2 rfl, home]), none, if_neg (by simp), leave_of (lane_putLane p l _)]
  rfl

/-- What a lane from ACQUIRING to HELD does when it is looked at again keeps it at work. -/
theorem advanceLane_working {p : Part} {l : LaneId} {w : Wash} (hl : p.lane l = some w) (hs : w.state.holdable = true) :
    OnlyChanges laneWork p (p.advanceLane l) ∧ Working l p (p.advanceLane l) ∧ Tells p (p.advanceLane l) := by
  unfold Part.advanceLane
  rw [hl]
  dsimp only
  split
  · exact ⟨by simp, checkClosed_working p l, checkClosed_tells p l⟩
  · exact ⟨by simp, checkOpened_working p l, checkOpened_tells p l⟩
  · next aborting => rw [aborting] at hs; cases hs
  · next returning => rw [returning] at hs; cases hs
  · next returning => rw [returning] at hs; cases hs
  · exact ⟨onlyChanges_refl _ p, working_refl l p, tells_refl p⟩

theorem resumed_after {p q r : Part} {l : LaneId} {w : Wash} {t : Nat} (h : Resumed p q l w t)
    (clock : q.startUp.clock = p.startUp.clock) (working : Working l q r) (tells : Tells q r) : Resumed p r l w t := by
  obtain ⟨others, ⟨w', lane, same, holdable⟩, bs, told⟩ := h
  obtain ⟨others', mine⟩ := working
  obtain ⟨w'', lane', same', holdable'⟩ := mine w' lane
  obtain ⟨-, cs, told'⟩ := tells
  exact ⟨fun m hm => (others' m hm).trans (others m hm), ⟨w'', lane', samePhase_trans same same', holdable' holdable⟩,
    bs ++ cs, reports_trans told clock told'⟩

theorem laneArrival_resumes {p : Part} {l : LaneId} {w : Wash} {t : Nat} {r : Role} (hl : p.lane l = some w)
    (h : HeldOnlyBy w t .valve) (hd : ∀ x, w.drifted.get x = true ↔ x = r) (home : p.roleHome w r = true) :
    OnlyChanges laneWork p (p.laneArrival l r) ∧ Resumed p (p.laneArrival l r) l w t := by
  have k : OnlyChanges laneWork p (p.settleDrift l r) := by simp
  have resumed : Resumed p (p.settleDrift l r) l w t := by
    rw [settleDrift_last hl hd home]
    exact lastGone_resumes h (w' := settledWash w r) (lane_putLane _ l _)
      (fun _ hm => (lane_putLane_ne _ hm _).trans (lane_putLane_ne p hm _)) ⟨rfl, rfl, rfl, rfl, rfl, rfl, rfl, rfl⟩ rfl rfl rfl
      rfl rfl
  obtain ⟨-, ⟨w', lane, -, holdable⟩, -⟩ := id resumed
  obtain ⟨ka, working, tells⟩ := advanceLane_working lane holdable
  exact ⟨onlyChanges_trans k ka, resumed_after resumed (k .clock (by simp)) working tells⟩

/-! ### The release of STOP (R118, R122) -/

/-- The record after a release of STOP with INHIBIT in the set. -/
def releasedWash (p : Part) (w : Wash) : Wash :=
  if p.plant.autoResume then { w with holds := w.holds.set .inhibit false, releaseSeen := false }
  else { w with releaseSeen := true }

theorem releaseInhibit_of {p : Part} {l : LaneId} {w : Wash} (hl : p.lane l = some w) (hi : w.holds.get .inhibit = true) :
    p.releaseInhibit l = p.putLane l (some (releasedWash p w)) := by
  have into : w.holds.inhibit = true := hi
  unfold Part.releaseInhibit
  rw [modWash_of hl, if_pos into]
  rfl

theorem laneReleased_of {p : Part} {l : LaneId} {w : Wash} {t : Nat} (hl : p.lane l = some w) (hs : w.state = .held t)
    (hi : w.holds.get .inhibit = true) : p.laneReleased l =
      if (releasedWash p w).holds.isEmpty then (p.putLane l (some (releasedWash p w))).resumeIfClear l
      else (p.putLane l (some (releasedWash p w))).heldAfterRelease l (releasedWash p w) := by
  unfold Part.laneReleased
  rw [hl]
  dsimp only
  rw [hs]
  dsimp only
  rw [releaseInhibit_of hl hi, lane_putLane]

theorem laneReleased_resumes {p : Part} {l : LaneId} {w : Wash} {t : Nat} (hl : p.lane l = some w)
    (h : HeldOnlyBy w t .inhibit) (auto : p.plant.autoResume = true) :
    OnlyChanges laneWork p (p.laneReleased l) ∧ Resumed p (p.laneReleased l) l w t := by
  have into : w.holds.get .inhibit = true := by rw [heldOnlyBy_get h]; simp
  have released : releasedWash p w = { w with holds := w.holds.set .inhibit false, releaseSeen := false } := if_pos auto
  have clear : (releasedWash p w).holds.isEmpty = true := by
    rw [isEmpty_iff, released]
    exact causeGone_empty h
  rw [laneReleased_of hl h.1 into, if_pos clear, released]
  exact ⟨by simp, lastGone_resumes h (lane_putLane p l _) (fun _ hm => lane_putLane_ne p hm _)
    ⟨rfl, rfl, rfl, rfl, rfl, rfl, rfl, rfl⟩ rfl rfl rfl rfl rfl⟩

/-- R122: without drifted roles AIR and BWW alone are commanded. -/
theorem heldAfterRelease_undrifted (p : Part) (l : LaneId) {w : Wash} (hd : w.drifted = PerRole.all false) :
    p.heldAfterRelease l w =
      p.orderRoles l w.filter ([Role.air, .bww].filter fun r => !p.inPosition w.filter r .closed) .closed := by
  have none : allRoles.filter w.drifted.get = [] := by rw [hd]; decide
  unfold Part.heldAfterRelease
  dsimp only
  rw [none]
  rfl

/-- R118, R122: without automatic resume the release is seen, and the lane stays HELD. -/
theorem laneReleased_seen {p : Part} {l : LaneId} {w : Wash} {t : Nat} (hl : p.lane l = some w) (hs : w.state = .held t)
    (hi : w.holds.get .inhibit = true) (auto : p.plant.autoResume = false) (hd : w.drifted = PerRole.all false) :
    OnlyChanges [.lanes, .channels, .events] p (p.laneReleased l) ∧ OtherLaneKept p (p.laneReleased l) l ∧
    ∃ w', (p.laneReleased l).lane l = some w' ∧ SamePhase w w' ∧ w'.state = .held t ∧ w'.holds = w.holds ∧
      w'.releaseSeen = true := by
  have seen : releasedWash p w = { w with releaseSeen := true } := if_neg (by simp [auto])
  have held : (releasedWash p w).holds.isEmpty = false := by rw [seen]; exact isEmpty_of_get hi
  rw [laneReleased_of hl hs hi, if_neg (by simp [held]), heldAfterRelease_undrifted _ l (by rw [seen]; exact hd)]
  refine ⟨by simp, fun m hm => (orderRoles_other _ l _ _ _ m hm).trans (lane_putLane_ne p hm _), _,
    orderRoles_lane (lane_putLane p l _) _ _ _, ?_⟩
  rw [seen]
  exact ⟨⟨rfl, rfl, rfl, rfl, rfl, rfl, rfl, rfl⟩, hs, rfl, rfl⟩

/-! ### The notices -/

theorem notices_resumeTheLane : NoticesResumeTheLane := by
  intro s l w h hl hs
  refine ⟨fun ho only clears => ?_, fun ho only clears => ?_, fun role pos ho only drifted target rests => ?_,
    fun u ho only usable => ?_, fun live first auto only => ?_, fun live first auto into undrifted => ?_⟩
  · exact ⟨_, (exec_lanePointChange l .tank s).trans (takeEvent_outstanding _ ho), rfl,
      from_taking (e := .lanePoint l .tank) (by simp) (by simp),
      testCause_resumes (p := taking s.part _) hl ⟨hs, only⟩ ((clears_water (taking s.part _) w).2 clears)⟩
  · exact ⟨_, (exec_lanePointChange l .basin s).trans (takeEvent_outstanding _ ho), rfl,
      from_taking (e := .lanePoint l .basin) (by simp) (by simp),
      testCause_resumes (p := taking s.part _) hl ⟨hs, only⟩ ((clears_waste (taking s.part _) w).2 clears)⟩
  · obtain ⟨k, resumed⟩ := laneArrival_resumes (p := taking s.part (.roleArrival l role)) hl ⟨hs, only⟩ drifted
      (roleHome_rests (p := taking s.part _) target rests)
    exact ⟨_, (exec_laneRoleArrival l role s).trans (takeEvent_outstanding _ ho), rfl, from_taking (by simp) k, resumed⟩
  · exact ⟨_, (exec_laneUnitNotice l u .available s).trans (takeEvent_outstanding _ ho), rfl,
      from_taking (e := .laneUnitNews l u .available) (by simp) (by simp),
      laneNews_resumes (p := taking s.part _) hl ⟨hs, only⟩ usable⟩
  · obtain ⟨k, resumed⟩ := laneReleased_resumes (p := taking s.part (.laneStopReleased l)) hl ⟨hs, only⟩ auto
    exact ⟨_, (exec_laneStopReleased l s).trans (takeStopNotice_first _ live first), rfl, from_taking (by simp) k, resumed⟩
  · obtain ⟨k, others, seen⟩ := laneReleased_seen (p := taking s.part (.laneStopReleased l)) hl hs into auto undrifted
    exact ⟨_, (exec_laneStopReleased l s).trans (takeStopNotice_first _ live first), rfl, from_taking (by simp) k, others,
      seen⟩

/-! ### The plant record (R116, R118) -/

theorem inhibitLeaves_out {w : Wash} (h : w.holds.get .inhibit = false) (p : Part) : inhibitLeaves p w = w := by
  have out : w.holds.inhibit = false := h
  unfold inhibitLeaves
  rw [if_neg (by simp [out])]

section Plant
variable {p : Part} {l : LaneId} {w : Wash} {t : Nat} (hl : p.lane l = some w)
include hl

/-- R116: WATER or WASTE clears under the record, the other not joining. -/
theorem lanePlant_levelResumes {c : HoldCause} (h : HeldOnlyBy w t c) (hc : c = .water ∨ c = .waste)
    (clears : p.clears w c = true) (water : c = .water ∨ p.joins w .water = false)
    (waste : c = .waste ∨ p.joins w .waste = false) : Resumed p (p.lanePlant l) l w t := by
  have get := heldOnlyBy_get h
  have gone := lane_putLane p l (some (causeGone w c))
  have into : w.holds.get c = true := by rw [get]; simp
  have emptied : ∀ d, (causeGone w c).holds.get d = false := fun d => by rw [causeGone_empty h]; simp
  have leaves : (p.leaveIf l .water).leaveIf l .waste = p.putLane l (some (causeGone w c)) := by
    rcases hc with rfl | rfl
    · rw [leaveIf_leaves hl into clears]
      exact leaveIf_stays gone (.inl (emptied _))
    · rw [leaveIf_stays hl (.inl (by rw [get]; rfl))]
      exact leaveIf_leaves hl into clears
  rw [lanePlant_eq]
  dsimp only
  rw [joinIf_stays hl (water.imp_left fun e => by rw [get, e]; simp),
    joinIf_stays hl (waste.imp_left fun e => by rw [get, e]; simp), leaves,
    modWash_same gone (inhibitLeaves_out (emptied .inhibit) _)]
  exact causeGone_resumes h

/-- R118: INHIBIT leaves at a release that was seen. -/
theorem lanePlant_inhibitResumes (h : HeldOnlyBy w t .inhibit) (seen : w.releaseSeen = true)
    (auto : p.plant.autoResume = true) (stop : p.stopAsserted = false) (water : p.joins w .water = false)
    (waste : p.joins w .waste = false) : Resumed p (p.lanePlant l) l w t := by
  have get := heldOnlyBy_get h
  have inhibit : w.holds.inhibit = true := by
    have := get .inhibit
    simpa [HoldSet.get] using this
  have leaves : inhibitLeaves p w = { w with holds := w.holds.set .inhibit false, releaseSeen := false } := by
    unfold inhibitLeaves
    rw [if_pos (by simp [inhibit, seen, auto, stop])]
  rw [lanePlant_eq]
  dsimp only
  rw [joinIf_stays hl (.inr water), joinIf_stays hl (.inr waste), leaveIf_stays hl (.inl (by rw [get]; rfl)),
    leaveIf_stays hl (.inl (by rw [get]; rfl)), modWash_of hl, leaves]
  exact lastGone_resumes h (lane_putLane p l _) (fun _ hm => lane_putLane_ne p hm _)
    ⟨rfl, rfl, rfl, rfl, rfl, rfl, rfl, rfl⟩ rfl rfl rfl rfl rfl

end Plant

theorem plantRecord_resumes {s : State} {raw : RawPlant} {l : LaneId} {w : Wash} {t : Nat} (hp : PlantMeetsLane s raw l)
    (tag : Byte) (h : Resumed (plantTaken s.part raw) ((plantTaken s.part raw).lanePlant l) l w t) :
    ∃ bs, Done s (.setPlant tag raw) replanning (Sys2Proof.plantReports s.part raw ++
      .laneResumed l w.filter w.phase w.elapsed (s.part.startUp.clock - t) w.holdCount :: bs) .ok .none fun q =>
        q.plant = plantWritten raw ∧ OtherLaneKept s.part q l ∧
        ∃ w', q.lane l = some w' ∧ SamePhase w w' ∧ w'.state.holdable = true := by
  obtain ⟨others, ⟨w', lane, now⟩, bs, told⟩ := h
  rw [plantTaken_clock] at told
  refine ⟨bs, setPlant_oneLane hp tag told fun q plant lanes _ => ⟨plant, ?_⟩⟩
  have same : ∀ m, q.lane m = ((plantTaken s.part raw).lanePlant l).lane m := fun m => by unfold Part.lane; rw [lanes]
  exact ⟨fun m hm => (same m).trans ((others m hm).trans (plantTaken_lane s.part raw m)), w', (same l).trans lane, now⟩

theorem plantRecord_resumesTheLane : PlantRecordResumesTheLane := by
  intro s tag raw l w rec r ph h hp hw hs
  have ground := plantTaken_ground s.part raw
  have phase0 : ({ s.part with plant := plantWritten raw } : Part).phaseNow w = ph := washesBy_phase hw
  have phase : (plantTaken s.part raw).phaseNow w = ph := (phaseNow_same ground w).trans phase0
  have waits : ∀ c, ¬ CauseHolds { s.part with plant := plantWritten raw } ph c → (plantTaken s.part raw).joins w c = false :=
    fun c out => Bool.eq_false_iff.2 (mt (joins_iff phase c).1 (mt (causeHolds_same ground ph c).1 out))
  obtain ⟨lane0, -⟩ := hw
  have lane := (plantTaken_lane s.part raw l).trans lane0
  refine ⟨fun only clears waste => plantRecord_resumes hp tag ?_, fun only clears water => plantRecord_resumes hp tag ?_,
    fun only seen auto stop water waste => plantRecord_resumes hp tag ?_⟩
  · exact lanePlant_levelResumes lane ⟨hs, only⟩ (.inl rfl) ((clears_water _ w).2 ((levelClears_same ground _).2 clears))
      (.inl rfl) (.inr (waits _ waste))
  · exact lanePlant_levelResumes lane ⟨hs, only⟩ (.inr rfl) ((clears_waste _ w).2 ((levelClears_same ground _).2 clears))
      (.inr (waits _ water)) (.inl rfl)
  · have plant : (plantTaken s.part raw).plant = plantWritten raw := plant_same ground
    exact lanePlant_inhibitResumes lane ⟨hs, only⟩ seen (by rw [plant]; simp [plantWritten, auto])
      ((stop_same ground).trans stop) (waits _ water) (waits _ waste)

end Sys2Proof.Laws

namespace Sys2Proof

open Laws

/-- Settles O29: each row leaves the lane without causes, and such a lane resumes (`resumeIfClear_resumes`). -/
theorem clearedCausesResumeTheLane : Obligations.ClearedCausesResumeTheLane :=
  ⟨notices_resumeTheLane, plantRecord_resumesTheLane⟩

end Sys2Proof
end

section
/-! SUPPORT. The end of a phase (R111): the next phase entered, or the return after the last (R128, R129). -/

namespace Sys2Proof.Laws

open Sys2Proof.Machine

/-! ### The return of a filter (R128, R129) -/

/-- The return to destination `d` goes on from `p` to `q`: the lane still returns its filter, or the wash is done and the
lane is IDLE. -/
structure ReturnGoesOn (p q : Part) (l : LaneId) (w : Wash) (rec : FilterRecord) (d : Destination) : Prop where
  others : OtherLaneKept p q l
  course : (∃ w' step, q.lane l = some w' ∧ w'.state = .returning d step ∧ SamePhase w w' ∧
      q.filter w.filter = some rec ∧ q.sched.shares = p.sched.shares) ∨
    (q.lane l = none ∧ q.sched.shares = p.sched.shares.set l ⟨0, 0⟩ ∧ ∃ x, q.filter w.filter = some x ∧
      x.state = destinationState d ∧ x.washes = min (rec.washes + 1) 65535)

theorem indexed_washes (r : FilterRecord) : r.indexed.washes = r.washes := by
  unfold FilterRecord.indexed; split <;> rfl

section Return
variable {p : Part} {l : LaneId} {w : Wash} {rec : FilterRecord} {d : Destination}

/-- A return that waits. -/
theorem returnGoesOn_refl {step : PosStep} (hl : p.lane l = some w) (hs : w.state = .returning d step)
    (hf : p.filter w.filter = some rec) : ReturnGoesOn p p l w rec d :=
  ⟨fun _ _ => rfl, .inl ⟨w, step, hl, hs, samePhase_refl w, hf, rfl⟩⟩

/-- What moves before it is nothing to the return: the lane's targets, its step, the valves. -/
theorem returnGoesOn_before {q r : Part} {w' : Wash} (h : ReturnGoesOn q r l w' rec d) (others : OtherLaneKept p q l)
    (same : SamePhase w w') (shares : q.sched.shares = p.sched.shares) : ReturnGoesOn p r l w rec d := by
  obtain ⟨others', course⟩ := h
  obtain ⟨filter, -⟩ := id same
  rw [filter, shares] at course
  exact ⟨fun m hm => (others' m hm).trans (others m hm), course.imp_left fun ⟨w'', step, lane, state, same', rest⟩ =>
    ⟨w'', step, lane, state, samePhase_trans same same', rest⟩⟩

/-- R129, R17: the wash is done. -/
theorem washDone_over (hf : p.filter w.filter = some rec) : ReturnGoesOn p (p.washDone l w d) l w rec d := by
  obtain ⟨b, done⟩ : ∃ b, p.washDone l w d = ((p.completeWash w.filter d).report b).laneIdle l := ⟨_, rfl⟩
  have kc : OnlyChanges ([Piece.filters, .selection, .flags, .overload, .scanDue, .events] ++ reporting) p
      ((p.completeWash w.filter d).report b) := by simp
  have ki : OnlyChanges [.lanes, .shares, .scanDue, .events] ((p.completeWash w.filter d).report b)
      (((p.completeWash w.filter d).report b).laneIdle l) := by simp
  have lanes : (((p.completeWash w.filter d).report b).laneIdle l).lanes = p.lanes.set l none := by
    rw [laneIdle_lanes, show ((p.completeWash w.filter d).report b).lanes = p.lanes from kc .lanes (by simp)]
  have shares : (((p.completeWash w.filter d).report b).laneIdle l).sched.shares = p.sched.shares.set l ⟨0, 0⟩ := by
    rw [laneIdle_shares, show ((p.completeWash w.filter d).report b).sched.shares = p.sched.shares from kc .shares (by simp)]
  rw [done]
  refine ⟨fun m hm => ?_, .inr ⟨?_, shares, _, (filter_kept ki (by simp) _).trans (changeFilter_filter hf _), ?_, ?_⟩⟩
  · unfold Part.lane
    rw [lanes, perLane_get_set_ne _ hm]
  · unfold Part.lane
    rw [lanes, perLane_get_set]
  · rw [indexed_state]
  · rw [indexed_washes]
    exact bump_eq 65535 rec.washes

theorem checkReturned_goesOn (hl : p.lane l = some w) (hs : w.state = .returning d .openUp)
    (hf : p.filter w.filter = some rec) : ReturnGoesOn p (p.checkReturned l) l w rec d := by
  unfold Part.checkReturned
  rw [hl]
  dsimp only
  rw [hs]
  dsimp only
  split
  · exact washDone_over hf
  · exact returnGoesOn_refl hl hs hf

theorem checkReturnClosed_goesOn (hl : p.lane l = some w) (hs : w.state = .returning d .close)
    (hf : p.filter w.filter = some rec) : ReturnGoesOn p (p.checkReturnClosed l) l w rec d := by
  have opens := lane_putLane p l (some { w with state := .returning d .openUp })
  have k : OnlyChanges [.lanes, .channels, .events] p ((p.putLane l (some { w with state := .returning d .openUp })).orderRoles
      l w.filter (destinationOpens d) .opened) := by simp
  unfold Part.checkReturnClosed
  rw [hl]
  dsimp only
  rw [hs]
  dsimp only
  split
  · exact returnGoesOn_before
      (checkReturned_goesOn (orderRoles_lane opens _ _ _) rfl ((filter_kept k (by simp) _).trans hf))
      (fun m hm => (orderRoles_other _ l _ _ _ m hm).trans (lane_putLane_ne p hm _))
      ⟨rfl, rfl, rfl, rfl, rfl, rfl, rfl, rfl⟩ (k .shares (by simp))
  · exact returnGoesOn_refl hl hs hf

/-- R128: where a filter goes after its wash. -/
def destinationOf (p : Part) (rec : FilterRecord) : Destination :=
  if p.plant.vmax < currentLoading p then .online else rec.cfg.dest

theorem destination_of {f : FilterId} (hf : p.filter f = some rec) :
    p.destination f = (p.computeLoading, destinationOf p rec) := by
  have k : OnlyChanges ([Piece.flags, .overload, .events] ++ reporting) p p.computeLoading := by simp
  have same := (filter_kept k (by simp) f).trans hf
  unfold Part.destination destinationOf
  dsimp only
  rw [same, loadingNow_eq]
  simp only [decide_eq_true_eq]

/-- The part with the return begun and the units given up, its roles still to be commanded. -/
def returnTold (p : Part) (l : LaneId) (w : Wash) (d : Destination) : Part :=
  (p.computeLoading.putLane l (some { w with state := .returning d .close })).releaseAll l

theorem startReturn_of (hl : p.lane l = some w) (hf : p.filter w.filter = some rec) :
    p.startReturn l w.filter = ((returnTold p l w (destinationOf p rec)).orderRoles l w.filter
      (destinationCloses (destinationOf p rec)) .closed).checkReturnClosed l := by
  have k : OnlyChanges ([Piece.flags, .overload, .events] ++ reporting) p p.computeLoading := by simp
  unfold Part.startReturn
  rw [destination_of hf]
  dsimp only
  rw [modWash_of ((lane_kept k (by simp) l).trans hl)]
  rfl

theorem returnTold_only (p : Part) (l : LaneId) (w : Wash) (d : Destination) :
    OnlyChanges ([Piece.flags, .overload, .lanes] ++ handing ++ reporting) p (returnTold p l w d) := by
  unfold returnTold; simp

theorem returnTold_lanes (p : Part) (l : LaneId) (w : Wash) (d : Destination) :
    (returnTold p l w d).lane l = some { w with state := .returning d .close, pump := none, blower := false } ∧
    OtherLaneKept p (returnTold p l w d) l := by
  have k : OnlyChanges ([Piece.flags, .overload, .events] ++ reporting) p p.computeLoading := by simp
  refine ⟨releaseAll_lane (lane_putLane _ l _), fun m hm => (releaseAll_other _ hm).trans ?_⟩
  exact (lane_putLane_ne _ hm _).trans (lane_kept k (by simp) m)

theorem startReturn_goesOn (hl : p.lane l = some w) (hf : p.filter w.filter = some rec) :
    ReturnGoesOn p (p.startReturn l w.filter) l w rec (destinationOf p rec) ∧ HoldsNoUnit (p.startReturn l w.filter) l := by
  have k := returnTold_only p l w (destinationOf p rec)
  obtain ⟨lane, others⟩ := returnTold_lanes p l w (destinationOf p rec)
  have ko : OnlyChanges [.lanes, .channels, .events] (returnTold p l w (destinationOf p rec))
      ((returnTold p l w (destinationOf p rec)).orderRoles l w.filter (destinationCloses (destinationOf p rec)) .closed) := by
    simp
  have kr : OnlyChanges ([Piece.lanes, .channels, .filters, .selection, .shares, .flags, .overload, .scanDue, .events] ++
      reporting) (returnTold p l w (destinationOf p rec)) (p.startReturn l w.filter) := by
    rw [startReturn_of hl hf]; simp
  refine ⟨?_, holdsNoUnit_kept kr (by simp) (by simp) (by simp) (releaseAll_holdsNoUnit _ l)⟩
  rw [startReturn_of hl hf]
  refine returnGoesOn_before (checkReturnClosed_goesOn (orderRoles_lane lane _ _ _) rfl ?_)
    (fun m hm => (orderRoles_other _ l _ _ _ m hm).trans (others m hm)) ⟨rfl, rfl, rfl, rfl, rfl, rfl, rfl, rfl⟩
    ((ko .shares (by simp)).trans (k .shares (by simp)))
  exact (filter_kept ko (by simp) _).trans ((filter_kept k (by simp) _).trans hf)

end Return

/-! ### The last phase ended (R111) -/

/-- The record at the end of the last phase, its amounts still to follow. -/
def endedWash (w : Wash) (timeout : Bool) : Wash := { w with ripenTimeout := timeout }

/-- The part at the end of the last phase, the return still to begin. -/
def lastEnded (p : Part) (l : LaneId) (w : Wash) (timeout : Bool) : Part :=
  ((p.dropRun l).putLane l (some (endedWash w timeout))).putAmounts l ⟨0, 0⟩

theorem lastEnded_only (p : Part) (l : LaneId) (w : Wash) (timeout : Bool) :
    OnlyChanges [.lanes, .events, .shares, .scanDue] p (lastEnded p l w timeout) := by
  unfold lastEnded; simp

theorem lastEnded_parts (p : Part) (l : LaneId) (w : Wash) (timeout : Bool) :
    (lastEnded p l w timeout).lane l = some (withAmounts (endedWash w timeout) ⟨0, 0⟩) ∧
    OtherLaneKept p (lastEnded p l w timeout) l ∧
    (lastEnded p l w timeout).sched.shares = p.sched.shares.set l ⟨0, 0⟩ := by
  obtain ⟨lane, others, shares⟩ := putAmounts_parts (lane_putLane (p.dropRun l) l (some (endedWash w timeout))) ⟨0, 0⟩
  exact ⟨lane, fun m hm => (others m hm).trans (lane_putLane_ne _ hm _), shares⟩

theorem perLane_set_set {α : Type} (x : PerLane α) (l : LaneId) (a b : α) : (x.set l a).set l b = x.set l b := by
  cases l <;> rfl

section Ended
variable {p : Part} {l : LaneId} {w : Wash} {rec : FilterRecord} {r : Recipe} {ph : Phase} (hw : WashesBy p l w rec r ph)
include hw

theorem endPhase_last (hn : r.phases.length ≤ w.phase) (how : PhaseEnd) :
    p.endPhase l how = (lastEnded p l w (timedOut w ph how)).startReturn l w.filter := by
  have phase : (p.dropRun l).phaseNow w = ph := washesBy_phase hw
  obtain ⟨lane, -, recipe, -⟩ := hw
  have phases : (p.dropRun l).phasesOf w.slot = r.phases := phasesOf_of recipe
  unfold Part.endPhase
  rw [lane]
  dsimp only
  rw [phase, phases, if_neg (by omega)]
  rfl

/-- R111: before the last phase. -/
theorem endPhase_enters {ph' : Phase} (hn : w.phase < r.phases.length) (hph : r.phases[w.phase]? = some ph') (how : PhaseEnd) :
    OtherLaneKept p (p.endPhase l how) l ∧
    ∃ w', (p.endPhase l how).lane l = some w' ∧ w'.state.holdable = true ∧
      SamePhase (takenWash w rec r ph' (timedOut w ph how)) w' ∧
      (p.endPhase l how).sched.shares = p.sched.shares.set l ⟨w'.remWater, w'.remWaste⟩ ∧
      (p.endPhase l how).filter w.filter = some rec := by
  have k := nextTaken_only p l w rec r ph' (timedOut w ph how)
  obtain ⟨lane, others, shares⟩ := nextTaken_parts p l w rec r ph' (timedOut w ph how)
  have ke : OnlyChanges laneWork (nextTaken p l w rec r ph' (timedOut w ph how))
      ((nextTaken p l w rec r ph' (timedOut w ph how)).enterPhase l (some (some how))) := by simp
  obtain ⟨w', lane', same, holdable⟩ := enterPhase_lane lane (some (some how))
  obtain ⟨-, -, -, -, water, waste, -⟩ := id same
  rw [endPhase_next hw hn hph]
  obtain ⟨-, filter, -⟩ := hw
  refine ⟨fun m hm => (enterPhase_other _ l _ m hm).trans (others m hm), w', lane', holdable, same, ?_,
    (filter_kept ke (by simp) _).trans ((filter_kept k (by simp) _).trans filter)⟩
  rw [water, waste]
  exact (ke .shares (by simp)).trans shares

/-- R111, R128: after the last phase. -/
theorem endPhase_returns (hn : r.phases.length ≤ w.phase) (how : PhaseEnd) :
    OtherLaneKept p (p.endPhase l how) l ∧
    (p.endPhase l how).sched.shares = p.sched.shares.set l ⟨0, 0⟩ ∧ HoldsNoUnit (p.endPhase l how) l ∧
    ((∃ w' step, (p.endPhase l how).lane l = some w' ∧ w'.state = .returning (destinationOf p rec) step ∧
        SamePhase (withAmounts (endedWash w (timedOut w ph how)) ⟨0, 0⟩) w' ∧ (p.endPhase l how).filter w.filter = some rec) ∨
      ((p.endPhase l how).lane l = none ∧ ∃ x, (p.endPhase l how).filter w.filter = some x ∧
        x.state = destinationState (destinationOf p rec) ∧ x.washes = min (rec.washes + 1) 65535)) := by
  have k := lastEnded_only p l w (timedOut w ph how)
  obtain ⟨lane, others, shares⟩ := lastEnded_parts p l w (timedOut w ph how)
  have dest : destinationOf (lastEnded p l w (timedOut w ph how)) rec = destinationOf p rec := by
    unfold destinationOf
    rw [currentLoading_kept k (by simp) (by simp) (by simp),
      show (lastEnded p l w (timedOut w ph how)).plant = p.plant from k .plant (by simp)]
  rw [endPhase_last hw hn]
  obtain ⟨-, filter, -⟩ := hw
  obtain ⟨⟨others', course⟩, units⟩ := startReturn_goesOn lane ((filter_kept k (by simp) _).trans filter)
  rw [dest, shares, perLane_set_set] at course
  refine ⟨fun m hm => (others' m hm).trans (others m hm), ?_, units, ?_⟩
  · rcases course with ⟨-, -, -, -, -, -, shares⟩ | ⟨-, shares, -⟩ <;> exact shares
  · exact course.imp (fun ⟨w', step, lane, state, same, filter, _⟩ => ⟨w', step, lane, state, same, filter⟩)
      fun ⟨idle, _, done⟩ => ⟨idle, done⟩

theorem endRunning_ends (hs : w.state = .running) (how : PhaseEnd) :
    PhaseEnded p (p.endRunning l how) l w rec r (timedOut w ph how) := by
  have k : OnlyChanges phaseEnding p (p.endRunning l how) := by simp
  rw [endRunning_of hw hs] at k ⊢
  rcases Nat.lt_or_ge w.phase r.phases.length with hn | hn
  · obtain ⟨others, -⟩ := endPhase_enters hw hn (List.getElem?_eq_getElem hn) how
    exact ⟨k, others, fun ph' _ hph => (endPhase_enters hw hn hph how).2, fun hm => absurd hn (by omega)⟩
  · obtain ⟨others, returns⟩ := endPhase_returns hw hn how
    exact ⟨k, others, fun _ hm => absurd hn (by omega), fun _ => returns⟩

end Ended

/-- An end of phase is the same from the part before its event was taken. -/
theorem phaseEnded_taking {p q : Part} {e : Event} {l : LaneId} {w : Wash} {rec : FilterRecord} {r : Recipe} {timeout : Bool}
    (h : PhaseEnded (taking p e) q l w rec r timeout) : PhaseEnded p q l w rec r timeout := by
  obtain ⟨k, rest⟩ := h
  exact ⟨from_taking (by simp) k, rest⟩

end Sys2Proof.Laws

namespace Sys2Proof

open Machine Laws

/-- Settles O22: before the last phase the next is taken up and entered; after it the return begins, and is over where each
role is in its place. -/
theorem phaseEndsEnterTheNextPhaseOrReturn : Obligations.PhaseEndsEnterTheNextPhaseOrReturn := by
  intro s l w rec r ph hw hs
  refine ⟨fun ho => ⟨_, (exec_phaseTimeEnd l s).trans (takeEvent_outstanding _ ho), rfl, ?_⟩,
    fun ho => ⟨_, (exec_ripenConfirmed l s).trans (takeEvent_outstanding _ ho), rfl, ?_⟩⟩
  · have ended := phaseEnded_taking (endRunning_ends (p := taking s.part (.phaseTimeEnd l)) hw hs .time)
    rwa [timedOut_time] at ended
  · have ended := phaseEnded_taking (endRunning_ends (p := taking s.part (.ripenConfirmed l)) hw hs .confirmed)
    rwa [timedOut_confirmed] at ended

end Sys2Proof
end

section
/-! SUPPORT. A unit lost and its kind asked for again: requests (R137, R138), and the trip that holds and resumes at once
(R110, R124). -/

namespace Sys2Proof.Laws

open Sys2Proof.Machine

/-! ### Requests -/

theorem waitOf_eq (p : Part) (u : UnitId) : waitOf p u = p.waiting (unitKind u) := by cases u <;> rfl

theorem offered_kind {p : Part} {k : UnitKind} {u : UnitId} (h : u ∈ p.offered k) : unitKind u = k := by
  cases k with
  | pump =>
    unfold Part.offered at h
    cases hd : p.arb.duty <;> rw [hd] at h <;> simp [pumpUnit, otherPump] at h <;> rcases h with rfl | rfl <;> rfl
  | blower =>
    simp only [Part.offered, List.mem_singleton] at h
    rw [h]
    rfl

theorem setWaiting_waiting_ne (p : Part) {j k : UnitKind} (h : k ≠ j) (ls : List LaneId) :
    (p.setWaiting j ls).waiting k = p.waiting k := by
  cases j <;> cases k <;> first | rfl | exact absurd rfl h

/-- What a request does: nothing where the lane waits already, a grant where a unit is free, else a place in the list. -/
theorem requestUnit_course (p : Part) (l : LaneId) (k : UnitKind) :
    (l ∈ p.waiting k ∧ p.requestUnit l k = p) ∨
    (∃ u, unitKind u = k ∧ (p.unit u).state = .available ∧ p.requestUnit l k = p.grant u l) ∨
    p.requestUnit l k = p.setWaiting k (p.waiting k ++ [l]) := by
  unfold Part.requestUnit
  dsimp only
  split
  next waits => exact .inl ⟨List.contains_iff_mem.1 waits, rfl⟩
  next =>
    split
    next u _ found =>
      exact .inr (.inl ⟨u, offered_kind (List.mem_of_find?_eq_some found), by simpa using List.find?_some found, rfl⟩)
    next => exact .inr (.inr rfl)

theorem requestUnit_asks (p : Part) (l : LaneId) (u : UnitId) : AskedFor (p.requestUnit l (unitKind u)) l u := by
  unfold AskedFor
  rw [waitOf_eq]
  rcases requestUnit_course p l (unitKind u) with ⟨waits, e⟩ | ⟨v, kind, -, e⟩ | e
  · rw [e]; exact .inl waits
  · rw [e]; exact .inr ⟨v, kind, by rw [grant_unit], grant_told p v l⟩
  · rw [e, setWaiting_waiting]; exact .inl (by simp)

theorem grant_event {p : Part} {l m : LaneId} {u v : UnitId} (h : .grant m v ∈ p.events) : .grant m v ∈ (p.grant u l).events := by
  have kept := (setUnit_events p u (.allocated l) (.grant m v) (by simp) (by simp)).2 h
  unfold Part.grant
  dsimp only
  split <;> exact List.mem_append_left _ kept

/-- A request for another kind leaves what is asked for. -/
theorem requestUnit_keepsAsked {p : Part} {l : LaneId} {u : UnitId} {k : UnitKind} (hk : unitKind u ≠ k)
    (h : AskedFor p l u) : AskedFor (p.requestUnit l k) l u := by
  unfold AskedFor at h ⊢
  rw [waitOf_eq] at h ⊢
  rcases requestUnit_course p l k with ⟨-, e⟩ | ⟨v, kind, -, e⟩ | e
  · rwa [e]
  · rw [e, grant_waiting]
    refine h.imp_right fun ⟨x, kindx, state, told⟩ => ⟨x, kindx, ?_, grant_event told⟩
    have other : x ≠ v := by rintro rfl; exact hk (kindx.symm.trans kind)
    rwa [grant_unit_ne p other]
  · rw [e, setWaiting_waiting_ne p hk]
    refine h.imp_right fun ⟨x, kindx, state, told⟩ => ⟨x, kindx, by rwa [setWaiting_unit], ?_⟩
    have events : (p.setWaiting k (p.waiting k ++ [l])).events = p.events := by cases k <;> rfl
    rwa [events]

/-- The lane asks for these kinds, one after the other. -/
abbrev requestAll (p : Part) (l : LaneId) (ks : List UnitKind) : Part := ks.foldl (fun p k => p.requestUnit l k) p

theorem requestAll_keepsAsked {l : LaneId} {u : UnitId} (ks : List UnitKind) :
    ∀ p : Part, AskedFor p l u → AskedFor (requestAll p l ks) l u := by
  induction ks with
  | nil => exact fun _ h => h
  | cons k ks ih =>
    intro p h
    refine ih _ ?_
    by_cases hk : unitKind u = k
    · rw [← hk]; exact requestUnit_asks p l u
    · exact requestUnit_keepsAsked hk h

theorem requestAll_asks {l : LaneId} {u : UnitId} {ks : List UnitKind} (h : unitKind u ∈ ks) :
    ∀ p : Part, AskedFor (requestAll p l ks) l u := by
  induction ks with
  | nil => cases h
  | cons k ks ih =>
    intro p
    by_cases hk : unitKind u = k
    · refine requestAll_keepsAsked ks _ ?_
      rw [← hk]
      exact requestUnit_asks p l u
    · exact ih ((List.mem_cons.1 h).resolve_left hk) _

theorem requestAll_only (p : Part) (l : LaneId) (ks : List UnitKind) : OnlyChanges handing p (requestAll p l ks) := by simp

/-! ### A phase entered without units (R107) -/

theorem requestNeeded_all {p : Part} {l : LaneId} {w : Wash} {ph : Phase} (hl : p.lane l = some w) (hph : p.phaseNow w = ph)
    (pump : w.pump = none) (blower : w.blower = false) : p.requestNeeded l = requestAll p l (neededKinds ph.kind) := by
  have lacks : (neededKinds ph.kind).filter (fun k => !w.hasKind k) = neededKinds ph.kind :=
    List.filter_eq_self.2 fun k _ => by cases k <;> simp [Wash.hasKind, pump, blower]
  unfold Part.requestNeeded
  rw [hl]
  dsimp only
  rw [hph, lacks]

section Enter
variable {p : Part} {l : LaneId} {w : Wash} {ph : Phase} (hl : p.lane l = some w) (hph : p.phaseNow w = ph)
  (none : ∀ c, ¬ CauseHolds p ph c)
include hl hph none

theorem entryCauses_wait : entryCauses.foldl (fun p c => p.joinIf l c) p = p :=
  foldl_stays (fun c => joinIf_waits hl (Bool.eq_false_iff.2 (mt (joins_iff hph c).1 (none c)))) _

variable (pump : w.pump = Option.none) (blower : w.blower = false)
include pump blower

theorem enterTail_asks (hs : w.state = .acquiring) (needs : neededKinds ph.kind ≠ []) :
    enterTail p l = requestAll p l (neededKinds ph.kind) := by
  have k := requestAll_only p l (neededKinds ph.kind)
  have tested : (((p.joinIf l .inhibit).joinIf l .water).joinIf l .waste).joinIf l .equipment = p := entryCauses_wait hl hph none
  have lacks : ¬ HasKinds w ph := by
    rw [← hasKinds_iff]
    obtain ⟨kind, needed⟩ := List.exists_mem_of_ne_nil _ needs
    intro all
    have has := List.all_eq_true.1 all kind needed
    cases kind <;> simp [Wash.hasKind, pump, blower] at has
  unfold enterTail
  dsimp only
  rw [tested, hl]
  dsimp only
  rw [if_pos hs, requestNeeded_all hl hph pump blower]
  exact checkAcquired_lacks ((lane_kept k (by simp) l).trans hl) ((phaseNow_kept k (by simp) w).trans hph) lacks

/-- A phase that needs units, entered by a lane that has none while no cause holds: each kind is asked for. -/
theorem enterPhase_asks (needs : neededKinds ph.kind ≠ []) (report : Option (Option PhaseEnd)) :
    p.enterPhase l report = requestAll (enterHead p l w report) l (neededKinds ph.kind) := by
  have ground : SameGround p (enterHead p l w report) := enterHead_ground report
  have phase : (enterHead p l w report).phaseNow (headWash ph.kind w) = ph :=
    (phaseNow_same ground _).trans ((phaseNow_samePhase (headWash_samePhase ph.kind w) p).trans hph)
  rw [enterPhase_of hl]
  refine enterTail_asks (enterHead_lane hph report) phase (fun c => mt (causeHolds_same ground ph c).1 (none c)) ?_ ?_ rfl needs
  · show (if _ then w.pump else Option.none) = Option.none
    rw [pump, ite_self]
  · show (_ && w.blower) = false
    rw [blower, Bool.and_false]

end Enter

/-! ### A hold that clears at once (R124) -/

theorem resumeTold_told {p q : Part} {bs : List ReportBody} (h : Reports p q bs) (clock : q.clock = p.clock) (l : LaneId)
    (w : Wash) (t : Nat) : Reports p (resumeTold q l w t)
      (bs ++ [.laneResumed l w.filter w.phase w.elapsed (q.startUp.clock - t) w.holdCount]) :=
  reports_more (q := (q.putLane l (some (resumedWash w))).cancel (.holdLimit l)) h clock _

theorem resumeTold_lanes (p : Part) (l : LaneId) (w : Wash) (t : Nat) :
    (resumeTold p l w t).lane l = some (resumedWash w) ∧ OtherLaneKept p (resumeTold p l w t) l :=
  ⟨lane_putLane p l _, fun _ hm => lane_putLane_ne p hm _⟩

theorem resumeTold_ground (p : Part) (l : LaneId) (w : Wash) (t : Nat) : SameGround p (resumeTold p l w t) :=
  sameGround_kept (xs := [Piece.lanes, .events] ++ reporting) (by unfold resumeTold; simp) (by simp)

/-- The record after a cause has joined and cleared at second `clock`, and the resume is told. -/
def clearedWash (w : Wash) (clock : Nat) (c : HoldCause) : Wash := resumedWash (causeGone (heldWash w clock [c]) c)

/-- The part that a hold has led to, with its cause gone again and the resume told. -/
def clearedAtOnce (q : Part) (l : LaneId) (w : Wash) (clock : Nat) (c : HoldCause) : Part :=
  resumeTold (q.putLane l (some (causeGone (heldWash w clock [c]) c))) l (causeGone (heldWash w clock [c]) c) clock

section Cleared
variable {p q : Part} {l : LaneId} {w : Wash} {c : HoldCause} (h : HoldBeganBy p q l w [c])
include h

theorem clearsAtOnce_enters (hw : w.holds = HoldSet.empty) (clears : q.clears (heldWash w p.startUp.clock [c]) c = true) :
    (q.leaveIf l c).resumeIfClear l = (clearedAtOnce q l w p.startUp.clock c).enterPhase l none := by
  have held : HeldOnlyBy (heldWash w p.startUp.clock [c]) p.startUp.clock c :=
    ⟨rfl, by show joined w.holds [c] = _; rw [hw]; rfl⟩
  rw [leaveIf_leaves h.lane (by rw [heldOnlyBy_get held]; simp) clears]
  exact resumeIfClear_clear (lane_putLane q l _) held.1 (causeGone_empty held)

theorem clearedAtOnce_lanes : (clearedAtOnce q l w p.startUp.clock c).lane l = some (clearedWash w p.startUp.clock c) ∧
    OtherLaneKept p (clearedAtOnce q l w p.startUp.clock c) l := by
  obtain ⟨lane, others⟩ := resumeTold_lanes (q.putLane l (some (causeGone (heldWash w p.startUp.clock [c]) c))) l
    (causeGone (heldWash w p.startUp.clock [c]) c) p.startUp.clock
  exact ⟨lane, fun m hm => (others m hm).trans ((lane_putLane_ne q hm _).trans (h.others m hm))⟩

theorem clearedAtOnce_ground : SameGround p (clearedAtOnce q l w p.startUp.clock c) :=
  sameGround_trans h.ground (sameGround_trans (sameGround_kept (xs := [.lanes]) (by simp) (by simp))
    (resumeTold_ground _ l _ _))

theorem clearedAtOnce_told : Reports p (clearedAtOnce q l w p.startUp.clock c) (heldReports p l w w.holds true [c] ++
    [.laneResumed l w.filter w.phase w.elapsed 0 (min (w.holdCount + 1) 255)]) := by
  have clock : q.startUp.clock = p.startUp.clock := clock_same h.ground
  have told := resumeTold_told (q := q.putLane l (some (causeGone (heldWash w p.startUp.clock [c]) c))) h.told clock l
    (causeGone (heldWash w p.startUp.clock [c]) c) p.startUp.clock
  rw [putLane_startUp, clock, Nat.sub_self] at told
  exact told

end Cleared

/-! ### The rows -/

/-- The phase needs the kind of this unit. -/
theorem needs_of {ph : Phase} {u : UnitId} (h : ((u = .p1 ∨ u = .p2) ∧ (ph.kind = .airWater ∨ ph.kind = .water)) ∨
    (u = .bl ∧ (ph.kind = .air ∨ ph.kind = .airWater))) : unitKind u ∈ neededKinds ph.kind := by
  rcases h with ⟨rfl | rfl, needs⟩ | ⟨rfl, needs⟩
  · exact (pump_needed _).2 needs
  · exact (pump_needed _).2 needs
  · exact (blower_needed _).2 needs.symm

section Trip
variable {p : Part} {l : LaneId} {w : Wash} {u : UnitId} {ph : Phase} (hl : p.lane l = some w) (hu : w.holdsUnit u = true)
  (hs : w.state.holdable = true) (hn : w.state.isHeld = false) (hw : w.holds = HoldSet.empty) (hph : p.phaseNow w = ph)
  (none : ∀ c, ¬ CauseHolds p ph c)
include hl hu hs hn hw hph none

/-- The part at which the lane that has tripped enters its phase anew. -/
abbrev tripResumed (p : Part) (l : LaneId) (w : Wash) (u : UnitId) : Part :=
  clearedAtOnce ((p.putLane l (some (w.dropUnit u))).join l .equipment) l (w.dropUnit u) p.startUp.clock .equipment

theorem laneTripped_enters : p.laneTripped l u = (tripResumed p l w u).enterPhase l Option.none ∧
    SameGround p (tripResumed p l w u) ∧
    (tripResumed p l w u).lane l = some (clearedWash (w.dropUnit u) p.startUp.clock .equipment) ∧
    OtherLaneKept p (tripResumed p l w u) l ∧
    Reports p (tripResumed p l w u) (heldReports p l w HoldSet.empty true [.equipment] ++
      [.laneResumed l w.filter w.phase w.elapsed 0 (min (w.holdCount + 1) 255)]) := by
  have began := join_began (canHold_dropUnit (c := .equipment) ⟨hl, hs, hn, by rw [hw]; simp⟩ u)
  have drops : BeforeHold p (p.putLane l (some (w.dropUnit u))) l w (w.dropUnit u) :=
    ⟨fun _ hm => lane_putLane_ne p hm _, samePhase_dropUnit w u, dropUnit_holds w u, dropUnit_holdCount w u, rfl⟩
  have dropped : SameGround p (p.putLane l (some (w.dropUnit u))) := sameGround_kept (xs := [.lanes]) (by simp) (by simp)
  have ground := sameGround_trans dropped began.ground
  have phase := (phaseNow_same ground (heldWash (w.dropUnit u) p.startUp.clock [.equipment])).trans
    ((phaseNow_samePhase (samePhase_trans (samePhase_dropUnit w u) (heldWash_samePhase _ _ _)) p).trans hph)
  have clears := (kindsUsable_iff phase).2 (mt (causeHolds_same ground ph .equipment).1 (none .equipment))
  have told := clearedAtOnce_told began
  obtain ⟨filter, -, index, elapsed, -⟩ := drops.same
  rw [heldReports_before drops, drops.holds, drops.count, filter, index, elapsed, hw] at told
  obtain ⟨lane, others⟩ := clearedAtOnce_lanes began
  have enters := clearsAtOnce_enters began (drops.holds.trans hw) clears
  exact ⟨(laneTripped_of hl hu hs).trans enters, sameGround_trans dropped (clearedAtOnce_ground began), lane,
    fun m hm => (others m hm).trans (drops.others m hm), told⟩

/-- R124: the unit lost is no cause of a hold that stays; its kind, as each other that the phase needs, is asked for. -/
theorem laneTripped_asksAgain (needs : unitKind u ∈ neededKinds ph.kind) :
    OtherLaneKept p (p.laneTripped l u) l ∧
    (∃ w', (p.laneTripped l u).lane l = some w' ∧ SamePhase w w' ∧ w'.state = .acquiring ∧ w'.holds = HoldSet.empty ∧
      w'.holdCount = min (w.holdCount + 1) 255 ∧ w'.confirm = 0 ∧ w'.pump = Option.none ∧ w'.blower = false ∧
      w'.targets.get .air = some .closed ∧ w'.targets.get .bww = some .closed) ∧
    ((ph.kind = .airWater ∨ ph.kind = .water) → AskedFor (p.laneTripped l u) l .p1) ∧
    ((ph.kind = .air ∨ ph.kind = .airWater) → AskedFor (p.laneTripped l u) l .bl) ∧
    Reports p (p.laneTripped l u) (heldReports p l w HoldSet.empty true [.equipment] ++
      [.laneResumed l w.filter w.phase w.elapsed 0 (min (w.holdCount + 1) 255)]) := by
  obtain ⟨enters, ground, lane, others, told⟩ := laneTripped_enters hl hu hs hn hw hph none
  have same : SamePhase w (clearedWash (w.dropUnit u) p.startUp.clock .equipment) :=
    samePhase_trans (samePhase_dropUnit w u) ⟨rfl, rfl, rfl, rfl, rfl, rfl, rfl, rfl⟩
  have phase := (phaseNow_same ground (clearedWash (w.dropUnit u) p.startUp.clock .equipment)).trans
    ((phaseNow_samePhase same p).trans hph)
  have asks := enterPhase_asks lane phase (fun c => mt (causeHolds_same ground ph c).1 (none c)) rfl rfl
    (List.ne_nil_of_mem needs) Option.none
  rw [enters, asks]
  have k := requestAll_only (enterHead (tripResumed p l w u) l (clearedWash (w.dropUnit u) p.startUp.clock .equipment)
    Option.none) l (neededKinds ph.kind)
  refine ⟨fun m hm => (lane_kept k (by simp) m).trans ((enterHead_others _ m hm).trans (others m hm)),
    ⟨_, (lane_kept k (by simp) l).trans (enterHead_lane phase _), samePhase_trans same (headWash_samePhase _ _), rfl, ?_, ?_,
      rfl, ?_, ?_, rfl, rfl⟩,
    fun h => requestAll_asks ((pump_needed _).2 h) _, fun h => requestAll_asks ((blower_needed _).2 h.symm) _, ?_⟩
  · show (joined (w.dropUnit u).holds [.equipment]).set .equipment false = HoldSet.empty
    rw [dropUnit_holds, hw]
    rfl
  · show min ((w.dropUnit u).holdCount + 1) 255 = _
    rw [dropUnit_holdCount]
  · show (if _ then Option.none else Option.none) = Option.none
    rw [ite_self]
  · show (_ && false) = false
    rw [Bool.and_false]
  · have entered := reports_trans told (clock_same ground) (enterHead_told (l := l) phase Option.none)
    rw [entryReports, List.append_nil] at entered
    exact (link_kept k (by simp)).trans entered

end Trip

/-- R110: the lane asks for another unit of the kind. -/
theorem laneProveFailed_asks {p : Part} {l : LaneId} {w : Wash} {u : UnitId} (hl : p.lane l = some w)
    (hu : w.holdsUnit u = true) (hs : w.state.holdable = true) (hn : w.state.isHeld = false)
    (h : p.kindUsable (unitKind u) = true) : p.laneProveFailed l u =
      ((p.putLane l (some (w.dropUnit u))).putLane l (some { w.dropUnit u with state := .acquiring })).requestUnit l
        (unitKind u) := by
  have same : (p.putLane l (some (w.dropUnit u))).kindUsable (unitKind u) = true := h
  unfold Part.laneProveFailed
  rw [hl]
  dsimp only
  rw [if_pos (by simp [hu, hs]), if_pos same, if_neg (by simp [hn])]

end Sys2Proof.Laws

namespace Sys2Proof

open Machine Laws

/-- Settles O28: a request ends in a grant or a place in the list (`requestUnit_course`); after a trip EQUIPMENT joins and
clears at once, and the phase entered anew requests each kind it needs. -/
theorem lostUnitsAreAskedForAgain : Obligations.LostUnitsAreAskedForAgain := by
  intro s l w u hl hu hs hn
  refine ⟨fun ho usable => ⟨_, (exec_laneProveFailed l u s).trans (takeEvent_outstanding _ ho), rfl, ?_⟩,
    fun rec r ph hw ho hh none needs =>
      ⟨_, (exec_laneUnitTripped l u s).trans (takeEvent_outstanding _ ho), rfl,
        from_taking (e := .tripped l u) (by simp) (by simp), ?_⟩⟩
  · dsimp only
    rw [laneProveFailed_asks (p := taking s.part _) hl hu hs hn usable]
    have asks := requestUnit_asks (((taking s.part (.proveFailed l u)).putLane l (some (w.dropUnit u))).putLane l
      (some { w.dropUnit u with state := .acquiring })) l u
    refine ⟨from_taking (e := .proveFailed l u) (by simp) (by simp), fun m hm => ?_, ?_, asks⟩
    · unfold Part.lane
      rw [requestUnit_lanes]
      exact (lane_putLane_ne _ hm _).trans (lane_putLane_ne _ hm _)
    · unfold Part.lane
      rw [requestUnit_lanes]
      exact lane_putLane _ l _
  · exact laneTripped_asksAgain (p := taking s.part (.tripped l u)) hl hu hs hn hh (washesBy_phase hw) none (needs_of needs)

end Sys2Proof
end

section
/-! SUPPORT. A unit moved: what it tells and reports (R145, R148), and the wait list served when it is free (R138). -/

namespace Sys2Proof.Laws

open Sys2Proof.Machine

/-! ### The words of the statements -/

theorem readingAt_eq (pol : Polarity) (level : Level) : readingAt pol level = feedbackOf pol level := by
  cases pol <;> cases level <;> rfl

theorem readingAt_feedback (p : Part) (u : UnitId) :
    readingAt (p.plant.polarity.get u) (p.unit u).input = p.feedback u := readingAt_eq _ _

theorem feedback_kept {p q : Part} {u : UnitId} (h : q.plant = p.plant) (k : (q.unit u).input = (p.unit u).input) :
    q.feedback u = p.feedback u := by
  unfold Part.feedback; rw [h, k]

theorem withoutUnit_eq (w : Wash) (u : UnitId) : withoutUnit w u = w.dropUnit u := by cases u <;> rfl

theorem guardOf_eq (p : Part) (u : UnitId) : guardOf p u = p.guardTime u := by cases u <;> rfl

theorem guardOf_kept {p q : Part} (h : q.plant = p.plant) (u : UnitId) : guardOf q u = guardOf p u := by
  unfold guardOf; rw [h]

/-! ### One unit moved -/

/-- Of the units only `u` changes, and the level of its input stays. -/
def MovesUnit (p q : Part) (u : UnitId) : Prop := OtherUnitsKept p q u ∧ (q.unit u).input = (p.unit u).input

theorem movesUnit_of_units {p q : Part} {u : UnitId} (h : ∀ v, q.unit v = p.unit v) : MovesUnit p q u :=
  ⟨fun v _ => h v, congrArg UnitRecord.input (h u)⟩

theorem movesUnit_refl (p : Part) (u : UnitId) : MovesUnit p p u := movesUnit_of_units fun _ => rfl

theorem movesUnit_kept {xs : List Piece} {p q : Part} (k : OnlyChanges xs p q) (h : Piece.units ∉ xs) (u : UnitId) :
    MovesUnit p q u := movesUnit_of_units (unit_kept k h)

theorem movesUnit_trans {p q r : Part} {u : UnitId} (h : MovesUnit p q u) (k : MovesUnit q r u) : MovesUnit p r u :=
  ⟨fun v hv => (k.1 v hv).trans (h.1 v hv), k.2.trans h.2⟩

theorem movesUnit_setUnit (p : Part) (u : UnitId) (x : UnitState) : MovesUnit p (p.setUnit u x) u :=
  ⟨fun _ hv => setUnit_unit_ne p hv x, by rw [setUnit_unit]⟩

theorem movesUnit_serveWait (p : Part) (u : UnitId) : MovesUnit p (p.serveWait u) u :=
  ⟨fun _ hv => serveWait_unit_ne p hv, serveWait_input p u⟩

theorem setUnit_state (p : Part) (u : UnitId) (x : UnitState) : ((p.setUnit u x).unit u).state = x := by
  rw [setUnit_unit]

/-! ### Reports and notices -/

/-- R148: the report shows the state and the reading the unit then has. -/
theorem reportEquipment_told (p : Part) (u : UnitId) (e : EquipmentEvent) (before : UnitState) :
    Reports p (p.reportEquipment u e before)
      [.equipment u e (p.unit u).state before before.lane (failureOf (p.unit u).state) (p.feedback u)] := by
  refine (reportEquipment_link p u e before).trans ?_
  cases (p.unit u).state <;> rfl

/-- A unit's new state and the report of it. -/
theorem setUnit_told (p : Part) (u : UnitId) (x : UnitState) (e : EquipmentEvent) (before : UnitState) :
    Reports p ((p.setUnit u x).reportEquipment u e before)
      [.equipment u e x before before.lane (failureOf x) (p.feedback u)] := by
  have told := reportEquipment_told (p.setUnit u x) u e before
  rwa [setUnit_state, setUnit_feedback] at told

theorem tellNews_told (p : Part) (u : UnitId) (n : UnitNews) : NewsTold (p.tellNews u n).events u n := by
  rw [tellNews_events]
  exact ⟨fun l => by cases l <;> simp, by simp⟩

theorem tellNews_mem {p : Part} {e : Event} (h : e ∈ p.events) (u : UnitId) (n : UnitNews) : e ∈ (p.tellNews u n).events := by
  rw [tellNews_events]
  exact List.mem_append_left _ h

theorem newsTold_events {p q : Part} {u : UnitId} {n : UnitNews} (h : NewsTold p.events u n) (k : q.events = p.events) :
    NewsTold q.events u n := by rwa [k]

/-- Reports made stand where the link is left alone after them. -/
theorem reports_kept {xs : List Piece} {p q r : Part} {bs : List ReportBody} (h : Reports p q bs) (k : OnlyChanges xs q r)
    (hx : ∀ x ∈ [Piece.rx, .rxQueue, .reply, .reports, .sending, .seq, .errors, .overflow, .reportLoss, .cursor, .rate,
      .softReset], x ∉ xs) : Reports p r bs := (link_kept k hx).trans h

/-! ### A unit that fails (R140, R142) -/

/-- The unit FAILED and reported, its lane told, then the notices sent. -/
def unitFails (p : Part) (u : UnitId) (c : FailCause) (e : EquipmentEvent) (before : UnitState) (told : Event) : Part :=
  (((p.setUnit u (.failed c)).reportEquipment u e before).raise told).tellNews u .failed

theorem unitFails_course (p : Part) (u : UnitId) (c : FailCause) (e : EquipmentEvent) (before : UnitState) (told : Event) :
    MovesUnit p (unitFails p u c e before told) u ∧ ((unitFails p u c e before told).unit u).state = .failed c ∧
    told ∈ (unitFails p u c e before told).events ∧ NewsTold (unitFails p u c e before told).events u .failed ∧
    Reports p (unitFails p u c e before told) [.equipment u e (.failed c) before before.lane (some c) (p.feedback u)] := by
  have after : OnlyChanges ([Piece.events] ++ reporting) (p.setUnit u (.failed c)) (unitFails p u c e before told) := by
    unfold unitFails; simp
  have noted : OnlyChanges [.events] ((p.setUnit u (.failed c)).reportEquipment u e before)
      (unitFails p u c e before told) := by
    unfold unitFails; simp
  refine ⟨movesUnit_trans (movesUnit_setUnit p u _) (movesUnit_kept after (by simp) u), ?_, tellNews_mem (by simp) u _,
    tellNews_told _ u _, reports_kept (setUnit_told p u _ _ _) noted (by simp)⟩
  rw [unit_kept after (by simp), setUnit_state]

/-! ### A unit that is free (R138) -/

theorem waitOf_kept {xs : List Piece} {p q : Part} (k : OnlyChanges xs p q) (h1 : Piece.pumpWait ∉ xs)
    (h2 : Piece.blowerWait ∉ xs) (u : UnitId) : waitOf q u = waitOf p u := by
  cases u with
  | p1 | p2 => exact k .pumpWait h1
  | bl => exact k .blowerWait h2

/-- What is left unserved does not undo it. -/
theorem freedUnit_kept {xs : List Piece} {p q r : Part} {u : UnitId} (h : FreedUnit p q u) (k : OnlyChanges xs q r)
    (h1 : Piece.units ∉ xs) (h2 : Piece.pumpWait ∉ xs) (h3 : Piece.blowerWait ∉ xs) (he : ∀ e ∈ q.events, e ∈ r.events) :
    FreedUnit p r u := by
  obtain ⟨idle, served⟩ := h
  have unit := unit_kept k h1 u
  have wait := waitOf_kept k h2 h3 u
  refine ⟨fun hw => by rw [unit, wait]; exact idle hw, fun l rest hw => ?_⟩
  obtain ⟨state, left, granted⟩ := served l rest hw
  rw [unit, wait]
  exact ⟨state, left, he _ granted⟩

theorem freedUnit_of_waitOf {p p' q : Part} {u : UnitId} (h : FreedUnit p' q u) (k : waitOf p' u = waitOf p u) :
    FreedUnit p q u := by
  unfold FreedUnit at h ⊢
  rwa [k] at h

/-- The head of the wait list gets a unit that is AVAILABLE. -/
theorem serveWait_frees {p : Part} {u : UnitId} (h : (p.unit u).state = .available) : FreedUnit p (p.serveWait u) u := by
  unfold FreedUnit
  simp only [waitOf_eq]
  refine ⟨fun empty => ?_, fun l rest waits => ?_⟩
  · rw [serveWait_none empty]
    exact ⟨h, empty⟩
  · rw [serveWait_some waits, grant_unit, grant_waiting, setWaiting_waiting]
    exact ⟨rfl, rfl, grant_told _ u l⟩

/-- The unit free and its wait list served, before the report. -/
def unitServed (p : Part) (u : UnitId) : Part := (p.setUnit u .available).serveWait u

theorem unitServed_only (p : Part) (u : UnitId) : OnlyChanges handing p (unitServed p u) := by
  unfold unitServed; simp

theorem unitServed_frees (p : Part) (u : UnitId) : FreedUnit p (unitServed p u) u :=
  freedUnit_of_waitOf (serveWait_frees (setUnit_state p u .available))
    (waitOf_kept (xs := [.units, .events]) (by simp) (by simp) (by simp) u)

theorem movesUnit_unitServed (p : Part) (u : UnitId) : MovesUnit p (unitServed p u) u :=
  movesUnit_trans (movesUnit_setUnit p u .available) (movesUnit_serveWait _ u)

theorem freedUnit_tellNews {p q : Part} {u : UnitId} (h : FreedUnit p q u) (v : UnitId) (n : UnitNews) :
    FreedUnit p (q.tellNews v n) u :=
  freedUnit_kept (xs := [.events]) h (by simp) (by simp) (by simp) (by simp) fun _ he => tellNews_mem he v n

end Sys2Proof.Laws
end

section
/-! SUPPORT. FEEDBACK_CHANGE (Table 7-3): what the reading does to the unit in each of its states. -/

namespace Sys2Proof.Laws

open Sys2Proof.Machine

section Acts
variable {p : Part} {u : UnitId}

theorem proveUnit_of {l : LaneId} {e : Nat} (h : (p.unit u).state = .proving l e) : p.proveUnit u =
    ((p.setUnit u (.running l)).reportEquipment u .proven (.proving l e)).raise (.proven l u) := by
  unfold Part.proveUnit; rw [h]

theorem tripUnit_of {l : LaneId} (h : (p.unit u).state = .running l) : p.tripUnit u =
    unitFails p u .trip .tripped (.running l) (.tripped l u) := by
  unfold Part.tripUnit unitFails; rw [h]

theorem feedbackActs_proves {l : LaneId} {e : Nat} (hf : p.feedback u = .running) (hs : (p.unit u).state = .proving l e) :
    p.feedbackActs u = p.proveUnit u := by
  unfold Part.feedbackActs; rw [hf, hs]

theorem feedbackActs_trips {l : LaneId} (hf : p.feedback u = .stopped) (hs : (p.unit u).state = .running l) :
    p.feedbackActs u = p.tripUnit u := by
  unfold Part.feedbackActs; rw [hf, hs]

theorem feedbackActs_runsOn {l : LaneId} (hf : p.feedback u = .running) (hs : (p.unit u).state = .running l) :
    p.feedbackActs u = p := by
  unfold Part.feedbackActs; rw [hf, hs]

theorem feedbackActs_unexpected (hf : p.feedback u = .running) (hp : ∀ l e, (p.unit u).state ≠ .proving l e)
    (hr : ∀ l, (p.unit u).state ≠ .running l) :
    p.feedbackActs u = p.reportEquipment u .feedbackUnexpected (p.unit u).state := by
  unfold Part.feedbackActs
  rw [hf]
  cases hs : (p.unit u).state with
  | proving l e => exact absurd hs (hp l e)
  | running l => exact absurd hs (hr l)
  | _ => rfl

theorem feedbackActs_rests (hf : p.feedback u = .stopped) (hr : ∀ l, (p.unit u).state ≠ .running l) :
    p.feedbackActs u = p := by
  unfold Part.feedbackActs
  rw [hf]
  cases hs : (p.unit u).state with
  | running l => exact absurd hs (hr l)
  | _ => rfl

theorem movesUnit_proveUnit (p : Part) (u : UnitId) : MovesUnit p (p.proveUnit u) u := by
  unfold Part.proveUnit
  split
  next l e _ =>
    exact movesUnit_trans (movesUnit_setUnit p u (.running l))
      (movesUnit_kept (xs := [Piece.events] ++ reporting) (by simp) (by simp) u)
  next => exact movesUnit_refl p u

theorem movesUnit_tripUnit (p : Part) (u : UnitId) : MovesUnit p (p.tripUnit u) u := by
  unfold Part.tripUnit
  split
  · exact (unitFails_course p u _ _ _ _).1
  · exact movesUnit_refl p u

theorem movesUnit_feedbackActs (p : Part) (u : UnitId) : MovesUnit p (p.feedbackActs u) u := by
  unfold Part.feedbackActs
  split
  · exact movesUnit_proveUnit p u
  · exact movesUnit_refl p u
  · exact movesUnit_of_units fun v => reportEquipment_unit p u v _ _
  · exact movesUnit_tripUnit p u
  · exact movesUnit_refl p u

theorem proveUnit_proves {l : LaneId} {e : Nat} (h : (p.unit u).state = .proving l e) :
    ((p.proveUnit u).unit u).state = .running l ∧ .proven l u ∈ (p.proveUnit u).events ∧
    Reports p (p.proveUnit u) [.equipment u .proven (.running l) (.proving l e) (some l) none (p.feedback u)] := by
  rw [proveUnit_of h]
  refine ⟨?_, by simp, reports_kept (xs := [.events]) (setUnit_told p u _ _ _) (by simp) (by simp)⟩
  rw [unit_kept (xs := [Piece.events] ++ reporting) (p := p.setUnit u (.running l)) (by simp) (by simp), setUnit_state]

theorem tripUnit_trips {l : LaneId} (h : (p.unit u).state = .running l) :
    ((p.tripUnit u).unit u).state = .failed .trip ∧ .tripped l u ∈ (p.tripUnit u).events ∧
    NewsTold (p.tripUnit u).events u .failed ∧
    Reports p (p.tripUnit u) [.equipment u .tripped (.failed .trip) (.running l) (some l) (some .trip) (p.feedback u)] := by
  rw [tripUnit_of h]
  exact (unitFails_course p u .trip .tripped (.running l) (.tripped l u)).2

end Acts

/-- The unit's input at the level taken. -/
def inputTaken (p : Part) (u : UnitId) (level : Level) : Part := p.putUnit u { p.unit u with input := level }

section Taken
variable (p : Part) (u : UnitId) (level : Level)

theorem inputTaken_state : ((inputTaken p u level).unit u).state = (p.unit u).state := by
  unfold inputTaken; rw [unit_putUnit]

theorem inputTaken_input : ((inputTaken p u level).unit u).input = level := by
  unfold inputTaken; rw [unit_putUnit]

theorem inputTaken_others : OtherUnitsKept p (inputTaken p u level) u := fun _ hv => unit_putUnit_ne p hv _

theorem inputTaken_feedback : (inputTaken p u level).feedback u = readingAt (p.plant.polarity.get u) level := by
  rw [← readingAt_feedback, inputTaken_input]
  rfl

theorem takeFeedback_changed (h : (p.unit u).input ≠ level) :
    p.takeFeedback u level = (inputTaken p u level).feedbackActs u := if_neg h

end Taken

end Sys2Proof.Laws

namespace Sys2Proof

open Machine Laws

/-- Settles O15: the input is taken, then Table 7-3 is read by the new reading and the unit's state. -/
theorem feedbackProvesTripsOrIsReported : Obligations.FeedbackProvesTripsOrIsReported := by
  intro s u level live changed reading before
  have only : OnlyChanges ([Piece.units, .events] ++ reporting) s.part (s.part.takeFeedback u level) := by simp
  obtain ⟨others, input⟩ := movesUnit_feedbackActs (inputTaken s.part u level) u
  have hf : (inputTaken s.part u level).feedback u = reading := inputTaken_feedback s.part u level
  have hs : ((inputTaken s.part u level).unit u).state = before := inputTaken_state s.part u level
  have acts := takeFeedback_changed s.part u level changed
  have row : exec (.feedbackChange u level) s = .next { s with part := s.part.takeFeedback u level } := by
    rw [exec_feedbackChange, if_pos live]
  refine ⟨_, row, rfl, only, ?_⟩
  dsimp only
  rw [acts]
  refine ⟨fun v hv => (others v hv).trans (inputTaken_others s.part u level v hv),
    input.trans (inputTaken_input s.part u level), ?_, ?_, ?_, ?_, ?_⟩
  · intro l e running proving
    rw [feedbackActs_proves (hf.trans running) (hs.trans proving), proving]
    have proves := proveUnit_proves (hs.trans proving)
    rwa [hf.trans running] at proves
  · intro l stopped runs
    rw [feedbackActs_trips (hf.trans stopped) (hs.trans runs), runs]
    have trips := tripUnit_trips (hs.trans runs)
    rwa [hf.trans stopped] at trips
  · intro running hp hr
    have told := reportEquipment_told (inputTaken s.part u level) u .feedbackUnexpected before
    rw [hs, hf.trans running] at told
    rw [feedbackActs_unexpected (hf.trans running) (by rwa [hs]) (by rwa [hs]), hs]
    exact ⟨hs, rfl, told⟩
  · intro stopped hr
    rw [feedbackActs_rests (hf.trans stopped) (by rwa [hs])]
    exact ⟨hs, rfl, rfl⟩
  · intro l running runs
    rw [feedbackActs_runsOn (hf.trans running) (hs.trans runs)]
    exact ⟨hs, rfl, rfl⟩

end Sys2Proof
end

section
/-! SUPPORT. The arbiter's times and STOP (R140, R143, R144). -/

namespace Sys2Proof.Laws

open Sys2Proof.Machine

/-! ### The times that end -/

theorem proveFails_of {p : Part} {u : UnitId} {l : LaneId} {e : Nat} (h : (p.unit u).state = .proving l e) :
    p.proveFails u = unitFails p u .prove .proveFailed (.proving l e) (.proveFailed l u) := by
  unfold Part.proveFails unitFails; rw [h]

theorem guardEnds_of {p : Part} {u : UnitId} {e : Nat} (h : (p.unit u).state = .guarded e) :
    p.guardEnds u = p.freeUnit u := by
  unfold Part.guardEnds; rw [h]

theorem freeUnit_frees (p : Part) (u : UnitId) : FreedUnit p (p.freeUnit u) u :=
  freedUnit_tellNews (unitServed_frees p u) u .available

theorem movesUnit_freeUnit (p : Part) (u : UnitId) : MovesUnit p (p.freeUnit u) u :=
  movesUnit_trans (movesUnit_unitServed p u) (movesUnit_of_units fun v => tellNews_unit _ u v .available)

/-- PROVE_EXPIRY and GUARD_END, each on a unit still in its state. -/
theorem proveAndGuardTimes_end : ProveAndGuardTimesEnd := by
  intro s u
  refine ⟨fun l e ho hs => ⟨_, (exec_proveExpiry u s).trans (takeEvent_outstanding _ ho), rfl,
      from_taking (e := .proveExpiry u) (by simp) (by simp), ?_⟩,
    fun e ho hs => ⟨_, (exec_guardEnd u s).trans (takeEvent_outstanding _ ho), rfl,
      from_taking (e := .guardEnd u) (by simp) (by simp), ?_⟩⟩ <;> dsimp only
  · rw [proveFails_of (p := taking s.part (.proveExpiry u)) hs, readingAt_feedback]
    obtain ⟨moves, course⟩ := unitFails_course (taking s.part (.proveExpiry u)) u .prove .proveFailed (.proving l e)
      (.proveFailed l u)
    exact ⟨moves.1, course⟩
  · rw [guardEnds_of (p := taking s.part (.guardEnd u)) hs]
    exact ⟨(movesUnit_freeUnit (taking s.part (.guardEnd u)) u).1, freeUnit_frees (taking s.part (.guardEnd u)) u,
      tellNews_told _ u _⟩

/-! ### The lane's record of a unit it loses -/

theorem modWash_lane (p : Part) (l : LaneId) (g : Wash → Wash) : (p.modWash l g).lane l = (p.lane l).map g := by
  cases h : p.lane l with
  | none => unfold Part.modWash; rw [h]; exact h
  | some w => rw [modWash_of h, lane_putLane]; rfl

theorem dropUnit_holdsUnit (w : Wash) (u : UnitId) : (w.dropUnit u).holdsUnit u = false := by
  cases u with
  | bl => rfl
  | p1 | p2 =>
    unfold Wash.dropUnit
    dsimp only
    split
    next => rfl
    next other => simpa [Wash.holdsUnit] using other

/-- What is lost once stays lost. -/
theorem dropUnit_holdsUnit_of {w : Wash} {v : UnitId} (h : w.holdsUnit v = false) (u : UnitId) :
    (w.dropUnit u).holdsUnit v = false := by
  cases u with
  | bl =>
    cases v with
    | p1 | p2 => exact h
    | bl => rfl
  | p1 | p2 =>
    unfold Wash.dropUnit
    dsimp only
    split
    · cases v with
      | p1 | p2 => rfl
      | bl => exact h
    · exact h

/-! ### One unit under STOP (R144) -/

/-- The lane's record of the grant cleared (log 13). -/
def grantLost (p : Part) (l : LaneId) (u : UnitId) : Part := p.modWash l fun w => w.dropUnit u

theorem grantLost_only (p : Part) (l : LaneId) (u : UnitId) : OnlyChanges [.lanes] p (grantLost p l u) := by
  unfold grantLost; simp

/-- The unit stopped and reported, before a free one is handed on. -/
def stopReported (p : Part) (l : LaneId) (u : UnitId) (x : UnitState) : Part :=
  ((grantLost p l u).setUnit u x).reportEquipment u .stopped (p.unit u).state

section Stop
variable {p : Part} {u : UnitId} {l : LaneId}

theorem stopByLine_idle (h : ∀ l, ¬ RunsFor p u l) : p.stopByLine u = p := by
  unfold Part.stopByLine
  cases hs : (p.unit u).state with
  | proving l e => exact absurd (.inr ⟨e, hs⟩) (h l)
  | running l => exact absurd (.inl hs) (h l)
  | _ => rfl

theorem grantLost_guardTime (p : Part) (l : LaneId) (u : UnitId) : (grantLost p l u).guardTime u = guardOf p u :=
  (guardOf_eq _ u).symm.trans (guardOf_kept (grantLost_only p l u .plant (by simp)) u)

theorem grantLost_clock (p : Part) (l : LaneId) (u : UnitId) : (grantLost p l u).clock = p.startUp.clock :=
  grantLost_only p l u .clock (by simp)

theorem stopByLine_of (h : RunsFor p u l) : p.stopByLine u =
    if guardOf p u = 0 then ((stopReported p l u .available).serveWait u).tellNews u .available
    else stopReported p l u (.guarded (secondsOn p.startUp.clock (guardOf p u))) := by
  rw [← grantLost_guardTime p l u, ← grantLost_clock p l u]
  unfold Part.stopByLine stopReported grantLost
  rcases h with hs | ⟨e, hs⟩ <;> rw [hs]

theorem runsFor_lane (h : RunsFor p u l) : (p.unit u).state.lane = some l := by
  rcases h with hs | ⟨e, hs⟩ <;> rw [hs] <;> rfl

/-- A unit runs for one lane. -/
theorem runsFor_unique {m : LaneId} (h : RunsFor p u l) (k : RunsFor p u m) : m = l :=
  Option.some.inj ((runsFor_lane k).symm.trans (runsFor_lane h))

theorem stopReported_only (p : Part) (l : LaneId) (u : UnitId) (x : UnitState) :
    OnlyChanges ([Piece.lanes, .units, .events] ++ reporting) p (stopReported p l u x) := by
  unfold stopReported grantLost; simp

theorem stopReported_state (p : Part) (l : LaneId) (u : UnitId) (x : UnitState) :
    ((stopReported p l u x).unit u).state = x := setUnit_state (grantLost p l u) u x

theorem movesUnit_stopReported (p : Part) (l : LaneId) (u : UnitId) (x : UnitState) :
    MovesUnit p (stopReported p l u x) u :=
  movesUnit_trans (movesUnit_of_units (unit_kept (grantLost_only p l u) (by simp))) (movesUnit_setUnit _ u x)

theorem stopReported_moved (p : Part) (l : LaneId) (u : UnitId) (x : UnitState) :
    OnlyChanges ([Piece.units, .events] ++ reporting) (grantLost p l u) (stopReported p l u x) := by
  unfold stopReported; simp

theorem stopReported_lane (p : Part) (l : LaneId) (u : UnitId) (x : UnitState) :
    (stopReported p l u x).lane l = (p.lane l).map (withoutUnit · u) := by
  rw [lane_kept (stopReported_moved p l u x) (by simp), grantLost, modWash_lane]
  exact congrArg (Option.map · (p.lane l)) (funext fun w => (withoutUnit_eq w u).symm)

theorem stopReported_others (p : Part) (l : LaneId) (u : UnitId) (x : UnitState) :
    OtherLaneKept p (stopReported p l u x) l := fun m hm =>
  (lane_kept (stopReported_moved p l u x) (by simp) m).trans (modWash_other p l _ m hm)

theorem stopReported_told (h : RunsFor p u l) (x : UnitState) (hx : failureOf x = none) :
    Reports p (stopReported p l u x) [.equipment u .stopped x (p.unit u).state (some l) none
      (readingAt (p.plant.polarity.get u) (p.unit u).input)] := by
  have told := setUnit_told (grantLost p l u) u x .stopped (p.unit u).state
  have only := grantLost_only p l u
  have reading : (grantLost p l u).feedback u = p.feedback u :=
    feedback_kept (only .plant (by simp)) (by rw [unit_kept only (by simp)])
  rw [runsFor_lane h, hx, reading, ← readingAt_feedback] at told
  exact reports_trans (reports_none (link_kept only (by simp))) (only .clock (by simp)) told

theorem stopByLine_stops (p : Part) (u : UnitId) : UnitStopped p (p.stopByLine u) u := by
  refine ⟨stopByLine_idle, fun l h => ?_⟩
  have stops := stopByLine_of h
  by_cases g : guardOf p u = 0
  · rw [if_pos g] at stops
    rw [stops]
    have handed : OnlyChanges handing (stopReported p l u .available)
      (((stopReported p l u .available).serveWait u).tellNews u .available) := by simp
    obtain ⟨others, input⟩ := movesUnit_trans (movesUnit_stopReported p l u .available) (movesUnit_serveWait _ u)
    have freed := freedUnit_tellNews (freedUnit_of_waitOf (serveWait_frees (stopReported_state p l u .available))
      (waitOf_kept (stopReported_only p l u .available) (by simp) (by simp) u)) u .available
    have told := stopReported_told h .available rfl
    exact ⟨onlyChanges_trans (onlyChanges_mono (stopReported_only p l u .available) (by simp))
        (onlyChanges_mono handed (by simp)), others, input,
      (lane_kept handed (by simp) l).trans (stopReported_lane p l u _),
      fun m hm => (lane_kept handed (by simp) m).trans (stopReported_others p l u _ m hm),
      fun pos => absurd g (Nat.ne_of_gt pos),
      fun _ => ⟨freed, tellNews_told _ u _, (link_kept handed (by simp)).trans told⟩⟩
  · rw [if_neg g] at stops
    rw [stops]
    obtain ⟨others, input⟩ := movesUnit_stopReported p l u (.guarded (secondsOn p.startUp.clock (guardOf p u)))
    have only := stopReported_only p l u (.guarded (secondsOn p.startUp.clock (guardOf p u)))
    exact ⟨onlyChanges_mono only (by simp), others, input, stopReported_lane p l u _, stopReported_others p l u _,
      fun _ => ⟨only, stopReported_state p l u _, stopReported_told h _ rfl⟩, fun zero => absurd zero g⟩

end Stop

theorem arbiterStop_actsUnitByUnit : ArbiterStopActsUnitByUnit := fun s ho =>
  ⟨_, _, _, (exec_arbiterStopAsserted s).trans (takeEvent_outstanding _ ho), rfl, stopByLine_stops _ .p1,
    stopByLine_stops _ .p2, stopByLine_stops _ .bl⟩

/-! ### Several units under STOP, with guard times above 0 -/

/-- Those of `us` that ran are in GUARD and no lane's record names them; nothing else has changed. -/
structure GuardsUnits (us : List UnitId) (p q : Part) : Prop where
  only : OnlyChanges ([Piece.lanes, .units, .events] ++ reporting) p q
  input : ∀ u, (q.unit u).input = (p.unit u).input
  guards : ∀ u ∈ us, ∀ l, RunsFor p u l →
    (q.unit u).state = .guarded (min (p.startUp.clock + guardOf p u) 4294967295)
  stays : ∀ u, (u ∈ us → ∀ l, ¬ RunsFor p u l) → (q.unit u).state = (p.unit u).state
  lanes : ∀ l w, p.lane l = some w → ∃ w', q.lane l = some w' ∧
    (∀ u ∈ us, RunsFor p u l → w'.holdsUnit u = false) ∧ ∀ v, w.holdsUnit v = false → w'.holdsUnit v = false

theorem guardsUnits_idle {p : Part} {u : UnitId} (h : ∀ l, ¬ RunsFor p u l) : GuardsUnits [u] p p where
  only := onlyChanges_refl _ p
  input _ := rfl
  guards _ hv l runs := absurd (List.mem_singleton.1 hv ▸ runs) (h l)
  stays _ _ := rfl
  lanes l w hw := ⟨w, hw, fun _ hv runs => absurd (List.mem_singleton.1 hv ▸ runs) (h l), fun _ => id⟩

theorem guardsUnits_of_stopped {p q : Part} {u : UnitId} (h : UnitStopped p q u) (hg : 0 < guardOf p u) :
    GuardsUnits [u] p q := by
  obtain ⟨idle, stopped⟩ := h
  by_cases runs : ∃ l, RunsFor p u l
  · obtain ⟨l, runs⟩ := runs
    obtain ⟨-, others, input, lane, otherLane, guarded, -⟩ := stopped l runs
    obtain ⟨only, state, -⟩ := guarded hg
    refine ⟨only, fun v => ?_, fun v hv _ _ => ?_, fun v hv => ?_, fun m w hw => ?_⟩
    · by_cases hv : v = u
      · rw [hv]; exact input
      · rw [others v hv]
    · rw [List.mem_singleton.1 hv]; exact state
    · have hv : v ≠ u := fun e => hv (List.mem_singleton.2 e) l (e ▸ runs)
      rw [others v hv]
    · by_cases hm : m = l
      · refine ⟨w.dropUnit u, ?_, fun v hv _ => ?_, fun v lost => dropUnit_holdsUnit_of lost u⟩
        · rw [hm, lane, ← hm, hw, Option.map_some, withoutUnit_eq]
        · rw [List.mem_singleton.1 hv]; exact dropUnit_holdsUnit w u
      · exact ⟨w, (otherLane m hm).trans hw,
          fun v hv other => absurd (runsFor_unique runs (List.mem_singleton.1 hv ▸ other)) hm, fun _ => id⟩
  · have still : ∀ l, ¬ RunsFor p u l := not_exists.1 runs
    rw [idle still]
    exact guardsUnits_idle still

theorem runsFor_same {p q : Part} {u : UnitId} (h : (q.unit u).state = (p.unit u).state) (l : LaneId) :
    RunsFor q u l ↔ RunsFor p u l := by
  unfold RunsFor; rw [h]

theorem guardsUnits_guardOf {us : List UnitId} {p q : Part} (h : GuardsUnits us p q) (u : UnitId) :
    guardOf q u = guardOf p u := guardOf_kept (h.only .plant (by simp)) u

/-- The units of `vs` are stopped after those of `us`, each unit once. -/
theorem guardsUnits_append {us vs : List UnitId} {p q r : Part} (h : GuardsUnits us p q) (k : GuardsUnits vs q r)
    (apart : ∀ u ∈ us, u ∉ vs) : GuardsUnits (us ++ vs) p r := by
  have clock : q.startUp.clock = p.startUp.clock := h.only .clock (by simp)
  have untouched : ∀ v ∈ vs, (q.unit v).state = (p.unit v).state := fun v hv => h.stays v fun hu => absurd hv (apart v hu)
  refine ⟨onlyChanges_trans h.only k.only, fun u => (k.input u).trans (h.input u), fun u hu l runs => ?_,
    fun u still => ?_, fun l w hw => ?_⟩
  · rcases List.mem_append.1 hu with hu | hv
    · exact (k.stays u fun hv => absurd hv (apart u hu)).trans (h.guards u hu l runs)
    · rw [k.guards u hv l ((runsFor_same (untouched u hv) l).2 runs), clock, guardsUnits_guardOf h]
  · have first := h.stays u fun hu => still (List.mem_append_left _ hu)
    exact (k.stays u fun hv l runs => still (List.mem_append_right _ hv) l ((runsFor_same first l).1 runs)).trans first
  · obtain ⟨w₁, hw₁, lost₁, keeps₁⟩ := h.lanes l w hw
    obtain ⟨w₂, hw₂, lost₂, keeps₂⟩ := k.lanes l w₁ hw₁
    refine ⟨w₂, hw₂, fun u hu runs => ?_, fun v hv => keeps₂ v (keeps₁ v hv)⟩
    rcases List.mem_append.1 hu with hu | hv
    · exact keeps₂ u (lost₁ u hu runs)
    · exact lost₂ u hv ((runsFor_same (untouched u hv) l).2 runs)

theorem guardsUnits_all {p p₁ p₂ q : Part} (hg : ∀ u, 0 < guardOf p u) (h₁ : UnitStopped p p₁ .p1)
    (h₂ : UnitStopped p₁ p₂ .p2) (h₃ : UnitStopped p₂ q .bl) : GuardsUnits [.p1, .p2, .bl] p q := by
  have k₁ := guardsUnits_of_stopped h₁ (hg .p1)
  have k₂ := guardsUnits_append k₁ (guardsUnits_of_stopped h₂ (by rw [guardsUnits_guardOf k₁]; exact hg .p2)) (by decide)
  exact guardsUnits_append k₂ (guardsUnits_of_stopped h₃ (by rw [guardsUnits_guardOf k₂]; exact hg .bl)) (by decide)

theorem pump_ne_of_holdsUnit {w : Wash} : (w.holdsUnit .p1 = false → w.pump ≠ some .p1) ∧
    (w.holdsUnit .p2 = false → w.pump ≠ some .p2) := by
  constructor <;> simp [Wash.holdsUnit]

/-- Each unit's own stop, one after the other. -/
theorem arbiterStop_guardsRunningUnits : ArbiterStopGuardsRunningUnits := by
  intro s ho hg
  obtain ⟨t, p₁, p₂, row, pending, h₁, h₂, h₃⟩ := arbiterStop_actsUnitByUnit s ho
  obtain ⟨only, input, guards, stays, lanes⟩ := guardsUnits_all (p := taking s.part .arbiterStopAsserted) hg h₁ h₂ h₃
  have listed : ∀ u, u ∈ [UnitId.p1, .p2, .bl] := mem_allUnits
  refine ⟨t, row, pending, from_taking (by simp) only,
    fun u => ⟨input u, fun ⟨l, runs⟩ => guards u (listed u) l runs, fun hr hp => stays u fun _ l runs => ?_⟩,
    fun l w hw => ?_⟩
  · rcases runs with runs | ⟨e, proves⟩
    · exact hr l runs
    · exact hp l e proves
  · obtain ⟨w', lane, lost, -⟩ := lanes l w hw
    exact ⟨w', lane, fun runs => pump_ne_of_holdsUnit.1 (lost .p1 (listed _) runs),
      fun runs => pump_ne_of_holdsUnit.2 (lost .p2 (listed _) runs), lost .bl (listed _)⟩

end Sys2Proof.Laws

namespace Sys2Proof

open Laws

/-- Settles O17: the two times by the state they end; STOP unit by unit, and its three stops taken together where every
guard time is above 0. -/
theorem unitTimesEndAndStopGuardsUnits : Obligations.UnitTimesEndAndStopGuardsUnits :=
  ⟨proveAndGuardTimes_end, arbiterStop_guardsRunningUnits, arbiterStop_actsUnitByUnit⟩

end Sys2Proof
end

section
/-! SUPPORT. EQUIPMENT LOCK, UNLOCK and RESET_FAULT (R146, R147). -/

namespace Sys2Proof.Laws

open Sys2Proof.Machine

theorem unitOf_none {b : Byte} (h : 3 ≤ b.toNat) : unitOf b = none := by
  have far : ∀ n : Nat, n < 3 → b ≠ BitVec.ofNat 8 n := fun n hn e => by
    rw [e, BitVec.toNat_ofNat] at h
    omega
  unfold unitOf
  rw [if_neg (show ¬ b = 0 from far 0 (by decide)), if_neg (show ¬ b = 1 from far 1 (by decide)),
    if_neg (show ¬ b = 2 from far 2 (by decide))]

theorem unitOf_some {b : Byte} {u : UnitId} (h : (b = 0 ∧ u = .p1) ∨ (b = 1 ∧ u = .p2) ∨ (b = 2 ∧ u = .bl)) :
    unitOf b = some u := by
  rcases h with ⟨rfl, rfl⟩ | ⟨rfl, rfl⟩ | ⟨rfl, rfl⟩ <;> rfl

/-! ### LOCK -/

section Lock
variable {p : Part} {u : UnitId}

theorem inHand_lane {x : UnitState} : InHand x ↔ x.lane ≠ none := by
  unfold InHand
  cases x <;> simp [UnitState.lane]

theorem notInHand_lane {x : UnitState} (h : ¬ InHand x) : x.lane = none := not_not.1 (mt inHand_lane.2 h)

theorem lockUnit_locks (h : ¬ InHand (p.unit u).state) : MovesUnit p (p.lockUnit u) u ∧
    ((p.lockUnit u).unit u).state = .locked ∧ NewsTold (p.lockUnit u).events u .locked ∧
    Reports p (p.lockUnit u) [.equipment u .locked .locked (p.unit u).state none none (p.feedback u)] := by
  have told := setUnit_told p u .locked .locked (p.unit u).state
  rw [notInHand_lane h] at told
  exact ⟨movesUnit_setUnit p u _, setUnit_state p u _, tellNews_told _ u _, told⟩

theorem answerLockUnit_inHand (h : InHand (p.unit u).state) : answerLockUnit p u = refuse p .busy := by
  unfold answerLockUnit
  obtain ⟨l, hs | hs | ⟨e, hs⟩⟩ := h <;> rw [hs]

theorem answerLockUnit_locked (h : (p.unit u).state = .locked) : answerLockUnit p u = (p, .ok, .unitNow .locked) := by
  unfold answerLockUnit Part.answerUnit; rw [h]

theorem answerLockUnit_locks (h : ¬ InHand (p.unit u).state) (k : (p.unit u).state ≠ .locked) :
    answerLockUnit p u = (p.lockUnit u, .ok, .unitNow .locked) := by
  have now : (p.lockUnit u).answerUnit u = (p.lockUnit u, .ok, .unitNow .locked) := by
    unfold Part.answerUnit
    rw [(lockUnit_locks h).2.1]
  rw [← now]
  unfold answerLockUnit
  cases hs : (p.unit u).state with
  | allocated l => exact absurd ⟨l, .inl hs⟩ h
  | running l => exact absurd ⟨l, .inr (.inl hs)⟩ h
  | proving l e => exact absurd ⟨l, .inr (.inr ⟨e, hs⟩)⟩ h
  | locked => exact absurd hs k
  | available | guarded _ | failed _ => rfl

end Lock

/-! ### UNLOCK and RESET_FAULT -/

/-- State of a unit just freed: AVAILABLE, or ALLOCATED to the head of its wait list. -/
def freedState (p : Part) (u : UnitId) : UnitState :=
  match waitOf p u with
  | [] => .available
  | l :: _ => .allocated l

theorem freedUnit_state {p q : Part} {u : UnitId} (h : FreedUnit p q u) : (q.unit u).state = freedState p u := by
  obtain ⟨idle, served⟩ := h
  unfold freedState
  cases hw : waitOf p u with
  | nil => exact (idle hw).1
  | cons l rest => exact (served l rest hw).1

theorem freedState_failure (p : Part) (u : UnitId) : failureOf (freedState p u) = none := by
  unfold freedState; cases waitOf p u <;> rfl

section Restore
variable {p : Part} {u : UnitId}

theorem restoreUnit_eq (p : Part) (u : UnitId) (e : EquipmentEvent) : p.restoreUnit u e =
    ((unitServed p u).reportEquipment u e (p.unit u).state).tellNews u .available := rfl

theorem movesUnit_restoreUnit (p : Part) (u : UnitId) (e : EquipmentEvent) : MovesUnit p (p.restoreUnit u e) u :=
  movesUnit_trans (movesUnit_unitServed p u) (movesUnit_of_units fun _ => rfl)

theorem restoreUnit_frees (p : Part) (u : UnitId) (e : EquipmentEvent) : FreedUnit p (p.restoreUnit u e) u := by
  rw [restoreUnit_eq]
  exact freedUnit_tellNews (freedUnit_kept (xs := reporting) (unitServed_frees p u) (by simp) (by simp) (by simp) (by simp)
    fun _ => id) u _

theorem restoreUnit_told (h : ¬ InHand (p.unit u).state) (e : EquipmentEvent) : Reports p (p.restoreUnit u e)
    [.equipment u e (freedState p u) (p.unit u).state none none (p.feedback u)] := by
  have only := unitServed_only p u
  have told := reportEquipment_told (unitServed p u) u e (p.unit u).state
  have reading : (unitServed p u).feedback u = p.feedback u :=
    feedback_kept (only .plant (by simp)) (movesUnit_unitServed p u).2
  rw [freedUnit_state (unitServed_frees p u), freedState_failure, notInHand_lane h, reading] at told
  exact reports_kept (xs := [.events]) (reports_trans (reports_none (link_kept only (by simp))) (only .clock (by simp)) told)
    (by rw [restoreUnit_eq]; simp) (by simp)

theorem answerUnit_restored (p : Part) (u : UnitId) (e : EquipmentEvent) :
    (p.restoreUnit u e).answerUnit u = (p.restoreUnit u e, .ok, .unitNow (freedState p u)) := by
  unfold Part.answerUnit
  rw [freedUnit_state (restoreUnit_frees p u e)]

theorem answerUnlockUnit_locked (h : (p.unit u).state = .locked) :
    answerUnlockUnit p u = (p.restoreUnit u .unlocked, .ok, .unitNow (freedState p u)) := by
  unfold answerUnlockUnit
  rw [h]
  exact answerUnit_restored p u _

theorem answerUnlockUnit_other (h : (p.unit u).state ≠ .locked) : answerUnlockUnit p u = refuse p .state := by
  unfold answerUnlockUnit
  cases hs : (p.unit u).state with
  | locked => exact absurd hs h
  | _ => rfl

theorem answerResetUnit_failed {c : FailCause} (h : (p.unit u).state = .failed c) :
    answerResetUnit p u = (p.restoreUnit u .faultReset, .ok, .unitNow (freedState p u)) := by
  unfold answerResetUnit
  rw [h]
  exact answerUnit_restored p u _

theorem answerResetUnit_other (h : ∀ c, (p.unit u).state ≠ .failed c) : answerResetUnit p u = refuse p .state := by
  unfold answerResetUnit
  cases hs : (p.unit u).state with
  | failed c => exact absurd hs (h c)
  | _ => rfl

end Restore

/-! ### The frame's acceptance -/

theorem feedback_accepted (p : Part) (u : UnitId) : p.frameAccepted.feedback u = p.feedback u := by
  unfold Part.feedback; rw [accepted_plant, accepted_unit]

theorem waitOf_accepted (p : Part) (u : UnitId) : waitOf p.frameAccepted u = waitOf p u :=
  waitOf_kept (accepted_only p) (by simp) (by simp) u

theorem freedState_accepted (p : Part) (u : UnitId) : freedState p.frameAccepted u = freedState p u := by
  unfold freedState; rw [waitOf_accepted]

/-- Units that the answer leaves are those before the frame. -/
theorem otherUnitsKept_reply {p q q' : Part} {u : UnitId} (h : OtherUnitsKept p.frameAccepted q u)
    (k : OnlyChanges reporting q q') : OtherUnitsKept p q' u :=
  fun v hv => (unit_kept k (by simp) v).trans ((h v hv).trans (accepted_unit p v))

/-- A command that frees the unit: what the part then is, the report and the reply. -/
theorem freesUnit_done {s : State} {u : UnitId} {row : Instr} {tag : Byte} {c : HostCommand} {e : EquipmentEvent}
    (hc : CanHandle s) (hrow : row.command = some (tag, c)) (free : ¬ InHand (s.part.unit u).state)
    (answer : s.part.frameAccepted.answer c =
      (s.part.frameAccepted.restoreUnit u e, .ok, .unitNow (freedState s.part.frameAccepted u))) :
    Done s row handing [.equipment u e (freedState s.part u) (s.part.unit u).state none none (s.part.feedback u)] .ok
      (.unitNow (freedState s.part u)) fun q =>
        OtherUnitsKept s.part q u ∧ FreedUnit s.part q u ∧ NewsTold q.events u .available := by
  have told := restoreUnit_told (p := s.part.frameAccepted) (u := u) (by rwa [accepted_unit]) e
  rw [freedState_accepted, accepted_unit, feedback_accepted] at told
  rw [freedState_accepted] at answer
  refine done_reports hc hrow answer (by simp) told fun q' only =>
    ⟨otherUnitsKept_reply (movesUnit_restoreUnit s.part.frameAccepted u e).1 only, ?_, ?_⟩
  · have events : q'.events = _ := only .events (by simp)
    exact freedUnit_of_waitOf (freedUnit_kept (restoreUnit_frees s.part.frameAccepted u e) only (by simp) (by simp)
      (by simp) fun x hx => events ▸ hx) (waitOf_accepted s.part u)
  · exact newsTold_events (tellNews_told _ u .available) (only .events (by simp))

section Commands
variable {s : State} {b : Byte} {u : UnitId} (hc : CanHandle s) (ht : s.part.startUp.top ≠ .surveying) (tag : Byte)
include ht

theorem answerEquipment_unknown (h : 3 ≤ b.toNat) (a : Byte) :
    s.part.frameAccepted.answer (.equipmentCommand b a) = refuse s.part.frameAccepted .range :=
  (unlessSurveying_accepted ht _).trans (named_none (unitOf_none h))

theorem answerEquipment_of (h : unitOf b = some u) :
    s.part.frameAccepted.answer (.equipmentCommand b 0) = answerLockUnit s.part.frameAccepted u ∧
    s.part.frameAccepted.answer (.equipmentCommand b 1) = answerUnlockUnit s.part.frameAccepted u ∧
    s.part.frameAccepted.answer (.equipmentCommand b 2) = answerResetUnit s.part.frameAccepted u := by
  have checked := fun k => (unlessSurveying_accepted ht (named s.part.frameAccepted (unitOf b) k)).trans (named_some h)
  exact ⟨checked _, checked _, checked _⟩

include hc

theorem equipmentLock_done (h : unitOf b = some u) (free : ¬ InHand (s.part.unit u).state)
    (k : (s.part.unit u).state ≠ .locked) :
    Done s (.equipmentLock tag b) [.units, .events]
      [.equipment u .locked .locked (s.part.unit u).state none none (s.part.feedback u)] .ok (.unitNow .locked) fun q =>
        OtherUnitsKept s.part q u ∧ (q.unit u).state = .locked ∧ NewsTold q.events u .locked := by
  rw [← accepted_unit] at free k
  obtain ⟨moves, state, news, told⟩ := lockUnit_locks free
  rw [accepted_unit, feedback_accepted] at told
  refine done_reports hc rfl ((answerEquipment_of ht h).1.trans (answerLockUnit_locks free k)) (by simp) told
    fun q' only => ⟨otherUnitsKept_reply moves.1 only, ?_, newsTold_events news (only .events (by simp))⟩
  rw [unit_kept only (by simp)]
  exact state

end Commands

end Sys2Proof.Laws

namespace Sys2Proof

open Machine Laws

/-- Settles O51: each command by the unit's code, then by the state the unit is in. -/
theorem unitsAreLockedUnlockedAndReset : Obligations.UnitsAreLockedUnlockedAndReset := by
  intro s tag b hc ht
  refine ⟨fun far => ⟨reads_of hc rfl (answerEquipment_unknown ht far 0), reads_of hc rfl (answerEquipment_unknown ht far 1),
    reads_of hc rfl (answerEquipment_unknown ht far 2)⟩, fun u hu => ?_⟩
  have named := unitOf_some hu
  obtain ⟨lock, unlock, reset⟩ := answerEquipment_of ht named
  have same : s.part.frameAccepted.unit u = s.part.unit u := accepted_unit s.part u
  dsimp only
  rw [readingAt_feedback]
  refine ⟨?_, ?_, equipmentLock_done hc ht tag named, ?_, ?_, ?_, ?_⟩
  · intro hand
    exact reads_of hc rfl (lock.trans (answerLockUnit_inHand (by rwa [same])))
  · intro locked
    exact reads_of hc rfl (lock.trans (answerLockUnit_locked (by rwa [same])))
  · intro other
    exact reads_of hc rfl (unlock.trans (answerUnlockUnit_other (by rwa [same])))
  · intro locked
    exact freesUnit_done hc rfl (by rw [locked, inHand_lane]; simp [UnitState.lane])
      (unlock.trans (answerUnlockUnit_locked (by rwa [same])))
  · intro other
    exact reads_of hc rfl (reset.trans (answerResetUnit_other (by rwa [same])))
  · intro c failed
    exact freesUnit_done hc rfl (by rw [failed, inHand_lane]; simp [UnitState.lane])
      (reset.trans (answerResetUnit_failed (by rwa [same])))

end Sys2Proof
end

section
/-! SUPPORT. The channels of the valve field: what their readings say (R151, R152), and how a channel enters FAULT
(R156, R167). -/

namespace Sys2Proof.Laws

open Sys2Proof.Machine

/-! ### Readings (R151, R152) -/

theorem openActive_iff (c : Channel) : c.openActive = true ↔ ReadsActive c.sense c.openInput := by
  unfold Channel.openActive
  rw [beq_iff_eq]
  exact readingOf_active

theorem closedActive_iff (c : Channel) : c.closedActive = true ↔ ReadsActive c.sense c.closedInput := by
  unfold Channel.closedActive
  rw [beq_iff_eq]
  exact readingOf_active

theorem bothActive_iff (c : Channel) : c.bothActive = true ↔ BothActive c := by
  unfold Channel.bothActive BothActive
  rw [Bool.and_eq_true, openActive_iff, closedActive_iff]

theorem bothActive_false {c : Channel} (h : ¬ BothActive c) : c.bothActive = false :=
  Bool.eq_false_iff.2 (mt (bothActive_iff c).1 h)

/-- The readings give one state. -/
theorem stateByReadings_iff {c : Channel} {x : ChannelState} : StateByReadings c x ↔ x = c.settled := by
  unfold StateByReadings Channel.settled
  rw [← openActive_iff, ← closedActive_iff]
  cases c.closedActive <;> cases c.openActive <;> simp

theorem inTravel_iff (c : Channel) : c.state.inTravel = true ↔ InTravel c := by
  unfold ChannelState.inTravel InTravel
  cases c.state <;> simp

theorem inTravel_false {c : Channel} (h : ¬ InTravel c) : c.state.inTravel = false :=
  Bool.eq_false_iff.2 (mt (inTravel_iff c).1 h)

theorem settled_rests (c : Channel) : c.settled.inTravel = false := by
  unfold Channel.settled
  cases c.closedActive <;> cases c.openActive <;> rfl

theorem isFault_iff (x : ChannelState) : x.isFault = true ↔ ∃ c, x = .fault c := by
  cases x <;> simp [ChannelState.isFault]

theorem isFault_false {x : ChannelState} (h : ∀ c, x ≠ .fault c) : x.isFault = false :=
  Bool.eq_false_iff.2 (mt (isFault_iff x).1 (by simpa using h))

/-! ### One channel written -/

@[simp] theorem putChannel_putChannel (p : Part) (ch : ChannelId) (c d : Channel) :
    (p.putChannel ch c).putChannel ch d = p.putChannel ch d := by
  simp [Part.putChannel]

theorem otherChannels_refl (p : Part) (ch : ChannelId) : OtherChannelsKept p p ch := fun _ _ => rfl

theorem otherChannels_trans {p q r : Part} {ch : ChannelId} (h : OtherChannelsKept p q ch) (k : OtherChannelsKept q r ch) :
    OtherChannelsKept p r ch := fun d hd => (k d hd).trans (h d hd)

theorem otherChannels_putChannel (p : Part) (ch : ChannelId) (c : Channel) : OtherChannelsKept p (p.putChannel ch c) ch :=
  fun _ hd => channel_putChannel_ne p hd c

theorem otherChannels_kept {xs : List Piece} {p q r : Part} {ch : ChannelId} (h : OtherChannelsKept p q ch)
    (k : OnlyChanges xs q r) (hx : Piece.channels ∉ xs) : OtherChannelsKept p r ch := fun d hd =>
  (channel_kept k hx d).trans (h d hd)

theorem filterOwner_same {p q : Part} {f : FilterId} (h : q.filter f = p.filter f) : q.filterOwner f = p.filterOwner f := by
  unfold Part.filterOwner
  rw [h]

/-- A channel's owner hangs on the channel's back-link and the filter table. -/
theorem ownerOf_same {p q : Part} {ch : ChannelId} (hm : (q.channel ch).mappedTo = (p.channel ch).mappedTo)
    (hf : ∀ f, q.filter f = p.filter f) : q.ownerOf ch = p.ownerOf ch := by
  unfold Part.ownerOf
  rw [hm]
  split
  · exact filterOwner_same (hf _)
  · rfl

/-! ### Notices of a fault (R156, R157) -/

theorem mem_raiseOnce_of {p : Part} {e : Event} (h : e ∈ p.events) (x : Event) : e ∈ (p.raiseOnce x).events := by
  unfold Part.raiseOnce
  split
  · exact h
  · exact List.mem_append_left _ h

theorem mem_tellFault_of {p : Part} {e : Event} (h : e ∈ p.events) (f : FilterId) (r : Role) :
    e ∈ (p.tellFault f r).events := by
  unfold Part.tellFault
  split
  case h_4 => exact h
  all_goals exact mem_raiseOnce_of h _

theorem tellFault_told (p : Part) (f : FilterId) (r : Role) : FaultTold p (p.tellFault f r).events (some (f, r)) := by
  intro g role rec hm hf
  obtain ⟨rfl, rfl⟩ : f = g ∧ r = role := by simpa using hm
  have owner := filterOwner_of hf
  refine ⟨fun l washing => ?_, fun rotation running => ?_, fun rotation idle => ?_⟩
  · have lane : p.filterOwner f = .lane l := by rw [owner]; unfold FilterRecord.owner; rw [washing]
    unfold Part.tellFault
    rw [lane]
    exact mem_raiseOnce _ _
  · rw [owner_of_rotation rotation, if_pos (Option.isSome_iff_ne_none.2 running)] at owner
    unfold Part.tellFault
    rw [owner]
    exact mem_raiseOnce _ _
  · rw [owner_of_rotation rotation, idle] at owner
    unfold Part.tellFault
    rw [owner]
    exact mem_raiseOnce _ _

/-- A channel mapped to no filter has no one to tell. -/
theorem faultTold_unmapped (p : Part) (es : List Event) : FaultTold p es none := fun _ _ _ h => by cases h

theorem faultTold_same {p q : Part} {es : List Event} {m : Option (FilterId × Role)} (hf : ∀ f, q.filter f = p.filter f)
    (h : FaultTold q es m) : FaultTold p es m := fun f role r hm hr => h f role r hm ((hf f).trans hr)

/-! ### A channel in FAULT (R156, R167) -/

section Fault
variable (p : Part) (ch : ChannelId) (cause : ChannelFault)

/-- The channel's record written and captured, and the fault reported, before anyone is told. -/
def faultReported : Part :=
  let q := (p.putChannel ch { p.channel ch with state := .fault cause }).cancel (.travelExpiry ch)
  { q with valves := { q.valves with capture := some (p.captureOf ch cause) } }.report (.valveFault (p.captureOf ch cause))

variable {p ch} in
theorem faultChannel_mapped {f : FilterId} {r : Role} (back : (p.channel ch).mappedTo = some (f, r)) :
    p.faultChannel ch cause = (faultReported p ch cause).tellFault f r := by
  have captured : (p.captureOf ch cause).mappedTo = some (f, r) := back
  unfold Part.faultChannel
  dsimp only
  rw [captured]
  rfl

variable {p ch} in
theorem faultChannel_unmapped (back : (p.channel ch).mappedTo = none) :
    p.faultChannel ch cause = faultReported p ch cause := by
  have captured : (p.captureOf ch cause).mappedTo = none := back
  unfold Part.faultChannel
  dsimp only
  rw [captured]
  rfl

theorem faultReported_only : OnlyChanges ([Piece.channels, .capture, .events] ++ reporting) p (faultReported p ch cause) := by
  unfold faultReported
  simp

/-- What follows the report is the notices alone. -/
theorem faultChannel_tells : OnlyChanges [.events] (faultReported p ch cause) (p.faultChannel ch cause) := by
  cases back : (p.channel ch).mappedTo with
  | none =>
    rw [faultChannel_unmapped cause back]
    exact onlyChanges_refl _ _
  | some m =>
    rw [faultChannel_mapped cause back]
    simp

theorem faultReported_after : OnlyChanges ([Piece.capture, .events] ++ reporting)
    (p.putChannel ch { p.channel ch with state := .fault cause }) (faultReported p ch cause) := by
  unfold faultReported
  generalize p.putChannel ch { p.channel ch with state := .fault cause } = q
  simp

theorem faultChannel_after : OnlyChanges ([Piece.capture, .events] ++ reporting)
    (p.putChannel ch { p.channel ch with state := .fault cause }) (p.faultChannel ch cause) :=
  onlyChanges_trans (faultReported_after p ch cause) (onlyChanges_mono (faultChannel_tells p ch cause) (by simp))

theorem faultChannel_channel : (p.faultChannel ch cause).channel ch = { p.channel ch with state := .fault cause } :=
  (channel_kept (faultChannel_after p ch cause) (by simp) ch).trans (channel_putChannel p ch _)

theorem faultChannel_others : OtherChannelsKept p (p.faultChannel ch cause) ch :=
  otherChannels_kept (otherChannels_putChannel p ch _) (faultChannel_after p ch cause) (by simp)

theorem faultChannel_capture : (p.faultChannel ch cause).valves.capture = some (p.captureOf ch cause) :=
  faultChannel_tells p ch cause .capture (by simp)

theorem faultChannel_reports : Reports p (p.faultChannel ch cause) [.valveFault (p.captureOf ch cause)] :=
  link_kept (faultChannel_tells p ch cause) (by simp)

theorem faultChannel_told : FaultTold p (p.faultChannel ch cause).events (p.channel ch).mappedTo := by
  cases back : (p.channel ch).mappedTo with
  | none => exact faultTold_unmapped _ _
  | some m =>
    rw [faultChannel_mapped cause back]
    exact faultTold_same (fun g => filter_kept (faultReported_only p ch cause) (by simp) g)
      (tellFault_told (faultReported p ch cause) m.1 m.2)

theorem captureOf_switch :
    CaptureOf (p.captureOf ch .switch) ch (p.channel ch) .switch p.startUp.clock none (p.ownerOf ch) := by
  refine ⟨rfl, rfl, rfl, rfl, rfl, ?_, ?_, rfl, rfl, rfl⟩
  · rw [← openActive_iff]
    cases h : (p.channel ch).openActive <;> simp [Part.captureOf, h]
  · rw [← closedActive_iff]
    cases h : (p.channel ch).closedActive <;> simp [Part.captureOf, h]

theorem captureOf_travel {e ran : Nat} (h : (p.channel ch).state = .opening e ran ∨ (p.channel ch).state = .closing e ran) :
    CaptureOf (p.captureOf ch .travel) ch (p.channel ch) .travel p.startUp.clock (some ran) (p.ownerOf ch) := by
  obtain ⟨-, -, -, -, -, opened, closed, -, -, -⟩ := captureOf_switch p ch
  refine ⟨rfl, rfl, rfl, rfl, rfl, opened, closed, ?_, rfl, rfl⟩
  rcases h with h | h <;> simp [Part.captureOf, h]

end Fault

/-- A part that differs from `p` in the channel's record and its events alone: the channel enters FAULT from that record. -/
theorem faultChannel_enters {p q : Part} {ch : ChannelId} {cause : ChannelFault} {ran : Option Nat}
    (k : OnlyChanges [.channels, .events] p q) (others : OtherChannelsKept p q ch)
    (back : (q.channel ch).mappedTo = (p.channel ch).mappedTo)
    (cap : CaptureOf (q.captureOf ch cause) ch (q.channel ch) cause q.startUp.clock ran (q.ownerOf ch)) :
    EntersFault p (q.faultChannel ch cause) ch (q.channel ch) cause ran := by
  have filters : ∀ f, q.filter f = p.filter f := fun f => filter_kept k (by simp) f
  refine ⟨faultChannel_channel q ch cause, otherChannels_trans others (faultChannel_others q ch cause),
    ⟨_, faultChannel_capture q ch cause, ?_, ?_⟩, faultTold_same filters (faultChannel_told q ch cause)⟩
  · have told := faultChannel_reports q ch cause
    unfold Reports at told ⊢
    rwa [show q.clock = p.clock from k .clock (by simp), link_kept k (by simp)] at told
  · rwa [show q.startUp.clock = p.startUp.clock from k .clock (by simp), ownerOf_same back filters] at cap

end Sys2Proof.Laws

namespace Sys2Proof

open Machine Laws

/-! ### A part without supply or in reset (R166, R184) -/

/-- A part that does not work drives nothing: every output is computed from `live`. -/
theorem outputs_off {p : Part} (h : p.live = false) :
    (∀ ch, p.drive ch = .off) ∧ (∀ u, p.runOutput u = false) ∧ p.ready = false := by
  refine ⟨fun ch => ?_, fun u => ?_, ?_⟩
  · unfold Part.drive; rw [h]; rfl
  · unfold Part.runOutput; rw [h]; rfl
  · unfold Part.ready; rw [h]; rfl

/-- Every row but the line rows is run by `act`, which leaves a part that does not work as it is. -/
theorem exec_acts (c : Instr) (h : ¬ IsLineRow c) (s : State) : ∃ g, exec c s = act g s := by
  cases c
  case powerOnReset | resetLineAsserted | resetLineReleased | supplyLoss | feedbackChange => exact absurd trivial h
  all_goals
    unfold exec
    exact ⟨_, rfl⟩

/-- Settles O6: a row that is no line row acts only on a part that works, and every output is computed from `live`. -/
theorem partWithoutSupplyOrInResetIsStill : Obligations.PartWithoutSupplyOrInResetIsStill := by
  refine ⟨fun s dead => ⟨fun c hc => ?_, outputs_off dead⟩, fun s => ⟨_, rfl, rfl, ?_, rfl, outputs_off rfl⟩⟩
  · obtain ⟨g, row⟩ := exec_acts c hc s
    rw [row, act_dead g dead]
  · intro x hx
    cases x <;> simp_all [Piece.kept]

end Sys2Proof
end

section
/-! SUPPORT. A limit input taken at a new level (R151, R152, R154, R155), and a travel that runs out (R154, R156). -/

namespace Sys2Proof.Laws

open Sys2Proof.Machine

/-! ### A limit input taken: one equation a case -/

theorem putInput_eq (c : Channel) (which : Limit) (level : Level) : c.putInput which level = withInput c which level := by
  cases which <;> rfl

theorem putInput_back (c : Channel) (which : Limit) (level : Level) : (c.putInput which level).mappedTo = c.mappedTo := by
  cases which <;> rfl

section Limit
variable {p : Part} {ch : ChannelId} {which : Limit} {level : Level} {c : Channel}
  (new : (p.channel ch).input which ≠ some level) (hc : c = (p.channel ch).putInput which level)
include new hc

theorem takeLimit_switch (sound : ∀ x, c.state ≠ .fault x) (both : c.bothActive = true) :
    p.takeLimit ch which level = (p.putChannel ch c).faultChannel ch .switch := by
  subst hc
  unfold Part.takeLimit
  rw [if_neg new]
  dsimp only
  split
  · exact absurd ‹_› (sound _)
  · exact if_pos both

theorem takeLimit_fault {x : ChannelFault} (faulty : c.state = .fault x) :
    p.takeLimit ch which level = p.putChannel ch c := by
  subst hc
  unfold Part.takeLimit
  simp only [if_neg new, faulty]

section Sound
variable (one : c.bothActive = false)
include one

theorem takeLimit_unknown (h : c.state = .unknown) :
    p.takeLimit ch which level = p.putChannel ch { c with state := c.settled } := by
  subst hc
  unfold Part.takeLimit
  simp [if_neg new, h, one]

theorem takeLimit_stopped (h : c.state = .stopped) : p.takeLimit ch which level = p.putChannel ch c := by
  subst hc
  unfold Part.takeLimit
  simp [if_neg new, h, one]

theorem takeLimit_closed (h : c.state = .closed) : p.takeLimit ch which level =
    if c.closedActive then p.putChannel ch c else (p.putChannel ch c).drift ch .closed := by
  subst hc
  unfold Part.takeLimit
  simp [if_neg new, h, one]

theorem takeLimit_opened (h : c.state = .opened) : p.takeLimit ch which level =
    if c.openActive then p.putChannel ch c else (p.putChannel ch c).drift ch .opened := by
  subst hc
  unfold Part.takeLimit
  simp [if_neg new, h, one]

theorem takeLimit_opening {e ran : Nat} (h : c.state = .opening e ran) : p.takeLimit ch which level =
    if which = .openLimit ∧ c.openActive then (p.putChannel ch c).arrive ch .opened else p.putChannel ch c := by
  subst hc
  unfold Part.takeLimit
  simp [if_neg new, h, one]

theorem takeLimit_closing {e ran : Nat} (h : c.state = .closing e ran) : p.takeLimit ch which level =
    if which = .closedLimit ∧ c.closedActive then (p.putChannel ch c).arrive ch .closed else p.putChannel ch c := by
  subst hc
  unfold Part.takeLimit
  simp [if_neg new, h, one]

end Sound
end Limit

/-! ### Arrival and drift (R154, R155) -/

theorem arrive_after (p : Part) (ch : ChannelId) (x : ChannelState) :
    OnlyChanges [.events] (p.putChannel ch { p.channel ch with state := x }) (p.arrive ch x) := by
  unfold Part.arrive
  simp

theorem arrive_channel (p : Part) (ch : ChannelId) (x : ChannelState) :
    (p.arrive ch x).channel ch = { p.channel ch with state := x } :=
  (channel_kept (arrive_after p ch x) (by simp) ch).trans (channel_putChannel p ch _)

theorem arrive_others (p : Part) (ch : ChannelId) (x : ChannelState) : OtherChannelsKept p (p.arrive ch x) ch :=
  otherChannels_kept (otherChannels_putChannel p ch _) (arrive_after p ch x) (by simp)

theorem arrive_link (p : Part) (ch : ChannelId) (x : ChannelState) : (p.arrive ch x).link = p.link :=
  (link_kept (arrive_after p ch x) (by simp)).trans (putChannel_link p ch _)

/-- The record written and the drift reported, before the owner is told. -/
def driftReported (p : Part) (ch : ChannelId) (lost : Position) : Part :=
  let q := p.putChannel ch { p.channel ch with state := (p.channel ch).settled }
  q.report (.valveDrift ch (p.channel ch).mappedTo lost (p.channel ch).settled (q.ownerOf ch))

theorem drift_tells (p : Part) (ch : ChannelId) (lost : Position) :
    OnlyChanges [.events] (driftReported p ch lost) (p.drift ch lost) := by
  unfold Part.drift driftReported
  dsimp only
  split <;> simp

theorem driftReported_after (p : Part) (ch : ChannelId) (lost : Position) : OnlyChanges reporting
    (p.putChannel ch { p.channel ch with state := (p.channel ch).settled }) (driftReported p ch lost) := by
  unfold driftReported
  simp

theorem drift_channel (p : Part) (ch : ChannelId) (lost : Position) :
    (p.drift ch lost).channel ch = { p.channel ch with state := (p.channel ch).settled } :=
  (channel_kept (drift_tells p ch lost) (by simp) ch).trans <|
    (channel_kept (driftReported_after p ch lost) (by simp) ch).trans (channel_putChannel p ch _)

theorem drift_others (p : Part) (ch : ChannelId) (lost : Position) : OtherChannelsKept p (p.drift ch lost) ch :=
  otherChannels_kept (otherChannels_kept (otherChannels_putChannel p ch _) (driftReported_after p ch lost) (by simp))
    (drift_tells p ch lost) (by simp)

theorem drift_reports (p : Part) (ch : ChannelId) (lost : Position) : Reports p (p.drift ch lost)
    [.valveDrift ch (p.channel ch).mappedTo lost (p.channel ch).settled (p.ownerOf ch)] := by
  have owner : (p.putChannel ch { p.channel ch with state := (p.channel ch).settled }).ownerOf ch = p.ownerOf ch :=
    ownerOf_same (by simp) fun _ => rfl
  refine (link_kept (drift_tells p ch lost) (by simp)).trans ?_
  unfold driftReported
  dsimp only
  rw [owner]
  rfl

/-! ### LIMIT_READING_CHANGE -/

section Taken
variable {p : Part} {ch : ChannelId} {which : Limit} {level : Level} {c : Channel}
  (new : (p.channel ch).input which ≠ some level) (hc : c = (p.channel ch).putInput which level)
include new hc

/-- Both limits ACTIVE. -/
theorem takeLimit_enters (sound : ∀ x, c.state ≠ .fault x) (both : c.bothActive = true) :
    EntersFault p (p.takeLimit ch which level) ch c .switch none := by
  have k := faultChannel_enters (p := p) (q := p.putChannel ch c) (cause := .switch) (ran := none) (by simp)
    (otherChannels_putChannel p ch c) (by rw [channel_putChannel, hc, putInput_back]) (captureOf_switch _ ch)
  rw [channel_putChannel] at k
  rwa [takeLimit_switch new hc sound both]

omit new in
/-- A held limit is lost: the drift is reported with the owner the channel has. -/
theorem drift_taken (lost : Position) (row : p.takeLimit ch which level = (p.putChannel ch c).drift ch lost) :
    ∃ x, StateByReadings c x ∧ (p.takeLimit ch which level).channel ch = { c with state := x } ∧
      Reports p (p.takeLimit ch which level) [.valveDrift ch c.mappedTo lost x (p.ownerOf ch)] := by
  have owner : (p.putChannel ch c).ownerOf ch = p.ownerOf ch :=
    ownerOf_same (by rw [channel_putChannel, hc, putInput_back]) fun _ => rfl
  have told := drift_reports (p.putChannel ch c) ch lost
  rw [channel_putChannel, owner] at told
  rw [row]
  exact ⟨c.settled, stateByReadings_iff.2 rfl, by rw [drift_channel, channel_putChannel], told⟩

/-- R151, R154: nothing follows from the reading in a FAULT, STOPPED, at a limit still held, or in travel without the limit
travelled to. -/
theorem takeLimit_quiet (h : (∃ x, c.state = .fault x) ∨ (¬ BothActive c ∧
      (c.state = .stopped ∨ (c.state = .closed ∧ ReadsActive c.sense c.closedInput) ∨
        (c.state = .opened ∧ ReadsActive c.sense c.openInput) ∨
        ((∃ e ran, c.state = .opening e ran) ∧ ¬ (which = .openLimit ∧ ReadsActive c.sense c.openInput)) ∨
        ((∃ e ran, c.state = .closing e ran) ∧ ¬ (which = .closedLimit ∧ ReadsActive c.sense c.closedInput))))) :
    p.takeLimit ch which level = p.putChannel ch c := by
  rcases h with ⟨x, h⟩ | ⟨one, h⟩
  · exact takeLimit_fault new hc h
  · have one := bothActive_false one
    rcases h with h | ⟨h, active⟩ | ⟨h, active⟩ | ⟨⟨e, ran, h⟩, short⟩ | ⟨⟨e, ran, h⟩, short⟩
    · exact takeLimit_stopped new hc one h
    · rw [takeLimit_closed new hc one h, if_pos ((closedActive_iff c).2 active)]
    · rw [takeLimit_opened new hc one h, if_pos ((openActive_iff c).2 active)]
    · rw [takeLimit_opening new hc one h, if_neg (by rwa [openActive_iff])]
    · rw [takeLimit_closing new hc one h, if_neg (by rwa [closedActive_iff])]

end Taken

/-- The part with the input taken and nothing else. -/
def limitTaken (p : Part) (ch : ChannelId) (which : Limit) (level : Level) : Part :=
  p.putChannel ch ((p.channel ch).putInput which level)

/-- All that a limit input taken can do. -/
theorem takeLimit_cases (p : Part) (ch : ChannelId) (which : Limit) (level : Level) :
    p.takeLimit ch which level = p ∨ p.takeLimit ch which level = limitTaken p ch which level ∨
    p.takeLimit ch which level = (limitTaken p ch which level).faultChannel ch .switch ∨
    (∃ lost, p.takeLimit ch which level = (limitTaken p ch which level).drift ch lost) ∨
    (∃ c, c.state.inTravel = false ∧ p.takeLimit ch which level = (limitTaken p ch which level).putChannel ch c) ∨
    ∃ x, x.inTravel = false ∧ p.takeLimit ch which level = (limitTaken p ch which level).arrive ch x := by
  unfold Part.takeLimit limitTaken
  dsimp only
  split
  · exact .inl rfl
  · right
    split
    · exact .inl rfl
    · split
      · exact .inr (.inl rfl)
      · split
        case h_1 | h_2 =>
          split
          · exact .inl rfl
          · exact .inr (.inr (.inl ⟨_, rfl⟩))
        case h_3 => exact .inr (.inr (.inr (.inl ⟨_, settled_rests _, rfl⟩)))
        case h_4 | h_5 =>
          split
          · exact .inr (.inr (.inr (.inr ⟨_, rfl, rfl⟩)))
          · exact .inl rfl
        all_goals exact .inl rfl

theorem takeLimit_others (p : Part) (ch : ChannelId) (which : Limit) (level : Level) :
    OtherChannelsKept p (p.takeLimit ch which level) ch := by
  have taken : OtherChannelsKept p (limitTaken p ch which level) ch := otherChannels_putChannel p ch _
  rcases takeLimit_cases p ch which level with e | e | e | ⟨lost, e⟩ | ⟨c, -, e⟩ | ⟨x, -, e⟩ <;> rw [e]
  · exact otherChannels_refl p ch
  · exact taken
  · exact otherChannels_trans taken (faultChannel_others _ ch .switch)
  · exact otherChannels_trans taken (drift_others _ ch lost)
  · exact otherChannels_trans taken (otherChannels_putChannel _ ch c)
  · exact otherChannels_trans taken (arrive_others _ ch x)

theorem limitReading_movesTheChannel : LimitReadingMovesTheChannel := by
  intro s ch which level live c new
  have hc : c = (s.part.channel ch).putInput which level := (putInput_eq _ _ _).symm
  refine ⟨_, (exec_limitReadingChange ch which level s).trans (act_live _ live), rfl, by simp, takeLimit_others _ ch which level, fun opened closed sound => ?_, fun one => ?_, fun quiet => ?_⟩
  · exact takeLimit_enters new hc sound ((bothActive_iff c).2 ⟨opened, closed⟩)
  · have one := bothActive_false (c := c) one
    refine ⟨fun h => ?_, fun e ran h limit active => ?_, fun e ran h limit active => ?_, fun h lost => ?_, fun h lost => ?_⟩
    · have row := takeLimit_unknown new hc one h
      refine ⟨c.settled, stateByReadings_iff.2 rfl, ?_, ?_, ?_⟩ <;> dsimp only <;> rw [row]
      · exact channel_putChannel _ ch _
      · rfl
      · rfl
    · have row := takeLimit_opening new hc one h
      rw [if_pos ⟨limit, (openActive_iff c).2 active⟩] at row
      dsimp only
      rw [row, arrive_channel, arrive_link, channel_putChannel]
      exact ⟨rfl, rfl⟩
    · have row := takeLimit_closing new hc one h
      rw [if_pos ⟨limit, (closedActive_iff c).2 active⟩] at row
      dsimp only
      rw [row, arrive_channel, arrive_link, channel_putChannel]
      exact ⟨rfl, rfl⟩
    · have row := takeLimit_closed new hc one h
      rw [if_neg (mt (closedActive_iff c).1 lost)] at row
      exact drift_taken hc .closed row
    · have row := takeLimit_opened new hc one h
      rw [if_neg (mt (openActive_iff c).1 lost)] at row
      exact drift_taken hc .opened row
  · dsimp only
    rw [takeLimit_quiet new hc quiet]
    exact ⟨channel_putChannel _ ch _, rfl, rfl⟩

/-! ### TRAVEL_EXPIRY -/

theorem travelFails_of {p : Part} {ch : ChannelId} (h : InTravel (p.channel ch)) :
    p.travelFails ch = p.faultChannel ch .travel := if_pos ((inTravel_iff _).2 h)

theorem travelExpiry_faultsTheChannel : TravelExpiryFaultsTheChannel := by
  intro s ch e ran out travel
  have row : exec (.travelExpiry ch) s =
      .next { s with part := (taking s.part (.travelExpiry ch)).faultChannel ch .travel } := by
    rw [exec_travelExpiry, takeEvent_outstanding _ out, travelFails_of (p := taking s.part _) ⟨e, ran, travel⟩]
  have enters : EntersFault s.part ((taking s.part (.travelExpiry ch)).faultChannel ch .travel) ch (s.part.channel ch)
      .travel (some ran) :=
    faultChannel_enters (q := taking s.part _) (by simp) (fun _ _ => rfl) rfl (captureOf_travel (taking s.part _) ch travel)
  refine ⟨_, row, rfl, by simp, enters, ?_⟩
  unfold Part.drive Channel.drive
  rw [faultChannel_channel]
  split <;> rfl

end Sys2Proof.Laws

namespace Sys2Proof

open Machine Laws

/-- Settles O16: LIMIT_READING_CHANGE by the channel's state and readings, TRAVEL_EXPIRY by the fault it brings. -/
theorem channelsFollowTheirInputsAndTimes : Obligations.ChannelsFollowTheirInputsAndTimes :=
  ⟨limitReading_movesTheChannel, travelExpiry_faultsTheChannel⟩

end Sys2Proof
end

section
/-! SUPPORT. The STOP input (R164, R165, R169): what an assertion does to every channel, and a release, channel after
channel. -/

namespace Sys2Proof.Laws

open Sys2Proof.Machine

/-! ### A channel takes its state from its readings (R152) -/

theorem settle_both {p : Part} {ch : ChannelId} (h : (p.channel ch).bothActive = true) :
    p.settle ch = p.faultChannel ch .switch := if_pos h

theorem settle_one {p : Part} {ch : ChannelId} (h : (p.channel ch).bothActive = false) :
    p.settle ch = p.putChannel ch { p.channel ch with state := (p.channel ch).settled } := by
  unfold Part.settle
  simp only [h, Bool.false_eq_true, if_false]

/-! ### What a fault leaves as it was -/

theorem putChannel_self (p : Part) (ch : ChannelId) : p.putChannel ch (p.channel ch) = p := by
  simp [Part.putChannel, Part.channel]

theorem captureOf_same {xs : List Piece} {p q : Part} {ch : ChannelId} (k : OnlyChanges xs p q)
    (hx : ∀ x ∈ [Piece.clock, .filters, .lanes], x ∉ xs) (hc : q.channel ch = p.channel ch) (cause : ChannelFault) :
    q.captureOf ch cause = p.captureOf ch cause := by
  have owner : q.ownerOf ch = p.ownerOf ch := ownerOf_same (by rw [hc]) (filter_kept k (hx _ (by simp)))
  have clock : q.clock = p.clock := k .clock (hx _ (by simp))
  have lanes : ∀ l, q.lane l = p.lane l := lane_kept k (hx _ (by simp))
  unfold Part.captureOf
  simp only [hc, owner, clock, lanes]

theorem mem_cancel_of {p : Part} {e x : Event} (h : e ∈ p.events) (hne : e ≠ x) : e ∈ (p.cancel x).events := by
  simp [Part.cancel, h, hne]

/-- A fault cancels no notice, only the travel expiry. -/
theorem mem_faultChannel_of {p : Part} {e : Event} (h : e ∈ p.events) (notice : e.isTravelExpiry = false) (ch : ChannelId)
    (cause : ChannelFault) : e ∈ (p.faultChannel ch cause).events := by
  have kept : e ∈ (faultReported p ch cause).events :=
    mem_cancel_of (p := p.putChannel ch { p.channel ch with state := .fault cause }) h
      (fun same => by rw [same] at notice; cases notice)
  cases back : (p.channel ch).mappedTo with
  | none => rwa [faultChannel_unmapped cause back]
  | some m =>
    rw [faultChannel_mapped cause back]
    exact mem_tellFault_of kept m.1 m.2

/-- The notices of a fault are no travel expiry. -/
theorem faultTold_more {p : Part} {es es' : List Event} {m : Option (FilterId × Role)} (h : FaultTold p es m)
    (more : ∀ e ∈ es, e.isTravelExpiry = false → e ∈ es') : FaultTold p es' m := by
  intro f role r hm hf
  obtain ⟨lane, transfer, table⟩ := h f role r hm hf
  exact ⟨fun l hl => more _ (lane l hl) rfl, fun hr ht => more _ (transfer hr ht) rfl, fun hr ht => more _ (table hr ht) rfl⟩

/-! ### The release, channel after channel (R165) -/

/-- A channel after the release of STOP. -/
def released (c : Channel) : Channel :=
  if c.state = .stopped then { c with state := if c.bothActive then .fault .switch else c.settled } else c

/-- The channel is STOPPED and shows both limits: its release is a fault. -/
def stoppedOnBoth (p : Part) (ch : ChannelId) : Bool := (p.channel ch).state == .stopped && (p.channel ch).bothActive

theorem stoppedOnBoth_iff (p : Part) (ch : ChannelId) :
    stoppedOnBoth p ch = true ↔ (p.channel ch).state = .stopped ∧ BothActive (p.channel ch) := by
  unfold stoppedOnBoth
  rw [Bool.and_eq_true, beq_iff_eq, bothActive_iff]

/-- The captures of the faults that the release finds on these channels. -/
def releaseCaptures (p : Part) (xs : List ChannelId) : List Capture :=
  (xs.filter (stoppedOnBoth p)).map fun ch => p.captureOf ch .switch

/-- From `p` to `q` exactly these channels have been released. -/
structure Unstopped (p q : Part) (xs : List ChannelId) : Prop where
  only : OnlyChanges ([Piece.channels, .capture, .events] ++ reporting) p q
  channels : ∀ ch, q.channel ch = if ch ∈ xs then released (p.channel ch) else p.channel ch
  capture : q.valves.capture = (releaseCaptures p xs).getLast?.or p.valves.capture
  reports : Reports p q ((releaseCaptures p xs).map .valveFault)
  told : ∀ ch ∈ xs, stoppedOnBoth p ch = true → FaultTold p q.events (p.channel ch).mappedTo

theorem unstopped_nil (p : Part) : Unstopped p p [] :=
  ⟨onlyChanges_refl _ p, by simp, by simp [releaseCaptures], rfl, by simp⟩

theorem releaseCaptures_append (p : Part) (xs : List ChannelId) (x : ChannelId) : releaseCaptures p (xs ++ [x]) =
    releaseCaptures p xs ++ if stoppedOnBoth p x then [p.captureOf x .switch] else [] := by
  unfold releaseCaptures
  rw [List.filter_append, List.map_append]
  cases h : stoppedOnBoth p x <;> simp [h]

section Append
variable {p q : Part} {xs : List ChannelId} {x : ChannelId} (h : Unstopped p q xs) (new : x ∉ xs)
include h new

theorem unstopped_channel : q.channel x = p.channel x := by rw [h.channels, if_neg new]

/-- One more channel whose release is no fault: only its record is written. -/
theorem unstopped_quiet {c : Channel} (quiet : stoppedOnBoth p x = false) (hc : c = released (p.channel x)) :
    Unstopped p (q.putChannel x c) (xs ++ [x]) := by
  have none : releaseCaptures p (xs ++ [x]) = releaseCaptures p xs := by rw [releaseCaptures_append, quiet]; simp
  refine ⟨?_, fun ch => ?_, ?_, ?_, fun ch mem both => ?_⟩
  · exact onlyChanges_trans h.only (by simp)
  · by_cases same : ch = x
    · subst same
      rw [channel_putChannel, if_pos (by simp), hc]
    · rw [channel_putChannel_ne q same, h.channels]
      simp [same]
  · rw [none]
    exact h.capture
  · rw [none]
    exact h.reports
  · rcases List.mem_append.1 mem with old | last
    · exact h.told ch old both
    · rw [List.mem_singleton] at last
      rw [last, quiet] at both
      cases both

/-- One more channel whose release is a fault. -/
theorem unstopped_fault (both : stoppedOnBoth p x = true) : Unstopped p (q.faultChannel x .switch) (xs ++ [x]) := by
  have record := unstopped_channel h new
  have capture : q.captureOf x .switch = p.captureOf x .switch := captureOf_same h.only (by simp) record .switch
  have clock : q.clock = p.clock := h.only .clock (by simp)
  have one : releaseCaptures p (xs ++ [x]) = releaseCaptures p xs ++ [p.captureOf x .switch] := by
    rw [releaseCaptures_append, both]
    rfl
  have now : released (p.channel x) = { p.channel x with state := .fault .switch } := by
    obtain ⟨stopped, active⟩ := (stoppedOnBoth_iff p x).1 both
    unfold released
    rw [if_pos stopped, if_pos ((bothActive_iff _).2 active)]
  refine ⟨onlyChanges_trans h.only (by simp), fun ch => ?_, ?_, ?_, fun ch mem sb => ?_⟩
  · by_cases same : ch = x
    · subst same
      rw [faultChannel_channel, if_pos (by simp), now, record]
    · rw [faultChannel_others q x .switch ch same, h.channels]
      simp [same]
  · rw [faultChannel_capture, capture, one]
    simp
  · rw [one, List.map_append]
    have told := faultChannel_reports q x .switch
    rw [capture] at told
    exact reports_trans h.reports clock told
  · rcases List.mem_append.1 mem with old | last
    · exact faultTold_more (h.told ch old sb) fun e he notice => mem_faultChannel_of he notice x .switch
    · rw [List.mem_singleton] at last
      subst last
      have told := faultChannel_told q ch .switch
      rw [record] at told
      exact faultTold_same (filter_kept h.only (by simp)) told

theorem unstopped_append : Unstopped p (q.unstop x) (xs ++ [x]) := by
  have record := unstopped_channel h new
  unfold Part.unstop
  split
  · rename_i stopped
    rw [record] at stopped
    cases both : (p.channel x).bothActive with
    | true =>
      rw [settle_both (by rwa [record])]
      exact unstopped_fault h new (by simp [stoppedOnBoth, stopped, both])
    | false =>
      rw [settle_one (by rwa [record])]
      exact unstopped_quiet h new (by simp [stoppedOnBoth, both]) (by simp [released, stopped, both, record])
  · rename_i moving
    rw [record] at moving
    have quiet := unstopped_quiet h new (c := p.channel x) (by simp [stoppedOnBoth, moving]) (by simp [released, moving])
    rwa [← record, putChannel_self] at quiet

end Append

theorem unstop_all (p : Part) (xs : List ChannelId) (distinct : xs.Nodup) :
    Unstopped p (xs.foldl (fun q ch => q.unstop ch) p) xs := by
  induction xs using List.reverseRecOn with
  | nil => exact unstopped_nil p
  | append_singleton xs x ih =>
    obtain ⟨before, -, apart⟩ := List.nodup_append.1 distinct
    rw [List.foldl_append]
    exact unstopped_append (ih before) fun mem => apart x mem x (by simp) rfl

/-- The channels released, before the release is reported. -/
def channelsReleased (p : Part) : Part :=
  allChannels.foldl (fun q ch => q.unstop ch) { p with valves := { p.valves with stop := .released } }

/-- The channels released, and the release reported, before anyone is told. -/
def releaseReported (p : Part) : Part := (channelsReleased p).report (.stopReleased (channelsReleased p).clock)

/-- The notices of a release go to both lanes and to every running transfer (R121, R12). -/
theorem releaseStop_tells (p : Part) : ∃ es, p.releaseStop = (releaseReported p).raiseAll es ∧
    (∀ l, .laneStopReleased l ∈ es) ∧
    ∀ f, (releaseReported p).filterOwner f = .transfer → .transferStopReleased f ∈ es := by
  unfold Part.releaseStop releaseReported channelsReleased
  dsimp only
  refine ⟨_, rfl, fun l => ?_, fun f running => ?_⟩
  · cases l <;> simp
  · refine List.mem_append_right _ (List.mem_filterMap.2 ⟨f, mem_allFilters f, ?_⟩)
    rw [running]

/-- What a release does to the channels, in the words of R165. -/
theorem settles_of_unstopped {p q r : Part} (h : Unstopped p q allChannels)
    (k : OnlyChanges ([Piece.events] ++ reporting) q r) (events : ∀ e ∈ q.events, e ∈ r.events)
    (told : Reports q r [.stopReleased p.startUp.clock]) : StoppedChannelsSettle p r := by
  have now : ∀ ch, r.channel ch = released (p.channel ch) := fun ch => by
    rw [channel_kept k (by simp), h.channels, if_pos (mem_allChannels ch)]
  refine ⟨fun ch moving => ?_, fun ch stopped one => ?_, releaseCaptures p allChannels, ?_, fun ch stopped both => ?_,
    fun cap mem => ?_, ?_, ?_⟩
  · rw [now]
    exact if_neg moving
  · refine ⟨(p.channel ch).settled, stateByReadings_iff.2 rfl, ?_⟩
    rw [now]
    unfold released
    rw [if_pos stopped, if_neg (mt (bothActive_iff _).1 one)]
  · unfold releaseCaptures
    rw [List.map_map]
    exact List.pairwise_map.2 ((List.pairwise_lt_finRange 112).filter _)
  · exact ⟨_, List.mem_map.2 ⟨ch, List.mem_filter.2 ⟨mem_allChannels ch, (stoppedOnBoth_iff p ch).2 ⟨stopped, both⟩⟩, rfl⟩, rfl⟩
  · obtain ⟨ch, listed, rfl⟩ := List.mem_map.1 mem
    obtain ⟨-, sb⟩ := List.mem_filter.1 listed
    obtain ⟨stopped, both⟩ := (stoppedOnBoth_iff p ch).1 sb
    refine ⟨stopped, both, ?_, captureOf_switch p ch,
      faultTold_more (h.told ch (mem_allChannels ch) sb) fun e he _ => events e he⟩
    show r.channel ch = _
    rw [now]
    unfold released
    rw [if_pos stopped, if_pos ((bothActive_iff _).2 both)]
    rfl
  · exact (k .capture (by simp)).trans h.capture
  · exact reports_trans h.reports (h.only .clock (by simp)) told

theorem channelsReleased_unstopped (p : Part) :
    Unstopped { p with valves := { p.valves with stop := .released } } (channelsReleased p) allChannels :=
  unstop_all _ _ (List.nodup_finRange 112)

theorem releaseReported_only (p : Part) :
    OnlyChanges ([Piece.channels, .capture, .stop, .events] ++ reporting) p (releaseReported p) := by
  have stop : OnlyChanges [.stop] p { p with valves := { p.valves with stop := .released } } := by simp
  have channels := (channelsReleased_unstopped p).only
  have reported : OnlyChanges reporting (channelsReleased p) (releaseReported p) := by
    unfold releaseReported
    simp
  exact onlyChanges_trans (onlyChanges_mono stop (by simp)) <|
    onlyChanges_trans (onlyChanges_mono channels (by simp)) (onlyChanges_mono reported (by simp))

theorem report_keepsStop (p : Part) (b : ReportBody) : (p.report b).valves.stop = p.valves.stop := rfl

theorem releaseReported_stop (p : Part) : (releaseReported p).valves.stop = .released :=
  (report_keepsStop _ _).trans ((channelsReleased_unstopped p).only .stop (by simp))

theorem reports_report (p : Part) (b : ReportBody) : Reports p (p.report b) [b] := afterReports_one p b

/-- How the STOP input stands does not bear on what a release makes of the channels. -/
theorem settles_with_stop {p q : Part} {x : StopState} (h : StoppedChannelsSettle { p with valves := { p.valves with stop := x } } q) :
    StoppedChannelsSettle p q := h

theorem releaseStop_settles (p : Part) : StoppedChannelsSettle p p.releaseStop := by
  obtain ⟨es, row, -, -⟩ := releaseStop_tells p
  have all := channelsReleased_unstopped p
  have clock : (channelsReleased p).clock = p.startUp.clock := all.only .clock (by simp)
  have told := reports_report (channelsReleased p) (.stopReleased (channelsReleased p).clock)
  rw [clock] at told
  rw [row]
  unfold releaseReported
  rw [clock]
  generalize channelsReleased p = q at all told
  refine settles_with_stop (settles_of_unstopped all ?_ ?_ ?_)
  · simp
  · exact fun e he => List.mem_append_left es he
  · exact told

/-! ### The assertion (R164) -/

theorem assertStop_channel (p : Part) (ch : ChannelId) : p.assertStop.channel ch = (p.channel ch).stop :=
  mapVec_getElem Channel.stop p.valves.channels ch.val ch.isLt

theorem stop_channel_moving {c : Channel} (h : InTravel c) : c.stop = { c with state := .stopped } :=
  if_pos ((inTravel_iff c).2 h)

theorem stop_channel_resting {c : Channel} (h : ¬ InTravel c) : c.stop = c := if_neg (mt (inTravel_iff c).1 h)

theorem stop_channel_drive (c : Channel) : c.stop.drive = .off := by
  unfold Channel.stop Channel.drive
  cases h : c.state <;> simp [ChannelState.inTravel, h]

theorem stopTakesEffect_kept {p q r : Part} (h : StopTakesEffect p q) (k : OnlyChanges reporting q r) :
    StopTakesEffect p r := by
  obtain ⟨stop, channels, drives, ready, arbiter, lanes⟩ := h
  have live : r.live = q.live := by
    unfold Part.live
    rw [show r.supply = q.supply from k .supply (by simp), show r.resetHeld = q.resetHeld from k .resetHeld (by simp)]
  have stops : r.valves.stop = q.valves.stop := k .stop (by simp)
  have events : r.events = q.events := k .events (by simp)
  have same : ∀ ch, r.channel ch = q.channel ch := channel_kept k (by simp)
  refine ⟨stops.trans stop, fun ch => by rw [same]; exact channels ch, fun ch => ?_, ?_, by rwa [events],
    fun l => by rw [events]; exact lanes l⟩
  · have off := drives ch
    unfold Part.drive at off ⊢
    rwa [live, same]
  · unfold Part.ready Part.stopAsserted
    rw [stops, stop]
    simp

theorem assertStop_takesEffect (p : Part) : StopTakesEffect p p.assertStop := by
  refine ⟨rfl, fun ch => ?_, fun ch => ?_, ?_, ?_, fun l => ?_⟩
  · rw [assertStop_channel]
    exact ⟨stop_channel_moving, stop_channel_resting⟩
  · unfold Part.drive
    rw [assertStop_channel, stop_channel_drive, ite_self]
  · unfold Part.ready
    exact Bool.and_false _
  · unfold Part.assertStop
    simp
  · unfold Part.assertStop
    cases l <;> simp

end Sys2Proof.Laws

namespace Sys2Proof

open Machine Laws

/-- Settles O14: an assertion stops each channel by itself, a release goes through the channels in ascending number. -/
theorem stopInputActsOnEveryChannel : Obligations.StopInputActsOnEveryChannel := by
  intro s live
  refine ⟨fun was => ?_, fun was => ?_, fun was => ⟨?_, ?_⟩⟩
  · have row : s.part.stopLineAsserted = s.part.assertStop.report (.stopAsserted s.part.clock s.part.travelling) := if_pos was
    refine ⟨_, (exec_stopAsserted s).trans (act_live _ live), rfl, ?_, ?_, ?_⟩ <;> dsimp only <;> rw [row]
    · simp
    · exact stopTakesEffect_kept (assertStop_takesEffect s.part) (by simp)
    · rfl
  · have row : s.part.stopLineReleased = s.part.releaseStop := if_pos was
    obtain ⟨es, tells, lanes, transfers⟩ := releaseStop_tells s.part
    refine ⟨_, (exec_stopReleased s).trans (act_live _ live), rfl, ?_, ?_, ?_, fun l => ?_, fun f r hf rotation running => ?_⟩ <;>
      dsimp only <;> rw [row]
    · simp
    · rw [tells, raiseAll_valves]
      exact releaseReported_stop s.part
    · exact releaseStop_settles s.part
    · rw [tells]
      exact List.mem_append_right _ (lanes l)
    · rw [tells]
      refine List.mem_append_right _ (transfers f ?_)
      rw [filterOwner_same (filter_kept (releaseReported_only s.part) (by simp) f), filterOwner_of hf,
        owner_of_rotation rotation, if_pos (Option.isSome_iff_ne_none.2 running)]
  · have row : s.part.stopFirstTaken .deEnergised = s.part.assertStop := if_pos was
    refine ⟨_, (exec_stopInputFirstTaken .deEnergised s).trans (act_live _ live), rfl, ?_, ?_⟩ <;> dsimp only <;> rw [row]
    · simp
    · exact assertStop_takesEffect s.part
  · have row : s.part.stopFirstTaken .energised = { s.part with valves := { s.part.valves with stop := .released } } :=
      if_pos was
    refine ⟨_, (exec_stopInputFirstTaken .energised s).trans (act_live _ live), rfl, ?_, ?_⟩ <;> dsimp only <;> rw [row]
    simp

end Sys2Proof
end

section
/-! SUPPORT. Commands on one channel: the operand forms, who keeps a channel from the window (R157), and the answer that lets
a channel take its state from its readings (R152); then LOCK_CHANNEL, DIRECT_SELECT and CLEAR_CHANNEL (R158, R160, R162). -/

namespace Sys2Proof.Laws

open Sys2Proof.Machine

/-! ### Operands -/

theorem channelOf_some {b : Byte} {ch : ChannelId} (h : b.toNat = ch.val) : channelOf b = some ch := by
  have small : b.toNat < 112 := h ▸ ch.isLt
  unfold channelOf
  rw [dif_pos small]
  exact congrArg some (Fin.ext h)

theorem channelOf_none {b : Byte} (h : 112 ≤ b.toNat) : channelOf b = none := dif_neg (by omega)

theorem channelOrNone_channel {b : Byte} {ch : ChannelId} (h : b.toNat = ch.val) : channelOrNone b = some (some ch) := by
  have named : b ≠ noneByte := fun same => by
    have big := ch.isLt
    rw [← h, same] at big
    exact absurd big (by decide)
  unfold channelOrNone
  rw [if_neg named, channelOf_some h]
  rfl

theorem channelOrNone_range {b : Byte} (h : 112 ≤ b.toNat) (named : b ≠ 255) : channelOrNone b = none := by
  have unnamed : b ≠ noneByte := named
  unfold channelOrNone
  rw [if_neg unnamed, channelOf_none h]
  rfl

/-! ### Owners (R157) -/

theorem filterOwner_window (p : Part) (f : FilterId) : p.filterOwner f = .window ↔ ¬ WindowClosed p f := by
  unfold Part.filterOwner WindowClosed
  cases p.filter f with
  | none => simp
  | some rec => cases hs : rec.state <;> simp [FilterRecord.owner, hs] <;> split <;> simp

theorem ownerOf_window (p : Part) (ch : ChannelId) : p.ownerOf ch = .window ↔ ¬ KeptFromWindow p ch := by
  unfold Part.ownerOf KeptFromWindow
  cases h : (p.channel ch).mappedTo with
  | none => simp
  | some m =>
    obtain ⟨f, r⟩ := m
    simp [filterOwner_window]

/-- The channel's filter is WASHING, or its transfer runs (R158). -/
def ChannelHeld (p : Part) (ch : ChannelId) : Prop :=
  ∃ f r rec, (p.channel ch).mappedTo = some (f, r) ∧ p.filter f = some rec ∧ ((∃ l, rec.state = .washing l) ∨
    ((rec.state = .online ∨ rec.state = .standby ∨ rec.state = .stranded) ∧ rec.transfer ≠ none))

theorem channelBusy_iff (p : Part) (ch : ChannelId) : p.channelBusy ch = true ↔ ChannelHeld p ch := by
  unfold Part.channelBusy Part.ownerOf ChannelHeld
  cases hm : (p.channel ch).mappedTo with
  | none => simp
  | some m =>
    obtain ⟨f, r⟩ := m
    unfold Part.filterOwner
    cases hf : p.filter f with
    | none => simp [hf]
    | some rec => cases hs : rec.state <;> cases ht : rec.transfer <;> simp [FilterRecord.owner, hf, hs, ht]

theorem channelBusy_accepted (p : Part) (ch : ChannelId) : p.frameAccepted.channelBusy ch = p.channelBusy ch := by
  unfold Part.channelBusy
  rw [ownerOf_accepted]

/-! ### Results carried past the reply -/

theorem otherChannels_accepted {p q : Part} {ch : ChannelId} (h : OtherChannelsKept p.frameAccepted q ch) :
    OtherChannelsKept p q ch := fun d hd => (h d hd).trans (accepted_channel p d)

theorem faultTold_accepted {p : Part} {es : List Event} {m : Option (FilterId × Role)} (h : FaultTold p.frameAccepted es m) :
    FaultTold p es m := faultTold_same (accepted_filter p) h

/-! ### A channel takes its state from its readings, and the state is answered -/

section Settle
variable {s : State} {row : Instr} {tag : Byte} {c : HostCommand} {q : Part} {ch : ChannelId} {xs : List Piece}
  {now : Part → Prop} {fields : ChannelState → ReplyFields} (hc : CanHandle s) (hrow : row.command = some (tag, c))
  (h : s.part.frameAccepted.answer c = (q.settle ch, .ok, fields ((q.settle ch).channel ch).state))
  (k : OnlyChanges xs s.part.frameAccepted q)
  (apart : ∀ x ∈ [Piece.clock, .rx, .rxQueue, .reply, .reports, .sending, .seq, .errors, .overflow, .reportLoss, .cursor,
    .rate, .softReset], x ∉ xs)
include hc hrow h k apart

theorem settle_one_done (written : .channels ∈ xs) (one : ¬ BothActive (q.channel ch)) {y : ChannelState}
    (hy : StateByReadings (q.channel ch) y)
    (hn : ∀ q', OnlyChanges reporting (q.putChannel ch { q.channel ch with state := y }) q' → now q') :
    Done s row xs [] .ok (fields y) now := by
  obtain rfl := stateByReadings_iff.1 hy
  rw [settle_one (bothActive_false one), channel_putChannel] at h
  refine done_reports hc hrow h ?_ ?_ hn
  · exact onlyChanges_trans (onlyChanges_mono k (by simp)) (by simp [written])
  · exact (putChannel_link q ch _).trans (link_kept k fun x hx => apart x (List.mem_cons_of_mem _ hx))

theorem settle_both_done (written : [Piece.channels, .capture, .events] ⊆ xs) (both : BothActive (q.channel ch))
    (hn : ∀ q', OnlyChanges reporting (q.faultChannel ch .switch) q' → now q') :
    Done s row xs [.valveFault (q.captureOf ch .switch)] .ok (fields (.fault .switch)) now := by
  rw [settle_both ((bothActive_iff _).2 both), faultChannel_channel] at h
  refine done_reports hc hrow h ?_ ?_ hn
  · simp only [List.cons_subset, List.nil_subset, and_true] at written
    obtain ⟨channels, capture, events⟩ := written
    exact onlyChanges_trans (onlyChanges_mono k (by simp)) (by simp [channels, capture, events])
  · have told := faultChannel_reports q ch .switch
    unfold Reports at told ⊢
    rwa [show q.clock = s.part.frameAccepted.clock from k .clock (apart _ (by simp)),
      link_kept k fun x hx => apart x (List.mem_cons_of_mem _ hx)] at told

end Settle

/-- What stands once the reply to a command that found a switch fault is given. -/
theorem fault_replied {q q' : Part} {ch : ChannelId} (k : OnlyChanges reporting (q.faultChannel ch .switch) q') :
    q'.channel ch = { q.channel ch with state := .fault .switch } ∧ OtherChannelsKept q q' ch ∧
    q'.valves.capture = some (q.captureOf ch .switch) ∧ FaultTold q q'.events (q.channel ch).mappedTo :=
  ⟨(channel_kept k (by simp) ch).trans (faultChannel_channel q ch .switch),
    otherChannels_kept (faultChannel_others q ch .switch) k (by simp),
    (k .capture (by simp)).trans (faultChannel_capture q ch .switch),
    by rw [show q'.events = _ from k .events (by simp)]; exact faultChannel_told q ch .switch⟩

/-- What stands once the reply to a command that wrote one channel is given. -/
theorem written_replied {q q' : Part} {ch : ChannelId} {c : Channel} (k : OnlyChanges reporting (q.putChannel ch c) q') :
    q'.channel ch = c ∧ OtherChannelsKept q q' ch :=
  ⟨(channel_kept k (by simp) ch).trans (channel_putChannel q ch c),
    otherChannels_kept (otherChannels_putChannel q ch c) k (by simp)⟩

/-! ### LOCK_CHANNEL (R160) -/

section Lock
variable {s : State} {tag b act : Byte} {lock : Bool} {row : Instr} {ch : ChannelId} (hc : CanHandle s)
  (ht : s.part.startUp.top ≠ .surveying) (hrow : row.command = some (tag, .lockChannel b act))
  (hact : lockActionOf act = some lock)
include ht

theorem answerLock_range (far : 112 ≤ b.toNat) :
    s.part.frameAccepted.answer (.lockChannel b act) = refuse s.part.frameAccepted .range :=
  (unlessSurveying_accepted ht _).trans (named_none (channelOf_none far))

include hact in
theorem answerLock_of (hb : b.toNat = ch.val) : s.part.frameAccepted.answer (.lockChannel b act) =
    unlessFails s.part.frameAccepted (s.part.frameAccepted.ownerOf ch == .window) .state
      (unlessFails s.part.frameAccepted (!(s.part.frameAccepted.channel ch).state.inTravel) .busy
        (s.part.frameAccepted.putChannel ch { s.part.frameAccepted.channel ch with locked := lock }, .ok, .lockFlag lock)) :=
  (unlessSurveying_accepted ht _).trans ((named_some (channelOf_some hb)).trans (named_some hact))

include hc hrow hact

theorem lock_kept (hb : b.toNat = ch.val) (kept : KeptFromWindow s.part ch) : Refused s row .state :=
  reads_of hc hrow ((answerLock_of ht hact hb).trans (unlessFails_no (by
    rw [ownerOf_accepted, beq_eq_false_iff_ne]
    exact fun free => (ownerOf_window _ _).1 free kept)))

theorem lock_busy (hb : b.toNat = ch.val) (free : ¬ KeptFromWindow s.part ch) (moving : InTravel (s.part.channel ch)) :
    Refused s row .busy :=
  reads_of hc hrow ((answerLock_of ht hact hb).trans <|
    (unlessFails_ok (by rw [ownerOf_accepted, beq_iff_eq]; exact (ownerOf_window _ _).2 free)).trans <|
      unlessFails_no (by rw [accepted_channel, (inTravel_iff _).2 moving]; rfl))

theorem lock_done (hb : b.toNat = ch.val) (free : ¬ KeptFromWindow s.part ch) (resting : ¬ InTravel (s.part.channel ch)) :
    Done s row [.channels] [] .ok (.lockFlag lock) fun q =>
      q.channel ch = { s.part.channel ch with locked := lock } ∧ OtherChannelsKept s.part q ch := by
  refine done_reports hc hrow ((answerLock_of ht hact hb).trans <|
    (unlessFails_ok (by rw [ownerOf_accepted, beq_iff_eq]; exact (ownerOf_window _ _).2 free)).trans <|
      unlessFails_ok (by rw [accepted_channel, inTravel_false resting]; rfl)) (by simp) rfl fun q' only => ?_
  obtain ⟨record, others⟩ := written_replied only
  rw [accepted_channel] at record
  exact ⟨record, otherChannels_accepted others⟩

end Lock

/-! ### DIRECT_SELECT (R162) -/

section Select
variable {s : State} {b : Byte} {ch : ChannelId} (hc : CanHandle s) (ht : s.part.startUp.top ≠ .surveying) (tag : Byte)
include hc ht

theorem select_range (far : 112 ≤ b.toNat) (named : b ≠ 255) : Refused s (.directSelect tag b) .range :=
  reads_of hc rfl ((unlessSurveying_accepted ht _).trans (named_none (channelOrNone_range far named)))

theorem select_none : Done s (.directSelect tag 255) [.selection] [] .ok (.channelNow none) fun q =>
    q.valves.selection = none :=
  done_reports hc rfl ((unlessSurveying_accepted ht _).trans ((named_some (a := none) rfl).trans (unlessFails_ok rfl)))
    (by simp) rfl fun _ only => only .selection (by simp)

theorem select_kept (hb : b.toNat = ch.val) (kept : KeptFromWindow s.part ch) : Refused s (.directSelect tag b) .state :=
  reads_of hc rfl ((unlessSurveying_accepted ht _).trans ((named_some (channelOrNone_channel hb)).trans (unlessFails_no (by
    rw [Option.all_some, ownerOf_accepted, beq_eq_false_iff_ne]
    exact fun free => (ownerOf_window _ _).1 free kept))))

theorem select_done (hb : b.toNat = ch.val) (free : ¬ KeptFromWindow s.part ch) :
    Done s (.directSelect tag b) [.selection] [] .ok (.channelNow (some (s.part.channel ch).state)) fun q =>
      q.valves.selection = some ch := by
  have answer : s.part.frameAccepted.answer (.directSelect b) =
      (s.part.frameAccepted.setSelection (some ch), .ok, .channelNow (some (s.part.channel ch).state)) := by
    refine (unlessSurveying_accepted ht _).trans ((named_some (channelOrNone_channel hb)).trans ((unlessFails_ok ?_).trans ?_))
    · rw [Option.all_some, ownerOf_accepted, beq_iff_eq]
      exact (ownerOf_window _ _).2 free
    · rw [Option.map_some, accepted_channel]
  exact done_reports hc rfl answer (by simp) rfl fun _ only => only .selection (by simp)

end Select

/-! ### CLEAR_CHANNEL (R158) -/

section Clear
variable {s : State} {b : Byte} {ch : ChannelId} (hc : CanHandle s) (ht : s.part.startUp.top ≠ .surveying) (tag : Byte)
include ht

/-- The part as the derivation finds it: the channel UNKNOWN, with no target (log 35). -/
def toDerive (p : Part) (ch : ChannelId) : Part :=
  p.putChannel ch { p.channel ch with target := none, state := .unknown }

omit ht in
theorem toDerive_channel (p : Part) (ch : ChannelId) :
    (toDerive p ch).channel ch = { p.channel ch with state := .unknown, target := none } := channel_putChannel p ch _

theorem answerClear_of (hb : b.toNat = ch.val) : s.part.frameAccepted.answer (.clearChannel b) =
    unlessFails s.part.frameAccepted (s.part.frameAccepted.channel ch).state.isFault .state
      (unlessFails s.part.frameAccepted (!s.part.frameAccepted.channelBusy ch) .busy
        ((toDerive s.part.frameAccepted ch).settle ch, .ok,
          .channelIs (((toDerive s.part.frameAccepted ch).settle ch).channel ch).state)) :=
  (unlessSurveying_accepted ht _).trans (named_some (channelOf_some hb))

include hc

theorem clear_range (far : 112 ≤ b.toNat) : Refused s (.clearChannel tag b) .range :=
  reads_of hc rfl ((unlessSurveying_accepted ht _).trans (named_none (channelOf_none far)))

theorem clear_sound (hb : b.toNat = ch.val) (sound : ∀ x, (s.part.channel ch).state ≠ .fault x) :
    Refused s (.clearChannel tag b) .state :=
  reads_of hc rfl ((answerClear_of ht hb).trans (unlessFails_no (by rw [accepted_channel]; exact isFault_false sound)))

section Faulty
variable (hb : b.toNat = ch.val) {x : ChannelFault} (faulty : (s.part.channel ch).state = .fault x)
include hb faulty

theorem clear_busy (held : ChannelHeld s.part ch) : Refused s (.clearChannel tag b) .busy :=
  reads_of hc rfl ((answerClear_of ht hb).trans <|
    (unlessFails_ok (by rw [accepted_channel, faulty]; rfl)).trans <|
      unlessFails_no (by rw [channelBusy_accepted, (channelBusy_iff _ _).2 held]; rfl))

omit hc in
theorem answerClear_free (free : ¬ ChannelHeld s.part ch) : s.part.frameAccepted.answer (.clearChannel b) =
    ((toDerive s.part.frameAccepted ch).settle ch, .ok,
      .channelIs (((toDerive s.part.frameAccepted ch).settle ch).channel ch).state) :=
  (answerClear_of ht hb).trans <| (unlessFails_ok (by rw [accepted_channel, faulty]; rfl)).trans <|
    unlessFails_ok (by rw [channelBusy_accepted, Bool.eq_false_iff.2 (mt (channelBusy_iff _ _).1 free)]; rfl)

theorem clear_one (free : ¬ ChannelHeld s.part ch) (one : ¬ BothActive (s.part.channel ch)) {y : ChannelState}
    (hy : StateByReadings (s.part.channel ch) y) :
    Done s (.clearChannel tag b) [.channels] [] .ok (.channelIs y) fun q =>
      q.channel ch = { s.part.channel ch with state := y, target := none } ∧ OtherChannelsKept s.part q ch := by
  have record := toDerive_channel s.part.frameAccepted ch
  rw [accepted_channel] at record
  refine settle_one_done (q := toDerive s.part.frameAccepted ch) hc rfl (answerClear_free ht hb faulty free) (xs := [.channels])
    (by unfold toDerive; simp) (by simp) (by simp) (by rw [record]; exact one) (by rw [record]; exact hy) fun q' only => ?_
  obtain ⟨now, others⟩ := written_replied only
  refine ⟨by rw [now, record], otherChannels_accepted (otherChannels_trans (otherChannels_putChannel _ ch _) others)⟩

theorem clear_both (free : ¬ ChannelHeld s.part ch) (both : BothActive (s.part.channel ch)) :
    ∃ cap, CaptureOf cap ch { s.part.channel ch with state := .unknown, target := none } .switch s.part.startUp.clock none
        (s.part.ownerOf ch) ∧
      Done s (.clearChannel tag b) [.channels, .capture, .events] [.valveFault cap] .ok (.channelIs (.fault .switch)) fun q =>
        q.channel ch = { s.part.channel ch with state := .fault .switch, target := none } ∧ OtherChannelsKept s.part q ch ∧
        q.valves.capture = some cap ∧ FaultTold s.part q.events (s.part.channel ch).mappedTo := by
  have record := toDerive_channel s.part.frameAccepted ch
  rw [accepted_channel] at record
  have cap := captureOf_switch (toDerive s.part.frameAccepted ch) ch
  have owner : (toDerive s.part.frameAccepted ch).ownerOf ch = s.part.ownerOf ch :=
    ownerOf_same (by rw [record]) (accepted_filter s.part)
  have clock : (toDerive s.part.frameAccepted ch).startUp.clock = s.part.startUp.clock := accepted_clock s.part
  rw [record, owner, clock] at cap
  refine ⟨_, cap, settle_both_done hc rfl (answerClear_free ht hb faulty free) (xs := [.channels, .capture, .events])
    (by unfold toDerive; simp) (by simp) (by simp) (by rw [record]; exact both) fun q' only => ?_⟩
  obtain ⟨now, others, captured, told⟩ := fault_replied only
  rw [record] at now told
  exact ⟨now, otherChannels_accepted (otherChannels_trans (otherChannels_putChannel _ ch _) others), captured,
    faultTold_same (accepted_filter s.part) told⟩

end Faulty
end Clear

end Sys2Proof.Laws

namespace Sys2Proof

open Machine Laws

/-- Settles O53: each command by its operand, by who keeps the channel, and by the channel's state. -/
theorem channelsAreLockedSelectedAndCleared : Obligations.ChannelsAreLockedSelectedAndCleared := by
  intro s tag b hc ht
  refine ⟨fun far => ⟨reads_of hc rfl (answerLock_range ht far), reads_of hc rfl (answerLock_range ht far),
    clear_range hc ht tag far, select_range hc ht tag far⟩, fun same => same ▸ select_none hc ht tag, fun ch hb => ?_⟩
  refine ⟨fun kept => ⟨lock_kept hc ht rfl rfl hb kept, lock_kept hc ht rfl rfl hb kept, select_kept hc ht tag hb kept⟩,
    fun free => ⟨fun moving => ⟨lock_busy hc ht rfl rfl hb free moving, lock_busy hc ht rfl rfl hb free moving⟩,
      fun resting => ⟨lock_done hc ht rfl rfl hb free resting, lock_done hc ht rfl rfl hb free resting⟩,
      select_done hc ht tag hb free⟩,
    clear_sound hc ht tag hb, fun x faulty => ⟨clear_busy hc ht tag hb faulty, fun free one y hy => ?_, fun free both => ?_⟩⟩
  · exact clear_one hc ht tag hb faulty free one hy
  · exact clear_both hc ht tag hb faulty free both

end Sys2Proof
end

section
/-! SUPPORT. The interlock (R161) in the words of the statements, what a command does to its channel (R153, Table 8-3), and
DIRECT_DRIVE (R163). -/

namespace Sys2Proof.Laws

open Sys2Proof.Machine

/-! ### The interlock (R161) -/

theorem partners_iff {r k : Role} : Partners r k ↔ partnerOf r = some k := by
  cases r <;> cases k <;> simp [Partners, partnerOf]

theorem countsClosed_iff (p : Part) (f : FilterId) (r : Role) : p.countsClosed f r = true ↔
    ∀ ch, p.mapped f r = some ch → ¬ ((p.channel ch).state ≠ .closed ∨ (p.channel ch).target = some .opened) := by
  unfold Part.countsClosed
  cases p.mapped f r with
  | none => simp
  | some ch => simp

theorem interlockOk_iff (p : Part) (f : FilterId) (r : Role) : p.interlockOk f r = true ↔ ¬ PartnerOpen p f r := by
  unfold Part.interlockOk PartnerOpen
  simp only [partners_iff]
  cases partnerOf r with
  | none => simp
  | some k => simp [countsClosed_iff]

theorem directOpenOk_iff (p : Part) (ch : ChannelId) :
    p.directOpenOk ch = true ↔ ¬ ∃ f r, (p.channel ch).mappedTo = some (f, r) ∧ PartnerOpen p f r := by
  unfold Part.directOpenOk
  cases h : (p.channel ch).mappedTo with
  | none => simp
  | some m =>
    obtain ⟨f, r⟩ := m
    simp [interlockOk_iff]

theorem interlockOk_accepted (p : Part) (f : FilterId) (r : Role) : p.frameAccepted.interlockOk f r = p.interlockOk f r := by
  unfold Part.interlockOk Part.countsClosed
  simp only [accepted_mapped, accepted_channel]

theorem directOpenOk_accepted (p : Part) (ch : ChannelId) : p.frameAccepted.directOpenOk ch = p.directOpenOk ch := by
  unfold Part.directOpenOk
  simp only [accepted_channel, interlockOk_accepted]

/-! ### A command to a channel (R153, Table 8-3) -/

theorem travelTime_eq (p : Part) (ch : ChannelId) : p.travelTime ch = travelOf p (p.channel ch) := rfl

theorem completeAt_channel (p : Part) (ch : ChannelId) (pos : Position) (x : ChannelState) :
    (p.completeAt ch pos x).channel ch = { p.channel ch with state := x, target := some pos } := channel_putChannel p ch _

theorem completeAt_others (p : Part) (ch : ChannelId) (pos : Position) (x : ChannelState) :
    OtherChannelsKept p (p.completeAt ch pos x) ch := otherChannels_putChannel p ch _

theorem startTravel_others (p : Part) (ch : ChannelId) (pos : Position) : OtherChannelsKept p (p.startTravel ch pos) ch :=
  fun _ hd => startTravel_channel_ne p hd pos

theorem command_others (p : Part) (ch : ChannelId) (pos : Position) : OtherChannelsKept p (p.command ch pos).1 ch := by
  unfold Part.command
  dsimp only
  split
  case h_1 => exact otherChannels_refl p ch
  case h_6 | h_7 =>
    split
    · exact completeAt_others p ch _ _
    · exact startTravel_others p ch _
  case h_8 => exact startTravel_others p ch _
  all_goals exact completeAt_others p ch _ _

/-- A channel neither in FAULT nor STOPPED takes the command as Table 8-3 says. -/
theorem command_commanded (p : Part) (ch : ChannelId) (pos : Position) (sound : ∀ x, (p.channel ch).state ≠ .fault x)
    (going : (p.channel ch).state ≠ .stopped) : (p.command ch pos).1.channel ch = commanded p (p.channel ch) pos := by
  have travels : (p.startTravel ch pos).channel ch =
      inTravelTo (p.channel ch) p.startUp.clock (travelOf p (p.channel ch)) pos := by
    rw [startTravel_channel, travelTime_eq]
  unfold Part.command commanded
  cases hs : (p.channel ch).state with
  | fault x => exact absurd hs (sound x)
  | stopped => exact absurd hs going
  | unknown => cases pos <;> simp only [hs] <;> exact travels
  | closed | closing =>
    cases pos <;> simp only [hs]
    · exact travels
    · exact completeAt_channel p ch _ _
  | opened | opening =>
    cases pos <;> simp only [hs]
    · exact completeAt_channel p ch _ _
    · exact travels

theorem command_link (p : Part) (ch : ChannelId) (pos : Position) : (p.command ch pos).1.link = p.link :=
  link_kept (xs := [.channels, .events]) (by simp) (by simp)

theorem commanded_accepted (p : Part) (c : Channel) (pos : Position) : commanded p.frameAccepted c pos = commanded p c pos := by
  unfold commanded travelOf
  rw [accepted_plant, accepted_clock]

/-! ### DIRECT_DRIVE (R163) -/

theorem stopAsserted_accepted (p : Part) : p.frameAccepted.stopAsserted = p.stopAsserted := by
  unfold Part.stopAsserted
  rw [accepted_valves]

/-- One of the three rows of DIRECT_DRIVE. -/
structure Drives (row : Instr) (tag x : Byte) (a : DriveAction) : Prop where
  command : row.command = some (tag, .directDrive x)
  action : driveActionOf x = some a

theorem drives_open (tag : Byte) : Drives (.directDriveOpen tag) tag 0 .openUp := ⟨rfl, rfl⟩
theorem drives_close (tag : Byte) : Drives (.directDriveClose tag) tag 1 .close := ⟨rfl, rfl⟩
theorem drives_stop (tag : Byte) : Drives (.directDriveStop tag) tag 2 .stop := ⟨rfl, rfl⟩

section Drive
variable {s : State} {tag x : Byte} {a : DriveAction} {row : Instr} {ch : ChannelId} (hc : CanHandle s)
  (ht : s.part.startUp.top ≠ .surveying) (hrow : Drives row tag x a)
include ht hrow

theorem answerDrive_unselected (none : s.part.valves.selection = none) :
    s.part.frameAccepted.answer (.directDrive x) = refuse s.part.frameAccepted .state := by
  refine (unlessSurveying_accepted ht _).trans ((named_some hrow.action).trans ?_)
  rw [accepted_valves, none]

/-- The checks of R163, one after the other. -/
theorem answerDrive_of (selected : s.part.valves.selection = some ch) : s.part.frameAccepted.answer (.directDrive x) =
    unlessFails s.part.frameAccepted (!s.part.stopAsserted) .inhibited
      (unlessFails s.part.frameAccepted (!(s.part.channel ch).locked) .locked
        (unlessFails s.part.frameAccepted (!(s.part.channel ch).state.isFault) .state
          (unlessFails s.part.frameAccepted (a != .openUp || s.part.directOpenOk ch) .interlock
            (s.part.frameAccepted.directDrive ch a, .ok,
              .channelIs ((s.part.frameAccepted.directDrive ch a).channel ch).state)))) := by
  refine (unlessSurveying_accepted ht _).trans ((named_some hrow.action).trans ?_)
  rw [accepted_valves, selected]
  dsimp only
  rw [stopAsserted_accepted, accepted_channel, directOpenOk_accepted]

section Selected
variable (selected : s.part.valves.selection = some ch)
include hc selected

theorem drive_inhibited (stop : s.part.stopAsserted = true) : Refused s row .inhibited :=
  reads_of hc hrow.command ((answerDrive_of ht hrow selected).trans (unlessFails_no (by rw [stop]; rfl)))

variable (running : s.part.stopAsserted = false)
include running

theorem drive_locked (locked : (s.part.channel ch).locked = true) : Refused s row .locked :=
  reads_of hc hrow.command ((answerDrive_of ht hrow selected).trans <|
    (unlessFails_ok (by rw [running]; rfl)).trans (unlessFails_no (by rw [locked]; rfl)))

variable (unlocked : (s.part.channel ch).locked = false)
include unlocked

theorem drive_faulty (faulty : ∃ x, (s.part.channel ch).state = .fault x) : Refused s row .state :=
  reads_of hc hrow.command ((answerDrive_of ht hrow selected).trans <|
    (unlessFails_ok (by rw [running]; rfl)).trans <| (unlessFails_ok (by rw [unlocked]; rfl)).trans <|
      unlessFails_no (by rw [(isFault_iff _).2 faulty]; rfl))

variable (sound : ∀ x, (s.part.channel ch).state ≠ .fault x)
include sound

omit hc in
/-- Only the interlock is still to be passed. -/
theorem answerDrive_interlock : s.part.frameAccepted.answer (.directDrive x) =
    unlessFails s.part.frameAccepted (a != .openUp || s.part.directOpenOk ch) .interlock
      (s.part.frameAccepted.directDrive ch a, .ok,
        .channelIs ((s.part.frameAccepted.directDrive ch a).channel ch).state) :=
  (answerDrive_of ht hrow selected).trans <| (unlessFails_ok (by rw [running]; rfl)).trans <|
    (unlessFails_ok (by rw [unlocked]; rfl)).trans (unlessFails_ok (by rw [isFault_false sound]; rfl))

/-- OPEN or CLOSE is taken. -/
theorem drive_commands {pos : Position} (going : (s.part.channel ch).state ≠ .stopped)
    (passes : (a != .openUp || s.part.directOpenOk ch) = true)
    (drive : s.part.frameAccepted.directDrive ch a = (s.part.frameAccepted.command ch pos).1) :
    Done s row [.channels, .events] [] .ok (.channelIs (commanded s.part (s.part.channel ch) pos).state) fun q =>
      q.channel ch = commanded s.part (s.part.channel ch) pos ∧ OtherChannelsKept s.part q ch := by
  have record := command_commanded s.part.frameAccepted ch pos (by rwa [accepted_channel]) (by rwa [accepted_channel])
  rw [commanded_accepted, accepted_channel] at record
  have answer := (answerDrive_interlock ht hrow selected running unlocked sound).trans (unlessFails_ok passes)
  rw [drive, record] at answer
  refine done_reports hc hrow.command answer (by simp) (command_link _ ch pos) fun q' only => ⟨?_, ?_⟩
  · rw [channel_kept only (by simp), record]
  · exact otherChannels_accepted (otherChannels_kept (command_others _ ch pos) only (by simp))

end Selected
end Drive

/-! ### DIRECT_DRIVE STOP (R163, R152) -/

/-- The part as STOP's derivation finds it: the channel without a target, its expiry gone (log 35). -/
def toStop (p : Part) (ch : ChannelId) : Part :=
  (p.putChannel ch { p.channel ch with target := none }).cancel (.travelExpiry ch)

theorem toStop_channel (p : Part) (ch : ChannelId) : (toStop p ch).channel ch = { p.channel ch with target := none } :=
  channel_putChannel p ch _

theorem toStop_others (p : Part) (ch : ChannelId) : OtherChannelsKept p (toStop p ch) ch := otherChannels_putChannel p ch _

theorem derive_sound {p : Part} {ch : ChannelId} (sound : ∀ x, (p.channel ch).state ≠ .fault x) :
    p.derive ch = (toStop p ch).settle ch := by
  unfold Part.derive toStop
  simp [isFault_false sound]

theorem directDrive_stop_resting {p : Part} {ch : ChannelId} (h : ¬ InTravel (p.channel ch)) : p.directDrive ch .stop = p :=
  if_neg (by rw [inTravel_false h]; simp)

theorem directDrive_stop_moving {p : Part} {ch : ChannelId} (h : InTravel (p.channel ch)) :
    p.directDrive ch .stop = (toStop p ch).settle ch := by
  refine (if_pos ((inTravel_iff _).2 h)).trans (derive_sound fun x faulty => ?_)
  obtain ⟨e, ran, h | h⟩ := h <;> rw [h] at faulty <;> cases faulty

section Stop
variable {s : State} {ch : ChannelId} (hc : CanHandle s) (ht : s.part.startUp.top ≠ .surveying) (tag : Byte)
  (selected : s.part.valves.selection = some ch) (running : s.part.stopAsserted = false)
  (unlocked : (s.part.channel ch).locked = false) (sound : ∀ x, (s.part.channel ch).state ≠ .fault x)
include ht selected running unlocked sound

theorem answerStop_of : s.part.frameAccepted.answer (.directDrive 2) = (s.part.frameAccepted.directDrive ch .stop, .ok,
    .channelIs ((s.part.frameAccepted.directDrive ch .stop).channel ch).state) :=
  (answerDrive_interlock ht (drives_stop 0) selected running unlocked sound).trans (unlessFails_ok rfl)

include hc

theorem stop_resting (rests : ¬ InTravel (s.part.channel ch)) :
    Reads s (.directDriveStop tag) .ok (.channelIs (s.part.channel ch).state) := by
  have answer := answerStop_of ht selected running unlocked sound
  rw [directDrive_stop_resting (by rwa [accepted_channel]), accepted_channel] at answer
  exact reads_of hc rfl answer

omit hc in
theorem answerStop_moving (moving : InTravel (s.part.channel ch)) : s.part.frameAccepted.answer (.directDrive 2) =
    ((toStop s.part.frameAccepted ch).settle ch, .ok,
      .channelIs (((toStop s.part.frameAccepted ch).settle ch).channel ch).state) := by
  have answer := answerStop_of ht selected running unlocked sound
  rwa [directDrive_stop_moving (by rwa [accepted_channel])] at answer

theorem stop_one (moving : InTravel (s.part.channel ch)) (one : ¬ BothActive (s.part.channel ch)) {y : ChannelState}
    (hy : StateByReadings (s.part.channel ch) y) :
    Done s (.directDriveStop tag) [.channels, .events] [] .ok (.channelIs y) fun q =>
      q.channel ch = { s.part.channel ch with state := y, target := none } ∧ OtherChannelsKept s.part q ch := by
  have record := toStop_channel s.part.frameAccepted ch
  rw [accepted_channel] at record
  refine settle_one_done (q := toStop s.part.frameAccepted ch) hc rfl
    (answerStop_moving ht selected running unlocked sound moving) (xs := [.channels, .events])
    (by unfold toStop; simp) (by simp) (by simp) (by rw [record]; exact one) (by rw [record]; exact hy) fun q' only => ?_
  obtain ⟨now, others⟩ := written_replied only
  exact ⟨by rw [now, record], otherChannels_accepted (otherChannels_trans (toStop_others _ ch) others)⟩

theorem stop_both (moving : InTravel (s.part.channel ch)) (both : BothActive (s.part.channel ch)) :
    ∃ cap, CaptureOf cap ch { s.part.channel ch with target := none } .switch s.part.startUp.clock none
        (s.part.ownerOf ch) ∧
      Done s (.directDriveStop tag) [.channels, .capture, .events] [.valveFault cap] .ok (.channelIs (.fault .switch)) fun q =>
        q.channel ch = { s.part.channel ch with state := .fault .switch, target := none } ∧ OtherChannelsKept s.part q ch ∧
        q.valves.capture = some cap ∧ FaultTold s.part q.events (s.part.channel ch).mappedTo := by
  have record := toStop_channel s.part.frameAccepted ch
  rw [accepted_channel] at record
  have cap := captureOf_switch (toStop s.part.frameAccepted ch) ch
  have owner : (toStop s.part.frameAccepted ch).ownerOf ch = s.part.ownerOf ch :=
    ownerOf_same (by rw [record]) (accepted_filter s.part)
  have clock : (toStop s.part.frameAccepted ch).startUp.clock = s.part.startUp.clock := accepted_clock s.part
  rw [record, owner, clock] at cap
  refine ⟨_, cap, settle_both_done hc rfl (answerStop_moving ht selected running unlocked sound moving)
    (xs := [.channels, .capture, .events]) (by unfold toStop; simp) (by simp) (by simp) (by rw [record]; exact both)
    fun q' only => ?_⟩
  obtain ⟨now, others, captured, told⟩ := fault_replied only
  rw [record] at now told
  exact ⟨now, otherChannels_accepted (otherChannels_trans (toStop_others _ ch) others), captured,
    faultTold_same (accepted_filter s.part) told⟩

end Stop

end Sys2Proof.Laws

namespace Sys2Proof

open Machine Laws

/-- Settles O54: the checks of R163 in their order, then the command or the derivation that the action is. -/
theorem directDriveMovesTheSelectedChannel : Obligations.DirectDriveMovesTheSelectedChannel := by
  intro s tag hc ht
  have opens := drives_open tag
  have closes := drives_close tag
  have stops := drives_stop tag
  refine ⟨fun none => ⟨reads_of hc rfl (answerDrive_unselected ht opens none),
    reads_of hc rfl (answerDrive_unselected ht closes none), reads_of hc rfl (answerDrive_unselected ht stops none)⟩,
    fun ch selected => ⟨fun stop => ?_, fun running locked => ?_, fun running unlocked faulty => ?_,
      fun running unlocked sound going => ⟨fun crosses => ?_, fun free => ?_, ?_, fun rests => ?_, fun moving one y hy => ?_,
        fun moving both => ?_⟩⟩⟩
  · exact ⟨drive_inhibited hc ht opens selected stop, drive_inhibited hc ht closes selected stop,
      drive_inhibited hc ht stops selected stop⟩
  · exact ⟨drive_locked hc ht opens selected running locked, drive_locked hc ht closes selected running locked,
      drive_locked hc ht stops selected running locked⟩
  · exact ⟨drive_faulty hc ht opens selected running unlocked faulty,
      drive_faulty hc ht closes selected running unlocked faulty, drive_faulty hc ht stops selected running unlocked faulty⟩
  · refine reads_of hc rfl ((answerDrive_interlock ht opens selected running unlocked sound).trans (unlessFails_no ?_))
    exact Bool.eq_false_iff.2 fun ok => (directOpenOk_iff _ _).1 ok crosses
  · exact drive_commands hc ht opens selected running unlocked sound going ((directOpenOk_iff _ _).2 free) rfl
  · exact drive_commands hc ht closes selected running unlocked sound going rfl rfl
  · exact stop_resting hc ht tag selected running unlocked sound rests
  · exact stop_one hc ht tag selected running unlocked sound moving one hy
  · exact stop_both hc ht tag selected running unlocked sound moving both

end Sys2Proof
end

section
/-! SUPPORT. MAP_VALVE (R159): the operands, the checks in their order, and the map, the back-links and the sense after it. -/

namespace Sys2Proof.Laws

open Sys2Proof.Machine

/-! ### Operands -/

theorem channelOrNone_iff {b : Byte} {x : Option ChannelId} : channelOrNone b = some x ↔ ChannelNamed b x := by
  constructor
  · unfold channelOrNone
    intro h
    split at h
    · exact .inl ⟨‹_›, by cases h; rfl⟩
    · obtain ⟨ch, hch, rfl⟩ := Option.map_eq_some_iff.1 h
      unfold channelOf at hch
      split at hch
      · cases hch
        exact .inr ⟨_, rfl, rfl⟩
      · cases hch
  · rintro (⟨rfl, rfl⟩ | ⟨ch, named, rfl⟩)
    · rfl
    · exact channelOrNone_channel named

theorem senseOf_some {b : Byte} {sense : SwitchSense} (h : (b = 0 ∧ sense = .normal) ∨ (b = 1 ∧ sense = .inverted)) :
    senseOf b = some sense := by
  rcases h with ⟨rfl, rfl⟩ | ⟨rfl, rfl⟩ <;> rfl

theorem senseOf_none {b : Byte} (h : 2 ≤ b.toNat) : senseOf b = none := by
  have zero : b ≠ 0 := by rintro rfl; exact absurd h (by decide)
  have one : b ≠ 1 := by rintro rfl; exact absurd h (by decide)
  unfold senseOf
  rw [if_neg zero, if_neg one]

/-- A field that names nothing is refused RANGE, and so is what follows it. -/
theorem named_range {α : Type} {p : Part} {x : Option α} {k : α → Answer} (h : ∀ a, k a = refuse p .range) :
    named p x k = refuse p .range := by
  unfold named
  split
  · exact h _
  · rfl

/-! ### The checks (R159) in the words of the statement -/

section Checks
variable (p : Part) (f : FilterId) (r : Role) (x : Option ChannelId)

/-- In OPERATING the filter keeps its channels from the window. -/
def MapClosed : Prop := p.startUp.top = .operating ∧ WindowClosed p f

/-- The channel named belongs to another logical valve. -/
def MapTaken : Prop := ∃ ch m, x = some ch ∧ (p.channel ch).mappedTo = some m ∧ m ≠ (f, r)

/-- The channel named, or the one the entry names, is in travel. -/
def MapMoving : Prop := ∃ ch, (x = some ch ∨ p.mapped f r = some ch) ∧ InTravel (p.channel ch)

/-- A channel commanded open would become the partner of one that counts as open (R161). -/
def MapCrosses : Prop := (∃ ch, x = some ch ∧ (p.channel ch).target = some .opened) ∧ PartnerOpen p f r

theorem mapOpen_iff : (!p.operating || p.filterOwner f == .window) = true ↔ ¬ MapClosed p f := by
  unfold MapClosed Part.operating
  simp only [Bool.or_eq_true, Bool.not_eq_true', beq_eq_false_iff_ne, beq_iff_eq, filterOwner_window, not_and]
  exact Decidable.imp_iff_not_or.symm

theorem mappedElsewhere_iff : p.mappedElsewhere f r x = true ↔ MapTaken p f r x := by
  unfold Part.mappedElsewhere MapTaken
  simp only [Option.any_eq_true, bne_iff_ne]
  exact ⟨fun ⟨ch, hx, m, hm, ne⟩ => ⟨ch, m, hx, hm, ne⟩, fun ⟨ch, m, hx, hm, ne⟩ => ⟨ch, hx, m, hm, ne⟩⟩

theorem travels_iff : p.travels x = true ↔ ∃ ch, x = some ch ∧ InTravel (p.channel ch) := by
  unfold Part.travels
  simp only [Option.any_eq_true, inTravel_iff]

theorem mapMoving_iff : (p.travels x || p.travels (p.mapped f r)) = true ↔ MapMoving p f r x := by
  unfold MapMoving
  rw [Bool.or_eq_true, travels_iff, travels_iff]
  simp only [or_and_right, exists_or]

theorem mapInterlockOk_iff : p.mapInterlockOk f r x = true ↔ ¬ MapCrosses p f r x := by
  have open_iff : (x.any fun c => (p.channel c).target == some .opened) = true ↔
      ∃ ch, x = some ch ∧ (p.channel ch).target = some .opened := by
    simp only [Option.any_eq_true, beq_iff_eq]
  unfold Part.mapInterlockOk MapCrosses
  rw [← open_iff, Bool.or_eq_true, interlockOk_iff, Bool.not_eq_true', not_and, ← Bool.not_eq_true]
  exact Decidable.imp_iff_not_or.symm

end Checks

/-! ### The map written -/

/-- The entry names the channel or none; every other entry stands. -/
def EntryWritten (p q : Part) (f : FilterId) (r : Role) (x : Option ChannelId) : Prop :=
  q.mapped f r = x ∧ ∀ g k, (g, k) ≠ (f, r) → q.mapped g k = p.mapped g k

/-- Beside the channel named, only the one the entry named before changes: it loses its back-link. -/
def OthersFreed (p q : Part) (f : FilterId) (r : Role) (x : Option ChannelId) : Prop :=
  ∀ ch, x ≠ some ch → q.channel ch =
    if p.mapped f r = some ch then { p.channel ch with mappedTo := none } else p.channel ch

theorem setMap_written (p : Part) (f : FilterId) (r : Role) (x : Option ChannelId) :
    EntryWritten p (p.setMap f r x) f r x := by
  unfold EntryWritten Part.setMap Part.mapped
  refine ⟨by simp, fun g k other => ?_⟩
  by_cases same : g = f
  · subst same
    have role : k ≠ r := fun e => other (by rw [e])
    simp [perRole_get_set_ne _ role]
  · have apart : (f : Nat) ≠ g := fun e => same (Fin.ext e.symm)
    simp [apart]

theorem freeMapped_channel (p : Part) (f : FilterId) (r : Role) (ch : ChannelId) : (p.freeMapped f r).channel ch =
    if p.mapped f r = some ch then { p.channel ch with mappedTo := none } else p.channel ch := by
  unfold Part.freeMapped Part.setMapped
  cases h : p.mapped f r with
  | none => simp
  | some d =>
    by_cases same : ch = d
    · subst same
      simp
    · simp [channel_putChannel_ne p same, Ne.symm same]

theorem entryWritten_kept {xs : List Piece} {p q q' : Part} {f : FilterId} {r : Role} {x : Option ChannelId}
    (h : EntryWritten p q f r x) (k : OnlyChanges xs q q') (hx : Piece.map ∉ xs) : EntryWritten p q' f r x := by
  obtain ⟨entry, others⟩ := h
  exact ⟨(mapped_kept k hx f r).trans entry, fun g j ne => (mapped_kept k hx g j).trans (others g j ne)⟩

theorem entryWritten_accepted {p q : Part} {f : FilterId} {r : Role} {x : Option ChannelId}
    (h : EntryWritten p.frameAccepted q f r x) : EntryWritten p q f r x := by
  obtain ⟨entry, others⟩ := h
  exact ⟨entry, fun g j ne => (others g j ne).trans (accepted_mapped p g j)⟩

theorem othersFreed_kept {p q q' : Part} {f : FilterId} {r : Role} {ch : ChannelId} (h : OthersFreed p q f r (some ch))
    (k : OtherChannelsKept q q' ch) : OthersFreed p q' f r (some ch) := fun d hd =>
  (k d fun same => hd (congrArg some same.symm)).trans (h d hd)

theorem othersFreed_accepted {p q : Part} {f : FilterId} {r : Role} {x : Option ChannelId}
    (h : OthersFreed p.frameAccepted q f r x) : OthersFreed p q f r x := fun d hd => by
  have freed := h d hd
  rwa [accepted_mapped, accepted_channel] at freed

/-! ### A channel mapped, and its sense written -/

section Mapped
variable (p : Part) (f : FilterId) (r : Role) (ch : ChannelId) (sense : SwitchSense)

/-- The map entry and the back-links written; both stand already where the entry names the channel. -/
def linkWritten : Part :=
  if p.mapped f r = some ch then p
  else ((p.freeMapped f r).setMap f r (some ch)).setMapped ch (some (f, r))

/-- The links and the sense written, before the channel's state follows. -/
def senseWritten : Part :=
  (linkWritten p f r ch).putChannel ch { (linkWritten p f r ch).channel ch with sense := sense }

/-- The channel's record after MAP_VALVE, but for the state. -/
def mappedChannel : Channel := { p.channel ch with mappedTo := some (f, r), sense := sense }

theorem mapValve_eq : p.mapValve f r (some ch) sense = (linkWritten p f r ch).writeSense ch sense := by
  unfold Part.mapValve linkWritten
  dsimp only
  split <;> rfl

theorem linkWritten_only : OnlyChanges [.map, .channels] p (linkWritten p f r ch) := by
  unfold linkWritten
  split <;> simp

theorem senseWritten_only : OnlyChanges [.map, .channels] p (senseWritten p f r ch sense) :=
  onlyChanges_trans (linkWritten_only p f r ch) (by unfold senseWritten; simp)

theorem linkWritten_entry : EntryWritten p (linkWritten p f r ch) f r (some ch) := by
  unfold linkWritten
  split
  · exact ⟨‹_›, fun _ _ _ => rfl⟩
  · have free : OnlyChanges [.channels] p (p.freeMapped f r) := by simp
    have back : OnlyChanges [.channels] ((p.freeMapped f r).setMap f r (some ch))
        (((p.freeMapped f r).setMap f r (some ch)).setMapped ch (some (f, r))) := by simp
    obtain ⟨entry, others⟩ := entryWritten_kept (setMap_written (p.freeMapped f r) f r (some ch)) back (by simp)
    exact ⟨entry, fun g k ne => (others g k ne).trans (mapped_kept free (by simp) g k)⟩

theorem linkWritten_freed : OthersFreed p (linkWritten p f r ch) f r (some ch) := by
  intro d hd
  have other : d ≠ ch := fun same => hd (congrArg some same.symm)
  unfold linkWritten
  split
  · rename_i named
    rw [named, if_neg hd]
  · exact (channel_putChannel_ne _ other _).trans (freeMapped_channel p f r d)

theorem linkWritten_channel (back : p.mapped f r = some ch → (p.channel ch).mappedTo = some (f, r)) :
    (linkWritten p f r ch).channel ch = { p.channel ch with mappedTo := some (f, r) } := by
  unfold linkWritten
  split
  · rename_i named
    rw [← back named]
  · rename_i other
    refine (channel_putChannel _ ch _).trans ?_
    show { (p.freeMapped f r).channel ch with mappedTo := some (f, r) } = _
    rw [freeMapped_channel, if_neg other]

theorem senseWritten_entry : EntryWritten p (senseWritten p f r ch sense) f r (some ch) :=
  entryWritten_kept (linkWritten_entry p f r ch) (xs := [.channels]) (by unfold senseWritten; simp) (by simp)

theorem senseWritten_freed : OthersFreed p (senseWritten p f r ch sense) f r (some ch) :=
  othersFreed_kept (linkWritten_freed p f r ch) (otherChannels_putChannel _ ch _)

theorem senseWritten_channel (back : p.mapped f r = some ch → (p.channel ch).mappedTo = some (f, r)) :
    (senseWritten p f r ch sense).channel ch = mappedChannel p f r ch sense := by
  unfold senseWritten mappedChannel
  rw [channel_putChannel, linkWritten_channel p f r ch back]

/-- A channel at rest, or UNKNOWN, takes its state from its readings under the sense written. -/
def Settles (x : ChannelState) : Prop := x = .closed ∨ x = .opened ∨ x = .unknown

theorem senseWritten_settles (h : Settles ((senseWritten p f r ch sense).channel ch).state) :
    p.mapValve f r (some ch) sense = (senseWritten p f r ch sense).settle ch := by
  rw [mapValve_eq]
  unfold senseWritten at h ⊢
  unfold Part.writeSense
  rcases h with h | h | h <;> simp only [h]

theorem senseWritten_stays (h : ¬ Settles ((senseWritten p f r ch sense).channel ch).state) :
    p.mapValve f r (some ch) sense = senseWritten p f r ch sense := by
  rw [mapValve_eq]
  unfold senseWritten at h ⊢
  unfold Part.writeSense
  unfold Settles at h
  dsimp only
  split
  · exact absurd (.inl ‹_›) h
  · exact absurd (.inr (.inl ‹_›)) h
  · exact absurd (.inr (.inr ‹_›)) h
  · rfl

end Mapped

theorem mappedChannel_accepted (p : Part) (f : FilterId) (r : Role) (ch : ChannelId) (sense : SwitchSense) :
    mappedChannel p.frameAccepted f r ch sense = mappedChannel p f r ch sense := by
  unfold mappedChannel
  rw [accepted_channel]

/-! ### The command -/

section Command
variable {s : State} {b rb cb sb : Byte} {f : FilterId} {r : Role} {x : Option ChannelId} {sense : SwitchSense}
  (hc : CanHandle s) (ht : s.part.startUp.top ≠ .surveying) (tag : Byte)
include ht

include hc in
theorem mapValve_range (h : filterOf b = none ∨ roleOf rb = none ∨ (∀ x, ¬ ChannelNamed cb x) ∨ 2 ≤ sb.toNat) :
    Refused s (.mapValve tag b rb cb sb) .range := by
  refine reads_of hc rfl ((unlessSurveying_accepted ht _).trans ?_)
  rcases h with h | h | h | h
  · exact named_none h
  · exact named_range fun _ => named_none h
  · exact named_range fun _ => named_range fun _ => named_none <|
      Option.eq_none_iff_forall_ne_some.2 fun y hy => h y (channelOrNone_iff.1 hy)
  · exact named_range fun _ => named_range fun _ => named_range fun _ => named_none (senseOf_none h)

variable (hf : filterOf b = some f) (hr : roleOf rb = some r) (hx : ChannelNamed cb x)
  (hs : (sb = 0 ∧ sense = .normal) ∨ (sb = 1 ∧ sense = .inverted))
include hf hr hx hs

/-- The checks of R159, one after the other. -/
theorem answerMap_of : s.part.frameAccepted.answer (.mapValve b rb cb sb) =
    unlessFails s.part.frameAccepted (!s.part.operating || s.part.filterOwner f == .window) .state
      (unlessFails s.part.frameAccepted (!s.part.mappedElsewhere f r x) .inUse
        (unlessFails s.part.frameAccepted (!(s.part.travels x || s.part.travels (s.part.mapped f r))) .busy
          (unlessFails s.part.frameAccepted (s.part.mapInterlockOk f r x) .interlock
            (s.part.frameAccepted.mapValve f r x sense, .ok,
              .channelNow (x.map fun c => ((s.part.frameAccepted.mapValve f r x sense).channel c).state))))) := by
  have operating : s.part.frameAccepted.operating = s.part.operating := by
    unfold Part.operating
    rw [frameAccepted_top]
  have owner : s.part.frameAccepted.filterOwner f = s.part.filterOwner f := filterOwner_same (accepted_filter s.part f)
  have elsewhere : s.part.frameAccepted.mappedElsewhere f r x = s.part.mappedElsewhere f r x := by
    unfold Part.mappedElsewhere
    simp only [accepted_channel]
  have travels : ∀ y, s.part.frameAccepted.travels y = s.part.travels y := fun y => by
    unfold Part.travels
    simp only [accepted_channel]
  have interlock : s.part.frameAccepted.mapInterlockOk f r x = s.part.mapInterlockOk f r x := by
    unfold Part.mapInterlockOk
    simp only [accepted_channel, interlockOk_accepted]
  refine (unlessSurveying_accepted ht _).trans <| (named_some hf).trans <| (named_some hr).trans <|
    (named_some (channelOrNone_iff.2 hx)).trans <| (named_some (senseOf_some hs)).trans ?_
  rw [operating, owner, elsewhere, travels, accepted_mapped, travels, interlock]

section Refusals
include hc

theorem mapValve_closed (closed : MapClosed s.part f) : Refused s (.mapValve tag b rb cb sb) .state :=
  reads_of hc rfl ((answerMap_of ht hf hr hx hs).trans
    (unlessFails_no (Bool.eq_false_iff.2 fun ok => (mapOpen_iff _ _).1 ok closed)))

variable (free : ¬ MapClosed s.part f)
include free

theorem mapValve_taken (taken : MapTaken s.part f r x) : Refused s (.mapValve tag b rb cb sb) .inUse :=
  reads_of hc rfl ((answerMap_of ht hf hr hx hs).trans <| (unlessFails_ok ((mapOpen_iff _ _).2 free)).trans <|
    unlessFails_no (by rw [(mappedElsewhere_iff _ _ _ _).2 taken]; rfl))

variable (own : ¬ MapTaken s.part f r x)
include own

theorem mapValve_moving (moving : MapMoving s.part f r x) : Refused s (.mapValve tag b rb cb sb) .busy :=
  reads_of hc rfl ((answerMap_of ht hf hr hx hs).trans <| (unlessFails_ok ((mapOpen_iff _ _).2 free)).trans <|
    (unlessFails_ok (by rw [Bool.eq_false_iff.2 (mt (mappedElsewhere_iff _ _ _ _).1 own)]; rfl)).trans <|
      unlessFails_no (by rw [(mapMoving_iff _ _ _ _).2 moving]; rfl))

variable (resting : ¬ MapMoving s.part f r x)
include resting

omit hc in
theorem answerMap_interlock : s.part.frameAccepted.answer (.mapValve b rb cb sb) =
    unlessFails s.part.frameAccepted (s.part.mapInterlockOk f r x) .interlock
      (s.part.frameAccepted.mapValve f r x sense, .ok,
        .channelNow (x.map fun c => ((s.part.frameAccepted.mapValve f r x sense).channel c).state)) :=
  (answerMap_of ht hf hr hx hs).trans <| (unlessFails_ok ((mapOpen_iff _ _).2 free)).trans <|
    (unlessFails_ok (by rw [Bool.eq_false_iff.2 (mt (mappedElsewhere_iff _ _ _ _).1 own)]; rfl)).trans <|
      unlessFails_ok (by rw [Bool.eq_false_iff.2 (mt (mapMoving_iff _ _ _ _).1 resting)]; rfl)

theorem mapValve_crosses (crosses : MapCrosses s.part f r x) : Refused s (.mapValve tag b rb cb sb) .interlock :=
  reads_of hc rfl ((answerMap_interlock ht hf hr hx hs free own resting).trans
    (unlessFails_no (Bool.eq_false_iff.2 fun ok => (mapInterlockOk_iff _ _ _ _).1 ok crosses)))

omit hc in
theorem answerMap_passes (apart : ¬ MapCrosses s.part f r x) : s.part.frameAccepted.answer (.mapValve b rb cb sb) =
    (s.part.frameAccepted.mapValve f r x sense, .ok,
      .channelNow (x.map fun c => ((s.part.frameAccepted.mapValve f r x sense).channel c).state)) :=
  (answerMap_interlock ht hf hr hx hs free own resting).trans (unlessFails_ok ((mapInterlockOk_iff _ _ _ _).2 apart))

end Refusals
end Command

/-! ### The effect -/

section Effect
variable {s : State} {b rb cb sb tag : Byte} {f : FilterId} {r : Role} {sense : SwitchSense} (hc : CanHandle s)

include hc in
theorem mapNone_done (answer : s.part.frameAccepted.answer (.mapValve b rb cb sb) =
      (s.part.frameAccepted.mapValve f r none sense, .ok, .channelNow none)) :
    Done s (.mapValve tag b rb cb sb) [.map, .channels] [] .ok (.channelNow none) fun q =>
      EntryWritten s.part q f r none ∧ OthersFreed s.part q f r none := by
  have none_eq : s.part.frameAccepted.mapValve f r none sense = (s.part.frameAccepted.freeMapped f r).setMap f r none := rfl
  have free : OnlyChanges [.channels] s.part.frameAccepted (s.part.frameAccepted.freeMapped f r) := by simp
  have link : ((s.part.frameAccepted.freeMapped f r).setMap f r none).link = s.part.frameAccepted.link :=
    link_kept (xs := [.map, .channels]) (by simp) (by simp)
  rw [none_eq] at answer
  refine done_reports hc rfl answer (by simp) link fun q' only => ⟨?_, fun d _ => ?_⟩
  · obtain ⟨entry, others⟩ := entryWritten_kept (setMap_written (s.part.frameAccepted.freeMapped f r) f r none) only (by simp)
    exact entryWritten_accepted ⟨entry, fun g k ne => (others g k ne).trans (mapped_kept free (by simp) g k)⟩
  · have freed := freeMapped_channel s.part.frameAccepted f r d
    rw [accepted_mapped, accepted_channel] at freed
    exact (channel_kept only (by simp) d).trans freed

variable {ch : ChannelId} (back : s.part.mapped f r = some ch → (s.part.channel ch).mappedTo = some (f, r))
  (answer : s.part.frameAccepted.answer (.mapValve b rb cb sb) =
    (s.part.frameAccepted.mapValve f r (some ch) sense, .ok,
      .channelNow (some ((s.part.frameAccepted.mapValve f r (some ch) sense).channel ch).state)))

include back in
theorem senseWritten_record : (senseWritten s.part.frameAccepted f r ch sense).channel ch = mappedChannel s.part f r ch sense := by
  rw [← mappedChannel_accepted]
  exact senseWritten_channel s.part.frameAccepted f r ch sense (by rwa [accepted_mapped, accepted_channel])

include hc back answer

theorem mapStays_done (stays : ¬ Settles (mappedChannel s.part f r ch sense).state) :
    Done s (.mapValve tag b rb cb sb) [.map, .channels] [] .ok (.channelNow (some (mappedChannel s.part f r ch sense).state))
      fun q => EntryWritten s.part q f r (some ch) ∧ OthersFreed s.part q f r (some ch) ∧
        q.channel ch = mappedChannel s.part f r ch sense := by
  have record := senseWritten_record (sense := sense) back
  have only := senseWritten_only s.part.frameAccepted f r ch sense
  rw [senseWritten_stays _ f r ch sense (by rwa [record]), record] at answer
  refine done_reports hc rfl answer (onlyChanges_mono only (by simp)) (link_kept only (by simp)) fun q' k => ⟨?_, ?_, ?_⟩
  · exact entryWritten_accepted (entryWritten_kept (senseWritten_entry _ f r ch sense) k (by simp))
  · exact othersFreed_accepted (othersFreed_kept (senseWritten_freed _ f r ch sense) fun d _ => channel_kept k (by simp) d)
  · exact (channel_kept k (by simp) ch).trans record

variable (settles : Settles (mappedChannel s.part f r ch sense).state)
include settles

omit hc in
theorem answerMap_settles : s.part.frameAccepted.answer (.mapValve b rb cb sb) =
    ((senseWritten s.part.frameAccepted f r ch sense).settle ch, .ok,
      .channelNow (some (((senseWritten s.part.frameAccepted f r ch sense).settle ch).channel ch).state)) := by
  have record := senseWritten_record (sense := sense) back
  rwa [senseWritten_settles _ f r ch sense (by rwa [record])] at answer

theorem mapSettles_one (one : ¬ BothActive (mappedChannel s.part f r ch sense)) {y : ChannelState}
    (hy : StateByReadings (mappedChannel s.part f r ch sense) y) :
    Done s (.mapValve tag b rb cb sb) [.map, .channels] [] .ok (.channelNow (some y)) fun q =>
      EntryWritten s.part q f r (some ch) ∧ OthersFreed s.part q f r (some ch) ∧
        q.channel ch = { mappedChannel s.part f r ch sense with state := y } := by
  have record := senseWritten_record (sense := sense) back
  refine settle_one_done (fields := fun x => .channelNow (some x)) hc rfl (answerMap_settles back answer settles)
    (senseWritten_only _ f r ch sense) (by simp) (by simp) (by rwa [record]) (by rwa [record]) fun q' k => ?_
  have entry := entryWritten_kept (senseWritten_entry s.part.frameAccepted f r ch sense) (xs := [Piece.channels] ++ reporting)
    (onlyChanges_trans (by simp) (onlyChanges_mono k (by simp))) (by simp)
  obtain ⟨now, others⟩ := written_replied k
  rw [record] at now
  exact ⟨entryWritten_accepted entry,
    othersFreed_accepted (othersFreed_kept (senseWritten_freed _ f r ch sense) others), now⟩

theorem mapSettles_both (both : BothActive (mappedChannel s.part f r ch sense)) :
    ∃ cap, CaptureOf cap ch (mappedChannel s.part f r ch sense) .switch s.part.startUp.clock none (s.part.filterOwner f) ∧
      Done s (.mapValve tag b rb cb sb) [.map, .channels, .capture, .events] [.valveFault cap] .ok
        (.channelNow (some (.fault .switch))) fun q =>
          EntryWritten s.part q f r (some ch) ∧ OthersFreed s.part q f r (some ch) ∧
          q.channel ch = { mappedChannel s.part f r ch sense with state := .fault .switch } ∧
          q.valves.capture = some cap ∧ FaultTold s.part q.events (mappedChannel s.part f r ch sense).mappedTo := by
  have record := senseWritten_record (sense := sense) back
  have only := senseWritten_only s.part.frameAccepted f r ch sense
  have filters : ∀ g, (senseWritten s.part.frameAccepted f r ch sense).filter g = s.part.filter g := fun g =>
    (filter_kept only (by simp) g).trans (accepted_filter s.part g)
  have cap := captureOf_switch (senseWritten s.part.frameAccepted f r ch sense) ch
  have owner : (senseWritten s.part.frameAccepted f r ch sense).ownerOf ch = s.part.filterOwner f := by
    unfold Part.ownerOf
    rw [record]
    exact filterOwner_same (filters f)
  have clock : (senseWritten s.part.frameAccepted f r ch sense).startUp.clock = s.part.startUp.clock :=
    (only .clock (by simp)).trans (accepted_clock s.part)
  rw [record, owner, clock] at cap
  refine ⟨_, cap, settle_both_done (fields := fun x => .channelNow (some x)) hc rfl (answerMap_settles back answer settles)
    (onlyChanges_mono only (by simp)) (by simp) (by simp) (by rwa [record]) fun q' k => ?_⟩
  have entry := entryWritten_kept (senseWritten_entry s.part.frameAccepted f r ch sense)
    (xs := [Piece.channels, .capture, .events] ++ reporting)
    (onlyChanges_trans (by simp) (onlyChanges_mono k (by simp))) (by simp)
  obtain ⟨now, others, captured, told⟩ := fault_replied k
  rw [record] at now told
  exact ⟨entryWritten_accepted entry, othersFreed_accepted (othersFreed_kept (senseWritten_freed _ f r ch sense) others), now,
    captured, faultTold_same filters told⟩

end Effect

end Sys2Proof.Laws

namespace Sys2Proof

open Machine Laws

/-- Settles O52: the checks of R159 in their order, then the map for no channel or for one, whose state settles or stays. -/
theorem mapValveWritesTheMap : Obligations.MapValveWritesTheMap := by
  intro s tag b rb cb sb hc ht
  refine ⟨mapValve_range hc ht tag, fun f r x sense hf hr hx hs back => ?_⟩
  refine ⟨mapValve_closed hc ht tag hf hr hx hs, mapValve_taken hc ht tag hf hr hx hs,
    mapValve_moving hc ht tag hf hr hx hs, mapValve_crosses hc ht tag hf hr hx hs,
    fun free own resting apart => ⟨fun none => ?_, fun ch one => ?_⟩⟩
  all_goals have answer := answerMap_passes ht hf hr hx hs free own resting apart
  · subst none
    exact mapNone_done hc answer
  · subst one
    refine ⟨fun settles single y hy => ?_, fun settles both => ?_, fun stays => ?_⟩
    · exact mapSettles_one hc (back ch) answer settles single hy
    · exact mapSettles_both hc (back ch) answer settles both
    · exact mapStays_done hc (back ch) answer stays

end Sys2Proof
end

section
/-! SUPPORT. STOP holds the drives (R164): what changes neither a channel nor the STOP input keeps it, a record written keeps
it where no travel begins, and every command to a channel is given with STOP released; so every row keeps it. -/

namespace Sys2Proof.Laws

open Sys2Proof.Machine

/-! ### What keeps it -/

/-- Every piece but the STOP input. -/
def besideStop : List Piece :=
  [.supply, .resetHeld, .clock, .top, .survey, .readyCall, .silence, .silent, .lastAccepted, .plant, .plantReceived, .counts,
    .points, .volumes, .filters, .marker, .queue, .mask, .mode, .blocked, .proposal, .shares, .lastAdmission, .overload,
    .flags, .scanDue, .slots, .staging, .lanes, .units, .duty, .pumpWait, .blowerWait, .channels, .map, .selection, .capture,
    .rx, .rxQueue, .reply, .reports, .sending, .seq, .errors, .overflow, .reportLoss, .cursor, .rate, .softReset, .events]

/-- Every piece but the STOP input and the channels. -/
def besideDrives : List Piece := besideStop.filter (· ≠ .channels)

@[simp] theorem mem_besideStop (x : Piece) : x ∈ besideStop ↔ x ≠ .stop := by cases x <;> simp [besideStop]

@[simp] theorem mem_besideDrives (x : Piece) : x ∈ besideDrives ↔ x ≠ .stop ∧ x ≠ .channels := by
  simp [besideDrives]

theorem stopHolds_of_same {p q : Part} (stop : q.valves.stop = p.valves.stop) (channels : ∀ ch, q.channel ch = p.channel ch)
    (h : StopHoldsTheDrives p) : StopHoldsTheDrives q := by
  intro asserted ch
  rw [channels]
  unfold Part.stopAsserted at asserted
  rw [stop] at asserted
  exact h asserted ch

theorem stopHolds_aside {p q : Part} (k : OnlyChanges besideDrives p q) (h : StopHoldsTheDrives p) : StopHoldsTheDrives q :=
  stopHolds_of_same (k .stop (by simp)) (channel_kept k (by simp)) h

/-- With STOP released there is nothing to hold. -/
theorem stopHolds_running {p q : Part} (running : ¬ p.stopAsserted = true) (k : OnlyChanges besideStop p q) :
    StopHoldsTheDrives q := fun asserted => absurd ((stopAsserted_kept k (by simp)).symm.trans asserted) running

/-- Before a reset's STOP input is taken, and with it asserted, every channel at rest is enough. -/
theorem stopHolds_resting {p : Part} (h : ∀ ch, (p.channel ch).state.inTravel = false) : StopHoldsTheDrives p := fun _ => h

/-! ### Shared operations that touch neither -/

section Aside
variable {p : Part} (h : StopHoldsTheDrives p)
include h

theorem cancel_stopHolds (e : Event) : StopHoldsTheDrives (p.cancel e) := stopHolds_aside (by simp) h

theorem trigger_stopHolds : StopHoldsTheDrives p.trigger := stopHolds_aside (by simp) h

theorem report_stopHolds (b : ReportBody) : StopHoldsTheDrives (p.report b) := stopHolds_aside (by simp) h

theorem reportHeld_stopHolds (l : LaneId) (c : HoldCause) (began : Bool) : StopHoldsTheDrives (p.reportHeld l c began) :=
  stopHolds_aside (by simp) h

theorem requestNeeded_stopHolds (l : LaneId) : StopHoldsTheDrives (p.requestNeeded l) := stopHolds_aside (by simp) h

theorem leaveIf_stopHolds (l : LaneId) (c : HoldCause) : StopHoldsTheDrives (p.leaveIf l c) := stopHolds_aside (by simp) h

theorem modWash_stopHolds (l : LaneId) (g : Wash → Wash) : StopHoldsTheDrives (p.modWash l g) := stopHolds_aside (by simp) h

theorem checkOpened_stopHolds (l : LaneId) : StopHoldsTheDrives (p.checkOpened l) := stopHolds_aside (by simp) h

theorem checkAborted_stopHolds (l : LaneId) : StopHoldsTheDrives (p.checkAborted l) := stopHolds_aside (by simp) h

theorem checkReturned_stopHolds (l : LaneId) : StopHoldsTheDrives (p.checkReturned l) := stopHolds_aside (by simp) h

theorem setSilence_stopHolds (x : Option Nat) : StopHoldsTheDrives (p.setSilence x) := stopHolds_aside (by simp) h

theorem restartSilence_stopHolds : StopHoldsTheDrives p.restartSilence := stopHolds_aside (by simp) h

theorem putReply_stopHolds (r : Reply) : StopHoldsTheDrives (p.putReply r) := stopHolds_aside (by simp) h

theorem setBlocked_stopHolds (b : BlockedReason) : StopHoldsTheDrives (p.setBlocked b) := stopHolds_aside (by simp) h

end Aside

/-! ### Channels written -/

section Channels
variable {p : Part} (h : StopHoldsTheDrives p)
include h

/-- A record written begins no travel. -/
theorem putChannel_stopHolds {ch : ChannelId} {c : Channel}
    (rests : c.state.inTravel = true → (p.channel ch).state.inTravel = true) : StopHoldsTheDrives (p.putChannel ch c) := by
  intro asserted d
  by_cases same : d = ch
  · subst same
    rw [channel_putChannel]
    exact Bool.eq_false_iff.2 fun moving => absurd (rests moving) (Bool.eq_false_iff.1 (h asserted d))
  · rw [channel_putChannel_ne p same]
    exact h asserted d

/-- A record written with the state as it was. -/
theorem putChannel_sameState_stopHolds {ch : ChannelId} {c : Channel} (same : c.state = (p.channel ch).state) :
    StopHoldsTheDrives (p.putChannel ch c) := putChannel_stopHolds h fun moving => same ▸ moving

/-- A record written with a state that is no travel. -/
theorem putChannel_rests_stopHolds {ch : ChannelId} {c : Channel} (rests : c.state.inTravel = false) :
    StopHoldsTheDrives (p.putChannel ch c) := putChannel_stopHolds h fun moving => by rw [rests] at moving; cases moving

theorem faultChannel_stopHolds (ch : ChannelId) (cause : ChannelFault) : StopHoldsTheDrives (p.faultChannel ch cause) :=
  stopHolds_aside (onlyChanges_mono (faultChannel_after p ch cause) (by simp)) (putChannel_rests_stopHolds h rfl)

theorem arrive_stopHolds (ch : ChannelId) {x : ChannelState} (rests : x.inTravel = false) : StopHoldsTheDrives (p.arrive ch x) :=
  stopHolds_aside (onlyChanges_mono (arrive_after p ch x) (by simp)) (putChannel_rests_stopHolds h rests)

theorem drift_stopHolds (ch : ChannelId) (lost : Position) : StopHoldsTheDrives (p.drift ch lost) :=
  stopHolds_aside (onlyChanges_mono (drift_tells p ch lost) (by simp)) <|
    stopHolds_aside (onlyChanges_mono (driftReported_after p ch lost) (by simp))
      (putChannel_rests_stopHolds h (settled_rests (p.channel ch)))

theorem settle_stopHolds (ch : ChannelId) : StopHoldsTheDrives (p.settle ch) := by
  unfold Part.settle
  dsimp only
  split
  · exact faultChannel_stopHolds h ch _
  · exact putChannel_rests_stopHolds h (settled_rests (p.channel ch))

theorem takeLimit_stopHolds (ch : ChannelId) (which : Limit) (level : Level) :
    StopHoldsTheDrives (p.takeLimit ch which level) := by
  have taken : StopHoldsTheDrives (limitTaken p ch which level) :=
    putChannel_sameState_stopHolds h (by cases which <;> rfl)
  rcases takeLimit_cases p ch which level with e | e | e | ⟨lost, e⟩ | ⟨c, rests, e⟩ | ⟨x, rests, e⟩ <;> rw [e]
  · exact h
  · exact taken
  · exact faultChannel_stopHolds taken ch .switch
  · exact drift_stopHolds taken ch lost
  · exact putChannel_rests_stopHolds taken rests
  · exact arrive_stopHolds taken ch rests

theorem travelFails_stopHolds (ch : ChannelId) : StopHoldsTheDrives (p.travelFails ch) := by
  unfold Part.travelFails
  split
  · exact faultChannel_stopHolds h ch _
  · exact h

theorem derive_stopHolds (ch : ChannelId) : StopHoldsTheDrives (p.derive ch) := by
  have untargeted : StopHoldsTheDrives ((p.putChannel ch { p.channel ch with target := none }).cancel (.travelExpiry ch)) :=
    cancel_stopHolds (putChannel_sameState_stopHolds h (by rfl)) _
  unfold Part.derive
  dsimp only
  split
  · exact untargeted
  · exact settle_stopHolds untargeted ch

theorem deriveCleared_stopHolds (ch : ChannelId) : StopHoldsTheDrives (p.deriveCleared ch) :=
  settle_stopHolds (putChannel_rests_stopHolds h rfl) ch

theorem writeSense_stopHolds (ch : ChannelId) (sense : SwitchSense) : StopHoldsTheDrives (p.writeSense ch sense) := by
  have written : StopHoldsTheDrives (p.putChannel ch { p.channel ch with sense := sense }) := putChannel_sameState_stopHolds h (by rfl)
  unfold Part.writeSense
  dsimp only
  split
  case h_4 => exact written
  all_goals exact settle_stopHolds written ch

theorem setMapped_stopHolds (ch : ChannelId) (m : Option (FilterId × Role)) : StopHoldsTheDrives (p.setMapped ch m) :=
  putChannel_sameState_stopHolds h (by rfl)

theorem freeMapped_stopHolds (f : FilterId) (r : Role) : StopHoldsTheDrives (p.freeMapped f r) := by
  unfold Part.freeMapped
  split
  · exact setMapped_stopHolds h _ _
  · exact h

theorem mapValve_stopHolds (f : FilterId) (r : Role) (x : Option ChannelId) (sense : SwitchSense) :
    StopHoldsTheDrives (p.mapValve f r x sense) := by
  have entered : ∀ y, StopHoldsTheDrives ((p.freeMapped f r).setMap f r y) := fun y =>
    stopHolds_aside (by simp) (freeMapped_stopHolds h f r)
  unfold Part.mapValve
  split
  · exact entered none
  · split
    · exact writeSense_stopHolds h _ _
    · exact writeSense_stopHolds (setMapped_stopHolds (entered _) _ _) _ _

theorem endSurvey_stopHolds : StopHoldsTheDrives p.endSurvey := by
  have derived : ∀ xs : List ChannelId, StopHoldsTheDrives (xs.foldl (fun q ch => q.derive ch) p) := fun xs => by
    induction xs generalizing p with
    | nil => exact h
    | cons ch xs ih => exact ih (derive_stopHolds h ch)
  unfold Part.endSurvey
  split
  · exact stopHolds_aside (by simp) (derived (allChannels.filter fun ch => (p.channel ch).mappedTo.isSome))
  · exact h

end Channels

/-! ### The STOP input -/

theorem stop_channel_rests (c : Channel) : c.stop.state.inTravel = false := by
  unfold Channel.stop
  cases h : c.state <;> simp [ChannelState.inTravel, h]

theorem assertStop_stopHolds (p : Part) : StopHoldsTheDrives p.assertStop :=
  stopHolds_resting fun ch => by rw [assertStop_channel]; exact stop_channel_rests _

theorem stopHolds_released {p : Part} (h : p.valves.stop = .released) : StopHoldsTheDrives p := by
  intro asserted
  unfold Part.stopAsserted at asserted
  rw [h] at asserted
  cases asserted

theorem releaseStop_stopHolds (p : Part) : StopHoldsTheDrives p.releaseStop := by
  obtain ⟨es, row, -, -⟩ := releaseStop_tells p
  rw [row]
  exact stopHolds_released (by rw [raiseAll_valves]; exact releaseReported_stop p)

/-! ### Commands to the roles of a filter -/

section Held
variable {p : Part} (h : StopHoldsTheDrives p)
include h

theorem orderRoles_stopHolds (l : LaneId) (f : FilterId) (roles : List Role) (pos : Position) :
    StopHoldsTheDrives (p.orderRoles l f roles pos) := by
  cases stop : p.stopAsserted with
  | false => exact stopHolds_running (by rw [stop]; simp) (by simp)
  | true =>
    unfold Part.orderRoles
    dsimp only
    split
    · exact stopHolds_aside (by simp) h
    · rename_i running
      rw [stopAsserted_kept (xs := [.lanes]) (p := p) (by simp) (by simp)] at running
      exact absurd stop running

theorem reorderRole_stopHolds (l : LaneId) (f : FilterId) (r : Role) : StopHoldsTheDrives (p.reorderRole l f r) := by
  unfold Part.reorderRole
  split
  · exact orderRoles_stopHolds h _ _ _ _
  · exact h

/-! ### Transfers -/

theorem advanceTransfer_stopHolds (f : FilterId) (fuel : Nat) : StopHoldsTheDrives (p.advanceTransfer f fuel) := by
  cases stop : p.stopAsserted with
  | false => exact stopHolds_running (by rw [stop]; simp) (by simp)
  | true =>
    cases fuel with
    | zero => exact h
    | succ fuel =>
      unfold Part.advanceTransfer
      split
      · exact h
      · split
        · split
          · exact stopHolds_aside (by simp) h
          · exact h
        · exact h

theorem pressTransfer_stopHolds (f : FilterId) (roles : List (Role × Position)) : StopHoldsTheDrives (p.pressTransfer f roles) := by
  cases stop : p.stopAsserted with
  | false => exact stopHolds_running (by rw [stop]; simp) (by simp)
  | true =>
    unfold Part.pressTransfer
    rw [if_pos stop]
    exact advanceTransfer_stopHolds h f 3

theorem startTransfer_stopHolds (f : FilterId) (k : TransferKind) : StopHoldsTheDrives (p.startTransfer f k) := by
  cases stop : p.stopAsserted with
  | false => exact stopHolds_running (by rw [stop]; simp) (by simp)
  | true =>
    rw [startTransfer_stopped stop]
    exact advanceTransfer_stopHolds (stopHolds_aside (by simp) h) f 3

theorem transferDrifts_stopHolds (f : FilterId) (r : Role) : StopHoldsTheDrives (p.transferDrifts f r) := by
  unfold Part.transferDrifts
  split
  · exact h
  · exact pressTransfer_stopHolds h f _

theorem transferReleased_stopHolds (f : FilterId) : StopHoldsTheDrives (p.transferReleased f) := by
  unfold Part.transferReleased
  split
  · exact h
  · exact pressTransfer_stopHolds h f _

theorem startSubstitution_stopHolds (f : FilterId) : StopHoldsTheDrives (p.startSubstitution f) :=
  startTransfer_stopHolds (stopHolds_aside (by simp) h) f _

/-! ### Lanes: holds -/

theorem enterHeld_stopHolds (l : LaneId) (w : Wash) (c : HoldCause) : StopHoldsTheDrives (p.enterHeld l w c) := by
  unfold Part.enterHeld
  exact reportHeld_stopHolds (orderRoles_stopHolds (stopHolds_aside (by simp) h) _ _ _ _) _ _ _

theorem join_stopHolds (l : LaneId) (c : HoldCause) : StopHoldsTheDrives (p.join l c) := by
  unfold Part.join
  split
  · exact h
  · split
    · exact h
    · split
      · exact stopHolds_aside (by simp) h
      · exact enterHeld_stopHolds h l _ c

theorem joinIf_stopHolds (l : LaneId) (c : HoldCause) : StopHoldsTheDrives (p.joinIf l c) := by
  unfold Part.joinIf
  split
  · split
    · exact join_stopHolds h l c
    · exact h
  · exact h

/-! ### Lanes: the course of a phase -/

theorem checkClosed_stopHolds (l : LaneId) : StopHoldsTheDrives (p.checkClosed l) := by
  unfold Part.checkClosed
  split
  · split
    · dsimp only
      split
      · exact checkOpened_stopHolds (orderRoles_stopHolds (stopHolds_aside (by simp) h) l _ _ .opened) l
      · exact h
    · exact h
  · exact h

theorem enterPositioning_stopHolds (l : LaneId) (w : Wash) : StopHoldsTheDrives (p.enterPositioning l w) :=
  checkClosed_stopHolds (orderRoles_stopHolds (stopHolds_aside (by simp) h) l _ _ .closed) l

theorem checkAcquired_stopHolds (l : LaneId) : StopHoldsTheDrives (p.checkAcquired l) := by
  unfold Part.checkAcquired
  split
  · split
    · exact enterPositioning_stopHolds h l _
    · exact h
  · exact h

theorem enterHead_stopHolds (l : LaneId) (w : Wash) (report : Option (Option PhaseEnd)) :
    StopHoldsTheDrives (enterHead p l w report) := by
  unfold enterHead
  cases report with
  | none => exact stopHolds_aside (by simp) h
  | some prev => exact stopHolds_aside (by simp) h

theorem enterTail_stopHolds (l : LaneId) : StopHoldsTheDrives (enterTail p l) := by
  have joined := joinIf_stopHolds (joinIf_stopHolds (joinIf_stopHolds (joinIf_stopHolds h l .inhibit) l .water) l .waste) l .equipment
  unfold enterTail
  dsimp only
  split
  · split
    · exact checkAcquired_stopHolds (requestNeeded_stopHolds joined l) l
    · exact joined
  · exact joined

theorem enterPhase_stopHolds (l : LaneId) (report : Option (Option PhaseEnd)) : StopHoldsTheDrives (p.enterPhase l report) := by
  cases hl : p.lane l with
  | none =>
    rw [enterPhase_idle hl]
    exact h
  | some w =>
    rw [enterPhase_of hl]
    exact enterTail_stopHolds (enterHead_stopHolds h l w report) l

theorem resumeIfClear_stopHolds (l : LaneId) : StopHoldsTheDrives (p.resumeIfClear l) := by
  unfold Part.resumeIfClear
  split
  · exact h
  · split
    · split
      · exact enterPhase_stopHolds (stopHolds_aside (by simp) h) l none
      · exact h
    · exact h

theorem testCause_stopHolds (l : LaneId) (c : HoldCause) : StopHoldsTheDrives (p.testCause l c) :=
  resumeIfClear_stopHolds (leaveIf_stopHolds (joinIf_stopHolds h l c) l c) l

theorem handOff_stopHolds (l : LaneId) (f : FilterId) (slot : SlotId) (x : Share) : StopHoldsTheDrives (p.handOff l f slot x) := by
  unfold Part.handOff
  exact enterPhase_stopHolds (stopHolds_aside (by simp) h) l _

/-! ### Lanes: abort, return, the end of a phase -/

theorem abortLane_stopHolds (l : LaneId) (c : AbortCause) : StopHoldsTheDrives (p.abortLane l c) := by
  unfold Part.abortLane
  split
  · exact checkAborted_stopHolds (orderRoles_stopHolds (stopHolds_aside (by simp) h) l _ allRoles .closed) l
  · exact h

theorem checkReturnClosed_stopHolds (l : LaneId) : StopHoldsTheDrives (p.checkReturnClosed l) := by
  unfold Part.checkReturnClosed
  split
  · split
    · split
      · exact checkReturned_stopHolds (orderRoles_stopHolds (stopHolds_aside (by simp) h) l _ _ .opened) l
      · exact h
    · exact h
  · exact h

theorem startReturn_stopHolds (l : LaneId) (f : FilterId) : StopHoldsTheDrives (p.startReturn l f) := by
  have leads : StopHoldsTheDrives (p.destination f).1 := stopHolds_aside (by simp) h
  unfold Part.startReturn
  generalize p.destination f = found at leads ⊢
  obtain ⟨q, d⟩ := found
  exact checkReturnClosed_stopHolds (orderRoles_stopHolds (stopHolds_aside (by simp) leads) l f _ .closed) l

theorem endPhase_stopHolds (l : LaneId) (how : PhaseEnd) : StopHoldsTheDrives (p.endPhase l how) := by
  unfold Part.endPhase
  split
  · dsimp only
    split
    · exact enterPhase_stopHolds (stopHolds_aside (by simp) h) l _
    · exact startReturn_stopHolds (stopHolds_aside (by simp) h) l _
  · exact h

theorem endRunning_stopHolds (l : LaneId) (how : PhaseEnd) : StopHoldsTheDrives (p.endRunning l how) := by
  unfold Part.endRunning
  split
  · split
    · exact endPhase_stopHolds h l how
    · exact h
  · exact h

/-! ### Lanes: notices -/

theorem settleDrift_stopHolds (l : LaneId) (r : Role) : StopHoldsTheDrives (p.settleDrift l r) := by
  unfold Part.settleDrift
  split
  · split
    · dsimp only
      split
      · exact stopHolds_aside (by simp) h
      · exact resumeIfClear_stopHolds (stopHolds_aside (by simp) h) l
    · exact h
  · exact h

theorem advanceLane_stopHolds (l : LaneId) : StopHoldsTheDrives (p.advanceLane l) := by
  unfold Part.advanceLane
  split
  · split
    case h_1 => exact checkClosed_stopHolds h l
    case h_4 => exact checkReturnClosed_stopHolds h l
    all_goals exact stopHolds_aside (by simp) h
  · exact h

theorem laneArrival_stopHolds (l : LaneId) (r : Role) : StopHoldsTheDrives (p.laneArrival l r) :=
  advanceLane_stopHolds (settleDrift_stopHolds h l r) l

theorem laneDrift_stopHolds (l : LaneId) (r : Role) : StopHoldsTheDrives (p.laneDrift l r) := by
  unfold Part.laneDrift
  split
  · split
    · exact h
    · split
      · exact settleDrift_stopHolds (reorderRole_stopHolds (join_stopHolds (stopHolds_aside (by simp) h) l .valve) l _ r) l r
      · exact advanceLane_stopHolds (reorderRole_stopHolds h l _ r) l
  · exact h

theorem laneFault_stopHolds (l : LaneId) : StopHoldsTheDrives (p.laneFault l) := by
  unfold Part.laneFault
  split
  · split
    · exact stopHolds_aside (by simp) h
    · exact abortLane_stopHolds h l _
  · exact h

theorem laneGrant_stopHolds (l : LaneId) (u : UnitId) : StopHoldsTheDrives (p.laneGrant l u) := by
  unfold Part.laneGrant
  split
  · exact checkAcquired_stopHolds (stopHolds_aside (by simp) h) l
  · exact h

theorem laneProveFailed_stopHolds (l : LaneId) (u : UnitId) : StopHoldsTheDrives (p.laneProveFailed l u) := by
  unfold Part.laneProveFailed
  split
  · split
    · dsimp only
      split
      · split <;> exact stopHolds_aside (by simp) h
      · exact join_stopHolds (stopHolds_aside (by simp) h) l .equipment
    · exact h
  · exact h

theorem laneTripped_stopHolds (l : LaneId) (u : UnitId) : StopHoldsTheDrives (p.laneTripped l u) := by
  unfold Part.laneTripped
  split
  · split
    · exact resumeIfClear_stopHolds (leaveIf_stopHolds (join_stopHolds (stopHolds_aside (by simp) h) l .equipment) l _) l
    · exact h
  · exact h

theorem laneNews_stopHolds (l : LaneId) (n : UnitNews) : StopHoldsTheDrives (p.laneNews l n) := by
  cases n with
  | available => exact resumeIfClear_stopHolds (stopHolds_aside (by simp) h) l
  | failed | locked => exact joinIf_stopHolds h l .equipment

theorem laneStopped_stopHolds (l : LaneId) : StopHoldsTheDrives (p.laneStopped l) := by
  unfold Part.laneStopped
  split
  · split
    · exact stopHolds_aside (by simp) h
    · exact join_stopHolds h l .inhibit
  · exact h

omit h in
theorem reorderRoles_stopHolds (l : LaneId) (f : FilterId) (roles : List Role) : ∀ {p : Part}, StopHoldsTheDrives p →
    StopHoldsTheDrives (roles.foldl (fun q r => q.reorderRole l f r) p) := by
  induction roles with
  | nil => exact fun h => h
  | cons r roles ih => exact fun h => ih (reorderRole_stopHolds h l f r)

omit h in
theorem settleDrifts_stopHolds (l : LaneId) (roles : List Role) : ∀ {p : Part}, StopHoldsTheDrives p →
    StopHoldsTheDrives (roles.foldl (fun q r => q.settleDrift l r) p) := by
  induction roles with
  | nil => exact fun h => h
  | cons r roles ih => exact fun h => ih (settleDrift_stopHolds h l r)

theorem heldAfterRelease_stopHolds (l : LaneId) (w : Wash) : StopHoldsTheDrives (p.heldAfterRelease l w) :=
  settleDrifts_stopHolds l _ (reorderRoles_stopHolds l w.filter _ (orderRoles_stopHolds h l w.filter _ .closed))

theorem laneReleased_stopHolds (l : LaneId) : StopHoldsTheDrives (p.laneReleased l) := by
  have inhibit : StopHoldsTheDrives (p.releaseInhibit l) := stopHolds_aside (by simp) h
  unfold Part.laneReleased
  split
  · exact h
  · rename_i w _
    split
    · dsimp only
      split
      · split
        · exact resumeIfClear_stopHolds inhibit l
        · exact heldAfterRelease_stopHolds inhibit l _
      · exact inhibit
    · exact advanceLane_stopHolds (reorderRoles_stopHolds l w.filter _ h) l
    · exact advanceLane_stopHolds (reorderRoles_stopHolds l w.filter _ h) l
    · exact h

theorem lanePoint_stopHolds (l : LaneId) (id : PointId) : StopHoldsTheDrives (p.lanePoint l id) := by
  unfold Part.lanePoint
  split
  case h_1 | h_2 => exact testCause_stopHolds h l _
  all_goals exact stopHolds_aside (by simp) h

theorem lanePlant_stopHolds (l : LaneId) : StopHoldsTheDrives (p.lanePlant l) :=
  resumeIfClear_stopHolds
    (modWash_stopHolds (leaveIf_stopHolds (leaveIf_stopHolds (joinIf_stopHolds (joinIf_stopHolds h l .water) l .waste) l .water) l .waste) l _) l

theorem laneResume_stopHolds (l : LaneId) : StopHoldsTheDrives (p.laneResume l) :=
  resumeIfClear_stopHolds (stopHolds_aside (by simp) h) l

theorem holdLimitFalls_stopHolds (l : LaneId) : StopHoldsTheDrives (p.holdLimitFalls l) := by
  unfold Part.holdLimitFalls
  split
  · split
    · exact abortLane_stopHolds h l _
    · exact h
  · exact h

/-! ### The scan and the overload timer -/

theorem loadingStep_stopHolds (e : Entry) : StopHoldsTheDrives (p.loadingStep e).1 := by
  have tested : ∀ f a, StopHoldsTheDrives (p.loadingTest f a).1 := fun f a => stopHolds_aside (by simp) h
  unfold Part.loadingStep
  split
  · split
    · dsimp only
      split
      · exact tested _ _
      · split
        · exact tested _ _
        · split
          · exact startSubstitution_stopHolds (tested _ _) _
          · exact tested _ _
    · exact h
  · exact h

theorem tests_stopHolds (e : Entry) : StopHoldsTheDrives (p.tests e).1 := by
  have loaded := loadingStep_stopHolds h e
  unfold Part.tests
  split
  · exact h
  · split
    · exact h
    · split
      · exact h
      · split
        · exact h
        · dsimp only
          split
          · rename_i q b hq
            rwa [hq] at loaded
          · rename_i q hq
            rw [hq] at loaded
            split
            · exact loaded
            · split <;> exact loaded

theorem admitEntry_stopHolds (e : Entry) : StopHoldsTheDrives (p.admitEntry e) := by
  unfold Part.admitEntry
  split
  · exact h
  · exact trigger_stopHolds (handOff_stopHolds (stopHolds_aside (by simp) h) _ _ _ _)

theorem testHead_stopHolds (e : Entry) : StopHoldsTheDrives (p.testHead e) := by
  have tested := tests_stopHolds h e
  unfold Part.testHead
  split
  · rename_i q b hq
    rw [hq] at tested
    exact stopHolds_aside (by simp) tested
  · rename_i q hq
    rw [hq] at tested
    split
    · exact stopHolds_aside (by simp) tested
    · exact setBlocked_stopHolds (admitEntry_stopHolds tested e) _

theorem scan_stopHolds : StopHoldsTheDrives p.scan := by
  have early : StopHoldsTheDrives p.earlyRule := stopHolds_aside (by simp) h
  unfold Part.scan
  split
  · exact stopHolds_aside (by simp) h
  · dsimp only
    split
    · exact stopHolds_aside (by simp) early
    · split
      · split
        · exact testHead_stopHolds (stopHolds_aside (by simp) early) _
        · exact stopHolds_aside (by simp) early
      · exact testHead_stopHolds early _

theorem runScan_stopHolds : StopHoldsTheDrives p.runScan := by
  unfold Part.runScan
  split
  · exact scan_stopHolds (stopHolds_aside (by simp) h)
  · exact h

theorem overloadFalls_stopHolds : StopHoldsTheDrives p.overloadFalls := by
  unfold Part.overloadFalls
  split
  · refine report_stopHolds ?_ _
    split
    · exact startSubstitution_stopHolds (stopHolds_aside (by simp) h) _
    · exact stopHolds_aside (by simp) h
  · exact h

/-! ### Commands -/

omit h in
theorem lanePlants_stopHolds (lanes : List LaneId) : ∀ {p : Part}, StopHoldsTheDrives p →
    StopHoldsTheDrives (lanes.foldl (fun q l => q.lanePlant l) p) := by
  induction lanes with
  | nil => exact fun h => h
  | cons l lanes ih => exact fun h => ih (lanePlant_stopHolds h l)

theorem applyPlant_stopHolds (r : PlantRecord) : StopHoldsTheDrives (p.applyPlant r) := by
  have written : ∀ es, StopHoldsTheDrives { p with plant := r, plantReceived := true, events := es } := fun es =>
    stopHolds_of_same rfl (fun _ => rfl) h
  have lanes := fun es => lanePlants_stopHolds allLanes (stopHolds_aside (q := allUnits.foldl
    (fun q u => q.repolarise ⟨p.feedback .p1, p.feedback .p2, p.feedback .bl⟩ u)
    ({ p with plant := r, plantReceived := true, events := es } : Part).deriveTank.deriveBasin.computeLoading)
    (by simp) (written es))
  unfold Part.applyPlant
  refine trigger_stopHolds ?_
  split
  · split
    · exact setSilence_stopHolds (lanes _) _
    · exact restartSilence_stopHolds (lanes _)
  · exact lanes _

theorem answerAbortLane_stopHolds (l : LaneId) : StopHoldsTheDrives (answerAbortLane p l).1 :=
  answer_unlessFails h (abortLane_stopHolds h l .host)

theorem answerAbort_stopHolds (form target : Byte) : StopHoldsTheDrives (answerAbort p form target).1 := by
  refine answer_inOperating h ?_
  split
  · exact answer_named h fun l => answerAbortLane_stopHolds h l
  · split
    · refine answer_named h fun f => ?_
      split
      · exact answerAbortLane_stopHolds h _
      · exact h
    · exact h

theorem answerAcceptEntry_stopHolds (e : Entry) : StopHoldsTheDrives (answerAcceptEntry p e).1 := by
  have tested := tests_stopHolds h e
  unfold answerAcceptEntry
  split
  · rename_i q b hq
    rw [hq] at tested
    exact stopHolds_aside (by simp) tested
  · rename_i q hq
    rw [hq] at tested
    exact admitEntry_stopHolds (stopHolds_aside (by simp) tested) e

theorem answerAccept_stopHolds (f : Byte) : StopHoldsTheDrives (answerAccept p f).1 := by
  refine answer_inOperating h (answer_named h fun f => ?_)
  split
  · split
    · exact answerAcceptEntry_stopHolds h _
    · exact h
  · exact h

theorem answerDecline_stopHolds (f : Byte) (m : Half) : StopHoldsTheDrives (answerDecline p f m).1 := by
  refine answer_inOperating h (answer_named h fun f => answer_unlessFails h ?_)
  split
  · split
    · exact stopHolds_aside (by simp [okay]) h
    · exact h
  · exact h

theorem answerToStandby_stopHolds (f : Byte) : StopHoldsTheDrives (answerToStandby p f).1 := by
  refine answer_onFilter h fun f r => answer_unlessFails h (answer_unlessFails h ?_)
  have tested : StopHoldsTheDrives (p.loadingTest f r.cfg.area).1 := stopHolds_aside (by simp) h
  exact answer_unlessFails tested (startTransfer_stopHolds tested f .toStandby)

theorem answerRequestWash_stopHolds (f o : Byte) : StopHoldsTheDrives (answerRequestWash p f o).1 := by
  refine answer_onFilter h fun f r => answer_named h fun o => ?_
  split
  case h_4 => exact h
  case h_3 =>
    split
    case h_4 | h_5 | h_6 => exact h
    all_goals exact stopHolds_aside (by simp [okay]) h
  all_goals exact stopHolds_aside (by simp [okay]) h

theorem answerCancelRequest_stopHolds (f : Byte) : StopHoldsTheDrives (answerCancelRequest p f).1 := by
  refine answer_onFilter h fun f r => ?_
  split
  · exact h
  · split
    case h_1 | h_2 => exact stopHolds_aside (by simp [okay]) h
    all_goals exact h

theorem answerDefer_stopHolds (f : Byte) (m : Half) : StopHoldsTheDrives (answerDefer p f m).1 := by
  refine answer_onFilter h fun f r => answer_unlessFails h ?_
  split
  · exact h
  · exact stopHolds_aside (by simp [okay]) h

theorem answerSetFilter_stopHolds (f form : Byte) (c : RawFilter) : StopHoldsTheDrives (answerSetFilter p f form c).1 := by
  refine answer_unlessSurveying h (answer_named h fun f => ?_)
  split
  · exact answer_unlessFails h (answer_named h fun _ => stopHolds_aside (by simp [okay]) h)
  · split
    · unfold answerUndefine
      split
      · exact h
      · split
        · exact stopHolds_aside (by simp [okay]) h
        · exact h
    · exact h

theorem answerChunk_stopHolds (start : Nat) : StopHoldsTheDrives (answerChunk p start).1 := by
  unfold answerChunk
  dsimp only
  split <;> exact stopHolds_aside (by simp) h

theorem answerEquipment_stopHolds (u a : Byte) : StopHoldsTheDrives (answerEquipment p u a).1 := by
  refine answer_unlessSurveying h (answer_named h fun u => answer_named h fun a => ?_)
  cases a <;> dsimp only
  case lock =>
    unfold answerLockUnit
    split
    case h_5 | h_6 | h_7 => exact stopHolds_aside (by simp [Part.answerUnit]) h
    all_goals exact h
  case unlock =>
    unfold answerUnlockUnit
    split
    · exact stopHolds_aside (by simp [Part.answerUnit]) h
    · exact h
  case resetFault =>
    unfold answerResetUnit
    split
    · exact stopHolds_aside (by simp [Part.answerUnit]) h
    · exact h

/-- DIRECT_DRIVE goes past its first check only with STOP released. -/
theorem answerDirectDrive_stopHolds (a : Byte) : StopHoldsTheDrives (answerDirectDrive p a).1 := by
  refine answer_unlessSurveying h (answer_named h fun a => ?_)
  split
  · exact h
  · cases stop : p.stopAsserted with
    | true => exact h
    | false =>
      have same : OnlyChanges besideStop p p := onlyChanges_refl _ p
      refine stopHolds_running (by rw [stop]; simp) ?_
      exact answer_unlessFails (P := OnlyChanges besideStop p) same <| answer_unlessFails (P := OnlyChanges besideStop p) same <|
        answer_unlessFails (P := OnlyChanges besideStop p) same <|
        answer_unlessFails (P := OnlyChanges besideStop p) same (by simp)

/-- Every command keeps it. -/
theorem answer_stopHolds (c : HostCommand) : StopHoldsTheDrives (p.answer c).1 := by
  cases c with
  | getIdent | ping => exact h
  | getStatus | getLinkErrors => exact stopHolds_aside (by simp [Part.answer, answerStatus, answerLinkErrors]) h
  | softReset | clearSilence | clearCalc => exact answer_unlessSurveying h (stopHolds_aside (by simp [okay]) h)
  | getLanes | getEquipment | getChannelFault => exact answer_unlessSurveying h h
  | commission =>
    refine answer_unlessSurveying h (answer_unlessFails h ?_)
    split
    · exact h
    · exact stopHolds_aside (by simp [okay]) h
  | setPlant r =>
    exact answer_unlessSurveying h (answer_named h fun _ => answer_unlessFails h (applyPlant_stopHolds h _))
  | setMode m => exact answer_inOperating h (answer_named h fun _ => stopHolds_aside (by simp [okay]) h)
  | setMask m => exact answer_inOperating h (answer_named h fun _ => stopHolds_aside (by simp [okay]) h)
  | getLoading => exact answer_inOperating h (stopHolds_aside (by simp) h)
  | setPoint pt src i lo hi =>
    exact answer_unlessSurveying h <| answer_named h fun _ => answer_named h fun _ => answer_unlessFails h <|
      answer_unlessFails h (stopHolds_aside (by simp [okay]) h)
  | putMeasure n rest =>
    exact answer_unlessSurveying h <| answer_unlessFails h <| answer_named h fun _ => answer_unlessFails h <|
      answer_unlessFails h (stopHolds_aside (by simp [okay]) h)
  | getPoints a n => exact answer_unlessSurveying h (answer_unlessFails h h)
  | getChannels a n => exact answer_unlessSurveying h (answer_unlessFails h h)
  | setFilter f form c => exact answerSetFilter_stopHolds h f form c
  | takeOut f =>
    exact answer_onFilter h fun f _ => answer_unlessFails h (stopHolds_aside (by simp [okay]) h)
  | putIn f c =>
    exact answer_onFilter h fun _ _ => answer_named h fun _ => answer_unlessFails h <| answer_unlessFails h <|
      answer_unlessFails h (stopHolds_aside (by simp [okay]) h)
  | clearFault f => exact answer_onFilter h fun _ _ => answer_unlessFails h (stopHolds_aside (by simp [okay]) h)
  | toStandby f => exact answerToStandby_stopHolds h f
  | toService f =>
    exact answer_onFilter h fun _ _ => answer_unlessFails h (answer_unlessFails h (startTransfer_stopHolds h _ _))
  | filtersFirst f => exact answer_unlessSurveying h (answer_named h fun _ => answerChunk_stopHolds h _)
  | filtersNext =>
    refine answer_unlessSurveying h ?_
    split
    · exact h
    · exact answerChunk_stopHolds h _
  | requestWash f o => exact answerRequestWash_stopHolds h f o
  | cancelRequest f => exact answerCancelRequest_stopHolds h f
  | defer f m => exact answerDefer_stopHolds h f m
  | getQueue k =>
    refine answer_unlessSurveying h (answer_unlessFails h ?_)
    dsimp only
    split
    · exact h
    · exact h
  | accept f => exact answerAccept_stopHolds h f
  | decline f m => exact answerDecline_stopHolds h f m
  | recipeBegin slot n =>
    exact answer_unlessSurveying h <| answer_named h fun _ => answer_unlessFails h (stopHolds_aside (by simp [okay]) h)
  | recipePhases n rest =>
    refine answer_unlessSurveying h ?_
    split
    · exact stopHolds_aside (by simp) h
    · exact h
  | recipeErase slot =>
    exact answer_unlessSurveying h <| answer_named h fun _ => answer_unlessFails h <| answer_unlessFails h
      (stopHolds_aside (by simp [okay]) h)
  | getRecipeSignature slot => exact answer_unlessSurveying h (answer_named h fun _ => h)
  | getRecipe slot k =>
    refine answer_unlessSurveying h (answer_named h fun _ => answer_unlessFails h ?_)
    split
    · exact h
    · split
      · exact h
      · exact h
  | hold l =>
    exact answer_inOperating h <| answer_named h fun _ => answer_unlessFails h (join_stopHolds h _ .host)
  | resume l =>
    exact answer_inOperating h <| answer_named h fun _ => answer_unlessFails h (laneResume_stopHolds h _)
  | abort form t => exact answerAbort_stopHolds h form t
  | equipmentCommand u a => exact answerEquipment_stopHolds h u a
  | mapValve f r c s =>
    exact answer_unlessSurveying h <| answer_named h fun _ => answer_named h fun _ => answer_named h fun _ =>
      answer_named h fun _ => answer_unlessFails h <| answer_unlessFails h <| answer_unlessFails h <|
      answer_unlessFails h (mapValve_stopHolds h _ _ _ _)
  | lockChannel c a =>
    exact answer_unlessSurveying h <| answer_named h fun _ => answer_named h fun _ => answer_unlessFails h <|
      answer_unlessFails h (putChannel_sameState_stopHolds h (by rfl))
  | directSelect c =>
    exact answer_unlessSurveying h <| answer_named h fun _ => answer_unlessFails h (stopHolds_aside (by simp) h)
  | directDrive a => exact answerDirectDrive_stopHolds h a
  | clearChannel c =>
    exact answer_unlessSurveying h <| answer_named h fun _ => answer_unlessFails h <| answer_unlessFails h
      (deriveCleared_stopHolds h _)

/-! ### Frames -/

theorem handle_stopHolds (tag : Byte) (c : HostCommand) : StopHoldsTheDrives (p.handle tag c) := by
  rw [handle_part]
  exact putReply_stopHolds (answer_stopHolds h c) _

theorem handleFrame_stopHolds (f : Frame) : StopHoldsTheDrives (p.handleFrame f) := by
  unfold Part.handleFrame
  split
  · exact stopHolds_aside (by simp [finish, refuse]) h
  · exact handle_stopHolds h _ _

omit h in
theorem serve_stopHolds (fuel : Nat) : ∀ {p : Part}, StopHoldsTheDrives p → StopHoldsTheDrives (p.serve fuel) := by
  induction fuel with
  | zero => exact fun h => h
  | succ fuel ih =>
    intro p h
    unfold Part.serve
    split
    · split
      · exact ih (handleFrame_stopHolds (stopHolds_aside (by simp) h) _)
      · exact h
    · exact h

theorem arriveFrame_stopHolds (f : Frame) : StopHoldsTheDrives (p.arriveFrame f) := by
  unfold Part.arriveFrame
  split
  · exact serve_stopHolds _ (stopHolds_aside (by simp) h)
  · exact stopHolds_aside (by simp) h

theorem submit_stopHolds (tag : Byte) (c : HostCommand) : StopHoldsTheDrives (p.submit tag c) := by
  unfold Part.submit
  split
  · exact handle_stopHolds (stopHolds_aside (by simp) h) tag c
  · exact arriveFrame_stopHolds h _

theorem takeCharacter_stopHolds (c : Byte) : StopHoldsTheDrives (p.takeCharacter c) := by
  unfold Part.takeCharacter Part.collect Part.completeFrame
  split
  · split
    · exact stopHolds_aside (by simp) h
    · exact h
  · split
    · exact stopHolds_aside (by simp) h
    · split
      · dsimp only
        split
        · exact arriveFrame_stopHolds (stopHolds_aside (by simp) h) _
        · exact stopHolds_aside (by simp) h
      · exact stopHolds_aside (by simp) h

theorem abandonFrame_stopHolds : StopHoldsTheDrives p.abandonFrame := by
  unfold Part.abandonFrame
  split
  · exact h
  · exact stopHolds_aside (by simp) h

theorem frameSent_stopHolds : StopHoldsTheDrives p.frameSent := by
  unfold Part.frameSent
  split
  · exact h
  · split
    · exact stopHolds_aside (by simp) h
    · exact serve_stopHolds _ (stopHolds_of_same rfl (fun _ => rfl) h)

end Held

/-! ### Rows -/

/-- Right after a reset every channel is UNKNOWN. -/
theorem hardReset_stopHolds (p : Part) (rate : Rate) : StopHoldsTheDrives (p.hardReset rate) :=
  stopHolds_resting fun ch => by
    rw [Part.hardReset, channel_initial]
    rfl

theorem softReset_stopHolds (p : Part) : StopHoldsTheDrives p.softResetPart := by
  refine stopHolds_resting fun ch => ?_
  have record : p.softResetPart.channel ch = (p.channel ch).softReset :=
    mapVec_getElem Channel.softReset p.valves.channels ch.val ch.isLt
  rw [record]
  rfl

/-- What the supply, the reset line and the events say does not bear on it. -/
theorem stopHolds_of_valves {p q : Part} (k : q.valves = p.valves) (h : StopHoldsTheDrives p) : StopHoldsTheDrives q :=
  stopHolds_of_same (by rw [k]) (channel_of_valves k) h

theorem act_stopHolds {g : Part → Part} {s t : State} (hg : ∀ p, StopHoldsTheDrives p → StopHoldsTheDrives (g p))
    (h : act g s = .next t) (hp : StopHoldsTheDrives s.part) : StopHoldsTheDrives t.part := act_keeps (hg _) h hp

theorem takeEvent_stopHolds {e : Event} {g : Part → Part} {s t : State}
    (hg : ∀ p, StopHoldsTheDrives p → StopHoldsTheDrives (g p)) (h : takeEvent e g s = .next t)
    (hp : StopHoldsTheDrives s.part) : StopHoldsTheDrives t.part :=
  takeEvent_keeps (fun _ _ => stopHolds_of_valves rfl) hg h hp

theorem takeStopNotice_stopHolds {e : Event} {l : LaneId} {g : Part → Part} {s t : State}
    (hg : ∀ p, StopHoldsTheDrives p → StopHoldsTheDrives (g p)) (h : takeStopNotice l e g s = .next t)
    (hp : StopHoldsTheDrives s.part) : StopHoldsTheDrives t.part :=
  takeStopNotice_keeps (fun _ _ => stopHolds_of_valves rfl) hg h hp

theorem act_besideDrives {g : Part → Part} {s t : State} (h : act g s = .next t)
    (k : ∀ p, OnlyChanges besideDrives p (g p)) (hp : StopHoldsTheDrives s.part) : StopHoldsTheDrives t.part :=
  act_stopHolds (fun p => stopHolds_aside (k p)) h hp

theorem takeEvent_besideDrives {e : Event} {g : Part → Part} {s t : State} (h : takeEvent e g s = .next t)
    (k : ∀ p, OnlyChanges besideDrives p (g p)) (hp : StopHoldsTheDrives s.part) : StopHoldsTheDrives t.part :=
  takeEvent_stopHolds (fun p => stopHolds_aside (k p)) h hp

/-- A row that carries a host command keeps it. -/
theorem command_stopHolds {row : Instr} {x : Byte × HostCommand} {s t : State} (hrow : row.command = some x)
    (h : exec row s = .next t) (hp : StopHoldsTheDrives s.part) : StopHoldsTheDrives t.part := by
  rw [exec_command hrow] at h
  exact act_stopHolds (fun p k => submit_stopHolds k x.1 x.2) h hp

/-- Every row keeps it. -/
theorem exec_stopHolds (row : Instr) (s t : State) (h : exec row s = .next t) (hp : StopHoldsTheDrives s.part) :
    StopHoldsTheDrives t.part := by
  cases row
  case powerOnReset strap1 strap2 =>
    rw [← next_inj h]
    exact stopHolds_of_valves rfl (hardReset_stopHolds s.part (rateOf strap1 strap2))
  case resetLineAsserted =>
    rw [← next_inj h]
    exact stopHolds_of_valves rfl (hardReset_stopHolds s.part s.part.link.rate)
  case resetLineReleased strap1 strap2 =>
    rw [← next_inj h]
    dsimp only
    split
    · exact stopHolds_of_valves rfl (hardReset_stopHolds s.part (rateOf strap1 strap2))
    · exact hp
  case softResetEffect =>
    refine act_stopHolds (g := fun p => if p.link.softReset = .sent then p.softResetPart else p) (fun p k => ?_) h hp
    split
    · exact softReset_stopHolds p
    · exact k
  case supplyLoss => rw [← next_inj h]; exact stopHolds_of_valves rfl hp
  case feedbackChange =>
    rw [← next_inj h]
    dsimp only
    split <;> exact stopHolds_aside (by simp) hp
  case stopAsserted =>
    refine act_stopHolds (g := Part.stopLineAsserted) (fun p k => ?_) h hp
    unfold Part.stopLineAsserted
    split
    · exact report_stopHolds (assertStop_stopHolds p) _
    · exact k
  case stopReleased =>
    refine act_stopHolds (g := Part.stopLineReleased) (fun p k => ?_) h hp
    unfold Part.stopLineReleased
    split
    · exact releaseStop_stopHolds p
    · exact k
  case stopInputFirstTaken level =>
    refine act_stopHolds (g := fun p => p.stopFirstTaken level) (fun p k => ?_) h hp
    unfold Part.stopFirstTaken
    split
    · cases level with
      | deEnergised => exact assertStop_stopHolds p
      | energised => exact stopHolds_released rfl
    · exact k
  case galleryClockTick | analogScan =>
    unfold exec at h
    exact act_besideDrives h (fun p => by simp) hp
  case limitReadingChange ch which level => exact act_stopHolds (fun p k => takeLimit_stopHolds k ch which level) h hp
  case travelExpiry ch => exact takeEvent_stopHolds (fun p k => travelFails_stopHolds k ch) h hp
  case surveyEnd => exact act_stopHolds (fun p k => endSurvey_stopHolds k) h hp
  case pointSample id =>
    exact act_besideDrives (g := fun p => p.takeOldestSample id) h
      (fun p => by unfold Part.takeOldestSample; split <;> simp) hp
  case admissionScan => exact act_stopHolds (fun p k => runScan_stopHolds k) h hp
  case receiveCharacter c => exact act_stopHolds (fun p k => takeCharacter_stopHolds k c) h hp
  case characterError | receiveGapTimeout => exact act_stopHolds (fun p k => abandonFrame_stopHolds k) h hp
  case transmitFrameEnd => exact act_stopHolds (fun p k => frameSent_stopHolds k) h hp
  case unknownKindCommand tag kind payload =>
    exact act_stopHolds (fun p k => arriveFrame_stopHolds k ⟨kind, tag, payload⟩) h hp
  case overloadDeadline => exact takeEvent_stopHolds (fun p k => overloadFalls_stopHolds k) h hp
  case lanePointChange l id => exact takeEvent_stopHolds (fun p k => lanePoint_stopHolds k l id) h hp
  case phaseTimeEnd l => exact takeEvent_stopHolds (fun p k => endRunning_stopHolds k l .time) h hp
  case ripenConfirmed l => exact takeEvent_stopHolds (fun p k => endRunning_stopHolds k l .confirmed) h hp
  case holdLimitExpiry l => exact takeEvent_stopHolds (fun p k => holdLimitFalls_stopHolds k l) h hp
  case laneRoleArrival l r => exact takeEvent_stopHolds (fun p k => laneArrival_stopHolds k l r) h hp
  case laneChannelFault l r => exact takeEvent_stopHolds (fun p k => laneFault_stopHolds k l) h hp
  case laneRoleDrift l r => exact takeEvent_stopHolds (fun p k => laneDrift_stopHolds k l r) h hp
  case laneGrant l u => exact takeEvent_stopHolds (fun p k => laneGrant_stopHolds k l u) h hp
  case laneProveFailed l u => exact takeEvent_stopHolds (fun p k => laneProveFailed_stopHolds k l u) h hp
  case laneUnitTripped l u => exact takeEvent_stopHolds (fun p k => laneTripped_stopHolds k l u) h hp
  case laneUnitNotice l u n => exact takeEvent_stopHolds (fun p k => laneNews_stopHolds k l n) h hp
  case laneStopAsserted l => exact takeStopNotice_stopHolds (fun p k => laneStopped_stopHolds k l) h hp
  case laneStopReleased l => exact takeStopNotice_stopHolds (fun p k => laneReleased_stopHolds k l) h hp
  case transferRoleArrival f r => exact takeEvent_stopHolds (fun p k => advanceTransfer_stopHolds k f 3) h hp
  case transferRoleDrift f r => exact takeEvent_stopHolds (fun p k => transferDrifts_stopHolds k f r) h hp
  case transferStopReleased f => exact takeEvent_stopHolds (fun p k => transferReleased_stopHolds k f) h hp
  case runMinute | minuteTick | urgencyEvaluation | pointStale | schedulerMeasureChange | deferExpiry | proposalExpiry |
      spacingExpiry | laneSecond | laneUnitProven | schedulerUnitNotice | transferChannelFault | filterChannelFault |
      arbiterStopAsserted | proveExpiry | guardEnd | silenceExpiry =>
    unfold exec at h
    exact takeEvent_besideDrives h (fun p => by simp) hp
  all_goals exact command_stopHolds rfl h hp

end Sys2Proof.Laws

namespace Sys2Proof

open Machine Laws

/-- Settles O58: a step runs one row, and every row keeps the drives held. -/
theorem stepsKeepStopHoldingTheDrives : Obligations.StepsKeepStopHoldingTheDrives := step_keeps exec_stopHolds

end Sys2Proof
end

section
/-! SUPPORT. Frames and the commands they carry (R171, R176, Table 11-6): a command is read back from its own frame, and a
frame that carries none is refused by its kind, or by its length. -/

namespace Sys2Proof.Laws

open Sys2Proof.Machine

/-! ### Fields read back -/

theorem joinBytes_hi_lo (h : Half) : joinBytes (hiByte h) (loByte h) = h :=
  BitVec.extractLsb'_append_extractLsb'_eq_extractLsb' (by rfl) |>.trans (by simp)

theorem byteAt_zero (b : Byte) (pl : List Byte) : byteAt (b :: pl) 0 = b := rfl

theorem byteAt_succ (b : Byte) (pl : List Byte) (i : Nat) : byteAt (b :: pl) (i + 1) = byteAt pl i := rfl

theorem halfAt_zero (h : Half) (pl : List Byte) : halfAt (hiByte h :: loByte h :: pl) 0 = h := joinBytes_hi_lo h

theorem halfAt_succ (b : Byte) (pl : List Byte) (i : Nat) : halfAt (b :: pl) (i + 1) = halfAt pl i := rfl

theorem rawPlantOf_bytes (r : RawPlant) : rawPlantOf r.bytes = r := by
  cases r
  simp only [RawPlant.bytes, rawPlantOf, halfAt_succ, halfAt_zero, byteAt_succ, byteAt_zero]

theorem rawFilterOf_bytes (f form : Byte) (c : RawFilter) : rawFilterOf (f :: form :: c.bytes) = c := by
  cases c
  simp only [RawFilter.bytes, halfBytes, List.cons_append, List.nil_append, rawFilterOf, halfAt_succ, halfAt_zero,
    byteAt_succ, byteAt_zero]

theorem halfAt_last (h : Half) : halfAt (halfBytes h) 0 = h := halfAt_zero h []

/-! ### The frame of a command -/

/-- The frame of a command carries that command. -/
theorem command_frame (tag : Byte) (c : HostCommand) : (c.frame tag).command = .ok c := by
  cases c
  case setPlant r => exact congrArg (fun x => Except.ok (HostCommand.setPlant x)) (rawPlantOf_bytes r)
  case setFilter f form r =>
    exact congrArg (fun x => Except.ok (HostCommand.setFilter f form x)) (rawFilterOf_bytes f form r)
  case setPoint pt src i lo hi =>
    exact congrArg₂ (fun x y => Except.ok (HostCommand.setPoint pt src i x y)) (halfAt_zero lo (halfBytes hi))
      (halfAt_last hi)
  case defer f m => exact congrArg (fun x => Except.ok (HostCommand.defer f x)) (halfAt_last m)
  case decline f m => exact congrArg (fun x => Except.ok (HostCommand.decline f x)) (halfAt_last m)
  all_goals rfl

theorem fixedLength_accepts {n : Nat} {pl : List Byte} {c c' : HostCommand} (h : fixedLength n pl c = .ok c') : c' = c := by
  unfold fixedLength at h
  split at h
  · cases h; rfl
  · cases h

/-- A command has the kind of the frame that carries it. -/
theorem command_kind {f : Frame} {c : HostCommand} (h : f.command = .ok c) : c.kind = f.kind := by
  unfold Frame.command at h
  dsimp only at h
  refine BitVec.eq_of_toNat_eq ?_
  split at h
  case h_48 => cases h
  case h_13 e | h_31 e => cases h; exact e.symm
  all_goals
    rw [fixedLength_accepts h]
    exact Eq.symm ‹_›

/-! ### Frames that carry no command -/

theorem known_kind {k : Byte} {n : Nat} (e : k.toNat = n) (hn : commandKinds.contains (BitVec.ofNat 8 n) = true) :
    commandKinds.contains k = true := by
  rw [← e, BitVec.ofNat_toNat, BitVec.setWidth_eq] at hn
  exact hn

theorem kind_number {k : Byte} (h : commandKinds.contains k = true) : k.toNat ∈ commandKinds.map BitVec.toNat :=
  List.mem_map_of_mem (List.contains_iff_mem.1 h)

/-- R176 step 1. -/
theorem command_unknown {f : Frame} (h : commandKinds.contains f.kind = false) : f.command = .error .unknownKind := by
  have no : ∀ {n : Nat}, f.kind.toNat = n → commandKinds.contains (BitVec.ofNat 8 n) = true → False := fun e hn =>
    Bool.false_ne_true (h.symm.trans (known_kind e hn))
  unfold Frame.command
  dsimp only
  split
  case h_48 => rfl
  all_goals exact (no ‹_› rfl).elim

theorem fixedLength_refuses {n : Nat} {pl : List Byte} {c : HostCommand} {r : Result}
    (h : fixedLength n pl c = .error r) : r = .length := by
  unfold fixedLength at h
  split at h
  · cases h
  · cases h; rfl

/-- R176 step 2: a frame of a command's kind is refused for its length alone. -/
theorem command_refused {f : Frame} {r : Result} (hk : commandKinds.contains f.kind = true) (h : f.command = .error r) :
    r = .length := by
  have known := kind_number hk
  unfold Frame.command at h
  dsimp only at h
  split at h
  case h_48 =>
    refine absurd known ?_
    simp only [commandKinds, List.cons_append, List.nil_append, List.map_cons, List.map_nil, List.mem_cons,
      List.not_mem_nil, or_false, not_or]
    and_intros <;> assumption
  case h_13 | h_31 => cases h
  all_goals exact fixedLength_refuses h

end Sys2Proof.Laws

namespace Sys2Proof

open Machine Laws

/-- Settles O56: each field is read back from where it was written; other frames fall through every kind, or fail their
kind's length. -/
theorem framesCarryTheirCommands : Obligations.FramesCarryTheirCommands :=
  ⟨command_frame, fun _ h => command_unknown h, fun _ _ hk h => command_refused hk h⟩

end Sys2Proof
end

section
/-! SUPPORT. What each command is answered by the top state alone (R176, R183). -/

namespace Sys2Proof.Laws

open Sys2Proof.Machine

/-- R183: in SURVEYING a command asks for the end of the survey first, by itself or within its demand for OPERATING. -/
theorem answer_surveying {p : Part} (h : p.startUp.top = .surveying) {c : HostCommand} (hc : ¬ AnyTopState c) :
    p.answer c = refuse p .busy := by
  cases c
  case getIdent | getStatus | getLinkErrors | ping => exact absurd trivial hc
  case setMode | getLoading | takeOut | putIn | clearFault | toStandby | toService | requestWash | cancelRequest | defer |
      setMask | accept | decline | hold | resume | abort => exact inOperating_busy h _
  all_goals exact unlessSurveying_busy h _

/-- R176: a command that needs OPERATING asks for it before anything else. -/
theorem answer_configuring {p : Part} (h : p.startUp.top = .configuring) {c : HostCommand} (hc : NeedsOperating c) :
    p.answer c = refuse p .notConfigured := by
  cases c
  case setMode | getLoading | takeOut | putIn | clearFault | toStandby | toService | requestWash | cancelRequest | defer |
      setMask | accept | decline | hold | resume | abort => exact inOperating_notConfigured h _
  all_goals exact hc.elim

end Sys2Proof.Laws

namespace Sys2Proof

open Machine Laws

/-- Settles O40: the frame's acceptance keeps the top state, and the command is refused by it before it does anything. -/
theorem topStatesRefuseCommands : Obligations.TopStatesRefuseCommands :=
  ⟨fun _ _ _ _ hc top hrow h => reads_of hc hrow (answer_surveying ((frameAccepted_top _).trans top) h),
    fun _ _ _ _ hc top hrow h => reads_of hc hrow (answer_configuring ((frameAccepted_top _).trans top) h)⟩

end Sys2Proof
end

section
/-! SUPPORT. Nothing but the link's own work and the commands that read its counters moves the link otherwise than by
reports: operation by operation, from the points to the rows of the part. -/

namespace Sys2Proof.Laws

open Sys2Proof.Machine

/-! ### Operations beside the link -/

/-- Every piece but the clock and the link port's. -/
def besideLink : List Piece :=
  [.supply, .resetHeld, .top, .survey, .readyCall, .silence, .silent, .lastAccepted, .plant, .plantReceived, .counts,
    .points, .volumes, .filters, .marker, .queue, .mask, .mode, .blocked, .proposal, .shares, .lastAdmission, .overload,
    .flags, .scanDue, .slots, .staging, .lanes, .units, .duty, .pumpWait, .blowerWait, .channels, .map, .selection, .capture,
    .stop, .events]

@[simp] theorem mem_besideLink (x : Piece) : x ∈ besideLink ↔ x ∉ [Piece.clock, .rx, .rxQueue, .reply, .reports, .sending,
    .seq, .errors, .overflow, .reportLoss, .cursor, .rate, .softReset] := by cases x <;> simp [besideLink]

theorem tells_beside {p₀ p q : Part} (k : OnlyChanges besideLink p q) (h : Tells p₀ p) : Tells p₀ q :=
  tells_trans h (tells_kept k fun x hx => by rw [mem_besideLink, not_not]; exact hx)

/-- An operation whose reports are known. -/
theorem tells_of_reports {p q : Part} {bs : List ReportBody} (k : OnlyChanges (besideLink ++ reporting) p q)
    (h : Reports p q bs) : Tells p q := ⟨k .clock (by simp), bs, h⟩

section Tells
variable {p₀ p : Part} (h : Tells p₀ p)
include h

theorem report_tellsOn (b : ReportBody) : Tells p₀ (p.report b) := tells_trans h (tells_report p b)

theorem trigger_tellsOn : Tells p₀ p.trigger := tells_beside (by simp) h

theorem raise_tellsOn (e : Event) : Tells p₀ (p.raise e) := tells_beside (by simp) h

theorem raiseAll_tellsOn (es : List Event) : Tells p₀ (p.raiseAll es) := tells_beside (by simp) h

theorem cancel_tellsOn (e : Event) : Tells p₀ (p.cancel e) := tells_beside (by simp) h

theorem setMarker_tellsOn (m : Option FilterId) : Tells p₀ (p.setMarker m) := tells_beside (by simp) h

theorem modFilter_tellsOn (f : FilterId) (g : FilterRecord → FilterRecord) : Tells p₀ (p.modFilter f g) :=
  tells_beside (by simp) h

theorem setBlocked_tellsOn (b : BlockedReason) : Tells p₀ (p.setBlocked b) := tells_beside (by simp) h

theorem putEntry_tellsOn (e : Entry) : Tells p₀ (p.putEntry e) := tells_beside (by simp) h

theorem setDefer_tellsOn (e : Entry) (t : Option Nat) : Tells p₀ (p.setDefer e t) := tells_beside (by simp) h

theorem putChannel_tellsOn (ch : ChannelId) (c : Channel) : Tells p₀ (p.putChannel ch c) := tells_beside (by simp) h

theorem putUnit_tellsOn (u : UnitId) (x : UnitRecord) : Tells p₀ (p.putUnit u x) := tells_beside (by simp) h

theorem setUnit_tellsOn (u : UnitId) (x : UnitState) : Tells p₀ (p.setUnit u x) := tells_beside (by simp) h

theorem serveWait_tellsOn (u : UnitId) : Tells p₀ (p.serveWait u) := tells_beside (by simp) h

theorem tellNews_tellsOn (u : UnitId) (n : UnitNews) : Tells p₀ (p.tellNews u n) := tells_beside (by simp) h

theorem modWash_tellsOn (l : LaneId) (g : Wash → Wash) : Tells p₀ (p.modWash l g) := tells_beside (by simp) h

theorem putLane_tellsOn (l : LaneId) (w : Option Wash) : Tells p₀ (p.putLane l w) := tells_beside (by simp) h

theorem putAmounts_tellsOn (l : LaneId) (s : Share) : Tells p₀ (p.putAmounts l s) := tells_beside (by simp) h

theorem dropRun_tellsOn (l : LaneId) : Tells p₀ (p.dropRun l) := tells_beside (by simp) h

theorem dropLane_tellsOn (l : LaneId) : Tells p₀ (p.dropLane l) := tells_beside (by simp) h

theorem laneIdle_tellsOn (l : LaneId) : Tells p₀ (p.laneIdle l) := tells_beside (by simp) h

theorem releaseAll_tellsOn (l : LaneId) : Tells p₀ (p.releaseAll l) := tells_trans h (releaseAll_tells p l)

theorem orderRoles_tellsOn (l : LaneId) (f : FilterId) (roles : List Role) (pos : Position) :
    Tells p₀ (p.orderRoles l f roles pos) := tells_trans h (orderRoles_tells p l f roles pos)

theorem reorderRole_tellsOn (l : LaneId) (f : FilterId) (r : Role) : Tells p₀ (p.reorderRole l f r) :=
  tells_beside (by simp) h

theorem leave_tellsOn (l : LaneId) (c : HoldCause) : Tells p₀ (p.leave l c) := tells_beside (by simp) h

theorem leaveIf_tellsOn (l : LaneId) (c : HoldCause) : Tells p₀ (p.leaveIf l c) := tells_beside (by simp) h

omit h in
theorem foldl_tellsOn {α : Type} {g : Part → α → Part} (step : ∀ {p} x, Tells p₀ p → Tells p₀ (g p x)) (xs : List α) :
    ∀ {p}, Tells p₀ p → Tells p₀ (xs.foldl g p) := by
  induction xs with
  | nil => exact fun h => h
  | cons x xs ih => exact fun h => ih (step x h)

/-! ### Points -/

theorem putPoint_tellsOn (id : PointId) (x : Point) : Tells p₀ (p.putPoint id x) :=
  tells_trans h (tells_of_reports (by simp) (putPoint_reports p id x))

theorem takeSample_tellsOn (id : PointId) (c : Nat) : Tells p₀ (p.takeSample id c) := by
  unfold Part.takeSample
  dsimp only
  split
  · exact h
  · split
    · exact putPoint_tellsOn h _ _
    · exact putPoint_tellsOn (cancel_tellsOn h _) _ _

theorem takeOldestSample_tellsOn (id : PointId) : Tells p₀ (p.takeOldestSample id) := by
  unfold Part.takeOldestSample
  split
  · exact takeSample_tellsOn (tells_beside (by simp) h) _ _
  · exact h

theorem goStale_tellsOn (id : PointId) : Tells p₀ (p.goStale id) := by
  unfold Part.goStale
  dsimp only
  split
  · exact putPoint_tellsOn h _ _
  · exact h

theorem startPoint_tellsOn (id : PointId) (src : PointSource) : Tells p₀ (p.startPoint id src) :=
  putPoint_tellsOn (cancel_tellsOn (tells_beside (by simp) h) _) _ _

theorem push_tellsOn (id : PointId) (v : Nat) : Tells p₀ (p.push id v) :=
  putPoint_tellsOn (cancel_tellsOn h _) _ _

/-! ### The rotation queue and the proposal -/

theorem withdraw_tellsOn (c : WithdrawalCause) (d : Option Nat) : Tells p₀ (p.withdraw c d) := by
  unfold Part.withdraw
  split
  · exact trigger_tellsOn (report_tellsOn (cancel_tellsOn (tells_beside (by simp) h) _) _)
  · exact h

theorem withdrawFor_tellsOn (f : FilterId) (c : WithdrawalCause) : Tells p₀ (p.withdrawFor f c) := by
  unfold Part.withdrawFor
  split
  · split
    · exact withdraw_tellsOn h c none
    · exact h
  · exact h

theorem addEntry_tellsOn (f : FilterId) (c : RequestClass) (src : RequestSource) (u : Nat) (o : Option SlotId) :
    Tells p₀ (p.addEntry f c src u o) :=
  trigger_tellsOn (report_tellsOn (putEntry_tellsOn h _) _)

theorem dropEntry_tellsOn (f : FilterId) (c : RemovalCause) : Tells p₀ (p.dropEntry f c) := by
  unfold Part.dropEntry
  split
  · exact trigger_tellsOn (report_tellsOn (cancel_tellsOn (tells_beside (by simp) h) _) _)
  · exact h

theorem expelEntry_tellsOn (f : FilterId) (c : RemovalCause) : Tells p₀ (p.expelEntry f c) :=
  withdrawFor_tellsOn (dropEntry_tellsOn h f c) f .filter

theorem takeEvaluation_tellsOn (f : FilterId) (u : Nat) (cls : Option RequestClass) :
    Tells p₀ (p.takeEvaluation f u cls) := by
  unfold Part.takeEvaluation
  split
  · exact h
  · exact addEntry_tellsOn h _ _ _ _ _
  · split
    · exact trigger_tellsOn (report_tellsOn (putEntry_tellsOn h _) _)
    · split
      · exact h
      · exact trigger_tellsOn (putEntry_tellsOn h _)
  · split
    · exact h
    · exact trigger_tellsOn (putEntry_tellsOn h _)

theorem upgradeManual_tellsOn (e : Entry) (o : Option SlotId) : Tells p₀ (p.upgradeManual e o) :=
  trigger_tellsOn (withdrawFor_tellsOn (report_tellsOn (putEntry_tellsOn (cancel_tellsOn h _) _) _) _ _)

theorem changeMask_tellsOn (m : BitVec 6) : Tells p₀ (p.changeMask m) := by
  have k : Tells p₀ { p with sched := { p.sched with mask := m } } := tells_beside (by simp) h
  unfold Part.changeMask
  split
  · exact h
  · dsimp only
    split
    · split
      · exact trigger_tellsOn (withdraw_tellsOn k _ _)
      · exact trigger_tellsOn k
    · exact trigger_tellsOn k

theorem changeMode_tellsOn (m : PlantMode) : Tells p₀ (p.changeMode m) := by
  unfold Part.changeMode
  split
  · exact h
  · exact trigger_tellsOn (withdraw_tellsOn (tells_beside (by simp) h) _ _)

theorem decline_tellsOn (e : Entry) (minutes : Nat) : Tells p₀ (p.decline e minutes) := by
  unfold Part.decline
  split
  · exact withdraw_tellsOn (setDefer_tellsOn h _ _) _ _
  · exact withdraw_tellsOn h _ _

theorem proposalExpires_tellsOn : Tells p₀ p.proposalExpires := by
  unfold Part.proposalExpires
  split
  · dsimp only
    split
    · exact withdraw_tellsOn (setDefer_tellsOn h _ _) _ _
    · exact withdraw_tellsOn h _ _
  · exact h

/-! ### Loading and filters -/

theorem setFlags_tellsOn (met : CalcFlags) (o : CalcOrigin) : Tells p₀ (p.setFlags met o) :=
  tells_trans h (tells_of_reports (by simp) (setFlags_link p met o))

theorem computeLoading_tellsOn : Tells p₀ p.computeLoading := tells_trans h (computeLoading_tells p)

theorem evaluate_tellsOn (f : FilterId) : Tells p₀ (p.evaluate f) := by
  unfold Part.evaluate
  split
  · split
    · exact takeEvaluation_tellsOn (modFilter_tellsOn (setFlags_tellsOn h _ _) f _) f _ _
    · exact h
  · exact h

theorem reportFilter_tellsOn (f : FilterId) (before : StateName) : Tells p₀ (p.reportFilter f before) :=
  report_tellsOn h _

theorem areaChanged_tellsOn (f : FilterId) (was : Bool) : Tells p₀ (p.areaChanged f was) := by
  have k : Tells p₀ p.computeLoading.trigger := trigger_tellsOn (computeLoading_tellsOn h)
  unfold Part.areaChanged
  split
  · exact h
  · dsimp only
    split
    · exact raise_tellsOn k _
    · exact k

theorem releaseWindow_tellsOn (f : FilterId) : Tells p₀ (p.releaseWindow f) := tells_beside (by simp) h

theorem moveFilter_tellsOn (f : FilterId) (r : FilterRecord) : Tells p₀ (p.moveFilter f r) := by
  have k : Tells p₀ ((p.putFilter f (some r.indexed)).reportFilter f ((p.filter f).map (·.state))) :=
    reportFilter_tellsOn (tells_beside (by simp) h) _ _
  unfold Part.moveFilter
  exact tells_beside (by split <;> simp) k

theorem changeFilter_tellsOn (f : FilterId) (g : FilterRecord → FilterRecord) : Tells p₀ (p.changeFilter f g) := by
  unfold Part.changeFilter
  split
  · exact areaChanged_tellsOn (moveFilter_tellsOn h _ _) _ _
  · exact h

theorem transferFails_tellsOn (f : FilterId) : Tells p₀ (p.transferFails f) := by
  unfold Part.transferFails
  dsimp only
  split
  · exact trigger_tellsOn (setMarker_tellsOn (changeFilter_tellsOn h _ _) _)
  · exact changeFilter_tellsOn h _ _

theorem transferCompletes_tellsOn (f : FilterId) (k : TransferKind) : Tells p₀ (p.transferCompletes f k) := by
  unfold Part.transferCompletes
  dsimp only
  split
  · exact trigger_tellsOn (setMarker_tellsOn (changeFilter_tellsOn h _ _) _)
  · exact changeFilter_tellsOn h _ _

theorem issue_tellsOn (f : FilterId) (cs : List (Role × Position)) : Tells p₀ (p.issue f cs).1 := tells_beside (by simp) h

omit h in
theorem advanceTransfer_tellsOn (f : FilterId) (fuel : Nat) :
    ∀ {p : Part}, Tells p₀ p → Tells p₀ (p.advanceTransfer f fuel) := by
  induction fuel with
  | zero => exact fun h => h
  | succ fuel ih =>
    intro p h
    unfold Part.advanceTransfer
    split
    · exact h
    · rename_i t _
      have k := issue_tellsOn (tells_beside (q := p.modFilter f fun r => { r with transfer := some ⟨t.kind, t.step + 1⟩ })
        (by simp) h) f (stepRoles ⟨t.kind, t.step + 1⟩)
      split
      · split
        · exact transferCompletes_tellsOn h f _
        · split
          · exact h
          · dsimp only
            split
            · exact transferFails_tellsOn k f
            · exact ih k
      · exact h

theorem pressTransfer_tellsOn (f : FilterId) (roles : List (Role × Position)) : Tells p₀ (p.pressTransfer f roles) := by
  have k := issue_tellsOn h f (roles.filter fun x => !p.inPosition f x.1 x.2)
  unfold Part.pressTransfer
  split
  · exact advanceTransfer_tellsOn f 3 h
  · dsimp only
    split
    · exact transferFails_tellsOn k f
    · exact advanceTransfer_tellsOn f 3 k

theorem startTransfer_tellsOn (f : FilterId) (x : TransferKind) : Tells p₀ (p.startTransfer f x) := by
  have begun : Tells p₀ (p.changeFilter f fun r => { r with transfer := some ⟨x, 1⟩ }) := changeFilter_tellsOn h _ _
  have k := issue_tellsOn begun f (stepRoles ⟨x, 1⟩)
  unfold Part.startTransfer
  dsimp only
  split
  · exact advanceTransfer_tellsOn f 3 begun
  · split
    · exact transferFails_tellsOn k f
    · exact advanceTransfer_tellsOn f 3 k

theorem transferDrifts_tellsOn (f : FilterId) (r : Role) : Tells p₀ (p.transferDrifts f r) := by
  unfold Part.transferDrifts
  split
  · exact h
  · exact pressTransfer_tellsOn h _ _

theorem transferReleased_tellsOn (f : FilterId) : Tells p₀ (p.transferReleased f) := by
  unfold Part.transferReleased
  split
  · exact h
  · exact pressTransfer_tellsOn h _ _

theorem startSubstitution_tellsOn (f : FilterId) : Tells p₀ (p.startSubstitution f) :=
  startTransfer_tellsOn (setMarker_tellsOn h _) _ _

theorem tableFault_tellsOn (f : FilterId) (r : Role) : Tells p₀ (p.tableFault f r) := by
  unfold Part.tableFault
  split
  · exact changeFilter_tellsOn (expelEntry_tellsOn h f .faulted) _ _
  · exact transferFails_tellsOn h f
  · exact tells_beside (by simp) h
  · exact h

theorem destination_tellsOn (f : FilterId) : Tells p₀ (p.destination f).1 := by
  unfold Part.destination
  dsimp only
  split
  · exact computeLoading_tellsOn h
  · exact computeLoading_tellsOn h

theorem abortWash_tellsOn (f : FilterId) (channelFault : Bool) : Tells p₀ (p.abortWash f channelFault) := by
  unfold Part.abortWash
  split
  · exact h
  · split
    · exact changeFilter_tellsOn h _ _
    · dsimp only
      split
      · exact addEntry_tellsOn (changeFilter_tellsOn h _ _) _ _ _ _ _
      · exact changeFilter_tellsOn h _ _

theorem overloadFalls_tellsOn : Tells p₀ p.overloadFalls := by
  unfold Part.overloadFalls
  split
  · dsimp only
    refine report_tellsOn ?_ _
    split
    · exact startSubstitution_tellsOn (tells_beside (by simp) h) _
    · exact tells_beside (by simp) h
  · exact h

theorem schedulerMeasure_tellsOn (id : PointId) : Tells p₀ (p.schedulerMeasure id) := by
  unfold Part.schedulerMeasure
  split
  · exact trigger_tellsOn (computeLoading_tellsOn h)
  · exact trigger_tellsOn h
  · exact trigger_tellsOn h
  · exact h
  · exact h

/-! ### Channels -/

theorem faultChannel_tellsOn (ch : ChannelId) (c : ChannelFault) : Tells p₀ (p.faultChannel ch c) :=
  tells_trans h (tells_of_reports (by simp) (faultChannel_reports ..))

theorem drift_tellsOn (ch : ChannelId) (lost : Position) : Tells p₀ (p.drift ch lost) :=
  tells_trans h (tells_of_reports (by simp) (drift_reports p ch lost))

theorem arrive_tellsOn (ch : ChannelId) (x : ChannelState) : Tells p₀ (p.arrive ch x) := tells_beside (by simp) h

theorem takeLimit_tellsOn (ch : ChannelId) (which : Limit) (level : Level) : Tells p₀ (p.takeLimit ch which level) := by
  have k : Tells p₀ (p.putChannel ch ((p.channel ch).putInput which level)) := putChannel_tellsOn h _ _
  unfold Part.takeLimit
  dsimp only
  split
  · exact h
  · split
    · exact k
    · split
      · exact faultChannel_tellsOn k _ _
      · split
        · split
          · exact k
          · exact drift_tellsOn k _ _
        · split
          · exact k
          · exact drift_tellsOn k _ _
        · exact putChannel_tellsOn k _ _
        · split
          · exact arrive_tellsOn k _ _
          · exact k
        · split
          · exact arrive_tellsOn k _ _
          · exact k
        · exact k
        · exact k

theorem travelFails_tellsOn (ch : ChannelId) : Tells p₀ (p.travelFails ch) := by
  unfold Part.travelFails
  split
  · exact faultChannel_tellsOn h _ _
  · exact h

theorem settle_tellsOn (ch : ChannelId) : Tells p₀ (p.settle ch) := by
  unfold Part.settle
  dsimp only
  split
  · exact faultChannel_tellsOn h _ _
  · exact putChannel_tellsOn h _ _

theorem unstop_tellsOn (ch : ChannelId) : Tells p₀ (p.unstop ch) := by
  unfold Part.unstop
  split
  · exact settle_tellsOn h ch
  · exact h

theorem releaseStop_tellsOn : Tells p₀ p.releaseStop := by
  unfold Part.releaseStop
  dsimp only
  exact raiseAll_tellsOn (report_tellsOn (foldl_tellsOn (fun ch k => unstop_tellsOn k ch) _ (tells_beside (by simp) h)) _) _

theorem derive_tellsOn (ch : ChannelId) : Tells p₀ (p.derive ch) := by
  have k : Tells p₀ ((p.putChannel ch { p.channel ch with target := none }).cancel (.travelExpiry ch)) :=
    cancel_tellsOn (putChannel_tellsOn h _ _) _
  unfold Part.derive
  dsimp only
  split
  · exact k
  · exact settle_tellsOn k ch

theorem deriveCleared_tellsOn (ch : ChannelId) : Tells p₀ (p.deriveCleared ch) := settle_tellsOn (putChannel_tellsOn h _ _) ch

theorem writeSense_tellsOn (ch : ChannelId) (x : SwitchSense) : Tells p₀ (p.writeSense ch x) := by
  have k : Tells p₀ (p.putChannel ch { p.channel ch with sense := x }) := putChannel_tellsOn h _ _
  unfold Part.writeSense
  dsimp only
  split
  case h_4 => exact k
  all_goals exact settle_tellsOn k ch

theorem mapValve_tellsOn (f : FilterId) (r : Role) (ch : Option ChannelId) (x : SwitchSense) :
    Tells p₀ (p.mapValve f r ch x) := by
  unfold Part.mapValve
  split
  · exact tells_beside (by simp) h
  · split
    · exact writeSense_tellsOn h _ _
    · exact writeSense_tellsOn (tells_beside (by simp) h) _ _

theorem directDrive_tellsOn (ch : ChannelId) (a : DriveAction) : Tells p₀ (p.directDrive ch a) := by
  unfold Part.directDrive
  split
  · exact tells_beside (by simp) h
  · exact tells_beside (by simp) h
  · split
    · exact derive_tellsOn h ch
    · exact h

theorem stopLineAsserted_tellsOn : Tells p₀ p.stopLineAsserted := by
  unfold Part.stopLineAsserted
  split
  · exact report_tellsOn (tells_beside (by simp) h) _
  · exact h

theorem stopLineReleased_tellsOn : Tells p₀ p.stopLineReleased := by
  unfold Part.stopLineReleased
  split
  · exact releaseStop_tellsOn h
  · exact h

theorem stopFirstTaken_tellsOn (level : Level) : Tells p₀ (p.stopFirstTaken level) := by
  unfold Part.stopFirstTaken
  split
  · split
    · exact tells_beside (by simp) h
    · exact tells_beside (by simp) h
  · exact h

/-! ### Units -/

theorem reportEquipment_tellsOn (u : UnitId) (e : EquipmentEvent) (before : UnitState) :
    Tells p₀ (p.reportEquipment u e before) := report_tellsOn h _

theorem takeFeedback_tellsOn (u : UnitId) (level : Level) : Tells p₀ (p.takeFeedback u level) := by
  unfold Part.takeFeedback
  split
  · exact h
  · exact tells_trans (putUnit_tellsOn h _ _) (feedbackActs_tells _ u)

theorem proveFails_tellsOn (u : UnitId) : Tells p₀ (p.proveFails u) := by
  unfold Part.proveFails
  split
  · exact tellNews_tellsOn (raise_tellsOn (reportEquipment_tellsOn (setUnit_tellsOn h _ _) _ _ _) _) _ _
  · exact h

theorem stopByLine_tellsOn (u : UnitId) : Tells p₀ (p.stopByLine u) := by
  have stopped : ∀ l x, Tells p₀ (((p.modWash l fun w => w.dropUnit u).setUnit u x).reportEquipment u .stopped
      (p.unit u).state) := fun l x => reportEquipment_tellsOn (setUnit_tellsOn (modWash_tellsOn h _ _) _ _) _ _ _
  unfold Part.stopByLine
  dsimp only
  split
  case h_3 => exact h
  all_goals
    split
    · exact tellNews_tellsOn (serveWait_tellsOn (stopped _ _) u) _ _
    · exact stopped _ _

theorem lockUnit_tellsOn (u : UnitId) : Tells p₀ (p.lockUnit u) :=
  tellNews_tellsOn (reportEquipment_tellsOn (setUnit_tellsOn h _ _) _ _ _) _ _

theorem restoreUnit_tellsOn (u : UnitId) (e : EquipmentEvent) : Tells p₀ (p.restoreUnit u e) :=
  tellNews_tellsOn (reportEquipment_tellsOn (serveWait_tellsOn (setUnit_tellsOn h _ _) u) _ _ _) _ _

/-! ### Lanes -/

theorem join_tellsOn (l : LaneId) (c : HoldCause) : Tells p₀ (p.join l c) := tells_trans h (join_tells p l c)

theorem joinIf_tellsOn (l : LaneId) (c : HoldCause) : Tells p₀ (p.joinIf l c) := tells_trans h (joinIf_tells p l c)

theorem resumeIfClear_tellsOn (l : LaneId) : Tells p₀ (p.resumeIfClear l) := tells_trans h (resumeIfClear_tells p l)

theorem enterPhase_tellsOn (l : LaneId) (r : Option (Option PhaseEnd)) : Tells p₀ (p.enterPhase l r) :=
  tells_trans h (enterPhase_tells p l r)

theorem testCause_tellsOn (l : LaneId) (c : HoldCause) : Tells p₀ (p.testCause l c) :=
  resumeIfClear_tellsOn (leaveIf_tellsOn (joinIf_tellsOn h l c) l c) l

theorem handOff_tellsOn (l : LaneId) (f : FilterId) (slot : SlotId) (s : Share) : Tells p₀ (p.handOff l f slot s) := by
  unfold Part.handOff
  exact enterPhase_tellsOn (putLane_tellsOn (dropLane_tellsOn h l) l _) l _

theorem checkAborted_tellsOn (l : LaneId) : Tells p₀ (p.checkAborted l) := by
  unfold Part.checkAborted
  split
  · split
    · split
      · exact laneIdle_tellsOn (report_tellsOn (abortWash_tellsOn h _ _) _) l
      · exact h
    · exact h
  · exact h

theorem abortLane_tellsOn (l : LaneId) (c : AbortCause) : Tells p₀ (p.abortLane l c) := by
  unfold Part.abortLane
  split
  · exact checkAborted_tellsOn (orderRoles_tellsOn (releaseAll_tellsOn
      (putLane_tellsOn (cancel_tellsOn (dropRun_tellsOn h l) _) _ _) l) _ _ _ _) l
  · exact h

theorem washDone_tellsOn (l : LaneId) (w : Wash) (d : Destination) : Tells p₀ (p.washDone l w d) :=
  laneIdle_tellsOn (report_tellsOn (changeFilter_tellsOn h _ _) _) l

theorem checkReturned_tellsOn (l : LaneId) : Tells p₀ (p.checkReturned l) := by
  unfold Part.checkReturned
  split
  · split
    · split
      · exact washDone_tellsOn h _ _ _
      · exact h
    · exact h
  · exact h

theorem checkReturnClosed_tellsOn (l : LaneId) : Tells p₀ (p.checkReturnClosed l) := by
  unfold Part.checkReturnClosed
  split
  · split
    · split
      · exact checkReturned_tellsOn (orderRoles_tellsOn (putLane_tellsOn h _ _) _ _ _ _) l
      · exact h
    · exact h
  · exact h

theorem startReturn_tellsOn (l : LaneId) (f : FilterId) : Tells p₀ (p.startReturn l f) :=
  checkReturnClosed_tellsOn (orderRoles_tellsOn (releaseAll_tellsOn (modWash_tellsOn (destination_tellsOn h f) _ _) l) _ _ _ _) l

theorem endPhase_tellsOn (l : LaneId) (how : PhaseEnd) : Tells p₀ (p.endPhase l how) := by
  unfold Part.endPhase
  split
  · dsimp only
    split
    · exact enterPhase_tellsOn (putAmounts_tellsOn (putLane_tellsOn (dropRun_tellsOn h l) _ _) _ _) _ _
    · exact startReturn_tellsOn (putAmounts_tellsOn (putLane_tellsOn (dropRun_tellsOn h l) _ _) _ _) _ _
  · exact h

theorem endRunning_tellsOn (l : LaneId) (how : PhaseEnd) : Tells p₀ (p.endRunning l how) := by
  unfold Part.endRunning
  split
  · split
    · exact endPhase_tellsOn h l how
    · exact h
  · exact h

theorem settleDrift_tellsOn (l : LaneId) (r : Role) : Tells p₀ (p.settleDrift l r) := by
  unfold Part.settleDrift
  split
  · split
    · dsimp only
      split
      · exact putLane_tellsOn h _ _
      · exact resumeIfClear_tellsOn (leave_tellsOn (putLane_tellsOn h _ _) _ _) l
    · exact h
  · exact h

theorem advanceLane_tellsOn (l : LaneId) : Tells p₀ (p.advanceLane l) := by
  unfold Part.advanceLane
  split
  · split
    · exact tells_trans h (checkClosed_tells p l)
    · exact tells_trans h (checkOpened_tells p l)
    · exact checkAborted_tellsOn h l
    · exact checkReturnClosed_tellsOn h l
    · exact checkReturned_tellsOn h l
    · exact h
  · exact h

theorem laneArrival_tellsOn (l : LaneId) (r : Role) : Tells p₀ (p.laneArrival l r) :=
  advanceLane_tellsOn (settleDrift_tellsOn h l r) l

theorem laneDrift_tellsOn (l : LaneId) (r : Role) : Tells p₀ (p.laneDrift l r) := by
  unfold Part.laneDrift
  split
  · split
    · exact h
    · split
      · exact settleDrift_tellsOn (reorderRole_tellsOn (join_tellsOn (putLane_tellsOn h _ _) _ _) _ _ _) l r
      · exact advanceLane_tellsOn (reorderRole_tellsOn h _ _ _) l
  · exact h

theorem laneFault_tellsOn (l : LaneId) : Tells p₀ (p.laneFault l) := by
  unfold Part.laneFault
  split
  · split
    · exact checkAborted_tellsOn (putLane_tellsOn h _ _) l
    · exact abortLane_tellsOn h l .channel
  · exact h

theorem laneGrant_tellsOn (l : LaneId) (u : UnitId) : Tells p₀ (p.laneGrant l u) := by
  unfold Part.laneGrant
  split
  · exact tells_trans (modWash_tellsOn h _ _) (checkAcquired_tells _ l)
  · exact h

theorem laneProveFailed_tellsOn (l : LaneId) (u : UnitId) : Tells p₀ (p.laneProveFailed l u) := by
  unfold Part.laneProveFailed
  split
  · rename_i w _
    have k : Tells p₀ (p.putLane l (some (w.dropUnit u))) := putLane_tellsOn h _ _
    split
    · dsimp only
      split
      · split
        · exact k
        · exact tells_beside (by simp) k
      · exact join_tellsOn k l _
    · exact h
  · exact h

theorem laneTripped_tellsOn (l : LaneId) (u : UnitId) : Tells p₀ (p.laneTripped l u) := by
  unfold Part.laneTripped
  split
  · split
    · exact resumeIfClear_tellsOn (leaveIf_tellsOn (join_tellsOn (putLane_tellsOn h _ _) _ _) _ _) l
    · exact h
  · exact h

theorem laneNews_tellsOn (l : LaneId) (n : UnitNews) : Tells p₀ (p.laneNews l n) := by
  unfold Part.laneNews
  split
  · exact resumeIfClear_tellsOn (leaveIf_tellsOn h _ _) l
  · exact joinIf_tellsOn h l _
  · exact joinIf_tellsOn h l _

theorem laneStopped_tellsOn (l : LaneId) : Tells p₀ (p.laneStopped l) := by
  unfold Part.laneStopped
  split
  · split
    · exact putLane_tellsOn h _ _
    · exact join_tellsOn h l .inhibit
  · exact h

theorem heldAfterRelease_tellsOn (l : LaneId) (w : Wash) : Tells p₀ (p.heldAfterRelease l w) := by
  unfold Part.heldAfterRelease
  exact foldl_tellsOn (fun r k => settleDrift_tellsOn k l r) _ <|
    foldl_tellsOn (fun r k => reorderRole_tellsOn k l w.filter r) _ (orderRoles_tellsOn h _ _ _ _)

theorem laneReleased_tellsOn (l : LaneId) : Tells p₀ (p.laneReleased l) := by
  have again : ∀ f (roles : List Role), Tells p₀ ((roles.foldl (init := p) fun p r => p.reorderRole l f r).advanceLane l) :=
    fun f roles => advanceLane_tellsOn (foldl_tellsOn (fun r k => reorderRole_tellsOn k l f r) roles h) l
  have k : Tells p₀ (p.releaseInhibit l) := tells_beside (by simp) h
  unfold Part.laneReleased
  split
  · exact h
  · split
    · dsimp only
      split
      · split
        · exact resumeIfClear_tellsOn k l
        · exact heldAfterRelease_tellsOn k l _
      · exact k
    · exact again _ _
    · exact again _ _
    · exact h

theorem lanePoint_tellsOn (l : LaneId) (id : PointId) : Tells p₀ (p.lanePoint l id) := by
  unfold Part.lanePoint
  split
  · exact testCause_tellsOn h l _
  · exact testCause_tellsOn h l _
  · exact tells_beside (by simp) h
  · exact h
  · exact h

theorem laneResume_tellsOn (l : LaneId) : Tells p₀ (p.laneResume l) := resumeIfClear_tellsOn (modWash_tellsOn h _ _) l

theorem holdLimitFalls_tellsOn (l : LaneId) : Tells p₀ (p.holdLimitFalls l) := by
  unfold Part.holdLimitFalls
  split
  · split
    · exact abortLane_tellsOn h l _
    · exact h
  · exact h

/-! ### The admission scan -/

theorem loadingStep_tellsOn (e : Entry) : Tells p₀ (p.loadingStep e).1 := by
  have k : ∀ f a, Tells p₀ (p.loadingTest f a).1 := fun f a => setFlags_tellsOn h _ _
  unfold Part.loadingStep
  split
  · split
    · dsimp only
      split
      · exact k _ _
      · split
        · exact k _ _
        · split
          · exact startSubstitution_tellsOn (k _ _) _
          · exact k _ _
    · exact h
  · exact h

theorem tests_tellsOn (e : Entry) : Tells p₀ (p.tests e).1 := by
  have k := loadingStep_tellsOn h e
  unfold Part.tests
  split
  · exact h
  · split
    · exact h
    · split
      · exact h
      · split
        · exact h
        · dsimp only
          split
          · rename_i q b hq
            rw [hq] at k
            exact k
          · rename_i q hq
            rw [hq] at k
            split
            · exact k
            · split
              · exact k
              · exact k

theorem admitEntry_tellsOn (e : Entry) : Tells p₀ (p.admitEntry e) := by
  unfold Part.admitEntry
  split
  · exact h
  · rename_i l _
    have k : Tells p₀ ((p.dropEntry e.filter .admitted).setWashing e.filter l) :=
      changeFilter_tellsOn (dropEntry_tellsOn h _ _) _ _
    exact trigger_tellsOn (handOff_tellsOn (report_tellsOn (tells_beside (by simp) k) _) _ _ _ _)

theorem propose_tellsOn (e : Entry) : Tells p₀ (p.propose e) :=
  report_tellsOn (cancel_tellsOn (tells_beside (by simp) h) _) _

theorem earlyRule_tellsOn : Tells p₀ p.earlyRule := by
  unfold Part.earlyRule
  split
  · split
    · rename_i f u _
      exact tells_beside (by simp) (addEntry_tellsOn h f .early .auto u none)
    · exact h
  · exact h

theorem testHead_tellsOn (e : Entry) : Tells p₀ (p.testHead e) := by
  have k := tests_tellsOn h e
  unfold Part.testHead
  split
  · rename_i q b hq
    rw [hq] at k
    exact setBlocked_tellsOn k _
  · rename_i q hq
    rw [hq] at k
    split
    · exact setBlocked_tellsOn (propose_tellsOn k e) _
    · exact setBlocked_tellsOn (admitEntry_tellsOn k e) _

theorem scan_tellsOn : Tells p₀ p.scan := by
  have k := earlyRule_tellsOn h
  unfold Part.scan
  split
  · exact setBlocked_tellsOn h _
  · dsimp only
    split
    · exact setBlocked_tellsOn k _
    · split
      · split
        · exact testHead_tellsOn (withdraw_tellsOn k _ _) _
        · exact setBlocked_tellsOn k _
      · exact testHead_tellsOn k _

theorem runScan_tellsOn : Tells p₀ p.runScan := by
  unfold Part.runScan
  split
  · exact scan_tellsOn (tells_beside (by simp) h)
  · exact h

/-! ### Start-up, silence and the plant record -/

theorem restartSilence_tellsOn : Tells p₀ p.restartSilence := tells_beside (by simp) h

theorem opened_tellsOn : Tells p₀ { p with startUp := { p.startUp with top := .operating, survey := none, readyCall := true } } :=
  tells_beside (by simp) h

theorem silenceFalls_tellsOn : Tells p₀ p.silenceFalls :=
  report_tellsOn (changeMode_tellsOn (tells_beside (q := { p.setSilence none with
    startUp := { (p.setSilence none).startUp with silent := true } }) (by simp) h) _) _

theorem surveyFilter_tellsOn (f : FilterId) : Tells p₀ (p.surveyFilter f) := by
  unfold Part.surveyFilter
  split
  · exact moveFilter_tellsOn h _ _
  · exact h

theorem endSurvey_tellsOn : Tells p₀ p.endSurvey := by
  unfold Part.endSurvey
  split
  · dsimp only
    refine raiseAll_tellsOn (trigger_tellsOn (computeLoading_tellsOn ?_)) _
    refine restartSilence_tellsOn (opened_tellsOn (report_tellsOn ?_ _))
    exact foldl_tellsOn (fun f k => surveyFilter_tellsOn k f) _ (foldl_tellsOn (fun ch k => derive_tellsOn k ch) _ h)
  · exact h

theorem applyPlant_tellsOn (r : PlantRecord) : Tells p₀ (p.applyPlant r) := by
  obtain ⟨bs, told⟩ := applyPlant_reports p r
  exact tells_trans h (tells_of_reports ((applyPlant_keeps r (by simp)).2 (onlyChanges_refl _ _)) told)

end Tells

end Sys2Proof.Laws
end

section
/-! SUPPORT. What a command's answer does to the link port: it may clear the counters it reads, move the cursor or accept a
SOFT_RESET (R19, R174, R181, R185), and it makes reports. -/

namespace Sys2Proof.Laws

open Sys2Proof.Machine

/-! ### The link port as a command leaves it, but for reports -/

/-- The buffers as they were; counters, cursor and an accepted SOFT_RESET may be new. -/
structure Recounted (k k' : LinkPort) : Prop where
  rx : k'.rx = k.rx
  queue : k'.queue = k.queue
  reply : k'.reply = k.reply
  reports : k'.reports = k.reports
  sending : k'.sending = k.sending
  seq : k'.seq = k.seq
  errors : k'.errors ≤ k.errors
  softReset : k'.softReset = k.softReset ∨ k'.softReset = .waiting

theorem recounted_refl (k : LinkPort) : Recounted k k := ⟨rfl, rfl, rfl, rfl, rfl, rfl, le_refl _, .inl rfl⟩

/-- The link recounted, then moved by reports alone. -/
def Answered (p q : Part) : Prop := ∃ k, Recounted p.link k ∧ Tells { p with link := k } q

theorem answered_tells {p q : Part} (h : Tells p q) : Answered p q := ⟨p.link, recounted_refl _, h⟩

theorem answered_recounted {p q : Part} (hc : q.clock = p.clock) (h : Recounted p.link q.link) : Answered p q :=
  ⟨q.link, h, tells_quiet hc rfl⟩

/-! ### The commands that only report -/

theorem putFilter_only (p : Part) (f : FilterId) : OnlyChanges besideLink p (p.putFilter f none) := by simp

section Tells
variable {p₀ p : Part} (h : Tells p₀ p)
include h

theorem answerSetFilter_tellsOn (f form : Byte) (c : RawFilter) : Tells p₀ (answerSetFilter p f form c).1 := by
  refine answer_unlessSurveying h (answer_named h fun f => ?_)
  split
  · refine answer_unlessFails h (answer_named h fun cfg => ?_)
    show Tells p₀ (p.defineFilter f cfg)
    unfold Part.defineFilter
    split
    · exact tells_beside (by simp) h
    · exact reportFilter_tellsOn (tells_beside (by simp) h) _ _
  · split
    · unfold answerUndefine
      split
      · exact h
      · split
        · exact releaseWindow_tellsOn (reportFilter_tellsOn (tells_beside (putFilter_only p f) h) f _) f
        · exact h
    · exact h

theorem answerPutIn_tellsOn (f c : Byte) : Tells p₀ (answerPutIn p f c).1 := by
  refine answer_onFilter h fun f r => answer_named h fun dirty => answer_unlessFails h <| answer_unlessFails h <|
    answer_unlessFails h ?_
  show Tells p₀ (p.putIn f dirty)
  unfold Part.putIn
  split
  · exact addEntry_tellsOn (changeFilter_tellsOn h _ _) _ _ _ _ _
  · exact changeFilter_tellsOn h _ _

theorem answerToStandby_tellsOn (f : Byte) : Tells p₀ (answerToStandby p f).1 := by
  refine answer_onFilter h fun f r => answer_unlessFails h (answer_unlessFails h ?_)
  have tested : Tells p₀ (p.loadingTest f r.cfg.area).1 := setFlags_tellsOn h _ _
  exact answer_unlessFails tested (startTransfer_tellsOn tested f .toStandby)

theorem answerRequestWash_tellsOn (f o : Byte) : Tells p₀ (answerRequestWash p f o).1 := by
  refine answer_onFilter h fun f r => answer_named h fun o => ?_
  split
  · exact addEntry_tellsOn h _ _ _ _ _
  · exact addEntry_tellsOn h _ _ _ _ _
  · split
    case h_4 | h_5 | h_6 => exact h
    all_goals exact upgradeManual_tellsOn h _ _
  · exact h

theorem answerCancelRequest_tellsOn (f : Byte) : Tells p₀ (answerCancelRequest p f).1 := by
  refine answer_onFilter h fun f r => ?_
  split
  · exact h
  · split
    case h_1 | h_2 => exact expelEntry_tellsOn h _ _
    all_goals exact h

theorem answerDefer_tellsOn (f : Byte) (m : Half) : Tells p₀ (answerDefer p f m).1 := by
  refine answer_onFilter h fun f r => answer_unlessFails h ?_
  split
  · exact h
  · exact setDefer_tellsOn h _ _

theorem answerAcceptEntry_tellsOn (e : Entry) : Tells p₀ (answerAcceptEntry p e).1 := by
  have k := tests_tellsOn h e
  unfold answerAcceptEntry
  split
  · rename_i q b hq
    rw [hq] at k
    exact withdraw_tellsOn k _ _
  · rename_i q hq
    rw [hq] at k
    exact admitEntry_tellsOn (tells_beside (by simp) k) e

theorem answerAccept_tellsOn (f : Byte) : Tells p₀ (answerAccept p f).1 := by
  refine answer_inOperating h (answer_named h fun f => ?_)
  split
  · split
    · exact answerAcceptEntry_tellsOn h _
    · exact h
  · exact h

theorem answerDecline_tellsOn (f : Byte) (m : Half) : Tells p₀ (answerDecline p f m).1 := by
  refine answer_inOperating h (answer_named h fun f => answer_unlessFails h ?_)
  split
  · split
    · exact decline_tellsOn h _ _
    · exact h
  · exact h

theorem answerAbortLane_tellsOn (l : LaneId) : Tells p₀ (answerAbortLane p l).1 :=
  answer_unlessFails h (abortLane_tellsOn h l .host)

theorem answerAbort_tellsOn (form target : Byte) : Tells p₀ (answerAbort p form target).1 := by
  refine answer_inOperating h ?_
  split
  · exact answer_named h fun l => answerAbortLane_tellsOn h l
  · split
    · refine answer_named h fun f => ?_
      split
      · exact answerAbortLane_tellsOn h _
      · exact h
    · exact h

theorem answerEquipment_tellsOn (u a : Byte) : Tells p₀ (answerEquipment p u a).1 := by
  refine answer_unlessSurveying h (answer_named h fun u => answer_named h fun a => ?_)
  cases a <;> dsimp only
  case lock =>
    unfold answerLockUnit
    split
    case h_5 | h_6 | h_7 => exact lockUnit_tellsOn h u
    all_goals exact h
  case unlock =>
    unfold answerUnlockUnit
    split
    · exact restoreUnit_tellsOn h u _
    · exact h
  case resetFault =>
    unfold answerResetUnit
    split
    · exact restoreUnit_tellsOn h u _
    · exact h

theorem answerDirectDrive_tellsOn (a : Byte) : Tells p₀ (answerDirectDrive p a).1 := by
  refine answer_unlessSurveying h (answer_named h fun a => ?_)
  split
  · exact h
  · exact answer_unlessFails h <| answer_unlessFails h <| answer_unlessFails h <| answer_unlessFails h <|
      directDrive_tellsOn h _ a

end Tells

/-! ### Every command -/

theorem answerChunk_answered (p : Part) (start : Nat) : Answered p (answerChunk p start).1 := by
  unfold answerChunk
  dsimp only
  split
  · exact answered_recounted rfl ⟨rfl, rfl, rfl, rfl, rfl, rfl, le_refl _, .inl rfl⟩
  · exact answered_recounted rfl ⟨rfl, rfl, rfl, rfl, rfl, rfl, le_refl _, .inl rfl⟩

/-- R176: no command does more to the link than clear what it reads, move the cursor, accept a SOFT_RESET, and report. -/
theorem answer_answered (p : Part) (c : HostCommand) : Answered p (p.answer c).1 := by
  have h := tells_refl p
  have same : Answered p p := answered_tells h
  cases c
  case getStatus => exact answered_recounted rfl ⟨rfl, rfl, rfl, rfl, rfl, rfl, le_refl _, .inl rfl⟩
  case getLinkErrors => exact answered_recounted rfl ⟨rfl, rfl, rfl, rfl, rfl, rfl, Nat.zero_le _, .inl rfl⟩
  case softReset =>
    exact answer_unlessSurveying same (answered_recounted rfl ⟨rfl, rfl, rfl, rfl, rfl, rfl, le_refl _, .inr rfl⟩)
  case filtersFirst b => exact answer_unlessSurveying same (answer_named same fun _ => answerChunk_answered p _)
  case filtersNext =>
    refine answer_unlessSurveying same ?_
    split
    · exact same
    · exact answerChunk_answered p _
  all_goals refine answered_tells ?_
  case getIdent | ping => exact h
  case clearSilence | clearCalc => exact answer_unlessSurveying h (tells_beside (by simp [okay]) h)
  case getLanes | getEquipment | getChannelFault => exact answer_unlessSurveying h h
  case commission =>
    refine answer_unlessSurveying h (answer_unlessFails h ?_)
    split
    · exact h
    · exact tells_beside (by simp [okay]) h
  case setPlant r =>
    exact answer_unlessSurveying h (answer_named h fun x => answer_unlessFails h (applyPlant_tellsOn h x))
  case setMode m => exact answer_inOperating h (answer_named h fun m => changeMode_tellsOn h m)
  case setMask m => exact answer_inOperating h (answer_named h fun m => changeMask_tellsOn h m)
  case getLoading => exact answer_inOperating h (computeLoading_tellsOn h)
  case setPoint pt src i lo hi =>
    exact answer_unlessSurveying h <| answer_named h fun id => answer_named h fun src => answer_unlessFails h <|
      answer_unlessFails h (startPoint_tellsOn h id src)
  case putMeasure n rest =>
    exact answer_unlessSurveying h <| answer_unlessFails h <| answer_named h fun xs => answer_unlessFails h <|
      answer_unlessFails h (foldl_tellsOn (fun x k => push_tellsOn k x.1 x.2) xs h)
  case getPoints | getChannels => exact answer_unlessSurveying h (answer_unlessFails h h)
  case setFilter f form c => exact answerSetFilter_tellsOn h f form c
  case takeOut f =>
    exact answer_onFilter h fun f _ => answer_unlessFails h (changeFilter_tellsOn (expelEntry_tellsOn h f .takenOut) _ _)
  case putIn f c => exact answerPutIn_tellsOn h f c
  case clearFault f => exact answer_onFilter h fun f _ => answer_unlessFails h (changeFilter_tellsOn h f _)
  case toStandby f => exact answerToStandby_tellsOn h f
  case toService f =>
    exact answer_onFilter h fun f _ => answer_unlessFails h (answer_unlessFails h (startTransfer_tellsOn h f _))
  case requestWash f o => exact answerRequestWash_tellsOn h f o
  case cancelRequest f => exact answerCancelRequest_tellsOn h f
  case defer f m => exact answerDefer_tellsOn h f m
  case getQueue k =>
    refine answer_unlessSurveying h (answer_unlessFails h ?_)
    dsimp only
    split
    · exact h
    · exact h
  case accept f => exact answerAccept_tellsOn h f
  case decline f m => exact answerDecline_tellsOn h f m
  case recipeBegin slot n =>
    exact answer_unlessSurveying h <| answer_named h fun _ => answer_unlessFails h (tells_beside (by simp [okay]) h)
  case recipePhases n rest =>
    refine answer_unlessSurveying h ?_
    split
    · exact tells_beside (by simp) h
    · exact h
  case recipeErase slot =>
    exact answer_unlessSurveying h <| answer_named h fun _ => answer_unlessFails h <| answer_unlessFails h
      (tells_beside (by simp [okay]) h)
  case getRecipeSignature slot => exact answer_unlessSurveying h (answer_named h fun _ => h)
  case getRecipe slot k =>
    refine answer_unlessSurveying h (answer_named h fun _ => answer_unlessFails h ?_)
    split
    · exact h
    · split
      · exact h
      · exact h
  case hold l => exact answer_inOperating h <| answer_named h fun l => answer_unlessFails h (join_tellsOn h l .host)
  case resume l => exact answer_inOperating h <| answer_named h fun l => answer_unlessFails h (laneResume_tellsOn h l)
  case abort form t => exact answerAbort_tellsOn h form t
  case equipmentCommand u a => exact answerEquipment_tellsOn h u a
  case mapValve f r c s =>
    exact answer_unlessSurveying h <| answer_named h fun f => answer_named h fun r => answer_named h fun c =>
      answer_named h fun s => answer_unlessFails h <| answer_unlessFails h <| answer_unlessFails h <|
      answer_unlessFails h (mapValve_tellsOn h f r c s)
  case lockChannel c a =>
    exact answer_unlessSurveying h <| answer_named h fun _ => answer_named h fun _ => answer_unlessFails h <|
      answer_unlessFails h (tells_beside (by simp) h)
  case directSelect c =>
    exact answer_unlessSurveying h <| answer_named h fun _ => answer_unlessFails h (tells_beside (by simp) h)
  case directDrive a => exact answerDirectDrive_tellsOn h a
  case clearChannel c =>
    exact answer_unlessSurveying h <| answer_named h fun ch => answer_unlessFails h <| answer_unlessFails h
      (deriveCleared_tellsOn h ch)

end Sys2Proof.Laws
end

section
/-! SUPPORT. The link port's own operations (R172 to R179): what sending, reporting, answering and receiving do to its buffers,
and that its bounds hold through all of them, and so through every row. -/

namespace Sys2Proof.Laws

open Sys2Proof.Machine

/-! ### Beginning a frame -/

/-- The transmitter is free and may begin a frame (R179, log 26). -/
def LinkFree (k : LinkPort) : Prop := k.sending = none ∧ k.softReset ≠ .sent

theorem beginSend_busy {k : LinkPort} (h : ¬ LinkFree k) : k.beginSend = k := by
  unfold LinkPort.beginSend
  rw [if_neg]
  simpa [LinkFree] using h

theorem beginSend_reply {k : LinkPort} {r : Reply} (h : LinkFree k) (hr : k.reply = some r) :
    k.beginSend = { k with sending := some (.reply r), reply := none } := by
  obtain ⟨hs, hx⟩ := h
  simp [LinkPort.beginSend, hs, hx, hr]

theorem beginSend_report {k : LinkPort} {r : Report} {rest : List Report} (h : LinkFree k) (hr : k.reply = none)
    (hq : k.reports = r :: rest) : k.beginSend = { k with sending := some (.report r), reports := rest } := by
  obtain ⟨hs, hx⟩ := h
  simp [LinkPort.beginSend, hs, hx, hr, hq]

theorem beginSend_idle {k : LinkPort} (hr : k.reply = none) (hq : k.reports = []) : k.beginSend = k := by
  simp [LinkPort.beginSend, hr, hq]

/-- What a free transmitter does: it begins the reply, else the oldest report, else nothing. -/
theorem beginSend_cases (k : LinkPort) :
    k.beginSend = k ∧ (LinkFree k → k.reply = none ∧ k.reports = []) ∨
    (∃ r, k.reply = some r ∧ LinkFree k ∧ k.beginSend = { k with sending := some (.reply r), reply := none }) ∨
    ∃ r rest, k.reply = none ∧ k.reports = r :: rest ∧ LinkFree k ∧
      k.beginSend = { k with sending := some (.report r), reports := rest } := by
  by_cases h : LinkFree k
  · obtain hr | ⟨r, hr⟩ := Option.eq_none_or_eq_some k.reply
    · by_cases hq : k.reports = []
      · exact .inl ⟨beginSend_idle hr hq, fun _ => ⟨hr, hq⟩⟩
      · obtain ⟨r, rest, hq⟩ := List.exists_cons_of_ne_nil hq
        exact .inr (.inr ⟨r, rest, hr, hq, h, beginSend_report h hr hq⟩)
    · exact .inr (.inl ⟨r, hr, h, beginSend_reply h hr⟩)
  · exact .inl ⟨beginSend_busy h, fun free => (h free).elim⟩

@[simp] theorem beginSend_queue (k : LinkPort) : k.beginSend.queue = k.queue := by
  obtain ⟨e, -⟩ | ⟨_, -, -, e⟩ | ⟨_, _, -, -, -, e⟩ := beginSend_cases k <;> rw [e]

@[simp] theorem beginSend_softReset (k : LinkPort) : k.beginSend.softReset = k.softReset := by
  obtain ⟨e, -⟩ | ⟨_, -, -, e⟩ | ⟨_, _, -, -, -, e⟩ := beginSend_cases k <;> rw [e]

/-! ### The bounds, part by part -/

/-- Receive process, buffers and counters within their sizes (R172, R174, R175, R178). -/
structure LinkSized (k : LinkPort) : Prop where
  rx : ∀ got, k.rx = .assembling got → Collecting got
  queue : k.queue.length ≤ 2
  reports : k.reports.length ≤ 24
  seq : k.seq < 65536
  errors : k.errors ≤ 127

/-- Frames wait only while a reply does or a SOFT_RESET is accepted (R176, R185). -/
def FramesWait (k : LinkPort) : Prop := k.queue ≠ [] → k.reply ≠ none ∨ k.softReset ≠ .none

/-- A transmitter that may begin a frame has none to begin (R179). -/
def NothingWaits (k : LinkPort) : Prop := LinkFree k → k.reply = none ∧ k.reports = []

theorem linkInBounds_iff (p : Part) : LinkInBounds p ↔ LinkSized p.link ∧ FramesWait p.link ∧ NothingWaits p.link :=
  ⟨fun ⟨rx, queue, reports, seq, errors, wait, idle⟩ =>
    ⟨⟨rx, queue, reports, seq, errors⟩, wait, fun ⟨hs, hx⟩ => idle hs hx⟩,
    fun ⟨⟨rx, queue, reports, seq, errors⟩, wait, idle⟩ =>
      ⟨rx, queue, reports, seq, errors, wait, fun hs hx => idle ⟨hs, hx⟩⟩⟩

theorem inBounds_of_link {p q : Part} (h : q.link = p.link) (k : LinkInBounds p) : LinkInBounds q := by
  unfold LinkInBounds; rw [h]; exact k

theorem inBounds_initial {p : Part} {rate : Rate} (h : p.link = LinkPort.initial rate) : LinkInBounds p := by
  unfold LinkInBounds
  rw [h]
  simp [LinkPort.initial]

/-! ### Sending and reporting within the bounds -/

theorem beginSend_sized {k : LinkPort} (h : LinkSized k) : LinkSized k.beginSend := by
  obtain ⟨e, -⟩ | ⟨_, -, -, e⟩ | ⟨_, rest, -, hq, -, e⟩ := beginSend_cases k
  · rwa [e]
  · rw [e]; exact ⟨h.rx, h.queue, h.reports, h.seq, h.errors⟩
  · have fewer : rest.length ≤ 24 := Nat.le_of_succ_le (hq ▸ h.reports : (_ :: rest).length ≤ 24)
    rw [e]; exact ⟨h.rx, h.queue, fewer, h.seq, h.errors⟩

theorem beginSend_nothingWaits (k : LinkPort) : NothingWaits k.beginSend := by
  obtain ⟨e, none⟩ | ⟨_, -, -, e⟩ | ⟨_, _, -, -, -, e⟩ := beginSend_cases k
  · rw [e]; exact none
  · rw [e]; exact fun free => absurd free.1 (by simp)
  · rw [e]; exact fun free => absurd free.1 (by simp)

/-- No reply leaves the buffer that a frame could be waiting for. -/
theorem beginSend_framesWait {k : LinkPort} (h : FramesWait k) (free : LinkFree k → k.reply = none) :
    FramesWait k.beginSend := by
  obtain ⟨e, -⟩ | ⟨_, hr, hf, -⟩ | ⟨_, _, -, -, -, e⟩ := beginSend_cases k
  · rwa [e]
  · rw [free hf] at hr; cases hr
  · rw [e]; exact h

/-- R178 before the transmitter looks: the report numbered and queued, or lost. -/
def queuedReport (t : Nat) (k : LinkPort) (b : ReportBody) : LinkPort :=
  let k' := { k with seq := (k.seq + 1) % 65536 }
  if k.reports.length < 24 then { k' with reports := k.reports ++ [⟨k.seq, t, b⟩] } else { k' with reportLoss := true }

theorem afterReports_cons (t : Nat) (k : LinkPort) (b : ReportBody) (bs : List ReportBody) :
    afterReports t k (b :: bs) = afterReports t (queuedReport t k b).beginSend bs := rfl

theorem queuedReport_cases (t : Nat) (k : LinkPort) (b : ReportBody) :
    (k.reports.length < 24 ∧
      queuedReport t k b = { k with seq := (k.seq + 1) % 65536, reports := k.reports ++ [⟨k.seq, t, b⟩] }) ∨
    queuedReport t k b = { k with seq := (k.seq + 1) % 65536, reportLoss := true } := by
  unfold queuedReport
  dsimp only
  split
  · exact .inl ⟨‹_›, rfl⟩
  · exact .inr rfl

theorem queuedReport_sized {k : LinkPort} (t : Nat) (b : ReportBody) (h : LinkSized k) : LinkSized (queuedReport t k b) := by
  have seq : (k.seq + 1) % 65536 < 65536 := Nat.mod_lt _ (by decide)
  obtain ⟨room, e⟩ | e := queuedReport_cases t k b
  · rw [e]; exact ⟨h.rx, h.queue, by simpa using room, seq, h.errors⟩
  · rw [e]; exact ⟨h.rx, h.queue, h.reports, seq, h.errors⟩

theorem afterReports_sized (t : Nat) (bs : List ReportBody) :
    ∀ {k : LinkPort}, LinkSized k → LinkSized (afterReports t k bs) := by
  induction bs with
  | nil => exact fun h => h
  | cons b bs ih =>
    intro k h
    rw [afterReports_cons]
    exact ih (beginSend_sized (queuedReport_sized t b h))

theorem afterReports_nothingWaits (t : Nat) (bs : List ReportBody) :
    ∀ {k : LinkPort}, NothingWaits k → NothingWaits (afterReports t k bs) := by
  induction bs with
  | nil => exact fun h => h
  | cons b bs ih =>
    intro k _
    rw [afterReports_cons]
    exact ih (beginSend_nothingWaits _)

theorem afterReports_framesWait (t : Nat) (bs : List ReportBody) :
    ∀ {k : LinkPort}, FramesWait k → NothingWaits k → FramesWait (afterReports t k bs) := by
  induction bs with
  | nil => exact fun h _ => h
  | cons b bs ih =>
    intro k wait idle
    have queued : FramesWait (queuedReport t k b) ∧ (LinkFree (queuedReport t k b) → (queuedReport t k b).reply = none) := by
      obtain ⟨-, e⟩ | e := queuedReport_cases t k b <;> rw [e] <;> exact ⟨wait, fun free => (idle free).1⟩
    obtain ⟨waits, reply⟩ := queued
    rw [afterReports_cons]
    exact ih (beginSend_framesWait waits reply) (beginSend_nothingWaits _)

/-- Reports leave the receive queue and an accepted SOFT_RESET alone. -/
theorem afterReports_kept (t : Nat) (bs : List ReportBody) : ∀ k : LinkPort,
    (afterReports t k bs).queue = k.queue ∧ (afterReports t k bs).softReset = k.softReset := by
  induction bs with
  | nil => exact fun _ => ⟨rfl, rfl⟩
  | cons b bs ih =>
    intro k
    have queued : (queuedReport t k b).queue = k.queue ∧ (queuedReport t k b).softReset = k.softReset := by
      obtain ⟨-, e⟩ | e := queuedReport_cases t k b <;> rw [e] <;> exact ⟨rfl, rfl⟩
    obtain ⟨hq, hx⟩ := ih (queuedReport t k b).beginSend
    rw [beginSend_queue] at hq
    rw [beginSend_softReset] at hx
    rw [afterReports_cons]
    exact ⟨hq.trans queued.1, hx.trans queued.2⟩

/-- Reports wait while a frame is being sent. -/
theorem afterReports_sending (t : Nat) {m : OutMsg} (bs : List ReportBody) : ∀ {k : LinkPort}, k.sending = some m →
    (afterReports t k bs).sending = some m := by
  induction bs with
  | nil => exact fun h => h
  | cons b bs ih =>
    intro k h
    have queued : (queuedReport t k b).sending = some m := by
      obtain ⟨-, e⟩ | e := queuedReport_cases t k b <;> rw [e] <;> exact h
    have busy : ¬ LinkFree (queuedReport t k b) := fun ⟨free, _⟩ => by rw [free] at queued; cases queued
    rw [afterReports_cons, beginSend_busy busy]
    exact ih queued

/-- What only reports stays within the bounds. -/
theorem tells_inBounds {p q : Part} (h : Tells p q) (k : LinkInBounds p) : LinkInBounds q := by
  obtain ⟨-, bs, e⟩ := h
  obtain ⟨sized, wait, idle⟩ := (linkInBounds_iff p).1 k
  rw [linkInBounds_iff, e]
  exact ⟨afterReports_sized _ bs sized, afterReports_framesWait _ bs wait idle, afterReports_nothingWaits _ bs idle⟩

/-! ### Commands and frames -/

theorem recounted_sized {k k' : LinkPort} (h : Recounted k k') (s : LinkSized k) : LinkSized k' :=
  ⟨h.rx ▸ s.rx, h.queue ▸ s.queue, h.reports ▸ s.reports, h.seq ▸ s.seq, h.errors.trans s.errors⟩

theorem answered_sized {p q : Part} (h : Answered p q) (s : LinkSized p.link) : LinkSized q.link := by
  obtain ⟨k, hk, -, bs, e⟩ := h
  rw [e]
  exact afterReports_sized _ bs (recounted_sized hk s)

theorem answered_queue {p q : Part} (h : Answered p q) : q.link.queue = p.link.queue := by
  obtain ⟨k, hk, -, bs, e⟩ := h
  rw [e]
  exact (afterReports_kept _ bs k).1.trans hk.queue

theorem answered_softReset {p q : Part} (h : Answered p q) :
    q.link.softReset = p.link.softReset ∨ q.link.softReset = .waiting := by
  obtain ⟨k, hk, -, bs, e⟩ := h
  rw [e, (afterReports_kept _ bs _).2]
  exact hk.softReset

theorem answered_sending {p q : Part} {m : OutMsg} (h : Answered p q) (hs : p.link.sending = some m) :
    q.link.sending = some m := by
  obtain ⟨k, hk, -, bs, e⟩ := h
  rw [e]
  exact afterReports_sending _ bs (hk.sending.trans hs)

/-- The answer to a frame: the command's, or the refusal that its kind or its length gives. -/
def answerFrame (p : Part) (f : Frame) : Answer :=
  match f.command with
  | .ok c => p.answer c
  | .error r => refuse p r

theorem handleFrame_eq (p : Part) (f : Frame) : p.handleFrame f =
    (answerFrame p f).1.putReply ⟨replyKind f.kind, f.tag, (answerFrame p f).2.1, (answerFrame p f).2.2⟩ := by
  unfold Part.handleFrame answerFrame
  cases h : f.command with
  | error r => rfl
  | ok c => rw [← command_kind h]; rfl

theorem answerFrame_answered (p : Part) (f : Frame) : Answered p (answerFrame p f).1 := by
  unfold answerFrame
  cases f.command with
  | error r => exact answered_tells (tells_refl p)
  | ok c => exact answer_answered p c

end Sys2Proof.Laws
end

section
/-! SUPPORT. Frames received, queued, taken and answered (R172 to R176, R179), and the bounds of the link port through every
row. -/

namespace Sys2Proof.Laws

open Sys2Proof.Machine

/-! ### One frame answered -/

theorem handleFrame_link (p : Part) (f : Frame) : (p.handleFrame f).link =
    { (answerFrame p f).1.link with
      reply := some ⟨replyKind f.kind, f.tag, (answerFrame p f).2.1, (answerFrame p f).2.2⟩ }.beginSend := by
  rw [handleFrame_eq]; rfl

theorem handleFrame_queue (p : Part) (f : Frame) : (p.handleFrame f).link.queue = p.link.queue := by
  rw [handleFrame_link, beginSend_queue]
  exact answered_queue (answerFrame_answered p f)

theorem handleFrame_sized {p : Part} (f : Frame) (h : LinkSized p.link) : LinkSized (p.handleFrame f).link := by
  obtain ⟨rx, queue, reports, seq, errors⟩ := answered_sized (answerFrame_answered p f) h
  rw [handleFrame_link]
  exact beginSend_sized ⟨rx, queue, reports, seq, errors⟩

theorem handleFrame_nothingWaits (p : Part) (f : Frame) : NothingWaits (p.handleFrame f).link := by
  rw [handleFrame_link]
  exact beginSend_nothingWaits _

/-! ### Frames taken from the receive queue -/

theorem mayTake_iff (p : Part) : p.mayTake = true ↔ p.link.reply = none ∧ p.link.softReset = .none := by
  simp [Part.mayTake]

theorem serve_stops {p : Part} (fuel : Nat) (h : p.mayTake = false) : p.serve fuel = p := by
  cases fuel with
  | zero => rfl
  | succ fuel => unfold Part.serve; rw [h]; rfl

theorem serve_empty {p : Part} (fuel : Nat) (h : p.link.queue = []) : p.serve fuel = p := by
  cases fuel with
  | zero => rfl
  | succ fuel =>
    unfold Part.serve
    split
    · rw [h]
    · rfl

/-- The oldest frame of the receive queue is taken and answered, the rest as far as the reply buffer is free again. -/
theorem serve_takes {p : Part} {f : Frame} {rest : List Frame} (fuel : Nat) (h : p.mayTake = true)
    (hq : p.link.queue = f :: rest) :
    p.serve (fuel + 1) = (({ p with link := { p.link with queue := rest } }).handleFrame f).serve fuel := by
  show (if p.mayTake then _ else _) = _
  rw [if_pos h, hq]

theorem serve_cases (p : Part) (fuel : Nat) : p.serve (fuel + 1) = p ∧ FramesWait p.link ∨
    ∃ f rest, p.link.queue = f :: rest ∧
      p.serve (fuel + 1) = (({ p with link := { p.link with queue := rest } }).handleFrame f).serve fuel := by
  cases h : p.mayTake with
  | false =>
    refine .inl ⟨serve_stops _ h, fun _ => ?_⟩
    by_contra no
    rw [not_or, not_not, not_not] at no
    rw [(mayTake_iff p).2 no] at h
    cases h
  | true =>
    by_cases hq : p.link.queue = []
    · exact .inl ⟨serve_empty _ hq, fun some => absurd hq some⟩
    · obtain ⟨f, rest, hq⟩ := List.exists_cons_of_ne_nil hq
      exact .inr ⟨f, rest, hq, serve_takes fuel h hq⟩

/-- With a turn for each frame that waits, frames wait only where they must. -/
theorem serve_inBounds (fuel : Nat) : ∀ {p : Part}, LinkSized p.link → NothingWaits p.link → p.link.queue.length ≤ fuel →
    LinkInBounds (p.serve fuel) := by
  induction fuel with
  | zero =>
    intro p sized idle few
    have none : p.link.queue = [] := List.length_eq_zero_iff.1 (Nat.le_zero.1 few)
    exact (linkInBounds_iff p).2 ⟨sized, fun some => absurd none some, idle⟩
  | succ fuel ih =>
    intro p sized idle few
    obtain ⟨e, wait⟩ | ⟨f, rest, hq, e⟩ := serve_cases p fuel
    · rw [e]; exact (linkInBounds_iff p).2 ⟨sized, wait, idle⟩
    · have left : rest.length ≤ fuel := Nat.le_of_succ_le_succ (hq ▸ few : (f :: rest).length ≤ fuel + 1)
      have two : rest.length ≤ 2 := Nat.le_of_succ_le (hq ▸ sized.queue : (f :: rest).length ≤ 2)
      rw [e]
      refine ih (handleFrame_sized f ⟨sized.rx, two, sized.reports, sized.seq, sized.errors⟩)
        (handleFrame_nothingWaits _ f) ?_
      rw [handleFrame_queue]
      exact left

/-! ### A frame arriving -/

/-- R174. -/
theorem linkError_cases (p : Part) :
    (p.link.errors < 127 ∧ p.linkError = { p with link := { p.link with errors := p.link.errors + 1 } }) ∨
    (127 ≤ p.link.errors ∧ p.linkError = { p with link := { p.link with overflow := true } }) := by
  unfold Part.linkError
  dsimp only
  split
  · exact .inl ⟨‹_›, rfl⟩
  · exact .inr ⟨Nat.le_of_not_lt ‹_›, rfl⟩

theorem linkError_inBounds {p : Part} (h : LinkInBounds p) : LinkInBounds p.linkError := by
  obtain ⟨rx, queue, reports, seq, errors, wait, idle⟩ := h
  obtain ⟨room, e⟩ | ⟨-, e⟩ := linkError_cases p
  · rw [e]; exact ⟨rx, queue, reports, seq, room, wait, idle⟩
  · rw [e]; exact ⟨rx, queue, reports, seq, errors, wait, idle⟩

theorem arriveFrame_overrun {p : Part} (f : Frame) (h : 2 ≤ p.link.queue.length) : p.arriveFrame f = p.linkError :=
  if_neg (Nat.not_lt.2 h)

/-- R175: the frame joins the queue and is accepted; then frames are taken. -/
theorem arriveFrame_accepted {p : Part} (f : Frame) (h : p.link.queue.length < 2) : p.arriveFrame f =
    (({ p with link := { p.link with queue := p.link.queue ++ [f] } }).frameAccepted).serve serveFuel := if_pos h

theorem arriveFrame_inBounds {p : Part} (f : Frame) (h : LinkInBounds p) : LinkInBounds (p.arriveFrame f) := by
  by_cases room : p.link.queue.length < 2
  · obtain ⟨⟨rx, -, reports, seq, errors⟩, -, idle⟩ := (linkInBounds_iff p).1 h
    have two : (p.link.queue ++ [f]).length ≤ 2 := by simpa using room
    rw [arriveFrame_accepted f room]
    refine serve_inBounds _ ?_ ?_ ?_ <;> rw [frameAccepted_link]
    · exact ⟨rx, two, reports, seq, errors⟩
    · exact idle
    · exact two.trans (by decide)
  · rw [arriveFrame_overrun f (Nat.not_lt.1 room)]
    exact linkError_inBounds h

theorem linkReady_iff (p : Part) :
    p.linkReady = true ↔ (p.link.reply = none ∧ p.link.softReset = .none) ∧ p.link.queue = [] := by
  simp [Part.linkReady, mayTake_iff]

/-- The acceptance of a frame does not look at the link. -/
theorem frameAccepted_withLink (p : Part) (k : LinkPort) :
    ({ p with link := k }).frameAccepted = { p.frameAccepted with link := k } := by
  unfold Part.frameAccepted Part.restartSilence Part.setSilence Part.operating
  dsimp only
  split
  · rfl
  · rfl

/-- R176: with nothing before it a frame that arrives is accepted and answered at once (log 2). -/
theorem arriveFrame_ready {p : Part} (f : Frame) (h : p.linkReady = true) : p.arriveFrame f = p.frameAccepted.handleFrame f := by
  obtain ⟨free, empty⟩ := (linkReady_iff p).1 h
  have room : p.link.queue.length < 2 := by rw [empty]; decide
  have emptied : { p.link with queue := [] } = p.frameAccepted.link := by rw [frameAccepted_link, ← empty]
  have alone : p.link.queue ++ [f] = [f] := by rw [empty]; rfl
  rw [arriveFrame_accepted f room, frameAccepted_withLink]
  refine (serve_takes (p := { p.frameAccepted with link := { p.link with queue := p.link.queue ++ [f] } }) 2
    ((mayTake_iff _).2 free) alone).trans ?_
  show (({ p.frameAccepted with link := { p.link with queue := [] } }).handleFrame f).serve 2 = _
  rw [emptied]
  exact serve_empty 2 ((handleFrame_queue _ f).trans (by rw [frameAccepted_link, empty]))

/-- A host command's row brings its frame (log 1). -/
theorem submit_arrives (p : Part) (tag : Byte) (c : HostCommand) : p.submit tag c = p.arriveFrame (c.frame tag) := by
  unfold Part.submit
  split
  next h =>
    rw [arriveFrame_ready _ h]
    unfold Part.handleFrame
    rw [command_frame]
    rfl
  next => rfl

/-- A row that brings a frame does what the frame's arrival does. -/
theorem exec_frame {row : Instr} {f : Frame} (h : row.frame = some f) (s : State) :
    exec row s = act (fun p => p.arriveFrame f) s := by
  unfold Instr.frame at h
  split at h
  · cases h; rfl
  · obtain ⟨⟨tag, c⟩, hrow, rfl⟩ := Option.map_eq_some_iff.1 h
    rw [exec_command hrow]
    exact congrArg (fun g => act g s) (funext fun p => submit_arrives p tag c)

/-! ### Characters -/

theorem byteAt_append {got : List Byte} (more : List Byte) {i : Nat} (h : i < got.length) :
    byteAt (got ++ more) i = byteAt got i := List.getD_append _ _ _ _ h

/-- The header is its first four characters. -/
theorem headerGood_append {got : List Byte} (more : List Byte) (h : 4 ≤ got.length) :
    headerGood (got ++ more) = headerGood got := by
  unfold headerGood
  rw [byteAt_append more (by omega : 0 < got.length), byteAt_append more (by omega : 1 < got.length),
    byteAt_append more (by omega : 2 < got.length), byteAt_append more (by omega : 3 < got.length)]

theorem collect_badHeader (p : Part) {got : List Byte} (h : got.length = 4) (bad : headerGood got = false) :
    p.collect got = (p.setRx (rescan got)).linkError := if_pos ⟨h, by simp [bad]⟩

theorem collect_whole (p : Part) {got : List Byte} (h : got.length = (byteAt got 2).toNat + 6) :
    p.collect got = p.completeFrame got := by
  unfold Part.collect
  rw [if_neg fun ⟨four, _⟩ => by omega, if_pos ⟨h, by omega⟩]

theorem collect_more (p : Part) {got : List Byte} (h : got.length = 4 → headerGood got = true)
    (short : 4 ≤ got.length → got.length ≠ (byteAt got 2).toNat + 6) : p.collect got = p.setRx (.assembling got) := by
  unfold Part.collect
  rw [if_neg fun ⟨four, bad⟩ => by simp [h four] at bad, if_neg fun ⟨whole, four⟩ => short four whole]

theorem rescan_shorter {xs back : List Byte} (h : rescan xs = .assembling back) : back.length < xs.length := by
  induction xs with
  | nil => cases h
  | cons c xs ih =>
    unfold rescan at h
    split at h
    · cases h; exact Nat.lt_succ_self _
    · exact Nat.lt_succ_of_lt (ih h)

theorem setRx_inBounds {p : Part} {x : RxState} (h : LinkInBounds p) (k : ∀ got, x = .assembling got → Collecting got) :
    LinkInBounds (p.setRx x) := by
  obtain ⟨-, queue, reports, seq, errors, wait, idle⟩ := h
  exact ⟨k, queue, reports, seq, errors, wait, idle⟩

theorem completeFrame_inBounds {p : Part} (got : List Byte) (h : LinkInBounds p) : LinkInBounds (p.completeFrame got) := by
  have hunting : LinkInBounds (p.setRx .hunting) := setRx_inBounds h fun _ e => by cases e
  unfold Part.completeFrame
  dsimp only
  split
  · exact arriveFrame_inBounds _ hunting
  · exact linkError_inBounds hunting

/-- R172: one more character, on what has been collected so far. -/
theorem collect_inBounds {p : Part} {got : List Byte} (c : Byte) (h : LinkInBounds p) (k : Collecting got) :
    LinkInBounds (p.collect (got ++ [c])) := by
  have len : (got ++ [c]).length = got.length + 1 := List.length_append
  by_cases bad : (got ++ [c]).length = 4 ∧ headerGood (got ++ [c]) = false
  · obtain ⟨four, bad⟩ := bad
    rw [collect_badHeader p four bad]
    refine linkError_inBounds (setRx_inBounds h fun back e => ?_)
    have := rescan_shorter e
    exact fun long => absurd long (by omega)
  · have good : (got ++ [c]).length = 4 → headerGood (got ++ [c]) = true := fun four => by
      cases e : headerGood (got ++ [c]) with
      | true => rfl
      | false => exact absurd ⟨four, e⟩ bad
    by_cases whole : (got ++ [c]).length = (byteAt (got ++ [c]) 2).toNat + 6
    · rw [collect_whole p whole]
      exact completeFrame_inBounds _ h
    · rw [collect_more p good fun _ => whole]
      refine setRx_inBounds h fun _ e => ?_
      cases e
      intro four
      by_cases now : (got ++ [c]).length = 4
      · exact ⟨good now, by omega⟩
      · have before : 4 ≤ got.length := by omega
        obtain ⟨header, short⟩ := k before
        refine ⟨(headerGood_append [c] before).trans header, ?_⟩
        rw [byteAt_append [c] (by omega : 2 < got.length)] at whole ⊢
        omega

theorem takeCharacter_inBounds {p : Part} (c : Byte) (h : LinkInBounds p) : LinkInBounds (p.takeCharacter c) := by
  unfold Part.takeCharacter
  split
  · split
    · exact setRx_inBounds h fun _ e => by cases e; exact fun long => absurd long (by simp)
    · exact h
  · rename_i got hrx
    obtain ⟨sized, -, -⟩ := (linkInBounds_iff p).1 h
    exact collect_inBounds c h (sized.rx got hrx)

theorem abandonFrame_inBounds {p : Part} (h : LinkInBounds p) : LinkInBounds p.abandonFrame := by
  unfold Part.abandonFrame
  split
  · exact h
  · exact linkError_inBounds (setRx_inBounds h fun _ e => by cases e)

/-! ### The last byte of a frame sent -/

theorem frameSent_inBounds {p : Part} (h : LinkInBounds p) : LinkInBounds p.frameSent := by
  obtain ⟨⟨rx, queue, reports, seq, errors⟩, -, -⟩ := (linkInBounds_iff p).1 h
  unfold Part.frameSent
  split
  · exact h
  · split
    · exact (linkInBounds_iff _).2 ⟨⟨rx, queue, reports, seq, errors⟩, fun _ => .inr (by simp),
        fun ⟨_, sent⟩ => (sent rfl).elim⟩
    · refine serve_inBounds _ (beginSend_sized ⟨rx, queue, reports, seq, errors⟩) (beginSend_nothingWaits _) ?_
      rw [beginSend_queue]
      exact queue.trans (by decide)

/-! ### Rows -/

theorem act_inBounds {g : Part → Part} {s t : State} (hg : ∀ p, LinkInBounds p → LinkInBounds (g p)) (h : act g s = .next t)
    (hp : LinkInBounds s.part) : LinkInBounds t.part := act_keeps (hg _) h hp

theorem act_tells {g : Part → Part} {s t : State} (k : ∀ {p}, Tells p p → Tells p (g p)) (h : act g s = .next t)
    (hp : LinkInBounds s.part) : LinkInBounds t.part := act_inBounds (fun p => tells_inBounds (k (tells_refl p))) h hp

theorem takeEvent_tells {e : Event} {g : Part → Part} {s t : State} (k : ∀ {p}, Tells p p → Tells p (g p))
    (h : takeEvent e g s = .next t) (hp : LinkInBounds s.part) : LinkInBounds t.part :=
  takeEvent_keeps (fun _ _ => inBounds_of_link rfl) (fun p => tells_inBounds (k (tells_refl p))) h hp

theorem takeStopNotice_tells {e : Event} {l : LaneId} {g : Part → Part} {s t : State}
    (k : ∀ {p}, Tells p p → Tells p (g p)) (h : takeStopNotice l e g s = .next t) (hp : LinkInBounds s.part) :
    LinkInBounds t.part :=
  takeStopNotice_keeps (fun _ _ => inBounds_of_link rfl) (fun p => tells_inBounds (k (tells_refl p))) h hp

/-- Every row keeps the link port within its bounds. -/
theorem exec_inBounds (row : Instr) (s t : State) (h : exec row s = .next t) (hp : LinkInBounds s.part) :
    LinkInBounds t.part := by
  cases row
  case powerOnReset | resetLineAsserted => rw [← next_inj h]; exact inBounds_initial rfl
  case resetLineReleased =>
    rw [← next_inj h]
    dsimp only
    split
    · exact inBounds_initial rfl
    · exact hp
  case softResetEffect =>
    refine act_inBounds (fun p k => ?_) h hp
    split
    · exact inBounds_initial rfl
    · exact k
  case supplyLoss => rw [← next_inj h]; exact inBounds_of_link rfl hp
  case feedbackChange u level =>
    rw [← next_inj h]
    dsimp only
    split
    · exact tells_inBounds (takeFeedback_tellsOn (tells_refl _) u level) hp
    · exact inBounds_of_link rfl hp
  case galleryClockTick =>
    refine act_inBounds (g := fun p => p.tick) (fun p k => inBounds_of_link ?_ k) h hp
    exact link_kept (xs := [.clock, .filters, .events]) (by simp) (by simp)
  case receiveCharacter c => exact act_inBounds (fun p k => takeCharacter_inBounds c k) h hp
  case characterError | receiveGapTimeout => exact act_inBounds (fun p k => abandonFrame_inBounds k) h hp
  case transmitFrameEnd => exact act_inBounds (fun p k => frameSent_inBounds k) h hp
  case runMinute f => exact takeEvent_tells (fun k => modFilter_tellsOn k f FilterRecord.countMinutes) h hp
  case minuteTick => exact takeEvent_tells (fun k => raiseAll_tellsOn k (allFilters.map .urgency)) h hp
  case urgencyEvaluation f => exact takeEvent_tells (fun k => evaluate_tellsOn k f) h hp
  case analogScan counts => exact act_tells (g := fun p => p.scanInputs counts) (fun k => tells_beside (by simp) k) h hp
  case pointSample id => exact act_tells (fun k => takeOldestSample_tellsOn k id) h hp
  case pointStale id => exact takeEvent_tells (fun k => goStale_tellsOn k id) h hp
  case schedulerMeasureChange id => exact takeEvent_tells (fun k => schedulerMeasure_tellsOn k id) h hp
  case lanePointChange l id => exact takeEvent_tells (fun k => lanePoint_tellsOn k l id) h hp
  case overloadDeadline => exact takeEvent_tells (fun k => overloadFalls_tellsOn k) h hp
  case deferExpiry f => exact takeEvent_tells (g := fun p => p.deferralEnds f) (fun k => tells_beside (by simp) k) h hp
  case spacingExpiry | schedulerUnitNotice => exact takeEvent_tells (fun k => trigger_tellsOn k) h hp
  case proposalExpiry => exact takeEvent_tells (fun k => proposalExpires_tellsOn k) h hp
  case admissionScan => exact act_tells (fun k => runScan_tellsOn k) h hp
  case laneSecond l => exact takeEvent_tells (g := fun p => p.countSecond l) (fun k => tells_beside (by simp) k) h hp
  case phaseTimeEnd l => exact takeEvent_tells (fun k => endRunning_tellsOn k l .time) h hp
  case ripenConfirmed l => exact takeEvent_tells (fun k => endRunning_tellsOn k l .confirmed) h hp
  case holdLimitExpiry l => exact takeEvent_tells (fun k => holdLimitFalls_tellsOn k l) h hp
  case laneRoleArrival l r => exact takeEvent_tells (fun k => laneArrival_tellsOn k l r) h hp
  case laneChannelFault l r => exact takeEvent_tells (fun k => laneFault_tellsOn k l) h hp
  case laneRoleDrift l r => exact takeEvent_tells (fun k => laneDrift_tellsOn k l r) h hp
  case laneGrant l u => exact takeEvent_tells (fun k => laneGrant_tellsOn k l u) h hp
  case laneUnitProven l u => exact takeEvent_tells (fun k => tells_trans k (checkStarted_tells _ l)) h hp
  case laneProveFailed l u => exact takeEvent_tells (fun k => laneProveFailed_tellsOn k l u) h hp
  case laneUnitTripped l u => exact takeEvent_tells (fun k => laneTripped_tellsOn k l u) h hp
  case laneUnitNotice l u n => exact takeEvent_tells (fun k => laneNews_tellsOn k l n) h hp
  case laneStopAsserted l => exact takeStopNotice_tells (fun k => laneStopped_tellsOn k l) h hp
  case laneStopReleased l => exact takeStopNotice_tells (fun k => laneReleased_tellsOn k l) h hp
  case transferRoleArrival f r => exact takeEvent_tells (fun k => advanceTransfer_tellsOn f 3 k) h hp
  case transferChannelFault f r | filterChannelFault f r => exact takeEvent_tells (fun k => tableFault_tellsOn k f r) h hp
  case transferRoleDrift f r => exact takeEvent_tells (fun k => transferDrifts_tellsOn k f r) h hp
  case transferStopReleased f => exact takeEvent_tells (fun k => transferReleased_tellsOn k f) h hp
  case limitReadingChange ch which level => exact act_tells (fun k => takeLimit_tellsOn k ch which level) h hp
  case travelExpiry ch => exact takeEvent_tells (fun k => travelFails_tellsOn k ch) h hp
  case stopAsserted => exact act_tells (fun k => stopLineAsserted_tellsOn k) h hp
  case stopReleased => exact act_tells (fun k => stopLineReleased_tellsOn k) h hp
  case stopInputFirstTaken level => exact act_tells (fun k => stopFirstTaken_tellsOn k level) h hp
  case arbiterStopAsserted => exact takeEvent_tells (fun k => foldl_tellsOn (fun u k => stopByLine_tellsOn k u) allUnits k) h hp
  case proveExpiry u => exact takeEvent_tells (fun k => proveFails_tellsOn k u) h hp
  case guardEnd u => exact takeEvent_tells (g := fun p => p.guardEnds u) (fun k => tells_beside (by simp) k) h hp
  case surveyEnd => exact act_tells (fun k => endSurvey_tellsOn k) h hp
  case silenceExpiry => exact takeEvent_tells (fun k => silenceFalls_tellsOn k) h hp
  all_goals
    rw [exec_frame rfl] at h
    exact act_inBounds (fun p k => arriveFrame_inBounds _ k) h hp

end Sys2Proof.Laws

namespace Sys2Proof

open Machine Laws

/-- Settles O57: a step runs one row, and every row keeps the link port within its bounds. -/
theorem stepsKeepTheLinkInBounds : Obligations.StepsKeepTheLinkInBounds := step_keeps exec_inBounds

end Sys2Proof
end

section
/-! SUPPORT. What a frame's arrival and the end of a sent frame come to, in the words of the statements (R174 to R176, R179,
R185, R189). -/

namespace Sys2Proof.Laws

open Sys2Proof.Machine

/-! ### A frame accepted, a link error, a reply -/

/-- R189. -/
theorem frameAccepted_restarts {p : Part} (h : p.startUp.top = .operating ∧ p.plant.silenceInterval ≠ 0) :
    p.frameAccepted = { p with
      startUp := { p.startUp with
        lastAccepted := some p.startUp.clock
        silence := some (secondsOn p.startUp.clock p.plant.silenceInterval) }
      events := p.events.filter (· != .silenceExpiry) } := by
  unfold Part.frameAccepted Part.restartSilence
  rw [if_pos (by simpa [Part.operating] using h)]
  rfl

theorem frameAccepted_stands {p : Part} (h : ¬ (p.startUp.top = .operating ∧ p.plant.silenceInterval ≠ 0)) :
    p.frameAccepted = { p with startUp := { p.startUp with lastAccepted := some p.startUp.clock } } := by
  unfold Part.frameAccepted Part.restartSilence
  rw [if_neg (by simpa [Part.operating] using h)]
  rfl

theorem frameAccepted_silence (p : Part) : SilenceRestarted p p.frameAccepted := by
  unfold SilenceRestarted
  by_cases h : p.startUp.top = .operating ∧ p.plant.silenceInterval ≠ 0
  · rw [frameAccepted_restarts h, if_pos h]; exact ⟨rfl, rfl⟩
  · rw [frameAccepted_stands h, if_neg h]; exact ⟨rfl, rfl⟩

/-- The fall of the silence timer is all that an acceptance can cancel. -/
theorem frameAccepted_events (p : Part) {e : Event} (he : e ≠ .silenceExpiry) :
    e ∈ p.frameAccepted.events ↔ e ∈ p.events := by
  by_cases h : p.startUp.top = .operating ∧ p.plant.silenceInterval ≠ 0
  · rw [frameAccepted_restarts h]; simp [he]
  · rw [frameAccepted_stands h]

theorem linkError_counted (p : Part) : LinkErrorCounted p p.linkError := by
  refine ⟨by simp, ?_⟩
  obtain ⟨room, e⟩ | ⟨full, e⟩ := linkError_cases p
  · rw [e]; exact ⟨fun _ => ⟨rfl, rfl⟩, fun full => absurd room (Nat.not_lt.2 full)⟩
  · rw [e]; exact ⟨fun room => absurd room (Nat.not_lt.2 full), fun _ => ⟨rfl, rfl⟩⟩

theorem handleFrame_command {f : Frame} {c : HostCommand} (p : Part) (h : f.command = .ok c) :
    p.handleFrame f = p.handle f.tag c := by unfold Part.handleFrame; rw [h]

theorem handleFrame_refused {f : Frame} {r : Result} (p : Part) (h : f.command = .error r) :
    p.handleFrame f = p.putReply ⟨replyKind f.kind, f.tag, r, .none⟩ := by unfold Part.handleFrame; rw [h]; rfl

/-- A frame answered while nothing holds the reply back has its reply given. -/
theorem handleFrame_replied {p : Part} (f : Frame) (h : p.link.softReset = .none) :
    ∃ r fields, Replied (p.handleFrame f) ⟨replyKind f.kind, f.tag, r, fields⟩ := by
  rw [handleFrame_eq]
  refine ⟨_, _, putReply_replied _ _ ?_⟩
  obtain e | e := answered_softReset (answerFrame_answered p f)
  · rw [e, h]; exact fun x => by cases x
  · rw [e]; exact fun x => by cases x

/-- A reply given while a frame is being sent waits in its buffer. -/
theorem putReply_waits {p : Part} {m : OutMsg} (h : p.link.sending = some m) (r : Reply) :
    OnlyChanges [.reply] p (p.putReply r) ∧ (p.putReply r).link.reply = some r := by
  unfold Part.putReply
  rw [beginSend_busy fun ⟨free, _⟩ => by cases h.symm.trans free]
  exact ⟨by simp, rfl⟩

/-! ### The four ways a frame can arrive -/

section Arrival
variable {s : State} {row : Instr} {f : Frame} (hl : s.part.live = true) (hrow : row.frame = some f)

include hl hrow in
theorem frame_arrives : exec row s = .next { s with part := s.part.arriveFrame f } :=
  (exec_frame hrow s).trans (act_live _ hl)

include hl hrow in
theorem frame_overruns (h : 2 ≤ s.part.link.queue.length) :
    ∃ t, exec row s = .next t ∧ t.pending = s.pending ∧ LinkErrorCounted s.part t.part := by
  refine ⟨_, frame_arrives hl hrow, rfl, ?_⟩
  dsimp only
  rw [arriveFrame_overrun f h]
  exact linkError_counted _

include hl hrow in
theorem frame_queues (room : s.part.link.queue.length < 2) (held : s.part.link.reply ≠ none ∨ s.part.link.softReset ≠ .none) :
    ∃ t, exec row s = .next t ∧ t.pending = s.pending ∧
      OnlyChanges [.silence, .lastAccepted, .events, .rxQueue] s.part t.part ∧
      t.part.link.queue = s.part.link.queue ++ [f] ∧ SilenceRestarted s.part t.part := by
  have stops : ∀ q : Part, q.link = { s.part.link with queue := s.part.link.queue ++ [f] } → q.serve serveFuel = q :=
    fun q hq => serve_stops _ <| Bool.eq_false_iff.2 fun may => by
      obtain ⟨free, accepting⟩ := (mayTake_iff q).1 may
      rw [hq] at free accepting
      exact held.elim (fun k => k free) (fun k => k accepting)
  refine ⟨_, frame_arrives hl hrow, rfl, ?_⟩
  dsimp only
  rw [arriveFrame_accepted f room, stops _ (frameAccepted_link _)]
  exact ⟨by simp, by rw [frameAccepted_link], frameAccepted_silence { s.part with link := _ }⟩

include hrow in
theorem frame_answered (hc : CanHandle s) : ∃ t r fields, exec row s = .next t ∧ t.pending = s.pending ∧
    t.part.link.queue = [] ∧ Replied t.part ⟨replyKind f.kind, f.tag, r, fields⟩ := by
  obtain ⟨⟨-, accepting⟩, empty⟩ := (linkReady_iff _).1 hc.2
  obtain ⟨r, fields, replied⟩ := handleFrame_replied (p := s.part.frameAccepted) f (by rw [frameAccepted_link, accepting])
  refine ⟨_, r, fields, frame_arrives hc.1 hrow, rfl, ?_⟩
  dsimp only
  rw [arriveFrame_ready f hc.2]
  exact ⟨by rw [handleFrame_queue, frameAccepted_link, empty], replied⟩

end Arrival

/-- A frame that carries no command, where it can be answered at once: accepted, and refused. -/
theorem arriveFrame_refused {p : Part} {f : Frame} {r : Result} (ready : p.linkReady = true) (h : f.command = .error r) :
    OnlyChanges ([Piece.silence, .lastAccepted, .events] ++ replying) p (p.arriveFrame f) ∧
      SilenceRestarted p (p.arriveFrame f) ∧ Replies p (p.arriveFrame f) ⟨replyKind f.kind, f.tag, r, .none⟩ ∧
      Replied (p.arriveFrame f) ⟨replyKind f.kind, f.tag, r, .none⟩ := by
  obtain ⟨⟨-, accepting⟩, -⟩ := (linkReady_iff p).1 ready
  rw [arriveFrame_ready f ready, handleFrame_refused _ h]
  refine ⟨?_, frameAccepted_silence p, ?_,
    putReply_replied _ _ (by rw [frameAccepted_link, accepting]; exact fun x => by cases x)⟩
  · exact onlyChanges_trans (onlyChanges_mono (accepted_only p) (by simp))
      (onlyChanges_mono (putReply_replying _ _) (by simp))
  · unfold Replies RepliesAfter
    rw [putReply_link, frameAccepted_link]
    rfl

/-! ### The end of a sent frame -/

theorem frameSent_none {p : Part} (h : p.link.sending = none) : p.frameSent = p := by unfold Part.frameSent; rw [h]

theorem frameSent_softReset {p : Part} {m : OutMsg} (h : p.link.sending = some m) (hm : m.isSoftReset = true)
    (hx : p.link.softReset = .waiting) : p.frameSent = { p with link := { p.link with sending := none, softReset := .sent } } := by
  unfold Part.frameSent
  rw [h]
  exact if_pos (by simp [hm, hx])

theorem frameSent_next {p : Part} {m : OutMsg} (h : p.link.sending = some m)
    (hx : ¬ (m.isSoftReset = true ∧ p.link.softReset = .waiting)) :
    p.frameSent = ({ p with link := { p.link with sending := none }.beginSend }).serve serveFuel := by
  unfold Part.frameSent
  rw [h]
  exact if_neg (by simpa using hx)

theorem isSoftReset_reply {m : OutMsg} (h : m.isSoftReset = true) : ∃ tag fields, m = .reply ⟨0x85, tag, .ok, fields⟩ := by
  unfold OutMsg.isSoftReset at h
  split at h
  · rename_i r
    obtain ⟨kind, tag, result, fields⟩ := r
    simp only [Bool.and_eq_true, beq_iff_eq] at h
    obtain ⟨rfl, rfl⟩ := h
    exact ⟨tag, fields, rfl⟩
  · cases h

section Sent
variable {p : Part} {m : OutMsg} (hs : p.link.sending = some m)
include hs

/-- Nothing can be taken: the transmitter begins the next frame, and that is all. -/
theorem frameSent_begins (h : (p.link.softReset = .none ∧ p.link.queue = []) ∨
      (p.link.softReset = .waiting ∧ ∀ tag fields, m ≠ .reply ⟨0x85, tag, .ok, fields⟩)) :
    p.frameSent = { p with link := { p.link with sending := none }.beginSend } := by
  obtain ⟨hx, hq⟩ | ⟨hx, hm⟩ := h
  · rw [frameSent_next hs (by simp [hx])]
    exact serve_empty _ ((beginSend_queue _).trans hq)
  · rw [frameSent_next hs fun ⟨reset, _⟩ => by obtain ⟨tag, fields, e⟩ := isSoftReset_reply reset; exact hm tag fields e]
    refine serve_stops _ (Bool.eq_false_iff.2 fun may => ?_)
    have idle : ({ p.link with sending := none } : LinkPort).beginSend.softReset = .none := ((mayTake_iff _).1 may).2
    rw [beginSend_softReset] at idle
    exact absurd (hx.symm.trans idle) (fun x => by cases x)

/-- The waiting reply begins, and the oldest received frame is answered into the freed buffer. -/
theorem frameSent_answers {r : Reply} {f : Frame} {rest : List Frame} (hx : p.link.softReset = .none)
    (hr : p.link.reply = some r) (hq : p.link.queue = f :: rest) :
    p.frameSent =
      ({ p with link := { p.link with sending := some (.reply r), reply := none, queue := rest } }).handleFrame f := by
  have free : LinkFree { p.link with sending := none } := ⟨rfl, by simp [hx]⟩
  have waits : ∀ q : Part, q.link.sending = some (.reply r) → (q.handleFrame f).mayTake = false := fun q sends => by
    refine Bool.eq_false_iff.2 fun may => ?_
    have none := ((mayTake_iff _).1 may).1
    rw [handleFrame_eq] at none
    cases (putReply_waits (answered_sending (answerFrame_answered q f) sends) _).2.symm.trans none
  have takes := serve_takes (p := { p with link := { p.link with sending := some (.reply r), reply := none } }) 2
    ((mayTake_iff _).2 ⟨rfl, hx⟩) hq
  rw [frameSent_next hs (by simp [hx]), beginSend_reply free hr]
  exact takes.trans (serve_stops 2 (waits _ rfl))

end Sent

/-- What the transmitter begins once a frame is sent: the reply first, then the oldest report. -/
theorem beginSend_first (p : Part) (h : p.link.softReset ≠ .sent) :
    let q : Part := { p with link := { p.link with sending := none }.beginSend }
    OnlyChanges [.sending, .reply, .reports] p q ∧ q.link.reply = none ∧
    (∀ r, p.link.reply = some r → q.link.sending = some (.reply r) ∧ q.link.reports = p.link.reports) ∧
    (p.link.reply = none → ∀ r rest, p.link.reports = r :: rest →
      q.link.sending = some (.report r) ∧ q.link.reports = rest) ∧
    (p.link.reply = none → p.link.reports = [] → q.link.sending = none ∧ q.link.reports = []) := by
  have free : LinkFree { p.link with sending := none } := ⟨rfl, h⟩
  dsimp only
  obtain ⟨e, idle⟩ | ⟨r, hr, -, e⟩ | ⟨r, rest, hr, hq, -, e⟩ := beginSend_cases { p.link with sending := none }
  · obtain ⟨hr, hq⟩ : p.link.reply = none ∧ p.link.reports = [] := idle free
    rw [e]
    exact ⟨by simp, by simp [hr, hq]⟩
  · have hr : p.link.reply = some r := hr
    rw [e]
    exact ⟨by simp, by simp [hr]⟩
  · have hr : p.link.reply = none := hr
    have hq : p.link.reports = r :: rest := hq
    rw [e]
    exact ⟨by simp, by simp [hr, hq]⟩

end Sys2Proof.Laws

namespace Sys2Proof

open Machine Laws

/-- Settles O39: the acceptance by whether a silence timer runs, the arrival by the room in the queue and what holds
frames back. -/
theorem framesArriveAtTheLink : Obligations.FramesArriveAtTheLink := by
  refine ⟨fun p => ⟨frameAccepted_silence p, accepted_only p, fun _ he => frameAccepted_events p he⟩,
    fun s row f hl hrow => ⟨frame_overruns hl hrow, frame_queues hl hrow, fun hc _ _ => frame_answered hrow hc, ?_⟩⟩
  intro hc unknown
  obtain ⟨only, silence, replies, -⟩ := arriveFrame_refused hc.2 (command_unknown unknown)
  exact ⟨_, frame_arrives hl hrow, rfl, only, silence, replies⟩

/-- Settles O36: the sent frame was the reply of a SOFT_RESET, or the next frame begins, with or without a frame to take. -/
theorem transmitterSendsRepliesFirst : Obligations.TransmitterSendsRepliesFirst := by
  intro s hl
  have row : exec .transmitFrameEnd s = .next { s with part := s.part.frameSent } := act_live _ hl
  refine ⟨fun h => by rw [row, frameSent_none h], fun m hs => ?_⟩
  dsimp only
  refine ⟨?_, ?_, ?_⟩
  · rintro hx ⟨tag, rfl⟩
    refine ⟨_, row, rfl, ?_⟩
    dsimp only
    rw [frameSent_softReset hs rfl hx]
    exact ⟨by simp, rfl, rfl⟩
  · intro h
    have free : s.part.link.softReset ≠ .sent := by obtain ⟨hx, -⟩ | ⟨hx, -⟩ := h <;> rw [hx] <;> simp
    refine ⟨_, row, rfl, ?_⟩
    dsimp only
    rw [frameSent_begins hs h]
    exact beginSend_first s.part free
  · intro hx r f rest hr hq
    have answers := frameSent_answers hs hx hr hq
    rw [answers] at row
    refine ⟨fun res h => ⟨_, row, rfl, ?_⟩, fun c h => ⟨_, row, rfl, handleFrame_command _ h⟩⟩
    dsimp only
    rw [handleFrame_refused _ h]
    exact putReply_waits rfl _

end Sys2Proof
end

section
/-! SUPPORT. The receive process, character by character (R172, R173): the header and its rescan, the whole frame and its CRC. -/

namespace Sys2Proof.Laws

open Sys2Proof.Machine

/-! ### The header -/

theorem headerGood_four (kind tag len check : Byte) :
    headerGood [kind, tag, len, check] = true ↔ check = ~~~(kind ^^^ tag ^^^ len) ∧ len.toNat ≤ 200 := by
  show (check == headerCheck kind tag len && decide (len.toNat ≤ maxPayload)) = true ↔ _
  rw [Bool.and_eq_true, beq_iff_eq, decide_eq_true_iff]
  rfl

theorem badHeader_four (kind tag len check : Byte) :
    BadHeader [kind, tag, len, check] ↔ headerGood [kind, tag, len, check] = false := by
  rw [← Bool.not_eq_true, headerGood_four, not_and_or, Nat.not_le]
  constructor
  · rintro ⟨_, _, _, _, e, bad⟩
    cases e
    exact bad
  · exact fun bad => ⟨kind, tag, len, check, rfl, bad⟩

theorem list_of_four {got : List Byte} (h : got.length = 4) : ∃ kind tag len check, got = [kind, tag, len, check] := by
  match got, h with
  | [kind, tag, len, check], _ => exact ⟨kind, tag, len, check, rfl⟩

theorem badHeader_iff (got : List Byte) : BadHeader got ↔ got.length = 4 ∧ headerGood got = false := by
  constructor
  · intro bad
    obtain ⟨kind, tag, len, check, rfl, -⟩ := id bad
    exact ⟨rfl, (badHeader_four kind tag len check).1 bad⟩
  · rintro ⟨four, bad⟩
    obtain ⟨kind, tag, len, check, rfl⟩ := list_of_four four
    exact (badHeader_four kind tag len check).2 bad

theorem rescan_none {xs : List Byte} (h : sof ∉ xs) : rescan xs = .hunting := by
  induction xs with
  | nil => rfl
  | cons c xs ih =>
    obtain ⟨hc, hx⟩ := List.ne_and_not_mem_of_not_mem_cons h
    exact (if_neg hc.symm).trans (ih hx)

theorem rescan_first {front : List Byte} (back : List Byte) (h : sof ∉ front) :
    rescan (front ++ sof :: back) = .assembling back := by
  induction front with
  | nil => exact if_pos rfl
  | cons c front ih =>
    obtain ⟨hc, hx⟩ := List.ne_and_not_mem_of_not_mem_cons h
    exact (if_neg hc.symm).trans (ih hx)

/-! ### The whole frame -/

theorem checked_length (f : Frame) : f.checked.length = f.payload.length + 4 := by
  simp [Frame.checked]

/-- The characters of a whole frame: what the CRC covers, then the CRC. -/
theorem wholeFrame_iff {got : List Byte} {f : Frame} :
    WholeFrame got f ↔ f.payload.length ≤ 200 ∧ got = f.checked ++ halfBytes (crc16 f.checked) := by
  unfold WholeFrame Frame.bytes
  rw [List.cons_append, List.cons.injEq]
  simp only [true_and]

section Whole
variable {got : List Byte} {f : Frame} (h : WholeFrame got f)
include h

theorem whole_length : got.length = f.payload.length + 6 := by
  obtain ⟨-, rfl⟩ := wholeFrame_iff.1 h
  rw [List.length_append, checked_length]
  rfl

/-- LEN gives the length of the frame. -/
theorem whole_len : got.length = (byteAt got 2).toNat + 6 := by
  obtain ⟨short, e⟩ := wholeFrame_iff.1 h
  have len : byteAt got 2 = BitVec.ofNat 8 f.payload.length := by rw [e]; rfl
  rw [whole_length h, len, BitVec.toNat_ofNat, Nat.mod_eq_of_lt (by omega)]

theorem whole_crcGood : crcGood got = true := by
  have before : got.length - 2 = f.checked.length := by rw [whole_length h, checked_length]; omega
  obtain ⟨-, e⟩ := wholeFrame_iff.1 h
  unfold crcGood
  dsimp only
  rw [before, e]
  have hi : byteAt (f.checked ++ halfBytes (crc16 f.checked)) f.checked.length = hiByte (crc16 f.checked) := by
    simp [byteAt, halfBytes]
  have lo : byteAt (f.checked ++ halfBytes (crc16 f.checked)) (f.checked.length + 1) = loByte (crc16 f.checked) := by
    simp [byteAt, halfBytes]
  rw [hi, lo, joinBytes_hi_lo, List.take_left]
  exact beq_self_eq_true _

/-- The frame read from the characters is the frame sent. -/
theorem whole_frame : (⟨byteAt got 0, byteAt got 1, (got.drop 4).take (got.length - 6)⟩ : Frame) = f := by
  have payload : got.length - 6 = f.payload.length := by rw [whole_length h]; omega
  obtain ⟨-, e⟩ := wholeFrame_iff.1 h
  rw [payload, e]
  show (⟨f.kind, f.tag, (f.payload ++ halfBytes (crc16 f.checked)).take f.payload.length⟩ : Frame) = f
  rw [List.take_left]

theorem collect_frame (p : Part) : p.collect got = (p.setRx .hunting).arriveFrame f := by
  rw [collect_whole p (whole_len h)]
  unfold Part.completeFrame
  dsimp only
  rw [if_pos (whole_crcGood h), whole_frame h]

end Whole

theorem completeFrame_badCrc (p : Part) {got : List Byte} (h : crcGood got = false) :
    p.completeFrame got = (p.setRx .hunting).linkError := if_neg (by simp [h])

/-! ### One character, by what the receive process holds -/

theorem onlyReceives_of {row : Instr} {s : State} {x : RxState} (h : exec row s = .next { s with part := s.part.setRx x }) :
    OnlyReceives row s x := ⟨_, h, rfl, by simp, rfl⟩

theorem failsReceiving_of {row : Instr} {s : State} {x : RxState}
    (h : exec row s = .next { s with part := (s.part.setRx x).linkError }) : FailsReceiving row s x := by
  obtain ⟨only, counted, full⟩ := linkError_counted (s.part.setRx x)
  refine ⟨_, h, rfl, by simp, only .rx (by simp), fun room => ?_, full⟩
  obtain ⟨one, -⟩ := counted room
  exact one

theorem setRx_same {p : Part} {x : RxState} (h : p.link.rx = x) : p.setRx x = p := by subst h; rfl

theorem character_taken {s : State} (hl : s.part.live = true) (c : Byte) :
    exec (.receiveCharacter c) s = .next { s with part := s.part.takeCharacter c } :=
  act_live (fun p => p.takeCharacter c) hl

section Hunting
variable {s : State} (hl : s.part.live = true) (hx : s.part.link.rx = .hunting)
include hl hx

theorem hunting_sof : OnlyReceives (.receiveCharacter 0xC3) s (.assembling []) := by
  refine onlyReceives_of ((character_taken hl _).trans ?_)
  unfold Part.takeCharacter
  rw [hx]
  rfl

theorem hunting_other {c : Byte} (h : c ≠ sof) : OnlyReceives (.receiveCharacter c) s .hunting := by
  refine onlyReceives_of ((character_taken hl _).trans ?_)
  unfold Part.takeCharacter
  rw [setRx_same hx, hx]
  dsimp only
  rw [if_neg h]

theorem hunting_abandons {row : Instr} (h : exec row s = act (fun p => p.abandonFrame) s) : OnlyReceives row s .hunting := by
  refine onlyReceives_of ((h.trans (act_live _ hl)).trans ?_)
  unfold Part.abandonFrame
  rw [setRx_same hx, hx]

end Hunting

section Assembling
variable {s : State} {got : List Byte} (hl : s.part.live = true) (hx : s.part.link.rx = .assembling got)
include hl hx

theorem assembling_abandons {row : Instr} (h : exec row s = act (fun p => p.abandonFrame) s) :
    FailsReceiving row s .hunting := by
  refine failsReceiving_of ((h.trans (act_live _ hl)).trans ?_)
  unfold Part.abandonFrame
  rw [hx]

theorem assembling_collects (c : Byte) :
    exec (.receiveCharacter c) s = .next { s with part := s.part.collect (got ++ [c]) } := by
  refine (character_taken hl c).trans ?_
  unfold Part.takeCharacter
  rw [hx]

/-- The frame is not whole yet, and its header, once there, is good. -/
theorem assembling_more {c : Byte} (good : ¬ BadHeader (got ++ [c]))
    (short : 4 ≤ (got ++ [c]).length → (got ++ [c]).length ≠ (byteAt (got ++ [c]) 2).toNat + 6) :
    OnlyReceives (.receiveCharacter c) s (.assembling (got ++ [c])) := by
  refine onlyReceives_of ((assembling_collects hl hx c).trans ?_)
  rw [badHeader_iff, not_and, Bool.not_eq_false] at good
  rw [collect_more _ good short]

theorem assembling_rescans {c : Byte} (bad : BadHeader (got ++ [c])) :
    FailsReceiving (.receiveCharacter c) s (rescan (got ++ [c])) := by
  obtain ⟨four, bad⟩ := (badHeader_iff _).1 bad
  refine failsReceiving_of ((assembling_collects hl hx c).trans ?_)
  rw [collect_badHeader _ four bad]

theorem assembling_badCrc {c : Byte} (whole : (got ++ [c]).length = (byteAt (got ++ [c]) 2).toNat + 6)
    (bad : crcGood (got ++ [c]) = false) : FailsReceiving (.receiveCharacter c) s .hunting := by
  refine failsReceiving_of ((assembling_collects hl hx c).trans ?_)
  rw [collect_whole _ whole, completeFrame_badCrc _ bad]

/-- A whole frame with its CRC arrives, the receive process hunting again. -/
theorem assembling_arrives {c : Byte} {f : Frame} (h : WholeFrame (got ++ [c]) f) :
    exec (.receiveCharacter c) s = .next { s with part := (s.part.setRx .hunting).arriveFrame f } :=
  (assembling_collects hl hx c).trans (by rw [collect_frame h])

theorem assembling_refuses {c : Byte} {f : Frame} {r : Result} (h : WholeFrame (got ++ [c]) f) (hf : f.command = .error r)
    (hc : CanHandle s) : ∃ t, exec (.receiveCharacter c) s = .next t ∧ t.pending = s.pending ∧
      OnlyChanges ([Piece.rx, .silence, .lastAccepted, .events] ++ replying) s.part t.part ∧
      t.part.link.rx = .hunting ∧ SilenceRestarted s.part t.part ∧ Replied t.part ⟨replyKind f.kind, f.tag, r, .none⟩ := by
  obtain ⟨only, silence, -, replied⟩ := arriveFrame_refused (p := s.part.setRx .hunting) hc.2 hf
  refine ⟨_, assembling_arrives hl hx h, rfl, ?_, only .rx (by simp), silence, replied⟩
  exact onlyChanges_trans (p := s.part) (by simp) (onlyChanges_mono only (by simp))

end Assembling

end Sys2Proof.Laws

namespace Sys2Proof

open Machine Laws

/-- Settles O35: hunting, the character alone decides; assembling, what has been collected with it does: a header short, bad
or good, then a frame short, broken or whole. -/
theorem charactersMakeFrames : Obligations.CharactersMakeFrames := by
  refine fun s hl => ⟨fun hx => ⟨hunting_sof hl hx, fun _ hc => hunting_other hl hx hc, hunting_abandons hl hx rfl,
    hunting_abandons hl hx rfl⟩, fun got hx => ⟨assembling_abandons hl hx rfl, assembling_abandons hl hx rfl, fun c => ?_⟩⟩
  have len : (got ++ [c]).length = got.length + 1 := List.length_append
  have early : got.length ≠ 3 → ¬ BadHeader (got ++ [c]) := fun three bad => by
    obtain ⟨four, -⟩ := (badHeader_iff _).1 bad
    omega
  refine ⟨fun short => ?_, fun three good => ?_, fun bad => ⟨fun none => ?_, fun front back split none => ?_⟩,
    fun kind tag n rest e some => ?_, fun f whole => ⟨fun row hrow => ?_, fun r hf hc => ?_⟩⟩
  · exact assembling_more hl hx (early (by omega)) fun long => absurd long (by omega)
  · exact assembling_more hl hx good fun _ => by omega
  · rw [← rescan_none none]
    exact assembling_rescans hl hx bad
  · rw [← rescan_first back none, ← split]
    exact assembling_rescans hl hx bad
  · have long : 4 ≤ got.length := by rw [e]; simp only [List.length_cons]; omega
    have lenAt : byteAt (got ++ [c]) 2 = n := by rw [e]; rfl
    refine ⟨fun short => assembling_more hl hx (early (by omega)) fun _ => ?_, fun whole bad => ?_⟩
    · rw [lenAt]; omega
    · exact assembling_badCrc hl hx (by rw [lenAt]; omega) bad
  · exact (assembling_arrives hl hx whole).trans (frame_arrives (s := { s with part := s.part.setRx .hunting }) hl hrow).symm
  · exact assembling_refuses hl hx whole hf hc

end Sys2Proof
end
